-- ==== Sys2Proof/Word.lean ====
section
/-!
DEFINITION. The words of the block: bytes, 32-bit words (R15: all registers are 32-bit), 64-bit position
values, the 40-bit fine tag (R10), and the sparse table keyed by a number that the state uses wherever the
spec numbers its objects.
-/
namespace Sys2Proof

/-- One byte. -/
abbrev Byte := BitVec 8

/-- A 32-bit register or FP32 word (R15). -/
abbrev Word := BitVec 32

/-- Eight bytes: one position of a course (R214). -/
abbrev Word64 := BitVec 64

/-- A fine tag (R10): the low 16 bits of TAI seconds and 24 bits of fraction, wrapping. -/
abbrev FineTag := BitVec 40

/-- A table keyed by an object's number, in one canonical form: keys strictly rising. -/
abbrev Table (α : Type) := List (Nat × α)

/-- A file of bytes keyed by address, listing nothing that equals what an unlisted address reads as. -/
abbrev Bytes := List Byte

end Sys2Proof
end

