-- ==== Sys2Proof/Types/Basic.lean ====
section
/-!
DEFINITION. The names shared by every family: lanes, modes, start causes, versions, status codes,
requests and the stamp that every command carries.
-/
namespace Sys2Proof

/-- The two lane dies (R28, R29). -/
inductive LaneId where
  | a | b
deriving DecidableEq, Repr

/-- 0 for lane A, 1 for lane B (R69, `SYS_LANE.LANE`). -/
def LaneId.code : LaneId → Nat
  | .a => 0
  | .b => 1

/-- The other lane of the package. -/
def LaneId.other : LaneId → LaneId
  | .a => .b
  | .b => .a

/-- What every command of one lane carries: the lane it reaches, and how many tc cycles (4 ns, R6) the
lane's free-running time base has counted since that lane's previous command (log 3). -/
structure Stamp where
  lane : LaneId
  ticks : Nat
deriving DecidableEq, Repr

/-- What a command of the whole package carries: the tc cycles counted in each lane. -/
structure PackageStamp where
  ticksA : Nat
  ticksB : Nat
deriving DecidableEq, Repr

/-- The six modes (R69, R591). -/
inductive Mode where
  | dormant | start | service | holdover | drill | salvage
deriving DecidableEq, Repr

/-- The mode codes of R69. -/
def Mode.code : Mode → Nat
  | .dormant => 0
  | .start => 1
  | .service => 2
  | .holdover => 3
  | .drill => 4
  | .salvage => 5

/-- The mode a code names (R69). -/
def Mode.ofCode : Nat → Option Mode
  | 0 => some .dormant
  | 1 => some .start
  | 2 => some .service
  | 3 => some .holdover
  | 4 => some .drill
  | 5 => some .salvage
  | _ => none

/-- Start causes (R599). -/
inductive StartCause where
  | vin | wakeFrame | hostAccess | tamper | rtc | wakePin | laneReset | watchdog | rstn | salvageExit | hostReset
deriving DecidableEq, Repr

/-- The codes of R599. -/
def StartCause.code : StartCause → Nat
  | .vin => 0
  | .wakeFrame => 1
  | .hostAccess => 2
  | .tamper => 3
  | .rtc => 4
  | .wakePin => 5
  | .laneReset => 6
  | .watchdog => 7
  | .rstn => 8
  | .salvageExit => 9
  | .hostReset => 10

/-- A Glegal or Ply version (R59, R553). -/
structure Version where
  major : Nat
  minor : Nat
deriving DecidableEq, Repr

/-- Order by major number and then by minor number (R69). -/
def Version.le (a b : Version) : Bool :=
  a.major < b.major || (a.major == b.major && a.minor ≤ b.minor)

/-- The status codes of R92. -/
inductive Status where
  | ok | okTooLate | superseded
  | busy | notLeaseholder | wrongMode
  | badOpcode | badVersion | badParam | badLength
  | noResource | limitExceeded | armRejected
  | aborted | cancelled | timeout
  | keyOrphaned | keyZeroised | authFailed
  | markLost | faultLasting | imageInvalid | confirmWindowClosed | contractViolation
deriving DecidableEq, Repr

/-- The numbers of R92's table. -/
def Status.code : Status → Nat
  | .ok => 0x0000
  | .okTooLate => 0x0001
  | .superseded => 0x0002
  | .busy => 0x0100
  | .notLeaseholder => 0x0101
  | .wrongMode => 0x0102
  | .badOpcode => 0x0200
  | .badVersion => 0x0201
  | .badParam => 0x0202
  | .badLength => 0x0203
  | .noResource => 0x0300
  | .limitExceeded => 0x0301
  | .armRejected => 0x0302
  | .aborted => 0x0400
  | .cancelled => 0x0401
  | .timeout => 0x0402
  | .keyOrphaned => 0x0500
  | .keyZeroised => 0x0501
  | .authFailed => 0x0502
  | .markLost => 0x0600
  | .faultLasting => 0x0700
  | .imageInvalid => 0x0800
  | .confirmWindowClosed => 0x0801
  | .contractViolation => 0x0900

/-- Where the reply of a host-ring request goes: the submission entry that carried it (R644, R645). -/
structure HostSlot where
  rspAddr : Nat
  rspLen : Nat
  sqIndex : Nat
deriving DecidableEq, Repr

/-- How a request reached the lane, and so where its reply goes (R64, R646, R654, R97). -/
inductive ReplyPath where
  /-- a submission ring in PCIe mode -/
  | ring (slot : HostSlot)
  /-- the SPI mailbox: normal path and bypass path -/
  | mailbox
  | bypass
  /-- a management peer: the datagram's sequence -/
  | peer (seq : Nat)
deriving DecidableEq, Repr

/-- A Glegal request packet as delivered (R59): the source it came from (ring 0 to 3, or peer 0x10 to
0x13), the header fields, and the bytes delivered after the header (parameter prefix included). -/
structure Request where
  src : Nat
  version : Version
  opcode : Nat
  flags : BitVec 16
  group : Nat
  rsvd : Nat
  tag : Word
  paramLen : Nat
  params : Bytes
  path : ReplyPath
deriving DecidableEq, Repr

/-- Alarm classes (R24) with "off" of R384. -/
inductive AlarmClass where
  | off | slate | ochre | madder
deriving DecidableEq, Repr

end Sys2Proof
end

