-- ==== Sys2Proof/Types/Frame.lean ====
section
/-!
DEFINITION. Frames as they end at a port: what the checks and the classifier of chapters 03 and 14 read of them.
Contents whose coding a published standard gives (ASN.1, R26) stand as the fields that the rules name.
-/
namespace Sys2Proof

/-- One ASDU of a sampled-value frame (R131 to R134): samples are (value, quality) pairs, the length of seqData in
bytes is kept apart (R132). -/
structure SvAsdu where
  svid : Bytes
  smpCnt : Nat
  confRev : Nat
  smpSynch : Nat
  smpRate : Option Nat
  seqLen : Nat
  samples : List (Int × Word)
deriving DecidableEq, Repr

/-- What an authenticated frame carries (R144): algorithm, key identifier, the tag and the bytes it covers, and
the IV of a GMAC. -/
structure FrameAuth where
  algorithm : Nat
  keyId : Nat
  iv : Bytes
  covered : Bytes
  tag : Bytes
deriving DecidableEq, Repr

/-- A sampled-value APDU (R131, R132, R137). -/
structure SvFrame where
  appid : Nat
  simulation : Bool
  /-- noASDU as coded, and whether the ASN.1 lengths account exactly for the APDU -/
  noAsdu : Nat
  lengthsOk : Bool
  asdus : List SvAsdu
  auth : Option FrameAuth
deriving DecidableEq, Repr

/-- The session of a routed SPDU (R137). -/
structure SpduHeader where
  svSession : Bool
  encrypted : Bool
  macSupported : Bool
  number : Nat
deriving DecidableEq, Repr

/-- One entry of a GOOSE allData (R140). -/
inductive GooseData where
  | boolean (b : Bool)
  | bits2 (n : Nat)
  | integer (i : Int)
  | float (w : Word)
  | quality (q : Word)
  | other
deriving DecidableEq, Repr

/-- A GOOSE message (R140). -/
structure GooseMsg where
  appid : Nat
  gocbref : Bytes
  stNum : Nat
  sqNum : Nat
  talMs : Nat
  confRev : Nat
  /-- t: seconds of UTC and 24-bit fraction -/
  tSec : Nat
  tFrac : Nat
  test : Bool
  lengthsOk : Bool
  allData : List GooseData
  auth : Option FrameAuth
deriving DecidableEq, Repr

/-- The content of a frame (R491). -/
inductive Content where
  | pause (quanta : Nat)
  | macControl
  | hsr
  /-- a PTP message, with whether R453 passes it on -/
  | ptp (passed : Bool)
  /-- a UDP datagram: source address, ports, payload -/
  | udp (src : Bytes) (srcPort dstPort : Nat) (payload : Bytes)
  /-- the next frame of a PMU's TCP byte stream -/
  | pmuTcp (stream : Nat) (payload : Bytes)
  | sv (f : SvFrame)
  | routedSv (src : Bytes) (dstPort : Nat) (h : SpduHeader) (f : SvFrame)
  | goose (g : GooseMsg)
  /-- ARP, neighbour discovery, ICMP echo and TCP of sessions and PMU connections (step 8 of R491) -/
  | control (addr : Bytes)
  | other
deriving DecidableEq, Repr

/-- An Ethernet frame: its length from the first byte of the destination address to the last of the FCS, code and
FCS checks, destination, VLAN id, Ethertype, IP protocol and destination port, the LAN id of a redundancy control
trailer (R489), and the bytes that a host rule delivers. -/
structure EthFrame where
  length : Nat
  codeOk : Bool
  fcsOk : Bool
  dst : Nat
  vlan : Option Nat
  ethertype : Nat
  ipProto : Nat
  dstPort : Nat
  prpLan : Option Nat
  content : Content
  bytes : Bytes
deriving DecidableEq, Repr

end Sys2Proof
end

