-- ==== Sys2Proof/Types/Health.lean ====
section
/-!
DEFINITION. Health, gauges, the fault log and DRILL (chapter 19).
-/
namespace Sys2Proof

/-- The resources of the fault log (R630), coded 0 to 12. -/
inductive Resource where
  | none | sram | dram | plyLink | flash | keyEngine | polledStation | round | time | digest | radio | tamper | outage
deriving DecidableEq, Repr

def Resource.code : Resource → Nat
  | .none => 0
  | .sram => 1
  | .dram => 2
  | .plyLink => 3
  | .flash => 4
  | .keyEngine => 5
  | .polledStation => 6
  | .round => 7
  | .time => 8
  | .digest => 9
  | .radio => 10
  | .tamper => 11
  | .outage => 12

/-- Classes of fault-log records (R630). -/
inductive FaultClass where
  | event | transient | lasting | alarmOn | alarmOff
deriving DecidableEq, Repr

def FaultClass.code : FaultClass → Nat
  | .event => 0
  | .transient => 1
  | .lasting => 2
  | .alarmOn => 3
  | .alarmOff => 4

/-- One fault-log record (R630). `detail` holds the bytes the raising chapter defines; the rest read 0. -/
structure FaultRecord where
  seq : Nat
  status : Nat
  cls : FaultClass
  resource : Resource
  time : Nat
  object : Nat
  alarm : Option Nat
  detail : Bytes
deriving DecidableEq, Repr

/-- The settings of one gauge (R627). -/
structure GaugeCfg where
  source : Nat
  log : Bool
  object : Nat
  base : Int
  width : Nat
  intervalUs : Nat
deriving DecidableEq, Repr

def GaugeCfg.dflt : GaugeCfg :=
  { source := 0, log := true, object := 0, base := 1000, width := 8, intervalUs := 1000 }

/-- The contents of one gauge (R626, R629). -/
structure GaugeVal where
  min : Int
  max : Int
  count : Nat
  sum : Int
  bins : List Nat
  /-- tc of the previous clear (interval_ns, R629) -/
  clearedAt : Nat
  /-- tc of the last interval sample (sources 5, 7 and 8) -/
  lastSample : Nat
deriving DecidableEq, Repr

/-- A cleared gauge (R629: with count 0, min and max read 0x7FFF_FFFF and 0x8000_0000). -/
def GaugeVal.cleared (now : Nat) : GaugeVal :=
  { min := 2147483647, max := -2147483648, count := 0, sum := 0, bins := List.replicate 32 0,
    clearedAt := now, lastSample := now }

/-- A DRILL_RUN in progress (R632, R634). -/
structure DrillRun where
  req : Request
  tests : Nat
  scenario : Nat
  exitOnDone : Bool
  repeats : Nat
  portMask : Word
deriving DecidableEq, Repr

/-- The DRAM regions of R45; what a retired page takes with it: an item of a queue, a segment of the Swatch pool, and
of a stream's wale the records of the page (R164, R622). -/
inductive DramPage where
  | firmware
  | patterns
  | spill (queue item : Nat)
  | swatch (segment : Nat)
  | wale (stream first count : Nat)
deriving DecidableEq, Repr

/-- The resources whose errors R622 gives to the block as a whole (R602, R622): an SRAM word by address, a DRAM burst
by page, the boot flash, a control core. Tiles, Ply links, keys, stations, rounds, time, digests and radios have their
own commands. -/
inductive ErrorSite where
  | sram (addr : Nat)
  | dram (page : Nat) (what : DramPage)
  | flash (addr : Nat)
  | core (n : Nat)
deriving DecidableEq, Repr

/-- How a drill ends (R634): the tests that passed, the first bad course with its expected and actual digests, and
whether a tile contract was violated (R321). -/
structure DrillVerdict where
  passed : Nat
  firstBad : Nat
  expected : Nat
  actual : Nat
  violation : Bool
deriving DecidableEq, Repr

/-- Counts, gauges, log and drill of one lane. -/
structure HealthSt where
  gauges : Table GaugeVal
  /-- the fault log, oldest first, at most 65,536 records (R630), and the next sequence number -/
  log : List FaultRecord
  nextSeq : Nat
  /-- transient and lasting counts by resource code (R635) -/
  transient : Table Nat
  lasting : Table Nat
  /-- tc of the transient errors in the count window of each resource and object (R623) -/
  transientTimes : List ((Nat × Nat) × List Nat)
  dramRetired : Nat
  drill : Option DrillRun
  /-- the last DRILL_RUN result, 32 bytes; zeros when none (R635) -/
  lastDrill : Bytes
  /-- corrections and self-test failures of the last second (R557) -/
  sramCorrected : Nat
  dramCorrected : Nat
  selfTestFail : Nat
  /-- the junction temperature in °C as last read (R557, R626) -/
  junction : Int
  /-- the lane has declared itself unhealthy, by resource reason (R535 UNHEALTHY) -/
  unhealthy : List Nat
  /-- the sensor has read 120 °C or more (R681) -/
  overheat : Bool
  /-- the array clock stands at 0.9 GHz (R289) -/
  throttled : Bool
  /-- physical tiles retired, and bit y for a failed spare of row y (R286 to R288, R557) -/
  retired : List Nat
  spareFailed : BitVec 8
deriving DecidableEq, Repr

/-- Health at START (R630, R635). -/
def HealthSt.reset : HealthSt :=
  { gauges := [], log := [], nextSeq := 1, transient := [], lasting := [], transientTimes := [],
    dramRetired := 0, drill := none, lastDrill := List.replicate 32 0, sramCorrected := 0, dramCorrected := 0,
    selfTestFail := 0, junction := 0, unhealthy := [], overheat := false,
    throttled := false, retired := [], spareFailed := 0 }

end Sys2Proof
end

