-- ==== Sys2Proof/Types/Host.lean ====
section
/-!
DEFINITION. The host registers of one lane function (chapter 20) at the widths of its tables. Registers that
mirror other state (SYS_ID, SYS_MODE, PLY_STATE, FLT_OLDEST, SLV_*) are read from that state and are not stored.
-/
namespace Sys2Proof

/-- The registers of one Glegal ring (R644, GLG registers), and the expected phase of its completions (R647). -/
structure GlgRing where
  sqBaseLo : Word
  sqBaseHi : Word
  cqBaseLo : Word
  cqBaseHi : Word
  enable : Bool
  sizeLog2 : Nat
  sqTail : Nat
  sqHead : Nat
  cqHead : Nat
  cqTail : Nat
  error : Bool
  /-- phase the lane writes next: true for 1 (R647) -/
  phase : Bool
deriving DecidableEq, Repr

/-- GLG registers at reset. -/
def GlgRing.reset : GlgRing :=
  { sqBaseLo := 0, sqBaseHi := 0, cqBaseLo := 0, cqBaseHi := 0, enable := false, sizeLog2 := 2, sqTail := 0,
    sqHead := 0, cqHead := 0, cqTail := 0, error := false, phase := true }

/-- The registers of a host frame ring (HFR registers). -/
structure HfrRing where
  baseLo : Word
  baseHi : Word
  enable : Bool
  sizeLog2 : Nat
  tail : Nat
  head : Nat
  /-- ERROR of R644, which R648 applies to both rings -/
  error : Bool
deriving DecidableEq, Repr

def HfrRing.reset : HfrRing :=
  { baseLo := 0, baseHi := 0, enable := false, sizeLog2 := 6, tail := 0, head := 0, error := false }

/-- A submission entry as the host wrote it (32 bytes, R645) with the request bytes it names: the contents of
host memory are outside the block and reach it with the command that fetches them. -/
structure Submission where
  reqLen : Nat
  rspLen : Nat
  rspAddr : Nat
  packet : Bytes
deriving DecidableEq, Repr

/-- A transmit descriptor of the host with the frame bytes it names (R648). -/
structure TxDescriptor where
  length : Nat
  port : Nat
  tsReq : Bool
  frame : Bytes
deriving DecidableEq, Repr

/-- An access of the host to a DORMANT lane (R655): a read, a write, or a doorbell with the entries it names; an entry
that a PCIe error leaves unread is none. -/
inductive HostAccess where
  | read (off : Nat)
  | write (off : Nat) (value : Word)
  | doorbell (ring tail : Nat) (entries : List (Option Submission))
deriving DecidableEq, Repr

/-- The question a host witness is asked (PLY_WQ registers, R653). -/
structure WitnessQuestion where
  qseq : Nat
  /-- 0 PING, 1 RENEW, 2 CLAIM -/
  kind : Nat
  /-- 0 lane, 1 device -/
  lease : Nat
  epoch : Nat
  holder : Nat
deriving DecidableEq, Repr

/-- The SPI mailbox (R654). -/
structure Mailbox where
  page : Nat
  busy : Bool
  done : Bool
  overrun : Bool
  bypDone : Bool
  rspLen : Nat
  bypReply : Bytes
  /-- pages 0 to 31: the request bytes as the host has written them, from page 0 -/
  request : Bytes
  /-- pages 32 to 63: the last reply -/
  reply : Bytes
  /-- ring of the request in service -/
  ring : Nat
deriving DecidableEq, Repr

def Mailbox.reset : Mailbox :=
  { page := 0, busy := false, done := false, overrun := false, bypDone := false, rspLen := 0,
    bypReply := [], request := [], reply := [], ring := 0 }

/-- The host registers of one lane function. -/
structure HostSt where
  sysWin : Word
  sysWinBase : Word
  sysWinStream : Word
  sysScratch : Word
  /-- INT_CAUSE and INT_MASK bits [10:0], INT_HOLDOFF.US (R649) -/
  intCause : BitVec 11
  intMask : BitVec 11
  intHoldoff : Nat
  /-- per vector: tc of the last message sent; and the vectors whose message is held off (R649) -/
  lastMsg : Table Nat
  heldMsg : List Nat
  rings : Table GlgRing
  tx : HfrRing
  rx : HfrRing
  /-- the transmit descriptor that completes next, and the write-backs that wait for it: index and bytes (R648) -/
  txNext : Nat
  txDone : List (Nat × Bytes)
  /-- the buffer addresses of the receive descriptors from HFR_RX_HEAD on (R648) -/
  rxFree : List Nat
  /-- requests fetched through rings or a mailbox since disabled or reset: their completions are discarded (R644,
  R655) -/
  discard : List Request
  rxBuf : Nat
  rxDrop : Word
  /-- TNS latch: fraction, seconds low and high, quality word, error (R651) -/
  tnsT0 : Word
  tnsT1 : Word
  tnsT2 : BitVec 16
  tnsQual : Word
  tnsErr : Word
  /-- PLY_WQ registers and PENDING; the last vote accepted (R653) -/
  wq : Option WitnessQuestion
  wqLast : WitnessQuestion
  witnessVote : Nat
  witnessQseq : Nat
  gauData : Bytes
  fltSel : Nat
  mbx : Mailbox
deriving DecidableEq, Repr

/-- The four GLG blocks at reset. -/
def GlgRing.resetAll : Table GlgRing := [(0, .reset), (1, .reset), (2, .reset), (3, .reset)]

/-- Host registers at reset (tables of chapter 20). -/
def HostSt.reset : HostSt :=
  { sysWin := 0x0001_0000, sysWinBase := 0, sysWinStream := 0, sysScratch := 0, intCause := 0,
    intMask := 0x7FF, intHoldoff := 0, lastMsg := [], heldMsg := [], rings := GlgRing.resetAll, tx := .reset,
    rx := .reset, txNext := 0, txDone := [], rxFree := [], discard := [], rxBuf := 2048, rxDrop := 0, tnsT0 := 0, tnsT1 := 0, tnsT2 := 0, tnsQual := 0,
    tnsErr := 0, wq := none, wqLast := ⟨0, 0, 0, 0, 0⟩, witnessVote := 0, witnessQseq := 0,
    gauData := [], fltSel := 0, mbx := .reset }

end Sys2Proof
end

