-- ==== Sys2Proof/Types/Keys.lean ====
section
/-!
DEFINITION. Selvedge: key slots, privilege and tamper (chapter 17).
-/
namespace Sys2Proof

inductive SlotState where
  | empty | valid | invalid | orphaned
deriving DecidableEq, Repr

/-- The codes of the SLV_QUERY slot entry (R586). -/
def SlotState.code : SlotState → Nat
  | .empty => 0
  | .valid => 1
  | .invalid => 2
  | .orphaned => 3

/-- One key slot (R572). An unlisted slot is EMPTY with generation 0. `state` is never `.orphaned`: an
orphan is computed from the parents (R574). -/
structure KeySlot where
  state : SlotState
  /-- key type code 1 to 10 (R572) -/
  type : Nat
  usage : BitVec 8
  persistent : Bool
  generated : Bool
  keyId : Nat
  generation : Nat
  /-- parent slot and the parent's generation at derivation -/
  parent : Option (Nat × Nat)
  material : Bytes
deriving DecidableEq, Repr

/-- The slot entry of an EMPTY slot that has never been filled. -/
def KeySlot.dflt : KeySlot :=
  { state := .empty, type := 0, usage := 0, persistent := false, generated := false, keyId := 0, generation := 0,
    parent := none, material := [] }

/-- A latched tamper record (R587). -/
structure TamperRecord where
  sources : BitVec 10
  mode : Mode
  time : Nat
  acknowledged : Bool
  /-- reported by the other lane -/
  sibling : Bool
deriving DecidableEq, Repr

/-- A persistent record of the flash key area (R569): the slot it restores, under the wrap key it was
encrypted with. -/
structure FlashKey where
  slot : KeySlot
  wrapId : Nat
deriving DecidableEq, Repr

/-- The part of Selvedge that a reset clears. -/
structure KeysSt where
  slots : Table KeySlot
  zeroised : Bool
  keyEpoch : Nat
  privilege : Bool
  /-- the nonce of ROLE_CHALLENGE and the tc of its issue (R577) -/
  challenge : Option (Bytes × Nat)
  /-- tc of the failed responses of the last 60 s, and the end of the lockout (R579) -/
  failedAt : List Nat
  lockoutUntil : Nat
  engineFault : Bool
  /-- sources that read tamper now (R585) -/
  inputs : BitVec 10
  /-- stored enables that take effect once their source reads normal (R687) -/
  deferred : BitVec 6
  /-- tc of the last self-test (R571) -/
  lastTest : Nat
deriving DecidableEq, Repr

def KeysSt.reset : KeysSt :=
  { slots := [], zeroised := false, keyEpoch := 0, privilege := false, challenge := none, failedAt := [],
    lockoutUntil := 0, engineFault := false, inputs := 0, deferred := 0, lastTest := 0 }

/-- What survives a reset: OTP, the keep-alive domain and the flash key area (R568, R569, R577, R587, R687). -/
structure KeyStore where
  flash : Table FlashKey
  /-- the wrap key, when valid: its identity (R568) -/
  wrap : Option Nat
  nextWrap : Nat
  /-- owner entries of OTP: SHA-256 of an owner's public key (R577) -/
  owners : List Bytes
  /-- the eight latched tamper records, oldest first (R587) -/
  records : List TamperRecord
  /-- tamper enables in force in the keep-alive domain (R687) -/
  kaEnable : BitVec 6
  zeroisations : Nat
  /-- key epoch as it stands across a reset -/
  epoch : Nat
  debugUnlocked : Bool
  /-- alarm 352 is due when the lane reaches SERVICE (R588) -/
  alarmDue : Bool
  /-- the keep-alive domain has lost its supply: the next START finds source 9 (R588, R661) -/
  supplyLost : Bool
deriving DecidableEq, Repr

/-- A lane as manufactured, with a valid wrap key (log 5). -/
def KeyStore.factory : KeyStore :=
  { flash := [], wrap := some 0, nextWrap := 1, owners := [], records := [], kaEnable := 0, zeroisations := 0,
    epoch := 0, debugUnlocked := false, alarmDue := false, supplyLost := false }

end Sys2Proof
end

