-- ==== Sys2Proof/Types/Value.lean ====
section
/-!
DEFINITION. Graded, tagged values on their way to the Skein (R112, R195, R219).
-/
namespace Sys2Proof

/-- Grades (R112). -/
inductive Grade where
  | good | suspect | invalid
deriving DecidableEq, Repr

def Grade.code : Grade → Nat
  | .good => 0
  | .suspect => 1
  | .invalid => 2

/-- The worse of two grades (R112). -/
def Grade.worse (a b : Grade) : Grade := if a.code < b.code then b else a

/-- One channel's value (R105, R112): 8 bytes as two words, the second 0 unless complex, the grade, the flags and
the chain status of R195 (SETTLING, DELAY_STEP, FADING, SUBSTITUTED as bits 0 to 3). -/
structure Value where
  channel : Nat
  w0 : Word
  w1 : Word
  grade : Grade
  test : Bool
  auth : Bool
  chain : BitVec 4
deriving DecidableEq, Repr

/-- The values of one frame or output, with their tag and their arrival tag (R110, R237). -/
structure Arrival where
  stream : Nat
  tag : FineTag
  arrived : FineTag
  values : List Value
deriving DecidableEq, Repr

end Sys2Proof
end

