-- ==== Sys2Proof/Types/Swatch.lean ====
section
/-!
DEFINITION. The Swatch recorder (chapter 12): triggers, profiles, segments, records, marks. Instants are counted in
2^-24 s of TAI.
-/
namespace Sys2Proof

/-- TRIGGER_SET (R415). -/
structure TriggerCfg where
  enable : Bool
  type : Nat
  profile : Nat
  /-- 0 wale channel, 1 raw SV sample, 2 feature -/
  source : Nat
  channel : Nat
  object : Nat
  component : Nat
  falling : Bool
  hold : Nat
  hi : Word
  lo : Word
  hyst : Word
  span : Nat
  qualifier : Nat
  mask : Word
  qualWindowUs : Nat
deriving DecidableEq, Repr

/-- The skew table of a stream (R420), ns. -/
structure SkewTable where
  stream : Int
  channels : Table Int
deriving DecidableEq, Repr

def SkewTable.zero : SkewTable := { stream := 0, channels := [] }

/-- One value as a trigger keeps it: instant, its two words. -/
structure TrigVal where
  at_ : Int
  w0 : Word
  w1 : Word
deriving DecidableEq, Repr

/-- The running state of a trigger (R415 to R419). -/
structure TriggerRun where
  /-- 1 waiting for a false condition, 2 armed, 3 latched; 0 disabled -/
  state : Nat
  holdCount : Nat
  /-- values evaluated, newest first, at most span + 2 -/
  past : List TrigVal
  /-- the first true value of the run being held, with the last false value before it -/
  firstTrue : Option TrigVal
  lastFalse : Option TrigVal
  fires : Nat
  recorded : Nat
  missed : Nat
  unqualified : Nat
  lastInstant : Option Int
  /-- placed instants of its fires of the last minutes, for the triggers it qualifies (R419) -/
  fired : List Int
deriving DecidableEq, Repr

def TriggerRun.zero : TriggerRun :=
  { state := 0, holdCount := 0, past := [], firstTrue := none, lastFalse := none,
    fires := 0, recorded := 0, missed := 0, unqualified := 0, lastInstant := none, fired := [] }

/-- A measurement entry (R410). -/
structure MeasEntry where
  channel : Nat
  kind : Nat
  component : Nat
  threshold : Word
deriving DecidableEq, Repr

/-- The body of a profile (R410). -/
structure ProfileCfg where
  single : Bool
  phasor : Bool
  extend : Bool
  recycle : Bool
  rate : Nat
  avgN : Nat
  preMs : Nat
  postMs : Nat
  maxMs : Nat
  rowWaitMs : Nat
  measMs : Nat
  channels : List (Nat × Nat)
  meas : List MeasEntry
  /-- the armed state that CONFIG_COMMIT stores (R687) -/
  armed : Bool
deriving DecidableEq, Repr

/-- Profile states (R413, R423, R426). -/
inductive ProfileState where
  | disarmed | armed | recording | waiting
deriving DecidableEq, Repr

/-- A full-rate input of a row (R429): channel entry, instant, value words. -/
structure SrcVal where
  ch : Nat
  at_ : Int
  w0 : Word
  w1 : Word
deriving DecidableEq, Repr

/-- One row: its number n (instant n × avg_n / rate), quality codes and value words (R414, R433), the full-rate inputs
it was formed from, and whether the lane was in HOLDOVER or unlocked (R434). -/
structure Row where
  n : Nat
  quality : List Nat
  words : List (List Word)
  src : List SrcVal
  holdover : Bool
  unlocked : Bool
deriving DecidableEq, Repr

/-- An input that waits for its row (R414): channel entry, instant; the sample with its number in a waveform profile,
the value words in a phasor profile; the grade code. -/
structure RowInput where
  ch : Nat
  at_ : Int
  k : Nat
  sample : Int
  w0 : Word
  w1 : Word
  grade : Nat
deriving DecidableEq, Repr

/-- Segment states (R408); a FREE segment is not listed. -/
inductive SegState where
  | ring | open_ | done | kept
deriving DecidableEq, Repr

/-- One segment (R408, R432). -/
structure Segment where
  state : SegState
  profile : Nat
  recordId : Nat
  ordinal : Nat
  next : Option Nat
  startRow : Nat
  shift : Nat
  rate : Nat
  avgN : Nat
  rowBytes : Nat
  channelCount : Nat
  trigRow : Option Nat
  last : Bool
  rows : List Row
deriving DecidableEq, Repr

/-- One record (R423 to R434). -/
structure Record where
  id : Nat
  profile : Nat
  /-- T: placed instant; full timestamp of T is its 2^-24 s with zero low bits -/
  t : Int
  triggerRow : Nat
  firstRow : Nat
  lastRow : Nat
  cause : List Nat
  later : List Nat
  segments : List Nat
  flags : BitVec 16
  halvings : Nat
  channelCount : Nat
  rowBytes : Nat
  rate : Nat
  avgN : Nat
  rows : Nat
  trigIndex : Nat
  measurements : List (Word × Int)
  endAt : Int
  keepAtEnd : Bool
  opened : Bool
deriving DecidableEq, Repr

/-- The running state of a profile. -/
structure ProfileRun where
  state : ProfileState
  ring : List Nat
  /-- the number of the next row to form, and the inputs that wait -/
  nextRow : Nat
  inputs : List RowInput
  record : Option Nat
  /-- fires held between the index write and the re-arm: trigger, instant, request (R427) -/
  held : List (Nat × Int × Option Request)
  shift : Nat
  /-- rows of the full rate that wait for the rest of their group, and the shift of that group (R430) -/
  half : List Row
  groupShift : Nat
deriving DecidableEq, Repr

def ProfileRun.zero : ProfileRun :=
  { state := .disarmed, ring := [], nextRow := 0, inputs := [], record := none, held := [], shift := 0,
    half := [], groupShift := 0 }

/-- What reaches the recorder (R414, R417). -/
inductive Feed where
  /-- a raw SV sample: stream, channel, instant, sample, grade -/
  | raw (stream channel : Nat) (at_ : Int) (sample : Int) (grade : Grade)
  /-- the values of a wale record -/
  | wale (stream : Nat) (at_ : Int) (values : List Value)
  /-- the features of a set (R302) -/
  | feature (set : Nat) (at_ : Int) (words : List Word)
  /-- an alarm id becomes active (R383, R416) -/
  | alarm (id : Nat) (at_ : Int)
deriving DecidableEq, Repr

/-- A rewind mark (R442, R443): the instant it points to, none at the newest end; valid until overtaken. -/
structure Mark where
  at_ : Int
  tag : FineTag
  valid : Bool
deriving DecidableEq, Repr

/-- The recorder of one lane. -/
structure SwatchSt where
  triggers : Table TriggerRun
  profiles : Table ProfileRun
  segments : Table Segment
  records : Table Record
  nextId : Nat
  /-- sizes in force since START: pool in MiB, segment shift (R407) -/
  poolMib : Nat
  segShift : Nat
  /-- SWATCH_TRIGGER requests in service: request, record, trigger (R436, R437) -/
  commands : List (Request × Nat × Nat)
  trigFeed : List Feed
  rowFeed : List Feed
  /-- bytes in the write buffer (R430) and the tc since which they are below 128 KiB (R431) -/
  buffer : Nat
  lowSince : Option Nat
  /-- tc of the last halving -/
  halvedAt : Option Nat
  /-- marks by 4 × stream + mark -/
  marks : Table Mark
  /-- profiles stored as armed that re-arm at the first SERVICE (R446) -/
  rearm : List Nat
  /-- the levels of the trigger pins SWT[1:0] (R416) -/
  pinLevels : BitVec 2
deriving DecidableEq, Repr

def SwatchSt.reset : SwatchSt :=
  { triggers := [], profiles := [], segments := [], records := [], nextId := 1, poolMib := 4096, segShift := 20,
    commands := [], trigFeed := [], rowFeed := [], buffer := 0, lowSince := none, halvedAt := none, marks := [], rearm := []
    pinLevels := 0 }

end Sys2Proof
end

