-- ==== Sys2Proof/Types/Mode.lean ====
section
/-!
DEFINITION. Modes, boot flash, updates and the VIN warning (chapters 18 and 21).
-/
namespace Sys2Proof

/-- Slot states (R604), coded as SYS_INFO. -/
inductive BootState where
  | empty | valid | trial | testing | failed
deriving DecidableEq, Repr

def BootState.code : BootState → Nat
  | .empty => 0
  | .valid => 1
  | .trial => 2
  | .testing => 3
  | .failed => 4

/-- A boot slot with the header fields that the rules read (R604). -/
structure BootSlot where
  state : BootState
  version : Nat
  hash : Bytes
  length : Nat
  configFormat : Nat
  arithGen : Nat
deriving DecidableEq, Repr

def BootSlot.empty : BootSlot :=
  { state := .empty, version := 0, hash := List.replicate 32 0, length := 0, configFormat := 0, arithGen := 0 }

/-- Which image runs: slot A, slot B or the recovery image (SYS_INFO.active_slot). -/
inductive ActiveSlot where
  | a | b | recovery
deriving DecidableEq, Repr

def ActiveSlot.code : ActiveSlot → Nat
  | .a => 0
  | .b => 1
  | .recovery => 2

/-- The boot record and slots (R603, R604); they survive every reset. -/
structure BootFlash where
  slotA : BootSlot
  slotB : BootSlot
  /-- true: slot B is selected -/
  selectedB : Bool
  failures : Nat
  /-- confirm_s and host_confirm of the trial image (R606, R607) -/
  confirmS : Nat
  hostConfirm : Bool
  /-- a fallback from TESTING happened, whose alarm 362 is raised in SERVICE (R604) -/
  fellBack : Bool
  /-- the index mirror: one entry per KEPT record (R603, R615) -/
  swatchMirror : Table Record
deriving DecidableEq, Repr

/-- What the build of an image found in it (R604, R606): the header fields that the rules read. -/
structure BuiltImage where
  version : Nat
  length : Nat
  configFormat : Nat
  arithGen : Nat
deriving DecidableEq, Repr

/-- How the start steps turn out physically (R594, R604): whether the images of slots A and B verify, whether DRAM
training and Selvedge's start tests pass, first and on the repeat, and the key records whose tag fails (R569). -/
structure StartOutcome where
  imageA : Bool
  imageB : Bool
  dram : Bool
  dramRetry : Bool
  tests : Bool
  testsRetry : Bool
  badRecords : List Nat
deriving DecidableEq, Repr

/-- A staged update package (R605). -/
structure Staged where
  totalLen : Nat
  fromHash : Bytes
  toHash : Bytes
  data : Bytes
deriving DecidableEq, Repr

/-- An UPDATE_FINISH whose build runs (R606). -/
structure BuildRun where
  req : Request
  confirmS : Nat
  hostConfirm : Bool
  restart : Bool
deriving DecidableEq, Repr

/-- The outage report (R618). -/
structure OutageReport where
  warnTime : Nat
  vinMinMv : Nat
  mode : Nat
  plyState : Nat
  laneEpoch : Nat
  slot : Nat
  flags : Nat
  records : Nat
  configGen : Nat
  /-- the end of a ride-through; otherwise the next START sets return_time -/
  returnTime : Option Nat
deriving DecidableEq, Repr

/-- The brown-out journal in flash (R615): alarm states with pins, GOOSE numbers and intervals, Swatch
entries journalled, epochs and the outage report. -/
structure Journal where
  active : List Nat
  pins : BitVec 8
  goose : List (Nat × Nat × Nat × Nat)
  swatch : Table Record
  laneEpoch : Nat
  deviceEpoch : Nat
  report : OutageReport
deriving DecidableEq, Repr

/-- The supply as one lane sees it (R615 to R617, R658, R660). -/
structure SupplySt where
  /-- the warning is armed -/
  armed : Bool
  /-- tc of a warning whose ride-through is not yet decided (R616) -/
  warnAt : Option Nat
  /-- tc of a warning before step 6 of START: the lane is held in reset (R665) -/
  heldAt : Option Nat
deriving DecidableEq, Repr

/-- Steps of START (R594) that have completed. -/
structure StartSt where
  beganAt : Nat
  /-- highest step completed, 0 to 8, and the tc of its completion -/
  step : Nat
  stepAt : Nat
  testsPassed : Bool
  /-- this START has counted as a start failure (R604) -/
  failed : Bool
  /-- step 6 found no valid copy of the store, for alarm 363 (R611) -/
  defaulted : Bool
deriving DecidableEq, Repr

/-- Mode, start and update state of one lane that a reset clears. -/
structure ModeSt where
  mode : Mode
  cause : StartCause
  wakePort : Nat
  wakeFilter : Nat
  active : ActiveSlot
  start : StartSt
  startMs : Nat
  staged : Option Staged
  build : Option BuildRun
  /-- tc at which the confirm window of a TESTING image ends (R607) -/
  window : Option Nat
  cleanRounds : Nat
  serviceAt : Nat
  lastingSinceStart : Nat
  supply : SupplySt
  /-- tc of the RTC wake in DORMANT (R600) -/
  rtcWakeAt : Option Nat
  /-- `LA_RSTN` is held low (R601) -/
  rstnLow : Bool
  /-- config generation and format in force (R611) -/
  configGen : Nat
  configFormat : Nat
  /-- generation of the lane's hub state: heartbeat (R35) -/
  hubPresent : Bool
  hubSeenAt : Nat
  hubLostAt : Nat
deriving DecidableEq, Repr

end Sys2Proof
end

