-- ==== Sys2Proof/Types/Needle.lean ====
section
/-!
DEFINITION. The state of the Needle and of the management peers (chapter 02).
-/
namespace Sys2Proof

/-- Where an admitted request stands (R77, R79, R88). -/
inductive Phase where
  /-- on the delay list of its group until its due time (R84) -/
  | delayed
  /-- in the queue of its flow (R79); `joined` orders a flow's queue -/
  | queued
  /-- dispatched to a control core, before its commit point (R79, R88) -/
  | inService
  /-- in service, at or after its commit point (R88) -/
  | committed
deriving DecidableEq, Repr

/-- One task entry of the Needle (R77). -/
structure TaskEntry where
  req : Request
  /-- admission number: the order of admission (R81, R83) -/
  adm : Nat
  phase : Phase
  /-- order in which the request joined its flow (R79); 0 while delayed -/
  joined : Nat
  /-- an ABORT reached it after its commit point (R62, R88) -/
  lateAbort : Bool
  /-- a transient fault was recovered by retry while it was in service (R62, R621) -/
  transientSeen : Bool
deriving DecidableEq, Repr

/-- An ABORT that has arrived and has not yet taken effect (R88). -/
structure PendingAbort where
  req : Request
  targetTag : Word
  targetSrc : Nat
deriving DecidableEq, Repr

/-- One management peer (R96, R100). -/
structure Peer where
  addr : Bytes
  keySlot : Nat
  /-- highest sequence accepted, 0 before the first (R100) -/
  highest : Nat
  /-- sequences accepted within the 64-entry window below `highest` (R100) -/
  seen : List Nat
  /-- the last 16 replies, newest first: sequence of the request and reply datagram (R100) -/
  replies : List (Nat × Bytes)
deriving DecidableEq, Repr

/-- The Needle of one lane, and its sources. -/
structure NeedleSt where
  entries : List TaskEntry
  nextAdm : Nat
  nextJoin : Nat
  /-- negotiated versions; a source that is not listed stands at 2.0 (R70) -/
  versions : Table Version
  /-- the group being visited and the dispatches left in its visit (R83) -/
  visit : Nat
  credit : Nat
  /-- refusals with BUSY since the last reset (R94) -/
  busyRefusals : Nat
  aborts : List PendingAbort
  /-- datagrams dropped (R99), duplicates dropped (R100) and fragments dropped (R101) -/
  dgDropped : Nat
  dgDuplicates : Nat
  dgFragments : Nat
  /-- times (tc) of recent drops, by source address (R99) -/
  dropTimes : List (Bytes × Nat)
deriving DecidableEq, Repr

/-- The Needle after a reset of the lane (R70, R83, R94). -/
def NeedleSt.reset : NeedleSt :=
  { entries := [], nextAdm := 0, nextJoin := 1, versions := [], visit := 0, credit := 8, busyRefusals := 0,
    aborts := [], dgDropped := 0, dgDuplicates := 0, dgFragments := 0, dropTimes := [] }

end Sys2Proof
end

