-- ==== Sys2Proof/Types/Alarm.lean ====
section
/-!
DEFINITION. Alarms, GOOSE publications and output sessions (chapter 11).
-/
namespace Sys2Proof

/-- The routing of one alarm id (R384). -/
structure AlarmRoute where
  cls : AlarmClass
  pins : BitVec 8
  holdMs : Nat
deriving DecidableEq, Repr

/-- The state of one active alarm id (R383). -/
structure AlarmState where
  /-- tc at which the id became active -/
  since : Nat
  /-- partitions that hold the id raised -/
  parts : List Nat
  /-- a block holds the id raised while its condition lasts -/
  cond : Bool
  /-- the block holds an event of the id until this tc -/
  eventUntil : Nat
deriving DecidableEq, Repr

/-- The parameters of a GOOSE publication (R387). -/
structure GoosePub where
  enable : Bool
  port : Nat
  simulation : Bool
  dstMac : Bytes
  appid : Nat
  vlanTci : Nat
  tMinMs : Nat
  tMaxMs : Nat
  confRev : Nat
  gocbref : Bytes
  datset : Bytes
  goid : Bytes
  members : List Nat
deriving DecidableEq, Repr

/-- The running state of a publication (R387, R389). -/
structure GooseRun where
  stNum : Nat
  sqNum : Nat
  framesSent : Nat
  /-- interval that follows the last transmission, and the tc of the next -/
  intervalMs : Nat
  nextAt : Nat
  /-- t: full timestamp of the event that set stNum (R388) -/
  eventTime : Nat
  /-- the holder's mirrored stNum, sqNum, interval and members, when mirrored (R400) -/
  mirrored : Option (Nat × Nat × Nat × Nat)
deriving DecidableEq, Repr

/-- A PMU entry of a session (R391). -/
structure SessionPmu where
  stn : Bytes
  idcode : Nat
  fnom : Nat
deriving DecidableEq, Repr

/-- A channel entry of a session (R391). -/
structure SessionChannel where
  pmu : Nat
  kind : Nat
  block : Nat
  word : Nat
  name : Bytes
deriving DecidableEq, Repr

/-- The configuration of an output session (R391). -/
structure SessionCfg where
  tcp : Bool
  plane : Nat
  port : Nat
  cmdAccept : Bool
  autoStart : Bool
  /-- 0 omit, 1 hold, 2 invalid (R395) -/
  gapPolicy : Nat
  outDiv : Nat
  idcode : Nat
  timeBase : Nat
  srcAddr : Bytes
  dstAddr : Bytes
  srcPort : Nat
  dstPort : Nat
  vlan : Nat
  polar : Bool
  pmus : List SessionPmu
  channels : List SessionChannel
  header : Bytes
deriving DecidableEq, Repr

/-- A data frame as the engine publishes it: the course, and per PMU entry its fields (R392, R393). -/
structure DataFrame where
  course : Nat
  idcode : Nat
  soc : Nat
  fracsec : Word
  /-- per PMU entry: STAT, FP32 words in frame order, 16-bit words -/
  blocks : List (BitVec 16 × List Word × List (BitVec 16))
  /-- tc of Bind-off's last read for its round, or of the close of its skipped course (R626, source 4) -/
  formedAt : Nat
deriving DecidableEq, Repr

/-- One GOOSE transmission (R388, R389): state and sequence numbers, timeAllowedtoLive, the event time and the
member states. `fast` tells the held template's fast path from the egress queue (R390). -/
structure GooseFrame where
  pub : Nat
  stNum : Nat
  sqNum : Nat
  tal : Nat
  time : Nat
  members : List Bool
  fast : Bool
deriving DecidableEq, Repr

/-- What a configuration frame says of one PMU entry (R396): name, IDCODE, FORMAT, the channel names by kind with
the 16 names of each digital or alarm word, PHUNIT, ANUNIT, DIGUNIT, and whether FNOM is 50 Hz. -/
structure PubPmu where
  stn : Bytes
  idcode : Nat
  format : Nat
  phasors : List Bytes
  analogs : List Bytes
  bits : List Bytes
  phunit : List Word
  anunit : List Word
  digunit : List Word
  fnom50 : Bool
deriving DecidableEq, Repr

/-- A configuration frame of a session (R396): CFG-1, CFG-2 or CFG-3. -/
structure PubConfig where
  kind : Nat
  idcode : Nat
  timeBase : Nat
  dataRate : Nat
  cfgcnt : Nat
  pmus : List PubPmu
deriving DecidableEq, Repr

/-- What an item of an egress queue transmits (R150, R390, R394): bytes of a host or management frame, or the frame
of a publication or a session. -/
inductive EgressItem where
  | frame (bytes : Bytes)
  | goose (g : GooseFrame)
  | session (n : Nat) (f : DataFrame)
  | config (n : Nat) (c : PubConfig)
  | header (n : Nat) (text : Bytes)
deriving DecidableEq, Repr

/-- The running state of an open session (R394 to R401). -/
structure SessionRun where
  sending : Bool
  /-- the TCP client, when connected (R398) -/
  client : Option Bytes
  /-- the SESSION_MODIFY in announcement: new configuration, tc of its commit point, the request (R398) -/
  announce : Option (SessionCfg × Nat × Request)
  cfgcnt : Nat
  framesSent : Nat
  framesDropped : Nat
  gapFrames : Nat
  catchupSent : Nat
  catchupLost : Nat
  cfgSent : Nat
  commands : Nat
  connections : Nat
  missingWords : Nat
  cfgTooLarge : Nat
  lastCourse : Nat
  /-- the values last published, for gap_policy hold (R395) -/
  lastFrame : Option DataFrame
  /-- frames waiting while the egress queue is full, oldest first, at most four (R394) -/
  waiting : List DataFrame
  /-- the standby's catch-up ring, oldest first, at most 256 (R401), and the last mirrored course (R400) -/
  catchup : List DataFrame
  mirroredCourse : Option Nat
deriving DecidableEq, Repr

def SessionRun.opened (sending : Bool) : SessionRun :=
  { sending := sending, client := none, announce := none, cfgcnt := 0, framesSent := 0, framesDropped := 0,
    gapFrames := 0, catchupSent := 0, catchupLost := 0, cfgSent := 0, commands := 0, connections := 0,
    missingWords := 0, cfgTooLarge := 0, lastCourse := 0, lastFrame := none, waiting := [], catchup := [],
    mirroredCourse := none }

/-- The alarm unit and publishing engine of one lane. -/
structure PublishSt where
  /-- the active ids (R383) -/
  active : Table AlarmState
  /-- the levels of `ALM[7:0]` and of `OWN` that the lane drives (R379, R385) -/
  pins : BitVec 8
  own : Bool
  /-- the pin states mirrored from the holder (R400) -/
  mirrorPins : BitVec 8
  goose : Table GooseRun
  sessions : Table SessionRun
deriving DecidableEq, Repr

/-- After START every id is inactive (R403). -/
def PublishSt.reset : PublishSt :=
  { active := [], pins := 0, own := false, mirrorPins := 0, goose := [], sessions := [] }

end Sys2Proof
end

