-- ==== Sys2Proof/Types/Library.lean ====
section
/-!
DEFINITION. What the reference patterns of the library keep from course to course (chapters 09 and 10): one buffer for
each course that wrote one (R328, R349).
-/
namespace Sys2Proof

/-- The estimator's buffer (R328, R341): the estimate and the breaker bits. -/
structure EstimateBuf where
  course : Nat
  x : List (Word × Word)
  breakers : BitVec 256
deriving DecidableEq, Repr

/-- The detector's buffer (R368 to R374). Ties are numbered as in their table, or as the pairs of declared regions. -/
structure IslandBuf where
  course : Nat
  /-- the table fields in force (R371) -/
  tables : Bytes
  /-- U_R of the live regions -/
  vectors : Table (Word × Word)
  /-- voltage and frequency of the valid sources -/
  sources : Table (Word × Word × Word)
  divergence : Table Nat
  restore : Table Nat
  separated : List Nat
  /-- ties open by topology -/
  opened : List Nat
  map : List Nat
  /-- course, source and frequency of valid local sources, of the last 64 courses (R374) -/
  history : List (Nat × Nat × Word)
  rocof : Table Nat
deriving DecidableEq, Repr

/-- An alarm's timers in analysis steps (R364): active, steps its condition has held, steps it has not. -/
structure AlarmTimer where
  on : Bool
  held : Nat
  clear : Nat
deriving DecidableEq, Repr

def AlarmTimer.reset : AlarmTimer := { on := false, held := 0, clear := 0 }

/-- A channel of the oscillation monitor (R355, R356): mean, variance, normalised samples and prediction errors, the
newest first; a gap is none. -/
structure OscChannel where
  mean : Word
  var : Word
  samples : List (Option Word)
  errors : List Word
deriving DecidableEq, Repr

/-- A band's demodulator (R360): phase, and by channel Y, C and P; and the band's mode, frequency and damping ratio. -/
structure OscBand where
  mode : Option (Word × Word × Bool)
  phase : Word
  y : Table (Word × Word)
  c : Table (Word × Word)
  p : Table Word
  damping : AlarmTimer
  amplitude : AlarmTimer
deriving DecidableEq, Repr

def OscBand.reset : OscBand :=
  { mode := none, phase := 0, y := [], c := [], p := [], damping := .reset, amplitude := .reset }

/-- The forced oscillation (R361 to R363): resonators by channel, the peak of the last step (bin and ratio), steps it
has stood, the active bin with the steps since a peak stood there, and by branch the demodulators and E. -/
structure OscForced where
  bins : Table (List (Word × Word))
  peak : Option (Nat × Word)
  stood : Nat
  active : Option (Nat × Nat)
  freq : Word
  branches : Table (List Word × Word)
  alarm : AlarmTimer
deriving DecidableEq, Repr

def OscForced.reset : OscForced :=
  { bins := [], peak := none, stood := 0, active := none, freq := 0, branches := [], alarm := .reset }

/-- The oscillation monitor's buffer (R353 to R363). -/
structure OscBuf where
  course : Nat
  /-- the structural fields in force (R351) -/
  structural : Bytes
  steps : Nat
  rowsUsed : Nat
  usable : Nat
  /-- course samples of the filter's span, by course: usable channels, and the signals of usable branches -/
  fir : List (Nat × Table Word × Table (List Word))
  channels : Table OscChannel
  normal : List Word
  rhs : List Word
  theta : List Word
  roots : List (Word × Word)
  bands : List OscBand
  forced : OscForced
deriving DecidableEq, Repr

/-- A buffer of the reference pattern that a partition runs. -/
inductive LibBuf where
  | estimate (b : EstimateBuf)
  | oscillation (b : OscBuf)
  | island (b : IslandBuf)
deriving DecidableEq, Repr

end Sys2Proof
end

