-- ==== Sys2Proof/Types/Skein.lean ====
section
/-!
DEFINITION. Planes, courses and wales (chapter 06).
-/
namespace Sys2Proof

/-- One entry of a position map (R215). -/
structure MapEntry where
  stream : Nat
  channel : Nat
  hold : Bool
  required : Bool
  /-- 0 ZERO, 1 NAN, 2 HOLD_LAST -/
  policy : Nat
  maxAge : Nat
deriving DecidableEq, Repr

/-- The rules and map under which a course opens (R240). -/
structure PlaneCfg where
  running : Bool
  rate : Nat
  partition_ : Nat
  closeOnComplete : Bool
  width : Nat
  waitUs : Nat
  quorumCount : Nat
  matchTol : Nat
  quorumWaitUs : Nat
  anchorS : Nat
  map : Table MapEntry
deriving DecidableEq, Repr

/-- An open course (R223 to R229). Instants are counted in 2^-24 s of TAI. -/
structure Course where
  number : Nat
  instant : Nat
  rules : PlaneCfg
  /-- generation of the map it opened under (R241) -/
  mapGen : Nat
  values : Table Value
  arrived : List Nat
  required : List Nat
  quorumTick : Bool
  deadlineTick : Bool
  /-- the cause first met while an earlier course is still open (R229) -/
  cause : Option Nat
deriving DecidableEq, Repr

/-- A closed course on its way to Cast-on (R230): positions as bytes and validity codes. -/
structure ClosedCourse where
  plane : Nat
  number : Nat
  instant : Nat
  status : Word
  width : Nat
  /-- the course rate, the generation of the map it opened under, and the fine tag of its close (R316) -/
  rate : Nat
  mapGen : Nat
  closeTag : FineTag
  /-- positions that are not (0, MISSING): position, bytes 0 to 3, bytes 4 to 7, validity -/
  positions : List (Nat × Word × Word × Nat)
deriving DecidableEq, Repr

/-- The running state of a plane (R240, R244). -/
structure PlaneRun where
  shadow : Table MapEntry
  mapGen : Nat
  /-- oldest course not closed, next to open, last closed -/
  oldest : Nat
  nextOpen : Nat
  lastClosed : Nat
  courses : List Course
  stepPending : Bool
  /-- generation of the map of the last course closed: the first course under another carries MAP (R241) -/
  closedGen : Nat
  closesComplete : Nat
  closesQuorum : Nat
  closesDeadline : Nat
  empty : Nat
  held : Nat
  stepSkipped : Nat
  late : Nat
  early : Nat
  offGrid : Nat
deriving DecidableEq, Repr

/-- A plane as PLANE_CREATE makes it (R239). -/
def PlaneRun.new : PlaneRun :=
  { shadow := [], mapGen := 0, oldest := 0, nextOpen := 0, lastClosed := 0, courses := [], stepPending := false,
    closedGen := 0, closesComplete := 0, closesQuorum := 0, closesDeadline := 0, empty := 0, held := 0,
    stepSkipped := 0, late := 0, early := 0, offGrid := 0 }

/-- One record of a wale (R237): instant in 2^-24 s, tag, arrival tag, late mask, values. -/
structure WaleRecord where
  at_ : Int
  tag : FineTag
  arrived : FineTag
  mask : BitVec 4
  values : List Value
deriving DecidableEq, Repr

/-- The wale of one stream (R236). -/
structure Wale where
  records : List WaleRecord
  disorder : Nat
deriving DecidableEq, Repr

/-- The Skein of a lane. `recent` holds, per stream and channel (256 × stream + channel), the values that reached
the aligner: instant in 2^-24 s and value, newest last (R232, R233). -/
structure SkeinSt where
  planes : Table PlaneRun
  recent : Table (List (Int × Value))
  /-- accepted values on their way to the wale history, with their late masks (R235) -/
  toHistory : List (Arrival × BitVec 4)
  wales : Table Wale
deriving DecidableEq, Repr

def SkeinSt.reset : SkeinSt := { planes := [], recent := [], toHistory := [], wales := [] }

end Sys2Proof
end

