-- ==== Sys2Proof/Types/Array.lean ====
section
/-!
DEFINITION. The Stitch Array and its patterns (chapters 07 to 10): bundles, tiles, partitions and banks.
-/
namespace Sys2Proof

/-! ### The bundle (R276), field by field -/

structure VSlot where
  op : BitVec 8
  pred : BitVec 3
  vd : BitVec 6
  va : BitVec 6
  vb : BitVec 6
  vc : BitVec 6
  negA : BitVec 1
  negC : BitVec 1
  conjB : BitVec 1
  bsrc : BitVec 2
  lane : BitVec 4
  rsvd : BitVec 4
deriving DecidableEq, Repr

structure SSlot where
  op : BitVec 6
  pred : BitVec 3
  sd : BitVec 5
  sa : BitVec 5
  sb : BitVec 5
  low : BitVec 8
deriving DecidableEq, Repr

structure LSlot where
  op : BitVec 3
  dst : BitVec 6
  base : BitVec 5
  offset : BitVec 10
deriving DecidableEq, Repr

structure TSlot where
  op : BitVec 3
  pred : BitVec 3
  src : BitVec 6
  base : BitVec 5
  offset : BitVec 7
deriving DecidableEq, Repr

/-- An N sub-slot: op [15:13], [12:10], [9:8], [7:4], [3:0]. -/
structure NSlot where
  op : BitVec 3
  f12 : BitVec 3
  f9 : BitVec 2
  f7 : BitVec 4
  f3 : BitVec 4
deriving DecidableEq, Repr

/-- The C slot: op [23:20] and its fields [19:17], [16:14], [13:11], [10:8], [7:0]. -/
structure CSlot where
  op : BitVec 4
  f19 : BitVec 3
  f16 : BitVec 3
  f13 : BitVec 3
  f10 : BitVec 3
  f7 : BitVec 8
deriving DecidableEq, Repr

structure Bundle where
  v : VSlot
  s : SSlot
  l : LSlot
  t : TSlot
  n0 : NSlot
  n1 : NSlot
  c : CSlot
  parity : BitVec 8
deriving DecidableEq, Repr

/-! ### Tiles -/

/-- Where a result lands (R252): a vector register under a lane mask, a scalar register, or a predicate under a
lane mask. -/
inductive Dest where
  | vec (r : Nat) (mask : BitVec 16) (lanes : List Word)
  | sca (r : Nat) (w : Word)
  | prd (r : Nat) (mask : BitVec 16) (bits : BitVec 16)
deriving DecidableEq, Repr

/-- A result on its way: written at the end of row `due`; `issued` and `slot` (by bit position) decide R253. -/
structure Result where
  due : Nat
  issued : Nat
  slot : Nat
  dest : Dest
deriving DecidableEq, Repr

/-- A store on its way: words by word address, written at the end of row `due` (R261). -/
structure StoreOp where
  due : Nat
  words : List (Nat × Word)
deriving DecidableEq, Repr

/-- An active loop (R269): first and last bundle of its body, iterations left after this one, iteration index. -/
structure LoopSt where
  first : Nat
  last : Nat
  left : Nat
  index : Nat
deriving DecidableEq, Repr

/-- One logical tile. Registers and words that are 0 are not listed. -/
structure Tile where
  v : Table (List Word)
  s : Table Word
  p : Table (BitVec 16)
  /-- data SRAM by word address 0 to 65,535 (R259) -/
  mem : Table Word
  pc : Nat
  loops : List LoopSt
  results : List Result
  stores : List StoreOp
deriving DecidableEq, Repr

def Tile.zero : Tile :=
  { v := [], s := [], p := [], mem := [], pc := 0, loops := [], results := [], stores := [] }

/-- The directions of neighbour links (R263). -/
inductive Dir where
  | n | e | s | w
deriving DecidableEq, Repr

/-- The six input latches (R265). -/
inductive Latch where
  | n | e | s | w | row | col
deriving DecidableEq, Repr

/-- A value on a neighbour link: at tile (r, c) when its next row issues, still to go `left` hops. -/
structure Flight where
  r : Nat
  c : Nat
  dir : Dir
  left : Nat
  lanes : List Word
deriving DecidableEq, Repr

/-- A value on a bus segment of its partition: a row or a column, present in row `at_` (R264). -/
structure BusValue where
  isRow : Bool
  line : Nat
  at_ : Nat
  lanes : List Word
deriving DecidableEq, Repr

/-! ### Patterns and partitions -/

/-- The states of a partition (R278). -/
inductive PartPhase where
  | idle | casting | running | binding | stopped
deriving DecidableEq, Repr

/-- A pattern bank: the image, the library id it came from, whether its regions were written at load and the image
has not been active since (R308, R311), and the stored parameter block (R312). -/
structure Pattern where
  image : Bytes
  library : Option Nat
  hash : Bytes
  written : List Nat
  params : Bytes
deriving DecidableEq, Repr

/-- A change that waits for a round boundary (R310). -/
inductive Change where
  | swap (fromCourse : Nat)
  | params (offset : Nat) (data : Bytes)
  /-- staging of a stored variant: lines of each tile already written (R339) -/
  | stage (variant done : Nat)
  /-- selection of a variant, or of the built-in contents: hold, from_course (R340) -/
  | select (variant : Option Nat) (hold : Bool) (fromCourse : Nat)
deriving DecidableEq, Repr

/-- A failed check of a round (R281, R283, R284): code, logical tile, row. -/
structure Violation where
  check : Nat
  tile : Nat
  row : Nat
deriving DecidableEq, Repr

/-- The round of a course: the course with its final status word (R316), the attempt, the alarm ids raised by this
attempt (R318). -/
structure Round where
  course : ClosedCourse
  attempt : Nat
  alarms : List Nat
  violation : Option Violation
deriving DecidableEq, Repr

/-- One entry of the result ring (R324). -/
structure RoundResult where
  course : Nat
  instant : Nat
  lines : List Bytes
  patternId : Nat
  paramGen : Nat
deriving DecidableEq, Repr

/-- The counters of a partition (R323). -/
structure PartCounters where
  rounds : Nat
  second : Nat
  transient : Nat
  lasting : Nat
  skQueue : Nat
  skThrottle : Nat
  skMismatch : Nat
  skNotServing : Nat
deriving DecidableEq, Repr

/-- Automatic selection of one partition (R342). -/
structure AutoSelect where
  /-- VARIANT_SELECT's hold suspends it -/
  hold : Bool
  /-- the candidate and the consecutive courses that yielded it -/
  candidate : Option Nat
  count : Nat
  /-- the confirmed variant and its from_course -/
  chosen : Option (Nat × Nat)
  /-- lines of each tile already staged for it -/
  done : Nat
deriving DecidableEq, Repr

def AutoSelect.reset : AutoSelect := { hold := false, candidate := none, count := 0, chosen := none, done := 0 }

/-- One partition of the array. -/
structure Part where
  rect : Option (Nat × Nat × Nat × Nat)
  phase : PartPhase
  row : Nat
  round : Option Round
  queue : List ClosedCourse
  queueMax : Nat
  activeBank : Nat
  bank0 : Option Pattern
  bank1 : Option Pattern
  paramGen : Nat
  selector : Nat
  staged : Option (Nat × Bytes)
  verifying : Option (Request × Bytes × Option Nat)
  change : Option (Request × Change)
  /-- resident variants of slots A and B, and automatic selection (R335, R342) -/
  slotA : Option Nat
  slotB : Option Nat
  /-- slot A holds the initial contents of the image (R335) -/
  builtIn : Bool
  auto : AutoSelect
  /-- a portion of a staging was written at the boundary that lasts (R339) -/
  portion : Bool
  /-- a stored parameter block that applies at the first swap to the image with this hash (R687) -/
  awaits : Option (Bytes × Bytes)
  lastClean : Option Nat
  faulted : Bool
  /-- the next round is a second attempt (R320) -/
  secondDue : Bool
  /-- the tile of the last violation, at which a transient fault counts (R291) -/
  violTile : Nat
  repairing : Bool
  /-- skip reasons since the last course that was not skipped (R313) -/
  skipped : List Nat
  counters : PartCounters
  results : List RoundResult
  flights : List Flight
  buses : List BusValue
  /-- alarm events: id, course, count (R274) -/
  events : List (Nat × Nat × Nat)
  /-- stored variant images (R338) -/
  variants : Table Bytes
  /-- a variant delivery: index, total_len, bytes so far -/
  varChunk : Option (Nat × Nat × Bytes)
  /-- the buffers of a stateful library pattern (R328, R349) -/
  lib : List LibBuf
deriving DecidableEq, Repr

def Part.empty : Part :=
  { rect := none, phase := .idle, row := 0, round := none, queue := [], queueMax := 0, activeBank := 0,
    bank0 := none, bank1 := none, paramGen := 0, selector := 0, staged := none, verifying := none, change := none, slotA := none, slotB := none,
    builtIn := false, auto := .reset, portion := false,
    awaits := none, lastClean := none, faulted := false, secondDue := false, violTile := 0, repairing := false, skipped := [],
    counters := ⟨0, 0, 0, 0, 0, 0, 0, 0⟩, results := [], flights := [], buses := [], events := [],
    variants := [], varChunk := none, lib := [] }

/-- Counters of one physical tile (R291). -/
structure TileCounters where
  corrected : Nat
  transient : Nat
  violations : Nat
deriving DecidableEq, Repr

/-- What the codes of tile memory report while a row issues (R283, R284): nothing, a correction in a logical tile, an
uncorrectable word that a load reads, or a bundle that fails at fetch. -/
inductive RowError where
  | none
  | corrected (tile : Nat)
  | uncorrectable (tile word : Nat)
  | fetch (tile : Nat)
deriving DecidableEq, Repr

/-- The Stitch Array of one lane. -/
structure ArraySt where
  parts : Table Part
  /-- logical tiles that hold anything but zeros -/
  tiles : Table Tile
  counters : Table TileCounters
  /-- words whose uncorrectable error is awaiting the retry (R283): logical tile, word address -/
  suspect : List (Nat × Nat)
  /-- logical tiles whose repair is under way (R287) -/
  repairs : List Nat
  throttleEntries : Nat
  throttledTc : Nat
  throttledAt : Nat
deriving DecidableEq, Repr

def ArraySt.reset : ArraySt :=
  { parts := [], tiles := [], counters := [], suspect := [], repairs := [], throttleEntries := 0, throttledTc := 0,
    throttledAt := 0 }

end Sys2Proof
end

