-- ==== Sys2Proof/Types/Mesh.lean ====
section
/-!
DEFINITION. The Picot field mesh (chapter 15): settings, node and grant tables, and the running state of a radio.
-/
namespace Sys2Proof

/-- One entry of a transceiver script (R507). -/
structure ScriptEntry where
  event : Nat
  op : Nat
  len : Nat
  data : Bytes
deriving DecidableEq, Repr

/-- MESH_SET (R528). -/
structure MeshCfg where
  role : Nat
  fsk : Nat
  bitRateK : Nat
  pre : Nat
  k : Nat
  slotMs : Nat
  hopSeed : Nat
  map : BitVec 64
  anchorS : Nat
  panId : Nat
  rxWindowUs : Nat
  supervisionSf : Nat
  maxVersion : Nat
  joinOpen : Bool
  requireMic : Bool
  keySlot : Nat
  eui64 : Nat
  spiKhz : Nat
  txLatencyNs : Nat
  rxLatencyNs : Nat
  script : List ScriptEntry
deriving DecidableEq, Repr

/-- A radio that MESH_SET has not set: role off, the defaults of R528, no script. -/
def MeshCfg.dflt : MeshCfg :=
  { role := 0, fsk := 0, bitRateK := 100, pre := 8, k := 5, slotMs := 20, hopSeed := 0, map := 0xFFFFFFFF,
    anchorS := 0, panId := 0, rxWindowUs := 100, supervisionSf := 8, maxVersion := 2, joinOpen := true,
    requireMic := false, keySlot := 0, eui64 := 0, spiKhz := 10000, txLatencyNs := 0, rxLatencyNs := 0, script := [] }

/-- A node of the root's table (R529), under 65536 × radio + short address. -/
structure MeshNode where
  eui64 : Nat
  shortAddr : Nat
  router : Bool
deriving DecidableEq, Repr

/-- A slot grant (R509, R530). -/
structure Grant where
  radio : Nat
  node : Nat
  slot : Nat
  beacon : Bool
  periodExp : Nat
  phase : Nat
deriving DecidableEq, Repr

/-- A frame that a radio sends (R512, R513); relayed types carry the flood header. `stamp`: a slot grant whose
instant is set at its first transmission (R522). -/
structure PicotTx where
  dest : Nat
  ackReq : Bool
  version : Nat
  type : Nat
  origin : Nat
  oseq : Nat
  ttl : Nat
  body : Bytes
  stamp : Bool
deriving DecidableEq, Repr

/-- A sent frame that awaits its acknowledgement (R517): times sent, sequence number, and the tc at which the `SFD`
of the acknowledgement is expected to rise (R516). -/
structure Unacked where
  frame : PicotTx
  sent : Nat
  seq : Nat
  ackAt : Rat
deriving DecidableEq, Repr

/-- A node as the root or a router knows it (R521, R525). -/
structure NodeRun where
  joined : Bool
  lost : Bool
  lastHeard : Nat
  version : Nat
  depth : Nat
  parent : Nat
deriving DecidableEq, Repr

/-- Radio states (R531); `stopped`: to start again at the next superframe boundary (R528). -/
inductive RadioState where
  | off | stopped | root | scanning | joined | faulted
deriving DecidableEq, Repr

/-- The counters of R531. -/
structure MeshCounters where
  crc : Nat
  length : Nat
  foreign : Nat
  bad : Nat
  auth : Nat
  dup : Nat
  txFrames : Nat
  txFailed : Nat
  retrans : Nat
  missed : Nat
  joins : Nat
deriving DecidableEq, Repr

def MeshCounters.zero : MeshCounters := ⟨0,0,0,0,0,0,0,0,0,0,0⟩

/-- A member's side of the mesh (R520 to R525). -/
structure MemberSt where
  addr : Option Nat
  version : Nat
  depth : Nat
  parent : Option Nat
  /-- slot of the parent's beacon -/
  parentSlot : Nat
  /-- the slot timer: the tc at which slot `count` began, slots counted from event counter 0 -/
  timer : Option (Rat × Nat)
  /-- the tag clock: tag at a tc (R523) -/
  tag : Option (FineTag × Rat)
  /-- superframe whose parent beacon was last received or missed, and consecutive misses -/
  beaconSf : Option Nat
  misses : Nat
  /-- the beacon chosen to join through: sender, depth (R521) -/
  candidate : Option (Nat × Nat)
  /-- tc of the join request that awaits its response -/
  request : Option Nat
  /-- place in the channel map of the scan, and the tc since which it listens -/
  scanIndex : Nat
  scanAt : Nat
  /-- grants in force, and grants to come with their instants (R522) -/
  grants : List Grant
  coming : List (Nat × List Grant)
  /-- tc of the last acknowledgement of the parent (R525) -/
  lastAck : Nat
  /-- flags and time quality of the parent's last beacon -/
  parentFlags : Nat
  parentQuality : Nat
deriving DecidableEq, Repr

def MemberSt.new (now : Nat) : MemberSt :=
  { addr := none, version := 1, depth := 0, parent := none, parentSlot := 0, timer := none, tag := none,
    beaconSf := none, misses := 0, candidate := none, request := none, scanIndex := 0, scanAt := now, grants := [],
    coming := [], lastAck := now, parentFlags := 0, parentQuality := 0xF }

/-- The running state of one radio. -/
structure MeshRun where
  state : RadioState
  /-- the map in force, and the one announced with its instant (R528) -/
  map : BitVec 64
  pending : Option (BitVec 64 × Nat)
  /-- sequence numbers by link (destination), and the next origin_seq -/
  txSeq : Table Nat
  oseq : Nat
  unacked : Option Unacked
  /-- an acknowledgement to send: destination, sequence number, version, and the tc of its first preamble bit -/
  ack : Option (Nat × Nat × Nat × Rat)
  /-- the last slot started, and whether the lane transmitted as root in it (R527) -/
  slot : Option Nat
  transmitting : Bool
  /-- (origin, origin_seq, tc), oldest first, at most 1,024 (R518) -/
  seen : List (Nat × Nat × Nat)
  nodes : Table NodeRun
  suspended : List Grant
  /-- instants of the grants last sent, by node (R522, R527) -/
  instants : Table Nat
  /-- report_seq of the last accepted report, by origin (R526) -/
  reports : Table Nat
  member : MemberSt
  counters : MeshCounters
deriving DecidableEq, Repr

/-- A radio at START (R531). -/
def MeshRun.reset : MeshRun :=
  { state := .off, map := 0, pending := none, txSeq := [], oseq := 0, unacked := none, ack := none, slot := none,
    transmitting := false, seen := [], nodes := [], suspended := [], instants := [], reports := [],
    member := .new 0, counters := .zero }

end Sys2Proof
end

