-- ==== Sys2Proof/Types/Pe.lean ====
section
/-!
DEFINITION. The phasor estimation chain (chapter 05).
-/
namespace Sys2Proof

/-- PE_CHANNEL_SET (R175). -/
structure PeCfg where
  enable : Bool
  kind : Nat
  settleGated : Bool
  causal : Bool
  scale : Word
  muDelayNs : Int
  outRate : Nat
  bankSlot : Nat
deriving DecidableEq, Repr

/-- A loaded bank (R188, R191): `library` 1 to 3, or 0 with coefficients in units of 2^-22. -/
structure PeBank where
  library : Nat
  minPhase : Bool
  taps : Nat
  delayTolUs : Nat
  /-- g in 1/256 sample (R188, R191) -/
  groupDelay : Nat
  settleLen : Nat
  droop : List Word
  coef : List Int
deriving DecidableEq, Repr

/-- One sample of a channel's history: its index (second × nominal_rate + smpCnt), the FP32 value of R179 or its
substitute (R193), grade and flags. -/
structure PeSample where
  index : Nat
  x : Word
  grade : Grade
  test : Bool
  auth : Bool
  substituted : Bool
deriving DecidableEq, Repr

/-- The values of one output: phasor, frequency deviation, frequency and ROCOF (R182, R183). -/
structure PeVals where
  re : Word
  im : Word
  df : Word
  freq : Word
  rocof : Word
deriving DecidableEq, Repr, Inhabited

/-- What one output's values are computed from (R179 to R183, R207). -/
structure PeJob where
  rate : Nat
  freq : Nat
  cfg : PeCfg
  bank : PeBank
  /-- output instant: index second × out_rate + k -/
  instant : Nat
  span : List PeSample
deriving DecidableEq, Repr

/-- The running state of one enabled channel. -/
structure PeRun where
  activeSlot : Nat
  samples : List PeSample
  /-- a synchronising reset is marked and falls on the next accepted sample (R204) -/
  resetMarked : Bool
  /-- t_r as a sample index, and whether the channel still settles (R206) -/
  resetAt : Option Nat
  settling : Bool
  /-- the last output produced: instant index, values, SETTLING; and the one before it -/
  last : Option (Nat × PeVals × Bool)
  prior : Option (Nat × PeVals × Bool)
  /-- the last output instant passed, produced or not: the next output follows it -/
  cursor : Option Nat
  /-- faded outputs produced in the fade in progress (R197) -/
  fadeDone : Nat
  /-- the next output carries DELAY_STEP (R199): old and new delay, ns -/
  delayStep : Option (Nat × Nat)
  resets : Nat
  substituted : Nat
  outSettling : Nat
  outInvalid : Nat
  fades : Nat
  delaySteps : Nat
deriving DecidableEq, Repr

/-- A swap of a stream (R196, R200, R202): masked channels, incoming slot, K, delay_step_ok, and the request while
it has not been answered. -/
structure PeSwap where
  mask : Nat
  slot : Nat
  outputs : Nat
  stepOk : Bool
  req : Option Request
deriving DecidableEq, Repr

/-- The swaps of one stream: the fade under way (from its start), the held swap, and whether the next swap's reply
carries SUPERSEDED_INFO (R201). -/
structure PeStream where
  fade : Option PeSwap
  held : Option PeSwap
  superseded : Nat
deriving DecidableEq, Repr

/-- Channel key: 8 × stream + channel. Bank key: 4 × stream + slot. -/
structure PeSt where
  channels : Table PeRun
  streams : Table PeStream
  /-- tags of requests whose reply carries SUPERSEDED_INFO (R201): source and tag -/
  info : List (Nat × Word)
deriving DecidableEq, Repr

def PeSt.reset : PeSt := { channels := [], streams := [], info := [] }

end Sys2Proof
end

