-- ==== Sys2Proof/Types/PlyCfg.lean ====
section
/-!
DEFINITION. The settings of Ply: PLY_SET, PLY_PAIR and WITNESS_SET (chapter 16).
-/
namespace Sys2Proof

/-- PLY_SET (R563). -/
structure PlyCfg where
  /-- true for `AVAILABLE`, false for `SAFE_SINGLE` -/
  available : Bool
  preferred : Nat
  handoverOnHoldover : Bool
  handoverOnTamper : Bool
  compareMask : BitVec 4
  periodUs : Nat
  guardUs : Nat
  startWaitMs : Nat
deriving DecidableEq, Repr

def PlyCfg.dflt : PlyCfg :=
  { available := false, preferred := 0, handoverOnHoldover := true, handoverOnTamper := true, compareMask := 0xF,
    periodUs := 2000, guardUs := 250, startWaitMs := 100 }

/-- PLY_PAIR with op 1 (R564). -/
structure PairCfg where
  deviceIndex : Nat
  port : Nat
  available : Bool
  keySlot : Nat
  preferredDevice : Nat
  udpPort : Nat
  periodUs : Nat
  guardUs : Nat
  partnerA : Bytes
  partnerB : Bytes
deriving DecidableEq, Repr

/-- WITNESS_SET (R565). -/
structure WitnessCfg where
  /-- 0 none, 1 host, 2 Azwell -/
  laneWitness : Nat
  deviceWitness : Nat
  keySlot : Nat
  port : Nat
  udpPort : Nat
  timeoutMs : Nat
  addr : Bytes
deriving DecidableEq, Repr

def WitnessCfg.dflt : WitnessCfg :=
  { laneWitness := 0, deviceWitness := 0, keySlot := 0, port := 11, udpPort := 47850, timeoutMs := 1000,
    addr := List.replicate 16 0 }

end Sys2Proof
end

