-- ==== Sys2Proof/Types/Port.lean ====
section
/-!
DEFINITION. Ethernet and polled serial ports (chapter 14).
-/
namespace Sys2Proof

/-- PORT_SET of an Ethernet port (R482). -/
structure EthCfg where
  mode : Nat
  maxFrame : Nat
  fec : Nat
  pauseRx : Bool
  prp : Bool
  prpLan : Bool
  autoneg : Bool
  promiscuous : Bool
  acceptUntagged : Bool
  mac : Nat
  txStart : Nat
  ipAddr : Bytes
  prefixLen : Nat
  gateway : Bytes
deriving DecidableEq, Repr

/-- The defaults of R482; the MAC address comes from the config store. -/
def EthCfg.dflt (n : Nat) : EthCfg :=
  { mode := if n ≤ 3 then 1 else 2, maxFrame := 0, fec := 0, pauseRx := true, prp := false, prpLan := false,
    autoneg := true, promiscuous := false, acceptUntagged := true, mac := 0, txStart := 256,
    ipAddr := List.replicate 16 0, prefixLen := 0, gateway := List.replicate 16 0 }

/-- One host rule (R492). -/
structure HostRule where
  ethertype : Nat
  ipProto : Nat
  divert : Bool
  dstPort : Nat
  dstMac : Nat
deriving DecidableEq, Repr

/-- CLASSIFIER_SET (R492): multicast (address, prefix_bits), VLAN ids, rules. -/
structure ClassCfg where
  mcast : List (Nat × Nat)
  vlans : List Nat
  rules : List HostRule
  hostRate : Nat
deriving DecidableEq, Repr

def ClassCfg.dflt : ClassCfg := { mcast := [], vlans := [], rules := [], hostRate := 10000 }

/-- One wake filter (R493). -/
structure WakeFilter where
  offset : Nat
  length : Nat
  mask : BitVec 64
  pattern : Bytes
deriving DecidableEq, Repr

/-- WAKE_SET (R493). -/
structure WakeCfg where
  magic : Bool
  filterMask : BitVec 8
  filters : List WakeFilter
deriving DecidableEq, Repr

/-- The counters of an Ethernet port (R495). -/
structure EthCounters where
  rxFrames : Nat
  rxBytes : Nat
  txFrames : Nat
  txBytes : Nat
  runts : Nat
  giants : Nat
  codeErrors : Nat
  fcsErrors : Nat
  pauseRx : Nat
  macCtrl : Nat
  dstFiltered : Nat
  vlanFiltered : Nat
  hsr : Nat
  prpWrongLan : Nat
  unknown : Nat
  hostLimited : Nat
  txUnderrun : Nat
  txLinkDown : Nat
  txOversize : Nat
  linkDowns : Nat
deriving DecidableEq, Repr

def EthCounters.zero : EthCounters := ⟨0,0,0,0,0,0,0,0,0,0,0,0,0,0,0,0,0,0,0,0⟩

/-- The running state of an Ethernet port. -/
structure EthRun where
  up : Bool
  txStartNow : Nat
  /-- tc at which the pause timer ends (R486) -/
  pausedUntil : Option Nat
  prpSeq : Nat
  counters : EthCounters
  /-- frames sent to the host by rules in the current second (R492): second, count -/
  hostSecond : Nat
  hostCount : Nat
  /-- fast-path GOOSE frames that wait for the pause to end (R486) -/
  fastHeld : List GooseFrame
deriving DecidableEq, Repr

/-- A port at START: link down, counters 0 (R495). -/
def EthRun.reset (txStart : Nat) : EthRun :=
  { up := false, txStartNow := txStart, pausedUntil := none, prpSeq := 0, counters := .zero, hostSecond := 0,
    hostCount := 0, fastHeld := [] }

/-- PORT_SET of a serial port (R496). -/
structure SerialCfg where
  framing : Nat
  cotLen : Nat
  caLen : Nat
  ioaLen : Nat
  bitRate : Nat
  respTimeoutMs : Nat
  idleBits : Nat
  offlineRetryS : Nat
  giAfterReset : Bool
  class1Burst : Nat
deriving DecidableEq, Repr

def SerialCfg.dflt : SerialCfg :=
  { framing := 0, cotLen := 1, caLen := 1, ioaLen := 2, bitRate := 9600, respTimeoutMs := 200, idleBits := 33,
    offlineRetryS := 30, giAfterReset := true, class1Burst := 8 }

/-- A poll table entry (R499). -/
structure PollEntry where
  linkAddr : Nat
  enable : Bool
  class2Ms : Nat
deriving DecidableEq, Repr

def PollEntry.dflt : PollEntry := { linkAddr := 0, enable := false, class2Ms := 0 }

/-- Station states (R499). -/
inductive StationState where
  | disabled | resetting | polling | offline
deriving DecidableEq, Repr

def StationState.code : StationState → Nat
  | .disabled => 0
  | .resetting => 1
  | .polling => 2
  | .offline => 3

/-- A station of the poll table. `step` counts the requests of RESETTING that have succeeded: status of link, reset
of link, general interrogation (R500). -/
structure Station where
  state : StationState
  fcb : Bool
  step : Nat
  polls : Nat
  transient : Nat
  repeats : Nat
  lastClass2 : Option Nat
  offlineAt : Nat
  /-- ACD of its last response, and the class 1 requests sent in a row (R500) -/
  acd : Bool
  burst : Nat
  /-- the last response whose data were delivered (R502) -/
  lastResponse : Option Bytes
deriving DecidableEq, Repr

def Station.new (enable : Bool) : Station :=
  { state := if enable then .resetting else .disabled, fcb := false, step := 0, polls := 0, transient := 0,
    repeats := 0, lastClass2 := none, offlineAt := 0, acd := false, burst := 0, lastResponse := none }

/-- A request on the line that awaits its response (R500, R501): entry, function code, FCB, and whether it is the
repeat. -/
structure PollRequest where
  entry : Nat
  fc : Nat
  fcb : Bool
  isRepeat : Bool
  /-- tc at which its last bit was sent -/
  sentAt : Nat
deriving DecidableEq, Repr

/-- The counters of a serial port (R505). -/
structure SerialCounters where
  framesTx : Nat
  framesRx : Nat
  charErrors : Nat
  checkErrors : Nat
  lengthErrors : Nat
  timeouts : Nat
  transient : Nat
  lasting : Nat
  repeats : Nat
  unsolicited : Nat
  wrongAddress : Nat
deriving DecidableEq, Repr

def SerialCounters.zero : SerialCounters := ⟨0,0,0,0,0,0,0,0,0,0,0⟩

/-- A serial port with its poller. -/
structure SerialRun where
  stations : Table Station
  outstanding : Option PollRequest
  /-- the request to repeat after a failure (R501) -/
  again : Option PollRequest
  /-- the entry last requested (R500, R504) -/
  lastEntry : Option Nat
  /-- tc of the last activity on the line -/
  lineAt : Nat
  /-- lane and device lease epochs under which this lane last sent a request (R504) -/
  polledUnder : Option (Nat × Nat)
  /-- polling is suspended by the ingest queue's watermarks (R161) -/
  held : Bool
  counters : SerialCounters
deriving DecidableEq, Repr

def SerialRun.reset : SerialRun :=
  { stations := [], outstanding := none, again := none, lastEntry := none, lineAt := 0, polledUnder := none,
    held := false, counters := .zero }

/-- The ports of a lane. -/
structure PortsSt where
  eth : Table EthRun
  serial : Table SerialRun
deriving DecidableEq, Repr

end Sys2Proof
end

