-- ==== Sys2Proof/Types/Queue.lean ====
section
/-!
DEFINITION. The 58 queues of a lane (chapter 04).
-/
namespace Sys2Proof

/-- The sizes and watermarks of one queue: in force, and pending until the next START (R155 to R158). -/
structure QueueCfg where
  ring : Nat
  spill : Nat
  pauseEnable : Bool
  pauseQuanta : Nat
  highWm : Nat
  lowWm : Nat
deriving DecidableEq, Repr

/-- What an item of a queue is (R151). -/
inductive QPayload where
  /-- a frame for a decoder: the stream that the classifier matched, the port, the arrival tag and time -/
  | ingest (stream port : Nat) (arrived : FineTag) (at_ : Nat) (f : EthFrame)
  /-- a response of a polled station: link address and user data -/
  | serial (stream : Nat) (arrived : FineTag) (at_ : Nat) (asdu : Bytes)
  /-- a radio report: its origin, its arrival and its body (R526) -/
  | mesh (origin : Nat) (arrived : FineTag) (at_ : Nat) (body : Bytes)
  /-- a frame that waits for a data slot of its radio (R519) -/
  | radio (f : PicotTx)
  /-- late values, with the late mask (R235) -/
  | late (a : Arrival) (mask : BitVec 4)
  /-- a frame for a transmitter and its length; `desc` the transmit descriptor it answers -/
  | egress (what : EgressItem) (length : Nat) (ptp : Bool) (desc : Option (Nat × Bool))
  /-- a host frame on its way to a port's egress queue (R648): port, frame, descriptor index with TS_REQ -/
  | hostTx (port : Nat) (frame : Bytes) (desc : Option (Nat × Bool))
  | request (r : Request)
  | reply (slot : HostSlot) (packet : Bytes)
  /-- a frame for the host: port, rule, copied onward, arrival stamp -/
  | hostRx (frame : Bytes) (port rule : Nat) (copied : Bool) (stamp : Nat)
deriving DecidableEq, Repr

/-- One item: its entries (R150), whether one of them passed the spill region, and its content. -/
structure QItem where
  entries : Nat
  spilled : Bool
  payload : QPayload
deriving DecidableEq, Repr

/-- One queue. -/
structure Queue where
  /-- complete items, oldest first -/
  items : List QItem
  /-- entries of the oldest item that the consumer has read; 0 when it has not begun it -/
  read : Nat
  /-- the consumer's item ended with the discard bit (R166): the consumer throws away what it has read -/
  discarded : Bool
  /-- entries of the item that the producer is writing, as written so far -/
  partialLen : Nat
  /-- the producer's remaining entries are accepted and dropped up to the item's end (R162, R165) -/
  dropping : Bool
  /-- items whose producer waits for room (R160), oldest first -/
  waiting : List QItem
  maxDepth : Nat
  enqueued : Nat
  droppedFull : Nat
  droppedFlush : Nat
  droppedRest : Nat
  droppedError : Nat
  pauseSent : Nat
  spillItems : Nat
  /-- tc of the last pause frame while the partner is paused, and whether the rise to high_wm has been signalled
  (R163) -/
  paused : Option Nat
  highSeen : Bool
deriving DecidableEq, Repr

def Queue.empty : Queue :=
  { items := [], read := 0, discarded := false, partialLen := 0, dropping := false, waiting := [], maxDepth := 0,
    enqueued := 0, droppedFull := 0, droppedFlush := 0, droppedRest := 0, droppedError := 0, pauseSent := 0,
    spillItems := 0, paused := none, highSeen := false }

end Sys2Proof
end

