-- ==== Sys2Proof/Types/Stream.lean ====
section
/-!
DEFINITION. Stream contexts (chapter 03): parameters, configurations, states and counters.
-/
namespace Sys2Proof

/-- The PMU part of STREAM_ADD (R114). -/
structure PmuPart where
  srcAddr : Bytes
  dataSrcPort : Nat
  dataDstPort : Nat
  pmuPort : Nat
  idcode : Nat
  cfgSource : Nat
  cfgKind : Nat
  cfgRetryMs : Nat
  vlan : Nat
deriving DecidableEq, Repr

/-- The SV part (R114). -/
structure SvPart where
  dstMac : Nat
  appid : Nat
  profile : Nat
  channels : Nat
  minSmpSynch : Nat
  confRev : Nat
  svid : Bytes
  srcAddr : Bytes
  dstUdpPort : Nat
  vlan : Nat
deriving DecidableEq, Repr

/-- One entry of the point map (R114): address, and kind 1 single point, 2 double point, 3 measurand. -/
structure Point where
  address : Nat
  kind : Nat
deriving DecidableEq, Repr

/-- The Legacy part (R114). -/
structure LegacyPart where
  serialPort : Nat
  linkAddr : Nat
  commonAddr : Nat
  arrivalDelayUs : Nat
  dstMac : Nat
  appid : Nat
  confRev : Nat
  gocbref : Bytes
  points : List Point
deriving DecidableEq, Repr

/-- The part for the stream's type (R104, R114, R404). -/
inductive StreamPart where
  | pmu (p : PmuPart)
  | sv (p : SvPart)
  | mesh (radio node : Nat)
  | legacy (p : LegacyPart)
  /-- producing plane, and the kind of each channel: 1 complex, 2 FP32, 3 word -/
  | derived (plane : Nat) (kinds : List Nat)
deriving DecidableEq, Repr

/-- The parameters of a context (R114). -/
structure StreamCfg where
  transport : Nat
  portMask : Nat
  rate : Nat
  freq : Nat
  acceptTest : Bool
  rejectUnsync : Bool
  acceptErr01 : Bool
  cmdEnable : Bool
  tqLimit : Nat
  unlockLimit : Nat
  historyMs : Nat
  part : StreamPart
deriving DecidableEq, Repr

/-- The stream type codes of R104. -/
def StreamCfg.type (c : StreamCfg) : Nat :=
  match c.part with
  | .pmu _ => 1
  | .sv _ => 2
  | .mesh .. => 3
  | .legacy _ => 4
  | .derived .. => 5

/-- The authentication policy of a stream (R143). -/
structure AuthPolicy where
  mode : Nat
  algorithm : Nat
  keySlot : Nat
  acceptOnLoss : Bool
  keyId : Nat
deriving DecidableEq, Repr

def AuthPolicy.dflt : AuthPolicy := { mode := 0, algorithm := 0, keySlot := 0, acceptOnLoss := false, keyId := 0 }

/-- One PMU block of a C37.118.2 configuration: FORMAT, the scale words of phasors, analogs and digitals as they
stand in the frame, FNOM and CFGCNT (R122, R123). -/
structure PmuBlock where
  format : Nat
  phasors : List Nat
  analogs : List Nat
  digitals : Nat
  fnom : Nat
  cfgcnt : Nat
deriving DecidableEq, Repr

/-- A usable configuration (R122), with the bytes from the first after FRACSEC to the last before CHK (R128). -/
structure PmuConfig where
  version : Nat
  kind : Nat
  timeBase : Nat
  blocks : List PmuBlock
  dataRate : Nat
  raw : Bytes
deriving DecidableEq, Repr

/-- Context states (R106). -/
inductive StreamState where
  | learned | pendingCfg | active | cfgHold | keyLost | suspended
deriving DecidableEq, Repr

/-- The state codes of STREAM_QUERY (R118); 0 is FREE. -/
def StreamState.code : StreamState → Nat
  | .learned => 1
  | .pendingCfg => 2
  | .active => 3
  | .cfgHold => 4
  | .keyLost => 5
  | .suspended => 6

/-- The counters of a context (R118). -/
structure StreamCounters where
  accepted : Nat
  size : Nat
  decode : Nat
  auth : Nat
  dup : Nat
  state : Nat
  missing : Nat
  cfg : Nat
  ignored : Nat
deriving DecidableEq, Repr

def StreamCounters.zero : StreamCounters := ⟨0, 0, 0, 0, 0, 0, 0, 0, 0⟩

/-- The running part of a context. -/
structure StreamRun where
  state : StreamState
  /-- the state that RESUME returns to (R116) -/
  resume : StreamState
  counters : StreamCounters
  lastStatus : Nat
  lastTag : FineTag
  version : Nat
  /-- configuration in use, the compatible one awaiting its first frame, and the one held in CFG_HOLD (R128) -/
  cfg : Option PmuConfig
  newCfg : Option PmuConfig
  heldCfg : Option PmuConfig
  /-- a configuration-change procedure is pending, and the tc of its last request (R128) -/
  procedure : Bool
  requestAt : Nat
  /-- a CFG_CHUNK delivery: total_len and the bytes so far (R116) -/
  chunk : Option (Nat × Bytes)
  /-- the TCP connection (R130) and the tc of the last attempt -/
  connected : Bool
  attemptAt : Nat
  /-- the 64-entry window of trailers or SPDU numbers (R145, R137) -/
  highest : Nat
  seen : List Nat
  /-- instant of the last SV sample accepted: second and smpCnt (R136) -/
  lastSample : Option (Nat × Nat)
  /-- confRev in use, and the one that put the stream into CFG_HOLD (R133, R140) -/
  confRev : Nat
  heldConfRev : Option Nat
  /-- STAT bit 10 of the last data frame, any block (R128) -/
  cfgBit : Bool
  /-- GOOSE: stNum, sqNum and the tc at which timeAllowedtoLive expires (R140) -/
  goose : Option (Nat × Nat × Nat)
  /-- the tc of the last frame (R149) and the port of the last accepted frame (R130) -/
  lastFrameAt : Nat
  lastPort : Option Nat
  /-- the template that learned the context and its idle_s (R148, R149) -/
  learnedBy : Option Nat
deriving DecidableEq, Repr

/-- A new context in a state (R115). -/
def StreamRun.new (s : StreamState) (confRev now : Nat) : StreamRun :=
  { state := s, resume := s, counters := .zero, lastStatus := 0, lastTag := 0, version := 0, cfg := none,
    newCfg := none, heldCfg := none, procedure := false, requestAt := now, chunk := none, connected := false,
    attemptAt := now, highest := 0, seen := [], lastSample := none, confRev := confRev, heldConfRev := none, cfgBit := false, goose := none,
    lastFrameAt := now, lastPort := none, learnedBy := none }

/-- A learning template (R147). -/
structure LearnTemplate where
  enable : Bool
  kind : Nat
  prefixLen : Nat
  portMask : Nat
  addrPrefix : Bytes
  matchLo : Nat
  matchHi : Nat
  idFirst : Nat
  idLast : Nat
  learnRate : Nat
  idleS : Nat
  /-- the common part, 32 bytes -/
  common : Bytes
deriving DecidableEq, Repr

/-- The stream side of a lane: running parts by id, and the contexts created by each template in the current
second: second, count (R148). Parameters stand in the configuration. -/
structure StreamsSt where
  run : Table StreamRun
  learned : Table (Nat × Nat)
  /-- values on their way to the Skein, oldest first (R109 step 8) -/
  arrivals : List Arrival
deriving DecidableEq, Repr

def StreamsSt.reset : StreamsSt := { run := [], learned := [], arrivals := [] }

end Sys2Proof
end

