-- ==== Sys2Proof/Types/Time.lean ====
section
/-!
DEFINITION. Tension: settings, references, the servo and PTP ports (chapter 13). Offsets and errors are exact
rationals in nanoseconds; the frequency correction is a whole number of 2^-48 (R447).
-/
namespace Sys2Proof

/-- The three time references (R450), coded as TIME_QUERY.ref. -/
inductive RefKind where
  | ptp | pps | irig
deriving DecidableEq, Repr

def RefKind.code : RefKind → Nat
  | .ptp => 0
  | .pps => 1
  | .irig => 2

/-- TIME_REF_SET (R452). -/
structure TimeRefCfg where
  ptpPriority : Nat
  ppsPriority : Nat
  irigPriority : Nat
  revertive : Bool
  todCompact : Bool
  irig1344 : Bool
  irigAm : Bool
  ref10mEnable : Bool
  qualCount : Nat
  revertS : Nat
  ppsCableNs : Int
  irigDelayNs : Nat
  irigTzMin : Int
  priority1 : Nat
  priority2 : Nat
  todBaud : Nat
  startWaitMs : Nat
deriving DecidableEq, Repr

/-- The defaults of R452. -/
def TimeRefCfg.dflt : TimeRefCfg :=
  { ptpPriority := 0, ppsPriority := 1, irigPriority := 2, revertive := true, todCompact := false,
    irig1344 := false, irigAm := false, ref10mEnable := false, qualCount := 2, revertS := 10, ppsCableNs := 0,
    irigDelayNs := 0, irigTzMin := 0, priority1 := 128, priority2 := 128, todBaud := 9600, startWaitMs := 1000 }

/-- PTP_PORT_SET (R457). -/
structure PtpPortCfg where
  enable : Bool
  profile : Nat
  role : Nat
  twoStep : Bool
  tagged : Bool
  domain : Nat
  vlanTci : Nat
  delayAsymNs : Int
  pdelayLimitNs : Nat
  rxExtraNs : Nat
  txExtraNs : Nat
deriving DecidableEq, Repr

def PtpPortCfg.dflt : PtpPortCfg :=
  { enable := false, profile := 0, role := 0, twoStep := false, tagged := false, domain := 0, vlanTci := 0x8000,
    delayAsymNs := 0, pdelayLimitNs := 10000, rxExtraNs := 0, txExtraNs := 0 }

/-- SERVO_SET (R463); kp, ki, holdover_ppb and aging_ppb_day are FP32 words. -/
structure ServoCfg where
  kp : Word
  ki : Word
  maxAdjPpb : Nat
  stepConfirm : Nat
  holdoverAvgS : Nat
  unlockBoundNs : Nat
  holdoverPpb : Word
  agingPpbDay : Word
  tempLearn : Bool
  /-- 16 corrections in 0.1 ppb at −40, −30, … 110 °C -/
  tempTable : List Int
deriving DecidableEq, Repr

/-- The defaults of R463: 0.7, 0.3, 20 and 1 as FP32 words. -/
def ServoCfg.dflt : ServoCfg :=
  { kp := 0x3F333333, ki := 0x3E99999A, maxAdjPpb := 100000, stepConfirm := 2, holdoverAvgS := 60,
    unlockBoundNs := 10000, holdoverPpb := 0x41A00000, agingPpbDay := 0x3F800000, tempLearn := true,
    tempTable := List.replicate 16 0 }

/-- An offset with a known leap: L and the direction (R469). -/
structure Leap where
  /-- true for a deletion (o' = o − 1) -/
  deletion : Bool
  soc : Nat
deriving DecidableEq, Repr

/-- The last UTC_OFFSET_SET (R473): item 1 of R470 when forced, item 3 otherwise. -/
structure UtcSet where
  offset : Nat
  force : Bool
  leap : Option Leap
deriving DecidableEq, Repr

/-- A received Sync or Follow_Up (R456): port, domain, versionPTP, sequence, whether a Sync is two-step, the origin
timestamp in ns (of a one-step Sync, or precise in a Follow_Up), the correction in 2^-16 ns, and the receive stamp
as a full timestamp. -/
structure PtpEvent where
  port : Nat
  domain : Nat
  version : Nat
  seq : Nat
  twoStep : Bool
  originNs : Nat
  correction : Int
  rxStamp : Nat
deriving DecidableEq, Repr

/-- A received Pdelay_Resp or Pdelay_Resp_Follow_Up (R453, R456): for a follow-up `originNs` is the responder's
transmit time, for a response its receipt time of the request. -/
structure PdelayAnswer where
  port : Nat
  domain : Nat
  version : Nat
  seq : Nat
  followUp : Bool
  twoStep : Bool
  originNs : Nat
  correction : Int
  rxStamp : Nat
deriving DecidableEq, Repr

/-- A time-of-day message on `LA_TOD` (R458): a ZDA sentence with its checksum result and the UTC instant that it
names (seconds since 1970 without leap seconds), or the 12 bytes of a compact message. -/
inductive TodMessage where
  | zda (checksumOk : Bool) (utc : Nat)
  | compact (bytes : Bytes)
deriving DecidableEq, Repr

/-- An IRIG-B frame (R458): whether it is amplitude modulated, the stamp of its on-time mark, the year where the
format carries one, day of year (from 1), second of day, and the IEEE 1344 control bits: leap pending, deletion,
quality code. -/
structure IrigFrame where
  am : Bool
  mark : Nat
  year : Option Nat
  day : Nat
  second : Nat
  leapPending : Bool
  deletion : Bool
  quality : Nat
deriving DecidableEq, Repr

/-- What a received Announce says (R453 to R455, R470). `identity` is the clock identity as a number. -/
structure Announce where
  port : Nat
  domain : Nat
  version : Nat
  priority1 : Nat
  clockClass : Nat
  clockAccuracy : Nat
  variance : Nat
  priority2 : Nat
  identity : Nat
  steps : Nat
  utcOffset : Nat
  utcValid : Bool
  leap59 : Bool
  leap61 : Bool
  timeTraceable : Bool
  intervalS : Nat
deriving DecidableEq, Repr

/-- The state of a PTP port (R454). -/
inductive PtpState where
  | disabled | listening | slave | master | passive
deriving DecidableEq, Repr

/-- The running state of one PTP port. -/
structure PtpPortSt where
  state : PtpState
  /-- the last peer delay in ns (R456) -/
  pdelay : Option Rat
  /-- the last Announce and the tc of its arrival -/
  announce : Option (Announce × Nat)
  /-- a two-step Sync awaiting its Follow_Up: sequence, receive stamp (ns), correction (ns), arrival tc -/
  pendingSync : Option (Nat × Rat × Rat × Nat)
  /-- the last Pdelay_Req sent: sequence and transmit stamp (ns) -/
  pdelayReq : Option (Nat × Rat)
  /-- a two-step Pdelay_Resp awaiting its Follow_Up: sequence, receipt stamp of the request, own receive stamp -/
  pdelayResp : Option (Nat × Rat × Rat)
  txSeq : Nat
deriving DecidableEq, Repr

def PtpPortSt.reset : PtpPortSt :=
  { state := .disabled, pdelay := none, announce := none, pendingSync := none, pdelayReq := none, pdelayResp := none,
    txSeq := 0 }

/-- The state of one time reference (R450). -/
structure RefSt where
  qualified : Bool
  consecutive : Nat
  lastSecond : Option Nat
  /-- tc of the last valid measurement -/
  lastValid : Option Nat
  /-- tc since which it has stayed qualified (R451) -/
  qualifiedAt : Nat
  /-- traceable, declared accuracy in ns, UTC offset and leap that the source announces (R464, R468, R470) -/
  traceable : Bool
  accuracyNs : Nat
  utc : Option (Nat × Option Leap)
deriving DecidableEq, Repr

def RefSt.reset : RefSt :=
  { qualified := false, consecutive := 0, lastSecond := none, lastValid := none, qualifiedAt := 0,
    traceable := false, accuracyNs := 0, utc := none }

/-- The states of TIME_QUERY.state but for the unlocked flag (R478). -/
inductive TimeState where
  | freeRunning | acquiring | locked | holdover
deriving DecidableEq, Repr

/-- Tension of one lane. -/
structure TimeSt where
  /-- TAI in units of 2^-64 s since the PTP epoch (R9, R447) -/
  time : Nat
  /-- frequency correction in units of 2^-48 (R447), and the integral I (R460) -/
  y : Int
  integ : Rat
  state : TimeState
  selected : Option RefKind
  ptp : RefSt
  pps : RefSt
  irig : RefSt
  ports : Table PtpPortSt
  /-- θ in ns of the last valid measurements of the selected reference, newest first, at most 16 (R464) -/
  thetas : List Rat
  lastTheta : Option Rat
  /-- tc of the last measurement used by the servo (τ of R460) -/
  lastUsed : Option Nat
  /-- consecutive measurements with |θ| > 1 ms, newest last (R461) -/
  bigCount : Nat
  /-- E in ns at the last valid measurement, or unknown (R464, R465) -/
  e0 : Option Rat
  e0At : Nat
  unlocked : Bool
  holdoverAt : Option Nat
  /-- history of (tc from which it holds, y, junction °C), newest first, for the means of R465 and R466 -/
  history : List (Nat × Int × Int)
  lockedSince : Option Nat
  /-- ȳ and T̄ of the holdover that runs (R465) -/
  holdMean : Rat × Rat
  lastLearn : Nat
  ref10m : Bool
  /-- the offset in force with the leap that is known, and the offset replaced with its leap until discarded (R469) -/
  utcOffset : Nat
  leap : Option Leap
  /-- the change has been applied and o, o' and L are kept until they are discarded (R469) -/
  leapDone : Bool
  /-- the last 1PPS edge: its stamp in ns and its tc, awaiting its time of day -/
  ppsEdge : Option (Rat × Nat)
  /-- a compact message that names the next edge: TAI seconds, utc, flags (R458) -/
  compactNext : Option (Nat × Nat × Bool × Option Bool × Nat)
  /-- counters of R478 -/
  steps : Nat
  refSwitches : Nat
  ptpDropped : Nat
  outliers : Nat
  laneDiffFaults : Nat
  /-- Δ of R476 in ns, a first disagreement awaiting its retry, and the tc of the last step -/
  laneDiff : Option Rat
  diffOnce : Bool
  lastStep : Option Nat
  lastDisagree : Nat
  /-- the last TIME message received: its tx stamp and own receive stamp (R476) -/
  siblingTime : Option (Nat × Nat)
  utcChanges : Nat
  /-- tc of the last TIME message sent (R476) -/
  lastExchange : Nat
  /-- START has set the time: by a reference of this priority, or by the sibling (R462, R596) -/
  startSet : Option Nat
deriving DecidableEq, Repr

/-- Tension as START begins it, with the RTC time (R449). -/
def TimeSt.start (rtc : Nat) : TimeSt :=
  { time := rtc, y := 0, integ := 0, state := .freeRunning, selected := none, ptp := .reset, pps := .reset,
    irig := .reset, ports := [], thetas := [], lastTheta := none, lastUsed := none, bigCount := 0, e0 := none,
    e0At := 0, unlocked := false, holdoverAt := none, history := [], lockedSince := none, holdMean := (0, 0), lastLearn := 0,
    ref10m := false, utcOffset := 37, leap := none, leapDone := false, ppsEdge := none, compactNext := none, steps := 0,
    refSwitches := 0, ptpDropped := 0, outliers := 0, laneDiffFaults := 0, laneDiff := none, diffOnce := false,
    lastStep := none, lastDisagree := 0, siblingTime := none, utcChanges := 0,
    lastExchange := 0, startSet := none }

end Sys2Proof
end

