-- ==== Sys2Proof/Types/RunConfig.lean ====
section
/-!
DEFINITION. The running configuration (R687): every setting in force that an opcode has made. CONFIG_COMMIT
copies it to the config store and START applies it from there.
-/
namespace Sys2Proof

/-- A partition as the config store names it (R687): rectangle, plane, the active pattern (a library image, or id,
version and hash of a host-loaded one), the active parameter block and the selector of VARIANT_SELECT. -/
structure PartCfg where
  rect : Nat × Nat × Nat × Nat
  library : Option Nat
  patternId : Nat
  version : Nat
  hash : Bytes
  params : Bytes
  selector : Nat
  hold : Bool
deriving DecidableEq, Repr

structure RunConfig where
  weights : List Nat
  streams : Table StreamCfg
  auth : Table AuthPolicy
  learn : Table LearnTemplate
  /-- configurations supplied through CFG_CHUNK, by stream -/
  hostCfg : Table PmuConfig
  /-- the SUSPENDED contexts, as CONFIG_COMMIT stores them -/
  suspended : List Nat
  /-- by 8 × stream + channel and by 4 × stream + slot -/
  pe : Table PeCfg
  banks : Table PeBank
  planes : Table PlaneCfg
  parts : Table PartCfg
  eth : Table EthCfg
  classes : Table ClassCfg
  wake : Table WakeCfg
  serial : Table SerialCfg
  /-- by 64 × port + entry -/
  poll : Table PollEntry
  queues : Table QueueCfg
  /-- radios 0 and 1, their node tables (65536 × radio + short address) and grants -/
  mesh : Table MeshCfg
  nodes : Table MeshNode
  grants : List Grant
  triggers : Table TriggerCfg
  profiles : Table ProfileCfg
  /-- skew tables of SKEW_TABLE_SET, by stream: coefficients as given -/
  skews : Table SkewTable
  routes : Table AlarmRoute
  goose : Table GoosePub
  sessions : Table SessionCfg
  timeRef : TimeRefCfg
  ptpPorts : Table PtpPortCfg
  servo : ServoCfg
  utc : Option UtcSet
  ply : PlyCfg
  pair : Option PairCfg
  witness : WitnessCfg
  tamperEnable : BitVec 6
  debounceUs : Nat
  gauges : Table GaugeCfg
  swatchMib : Nat
  segShift : Nat
deriving DecidableEq, Repr

/-- The defaults of every parameter (R611). -/
def RunConfig.dflt : RunConfig :=
  { weights := [8, 4, 2, 1], streams := [], auth := [], learn := [], hostCfg := [], suspended := [], pe := [], banks := [],
    planes := [], parts := [], eth := [], classes := [], wake := [], serial := [], poll := [], queues := [],
    mesh := [], nodes := [], grants := [], triggers := [], profiles := [], skews := [], routes := [], goose := [], sessions := [], timeRef := .dflt, ptpPorts := [],
    servo := .dflt, utc := none, ply := .dflt, pair := none, witness := .dflt, tamperEnable := 0,
    debounceUs := 100, gauges := [], swatchMib := 4096, segShift := 20 }

/-- A copy of the config store (R611): generation, format, contents, and the record in the previous format that
R612 keeps during a trial. -/
structure StoreCopy where
  gen : Nat
  format : Nat
  valid : Bool
  content : RunConfig
  prev : Option (Nat × RunConfig)
deriving DecidableEq, Repr

/-- The two copies of the config store (R603, R611). -/
structure ConfigStore where
  copy0 : Option StoreCopy
  copy1 : Option StoreCopy
deriving DecidableEq, Repr

end Sys2Proof
end

