-- ==== Sys2Proof/Types/Ply.lean ====
section
/-!
DEFINITION. Ply: members, leases, links, messages, witness, digests and pulls (chapter 16).
-/
namespace Sys2Proof

/-- The two leases (R533). -/
inductive LeaseKind where
  | lane | device
deriving DecidableEq, Repr

/-- Ply states (R534). -/
inductive PlyState where
  | off | ineligible | standby | localHolder | holder
deriving DecidableEq, Repr

def PlyState.code : PlyState → Nat
  | .off => 0
  | .ineligible => 1
  | .standby => 2
  | .localHolder => 3
  | .holder => 4

/-- The body of a HELLO message (R549). -/
structure HelloBody where
  minVer : Version
  maxVer : Version
  firmware : Nat
  arithGen : Nat
  mode : Nat
  state : Nat
  reasons : BitVec 16
  laneEpoch : Nat
  laneHolder : Nat
  deviceEpoch : Nat
  deviceHolder : Nat
  configGen : Nat
  keyEpoch : Nat
  policy : Nat
deriving DecidableEq, Repr

/-- The HEALTH body (R557): mode, state, reasons, healthy, time state, unlocked estimate and the 48 bytes whole. -/
structure HealthBody where
  bytes : Bytes
deriving DecidableEq, Repr

/-- What a pull delivers of one partition (R560): its active and inactive patterns with their parameter blocks, and its
stored variants. -/
structure PulledPart where
  active : Option Pattern
  inactive : Option Pattern
  variants : Table Bytes
deriving DecidableEq, Repr

/-- What a pull delivers of one plane (R560): rate, anchor, generation of its map, last closed course. -/
structure PulledPlane where
  rate : Nat
  anchor : Nat
  mapGen : Nat
  lastClosed : Nat
deriving DecidableEq, Repr

/-- What a pull delivers, item by item (R560). -/
inductive PullItem where
  | config (c : Option StoreCopy)
  | keyEpoch (n : Nat)
  | patterns (ps : Table PulledPart)
  | planes (ps : Table PulledPlane)
  | alarms (active : List Nat) (pins : Nat) (goose : List (Nat × Nat × Nat × Nat × Nat))
  | sessions (last : List (Nat × Nat))
deriving DecidableEq, Repr

/-- The bodies of the Ply and Azwell messages (R549). -/
inductive PlyBody where
  | hello (h : HelloBody)
  | renew (epoch counter periodUs guardUs : Nat)
  | renewAck (epoch counter state : Nat)
  | yield (epoch : Nat)
  | release (epoch successor reason : Nat)
  | offer (epoch target : Nat)
  | accept (epoch target : Nat)
  | digest (plane swapGen absent first : Nat) (digests : List Nat)
  | health (h : HealthBody)
  | time (tx echoTx echoRx : Nat)
  | tamper (sources time : Nat)
  | mirrorPins (pins : Nat)
  | mirrorGoose (index stNum sqNum intervalMs members : Nat)
  | mirrorCourse (index course : Nat)
  | pullReq (item offset : Nat)
  /-- one item whole, with its length in bytes -/
  | pullData (content : PullItem) (total : Nat)
  | check (plane : Nat) (result fail : Bool) (course : Nat)
  | witnessQuery (q : Nat) (kind lease epoch holder : Nat)
  | witnessVote (q vote : Nat)
  /-- an unknown type, or a wrong length for its type -/
  | other (type : Nat) (bytes : Bytes)
deriving DecidableEq, Repr

/-- A message: sender member id, the lease it names (0 lane, 1 device, 0xFF none) and its body (R549). -/
structure PlyMsg where
  sender : Nat
  lease : Nat
  body : PlyBody
deriving DecidableEq, Repr

/-- One lease as this lane sees it (R533, R536 to R541). -/
structure Lease where
  /-- this lane holds the lane lease; this lane's package holds the device lease, as the lane knows -/
  held : Bool
  /-- tc at which a held lease ends (R537) -/
  until_ : Nat
  /-- the holder this lane knows (member id, or device index for the device lease) -/
  holder : Option Nat
  /-- the highest epoch seen (R539) -/
  epoch : Nat
  /-- counter and sending tc of the latest RENEW, and whether it is acknowledged -/
  counter : Nat
  sentAt : Nat
  acked : Bool
  /-- no other member in contact since acquisition (R537) -/
  alone : Bool
  /-- the silence instant t_q (R538), and the period carried in the last RENEW (tc) -/
  silence : Option Nat
  theirPeriod : Nat
  /-- the guard carried in the last RENEW (tc) -/
  theirGuard : Nat
  /-- the latest RENEW has gone unacknowledged for P/8, and is counted (R536, R566) -/
  timedOut : Bool
  /-- this lane's lease expired for lack of acknowledgement under `AVAILABLE` (R538) -/
  awaiting : Bool
  /-- tc of the last CLAIM posted (R538) -/
  lastClaim : Option Nat
  /-- tc since which this lane knows no holder (R541) -/
  noHolderSince : Option Nat
  /-- tc from which start_wait_ms counts: the entry to SERVICE, or the end of a lease this lane held (R541) -/
  serviceSince : Option Nat
deriving DecidableEq, Repr

def Lease.reset : Lease :=
  { held := false, until_ := 0, holder := none, epoch := 0, counter := 0, sentAt := 0, acked := false, alone := false,
    silence := none, theirPeriod := 0, theirGuard := 0, timedOut := false, awaiting := false, lastClaim := none, noHolderSince := none, serviceSince := none }

/-- What this lane knows of another member (R541, R542). -/
structure Contact where
  /-- tc of the last valid frame or datagram from it -/
  lastSeen : Nat
  departed : Bool
  state : Nat
  reasons : BitVec 16
  hello : Option HelloBody
  health : Bytes
deriving DecidableEq, Repr

/-- One Ply link (R548). -/
structure PlyLink where
  up : Bool
  lastValid : Nat
  /-- error-free frames since this tc while retraining -/
  cleanSince : Option Nat
  lastRetrain : Nat
  txSeq : Nat
  /-- the latest link sequences received, newest first, at most 8 (R548) -/
  rxSeen : List Nat
  /-- link sequence of a frame that failed its CRC and was requested again -/
  retrying : Option Nat
  lastSent : Nat
  /-- frames kept for a resend: sequence and message -/
  sent : List (Nat × Option PlyMsg)
deriving DecidableEq, Repr

def PlyLink.reset : PlyLink :=
  { up := true, lastValid := 0, cleanSince := none, lastRetrain := 0, txSeq := 0, rxSeen := [], retrying := none,
    lastSent := 0, sent := [] }

/-- An unacknowledged reliable datagram (R551). -/
structure AzPending where
  rseq : Nat
  msgs : List PlyMsg
  sentAt : Nat
  resends : Nat
deriving DecidableEq, Repr

/-- The Azwell session with one peer (R550 to R553). -/
structure AzPeer where
  up : Bool
  lastValid : Nat
  version : Option Version
  txSeq : Nat
  txRseq : Nat
  /-- highest sequence accepted and those seen in the 64-entry window -/
  highest : Nat
  seen : List Nat
  /-- highest rseq received in order, and reliable datagrams held out of order (at most 32) -/
  rxRseq : Nat
  heldOut : List (Nat × List PlyMsg)
  pending : List AzPending
deriving DecidableEq, Repr

def AzPeer.reset : AzPeer :=
  { up := false, lastValid := 0, version := none, txSeq := 0, txRseq := 0, highest := 0, seen := [], rxRseq := 0,
    heldOut := [], pending := [] }

/-- The witness of one lease (R545, R546). -/
structure WitnessSt where
  available : Bool
  lastAnswer : Nat
  /-- the outstanding question: qseq, kind, and t_s of the RENEW it asks about -/
  outstanding : Option (Nat × Nat × Nat)
  lastPing : Nat
  nextQseq : Nat
deriving DecidableEq, Repr

def WitnessSt.reset : WitnessSt :=
  { available := false, lastAnswer := 0, outstanding := none, lastPing := 0, nextQseq := 1 }

/-- What a Ply link delivers (R548): a frame with its link sequence, whether its CRC holds, and its message (none: an idle
frame); or the other lane's request to resend a frame. -/
inductive PlyRx where
  | frame (seq : Nat) (crcOk : Bool) (msg : Option PlyMsg)
  | again (seq : Nat)
deriving DecidableEq, Repr

/-- An Azwell datagram as received (R550): whether its magic, its length and its tag under the slot it names hold; key
slot, sender, sequence, rseq, ack and messages. -/
structure AzDatagram where
  valid : Bool
  keySlot : Nat
  sender : Nat
  seq : Nat
  rseq : Nat
  ack : Nat
  msgs : List PlyMsg
deriving DecidableEq, Repr

/-- MIRROR (R400): pins, a publication's numbers, or a session's course. -/
inductive MirrorKind where
  | pins (states : Nat)
  | goose (index stNum sqNum intervalMs members : Nat)
  | course (index course : Nat)
deriving DecidableEq, Repr

/-- A LEASE_HANDOVER between its OFFER and its end (R543). -/
structure Handover where
  req : Request
  target : Nat
  lease : LeaseKind
  sentAt : Nat
deriving DecidableEq, Repr

/-- A digest held for comparison (R554): plane, course, value (none: absent), tc. -/
structure DigestEntry where
  plane : Nat
  course : Nat
  value : Option Nat
  at_ : Nat
deriving DecidableEq, Repr

/-- Comparison of one plane (R555). -/
structure CompareSt where
  /-- a first mismatch awaits the next compared course -/
  mismatch : Option Nat
  /-- CHECK in progress on the named course: own result, other result -/
  checking : Option (Nat × Option Bool × Option Bool)
  suspended : Bool
  /-- holder's swap_gen when comparison was suspended -/
  swapSeen : Nat
  /-- first course compared after a pull (R560) -/
  startAt : Nat
deriving DecidableEq, Repr

def CompareSt.reset : CompareSt := { mismatch := none, checking := none, suspended := false, swapSeen := 0, startAt := 0 }

/-- A pull in progress (R560). -/
structure PullSt where
  source : Nat
  item : Nat
deriving DecidableEq, Repr

/-- The counters of PLY_QUERY (R566). -/
structure PlyCounters where
  acquisitions : Nat
  handovers : Nat
  yields : Nat
  renewalsUnacked : Nat
  compared : Nat
  mismatchTransient : Nat
  mismatchLasting : Nat
  mismatchUnresolved : Nat
  unmatched : Nat
  linkTransient : Nat
  linkLasting : Nat
  azRetransmits : Nat
  azDropped : Nat
  pullBytes : Nat
  msgsDropped : Nat
deriving DecidableEq, Repr

def PlyCounters.reset : PlyCounters := ⟨0, 0, 0, 0, 0, 0, 0, 0, 0, 0, 0, 0, 0, 0, 0⟩

/-- Ply of one lane. The reasons MODE, UNHEALTHY and AWAITING_CONTACT are computed (R535); the others stand here. -/
structure PlySt where
  laneLease : Lease
  deviceLease : Lease
  /-- bits of R535 but MODE, UNHEALTHY and AWAITING_CONTACT -/
  reasons : BitVec 16
  contacts : Table Contact
  link0 : PlyLink
  link1 : PlyLink
  version : Option Version
  az : Table AzPeer
  laneWit : WitnessSt
  deviceWit : WitnessSt
  handover : Option Handover
  own : List DigestEntry
  remote : List DigestEntry
  compare : Table CompareSt
  /-- PATTERN_SWAPs committed on the plane's partition since START (swap_gen, R549) -/
  swapGen : Table Nat
  pull : Option PullSt
  /-- messages of both links whose second copy has not come (R548): link and message, newest first, at most 8 -/
  copies : List (Nat × PlyMsg)
  ctr : PlyCounters
  lastAcquired : FineTag
  siblingHealth : Bytes
  lastHello : Nat
  lastHealth : Nat
  /-- the Ply state last announced by HELLO (R541) -/
  announced : PlyState
  /-- the key epoch and the policy last announced by HELLO (R535, R587) -/
  announcedEpoch : Nat
  announcedPolicy : Nat
deriving DecidableEq, Repr

def PlySt.reset : PlySt :=
  { laneLease := .reset, deviceLease := .reset, reasons := 0, contacts := [], link0 := .reset, link1 := .reset,
    version := none, az := [], laneWit := .reset, deviceWit := .reset, handover := none, own := [], remote := [],
    compare := [], swapGen := [], pull := none, copies := [], ctr := .reset, lastAcquired := 0,
    siblingHealth := List.replicate 48 0, lastHello := 0, lastHealth := 0, announced := .off, announcedEpoch := 0,
    announcedPolicy := 0 }

end Sys2Proof
end

