-- ==== Sys2Proof/Types/Output.lean ====
section
/-!
DEFINITION. What a lane drives outwards: replies, writes to host memory, messages, frames and datagrams. The
state keeps them in the order they were driven, so that a command's outward effect can be stated (log 4).
-/
namespace Sys2Proof

/-- The PTP messages a lane sends (R453). -/
inductive PtpOut where
  | sync (seq : Nat) (twoStep : Bool) | followUp (seq : Nat)
  | pdelayReq (seq : Nat) | pdelayResp (seq : Nat) (twoStep : Bool) | pdelayRespFollowUp (seq : Nat)
  | announce (clockClass accuracy timeSource utcOffset : Nat) (utcValid leap59 leap61 traceable : Bool)
deriving DecidableEq, Repr

/-- Everything a lane can drive outwards. -/
inductive Output where
  /-- a reply packet posted to a source (R60, R64) -/
  | reply (src : Nat) (packet : Bytes)
  /-- bytes written to host memory (R646 to R648) -/
  | hostWrite (addr : Nat) (data : Bytes)
  /-- what a read of a register at a BAR0 offset returns to the host (R17, R655) -/
  | regRead (off : Nat) (value : Word)
  /-- an MSI-X message (R649) -/
  | msix (vector : Nat)
  /-- a Glegal reply datagram to a management peer (R97) -/
  | mgmt (peer : Nat) (data : Bytes)
  /-- a frame on a Ply link: link, link sequence, message (none: the idle frame) (R548) -/
  | ply (link seq : Nat) (msg : Option PlyMsg)
  /-- a request to resend a frame that failed its CRC (R548) -/
  | plyResend (link seq : Nat)
  /-- an Azwell datagram: destination member (0xFE: witness), sequence, rseq, ack, messages (R550) -/
  | azwell (dest seq rseq ack : Nat) (msgs : List PlyMsg)
  | goose (f : GooseFrame)
  /-- session outputs: data, configuration and header frames, TCP reset and FIN, ARP (R392 to R402) -/
  | sessionData (session : Nat) (f : DataFrame)
  | sessionConfig (session : Nat) (c : PubConfig)
  | sessionHeader (session : Nat) (text : Bytes)
  | tcpReset (session : Nat)
  | tcpFin (session : Nat)
  | arp (addr : Bytes)
  | ptp (port : Nat) (m : PtpOut)
  /-- commands to a PMU: stream and command word; TCP connection opened or closed (R128, R130) -/
  | pmuCommand (stream cmd : Nat)
  | tcpConnect (stream : Nat)
  | tcpClose (stream : Nat)
  /-- an Ethernet frame as bytes; a pause frame with its quanta (R163, R486) -/
  | ethFrame (port : Nat) (bytes : Bytes)
  | pause (port quanta : Nat)
  /-- octets on a serial port (R498, R502); a frame handed to a radio (R507) -/
  | serial (port : Nat) (bytes : Bytes)
  | radio (radio : Nat) (bytes : Bytes)
  /-- an entry of another lane block's queue taken by the control cores: configuration frame of a stream -/
  | control (stream : Nat) (bytes : Bytes)
deriving DecidableEq, Repr

end Sys2Proof
end

