-- ==== Sys2Proof/Types/Lane.lean ====
section
/-!
DEFINITION. One lane die (R28, R29): every register, table, queue, counter, mode and pin of it.
-/
namespace Sys2Proof

structure Lane where
  id : LaneId
  /-- the free-running count of the lane's time base, in tc (R6, chapter 16) -/
  tc : Nat
  /-- the model's own counter of free values (log 2) -/
  fresh : Nat
  /-- the lane's rails are up (R658, R660) -/
  powered : Bool
  /-- the die works; a die that stopped without warning sends nothing more (R540) -/
  dieOk : Bool
  /-- HOST_SEL: true for SPI, false for PCIe (R636, R639) -/
  spi : Bool
  mode : ModeSt
  boot : BootFlash
  cfg : RunConfig
  store : ConfigStore
  journal : Option Journal
  /-- the keep-alive RTC: TAI in 2^-64 s at a tc (R449); none when never set -/
  rtc : Option (Nat × Nat)
  /-- the lease epochs in flash: lane and device (R539) -/
  flashEpochs : Nat × Nat
  keys : KeysSt
  vault : KeyStore
  /-- management peers 0x10 to 0x13 with the port and UDP port that serve them (R96) -/
  peers : Table Peer
  mgmtPort : Nat
  mgmtUdp : Nat
  needle : NeedleSt
  host : HostSt
  health : HealthSt
  publish : PublishSt
  time : TimeSt
  ply : PlySt
  ports : PortsSt
  queues : Table Queue
  /-- ring_entries and spill_mib in force since START, where they differ from R156 (R158) -/
  queueSizes : Table (Nat × Nat)
  streams : StreamsSt
  pe : PeSt
  skein : SkeinSt
  array : ArraySt
  mesh : Table MeshRun
  swatch : SwatchSt
  /-- everything the lane has driven outwards, oldest first (log 4) -/
  out : List Output
deriving DecidableEq, Repr

end Sys2Proof
end

