-- ==== Sys2Proof/Syntax.lean ====
section
/-!
DEFINITION. The commands of the block: one constructor per row of the opcode table, with the row's operands. `e` is the stamp
of the command (log 3), `r` the Glegal request that a row of an opcode serves. A `port` counts the Ethernet ports E0 to E11 or,
in the rows of the poller, the serial ports L0 to L7.
-/
namespace Sys2Proof

inductive Instr where
  /-- A Glegal request from a host ring or management peer is checked in order and admitted to the Needle or refused
  (R72). -/
  | glegalRequestArrival (e : Stamp) (vlan : Bool) (r : Request)
  /-- When a control core is free the Needle visits groups in weighted order and dispatches the earliest ready request,
  rechecking mode, lease and ranges (R83). -/
  | needleDispatch (e : Stamp)
  /-- At each 1 µs tick every timed request whose due time has come leaves its delay list and joins the tail of its flow
  (R84). -/
  | delayListTick (e : Stamp)
  /-- Within 5 µs of an ABORT's arrival it acts on its target according to the target's state at that sc cycle (R88). -/
  | abortTakesEffect (e : Stamp)
  /-- A UDP datagram at the management port is checked for length, magic, key slot, sequence and tag, and dropped,
  answered as a duplicate, or passed on (R99). -/
  | glegalDatagramReceive (e : Stamp) (vlan : Bool) (addr : Bytes) (fragment : Bool) (d : Bytes)
  /-- NOP joins the named flow and replies when every earlier request of that flow has completed (R67). -/
  | nop (e : Stamp) (r : Request)
  /-- HELLO negotiates the highest common Glegal version for its source and returns lane, mode and limits (R69). -/
  | hello (e : Stamp) (vlan : Bool) (r : Request)
  /-- ABORT names a target by tag and source to be stopped before its commit point (R88). -/
  | abort (e : Stamp) (r : Request)
  /-- CANCEL withdraws a target not yet dispatched, which completes with CANCELLED (R89). -/
  | cancel (e : Stamp) (r : Request)
  /-- NEEDLE_GROUP_SET changes the four group weights from the next visit to each group (R82). -/
  | needleGroupSet (e : Stamp) (r : Request)
  /-- NEEDLE_STATUS returns the Needle's entry counts, in-service count, ready counts and BUSY refusals (R94). -/
  | needleStatus (e : Stamp) (r : Request)
  /-- STREAM_ADD creates a stream context of a given type and identity, entering PENDING_CFG for PMU and ACTIVE otherwise
  (R114). -/
  | streamAdd (e : Stamp) (r : Request)
  /-- STREAM_MODIFY op SET replaces a context's fields, returning a PMU stream to PENDING_CFG when its idcode or address
  changes (R116). -/
  | streamModifySet (e : Stamp) (r : Request)
  /-- STREAM_MODIFY op ADOPT moves a LEARNED context to ACTIVE or PENDING_CFG (R116). -/
  | streamModifyAdopt (e : Stamp) (r : Request)
  /-- STREAM_MODIFY op CFG_CHUNK delivers part of a host-supplied configuration frame, processed as received when complete
  (R116). -/
  | streamModifyCfgChunk (e : Stamp) (r : Request)
  /-- STREAM_MODIFY op ACCEPT_CFG moves a CFG_HOLD stream to ACTIVE under the held configuration (R116). -/
  | streamModifyAcceptCfg (e : Stamp) (r : Request)
  /-- STREAM_MODIFY op SUSPEND moves any non-FREE context to SUSPENDED (R116). -/
  | streamModifySuspend (e : Stamp) (r : Request)
  /-- STREAM_MODIFY op RESUME returns a SUSPENDED context to the state it would otherwise hold (R116). -/
  | streamModifyResume (e : Stamp) (r : Request)
  /-- STREAM_REMOVE frees a context not named by any map, trigger or derived stream and releases its wale history (R117). -/
  | streamRemove (e : Stamp) (r : Request)
  /-- STREAM_QUERY returns a context's state, type, counters and configuration identifiers (R118). -/
  | streamQuery (e : Stamp) (r : Request)
  /-- STREAM_LEARN_SET configures one of 16 learning templates (R147). -/
  | streamLearnSet (e : Stamp) (r : Request)
  /-- STREAM_AUTH_SET sets a stream's authentication mode, algorithm, key slot and key identifier (R143). -/
  | streamAuthSet (e : Stamp) (r : Request)
  /-- A frame ends at an Ethernet port, is length and code checked, stamped and classified to its destination (R491). -/
  | ethernetFrameReceive (e : Stamp) (port : Fin 12) (f : EthFrame)
  /-- A C37.118.2 data frame taken from the ingest queue is checked, graded by STAT and time quality, time tagged and
  delivered (R124). -/
  | pmuDataFrameDecode (e : Stamp) (port : Fin 12)
  /-- A C37.118.2 configuration frame handed to the control cores takes effect within 2 ms, applying, holding or ignoring
  it (R128). -/
  | configurationFrameReceive (e : Stamp) (stream : Nat) (f : Bytes)
  /-- Every cfg_retry_ms without a usable configuration the lane sends the send-CFG command frame again (R128). -/
  | configurationRequestRetry (e : Stamp) (stream : Nat)
  /-- Every cfg_retry_ms while disconnected the lane opens a TCP connection to the PMU (R130). -/
  | pmuTcpConnectAttempt (e : Stamp) (stream : Nat)
  /-- A PMU TCP connection opens and the lane sends its configuration request and, with cmd_enable, turn-on transmission
  (R130). -/
  | pmuTcpConnectionOpen (e : Stamp) (stream : Nat)
  /-- A PMU TCP connection fails or closes and the stream keeps its state without frames (R130). -/
  | pmuTcpConnectionClose (e : Stamp) (stream : Nat)
  /-- A layer-2 sampled-value frame is length checked, its ASDUs checked, graded, time tagged and handed to the phasor
  estimation chain (R131). -/
  | svFrameDecode (e : Stamp) (port : Fin 12)
  /-- An IEC 61850-90-5 routed SV datagram is checked for session, encryption, MAC and SPDU number, then its ASDUs handled
  as on layer 2 (R137). -/
  | routedSvDecode (e : Stamp) (port : Fin 12)
  /-- A subscribed GOOSE message updates, refreshes or is dropped as a duplicate by its stNum and sqNum (R140). -/
  | gooseSubscriptionDecode (e : Stamp) (port : Fin 12)
  /-- When timeAllowedtoLive expires without a message every point of the subscription is graded INVALID (R140). -/
  | gooseTalExpiry (e : Stamp) (stream : Nat)
  /-- A polled station's user-data response from the ingest queue is decoded into the point map with its time and quality
  (R138). -/
  | polledAsduDecode (e : Stamp) (port : Fin 8)
  /-- A LEARNED context that receives no frame for idle_s becomes FREE (R149). -/
  | learnedContextIdleExpiry (e : Stamp) (stream : Nat)
  /-- QUEUE_SET op 0 returns a queue's sizes, depth and counters (R157). -/
  | queueSetRead (e : Stamp) (r : Request)
  /-- QUEUE_SET op 1 sets watermarks and pause settings now and ring and spill sizes from the next START (R158). -/
  | queueSetSet (e : Stamp) (r : Request)
  /-- QUEUE_FLUSH discards every complete item and the producer's partial item while keeping the consumer's begun item
  (R165). -/
  | queueFlush (e : Stamp) (read written : Nat) (r : Request)
  /-- QUEUE_DROP_REST ends the item the consumer has begun, discarding its unread entries (R169). -/
  | queueDropRest (e : Stamp) (read written : Nat) (r : Request)
  /-- A waiting producer's write handshake completes in the first sc cycle in which the full queue holds fewer than D
  entries (R160). -/
  | queueWriteUnblock (e : Stamp) (queue : Fin 58)
  /-- When an ingest queue's depth reaches high_wm or falls to low_wm the port sends a pause frame after the frame in
  transmission (R163). -/
  | pauseFrameSend (e : Stamp) (port : Fin 12)
  /-- While the depth stays above low_wm the pause frame is repeated when half the pause time has passed (R163). -/
  | pauseRepeat (e : Stamp) (port : Fin 12)
  /-- PE_CHANNEL_SET enables or configures a phasor estimation channel, causing a synchronising reset on most changes
  (R175). -/
  | peChannelSet (e : Stamp) (r : Request)
  /-- PE_BANK_LOAD loads a coefficient bank from the request or the library into a stream's bank slot (R188). -/
  | peBankLoad (e : Stamp) (r : Request)
  /-- PE_BANK_SWAP starts, holds or supersedes a cross-fade of masked channels onto a new bank (R196). -/
  | peBankSwap (e : Stamp) (r : Request)
  /-- PE_RESET marks masked channels for a synchronising reset at the next accepted sample (R209). -/
  | peReset (e : Stamp) (r : Request)
  /-- PE_QUERY returns a channel's state, banks, delays and counters (R210). -/
  | peQuery (e : Stamp) (r : Request)
  /-- When the sample completing an output's span arrives the chain computes phasor, frequency and ROCOF and enters them
  into the Skein (R185). -/
  | phasorOutput (e : Stamp) (stream : Nat) (channel : Fin 8)
  /-- A value crossing into the Skein is placed into the course its tag selects in each plane, or counted late, early or
  off-grid (R220). -/
  | alignerValueWrite (e : Stamp)
  /-- Tension's time reaching a course instant opens that course and every lower unopened course as slots allow (R224). -/
  | courseInstantReached (e : Stamp) (plane : Fin 4)
  /-- The deadline tick at instant plus wait_us crosses into the Skein and closes the course by deadline (R227). -/
  | deadlineTick (e : Stamp) (plane : Fin 4)
  /-- The quorum tick at instant plus quorum_wait_us closes the course when enough required members have arrived (R226). -/
  | quorumTick (e : Stamp) (plane : Fin 4)
  /-- An accepted value, directly or through a late-frame queue, is written once to its stream's wale history with its
  late mask (R235). -/
  | waleHistoryWrite (e : Stamp) (late : Option Nat)
  /-- PLANE_CREATE creates a BUILDING plane with rate, width, partition and close rules (R239). -/
  | planeCreate (e : Stamp) (r : Request)
  /-- PLANE_MODIFY op SET replaces partition, flags and close rules for courses opening afterwards (R240). -/
  | planeModifySet (e : Stamp) (r : Request)
  /-- PLANE_MODIFY op MAP_WRITE writes entries into the shadow map (R240). -/
  | planeModifyMapWrite (e : Stamp) (r : Request)
  /-- PLANE_MODIFY op MAP_SWITCH checks the shadow map and makes it active with a new width, starting a BUILDING plane
  (R240). -/
  | planeModifyMapSwitch (e : Stamp) (r : Request)
  /-- PLANE_MODIFY op MAP_CLEAR empties the shadow map (R240). -/
  | planeModifyMapClear (e : Stamp) (r : Request)
  /-- PLANE_MODIFY op STOP returns a RUNNING plane to BUILDING, discarding open courses (R240). -/
  | planeModifyStop (e : Stamp) (r : Request)
  /-- PLANE_DELETE frees a plane and unbinds its partition (R243). -/
  | planeDelete (e : Stamp) (r : Request)
  /-- PLANE_QUERY returns a plane's state, course numbers and counters (R244). -/
  | planeQuery (e : Stamp) (r : Request)
  /-- WALE_READ returns records of a stream's wale history in tag order from a given tag (R245). -/
  | waleRead (e : Stamp) (r : Request)
  /-- When a partition is IDLE and a closed course waits, Cast-on writes the course and its header line into the
  partition's tiles (R279). -/
  | castOn (e : Stamp) (part : Fin 4)
  /-- Every tile of a running partition issues one bundle per array row, and the run-time checks are made for that row
  (R248). -/
  | bundleIssue (e : Stamp) (part : Fin 4) (err : RowError)
  /-- An operation's result is written at the end of the row its latency gives (R252). -/
  | arrayResultWrite (e : Stamp) (part : Fin 4)
  /-- A store issued in row t writes tile memory at the end of row t + 1 (R261). -/
  | storeMemoryWrite (e : Stamp) (part : Fin 4)
  /-- A sent value becomes present in the destination's input latch in the row its hops or bus give (R263). -/
  | networkLatchArrival (e : Stamp) (part : Fin 4)
  /-- 8 ac after row Q − 1 Bind-off reads output lines, delivers them by kind, computes the digest and returns the
  partition to IDLE (R280). -/
  | bindOff (e : Stamp) (part : Fin 4) (bad : Option Nat) (err : Option (Nat × Nat))
  /-- At the first sc cycle a partition is IDLE with conditions met, a waiting swap, parameter write, variant portion or
  selection applies (R310). -/
  | roundBoundaryApply (e : Stamp) (part : Fin 4)
  /-- After a violation the round is repeated on the same course 16 ac later, or the course is given up and the next cast
  retries (R320). -/
  | roundRetry (e : Stamp) (part : Fin 4) (failing : Option Nat)
  /-- A lasting tile fault stops affected partitions, shifts the row onto its spare and resumes within 500 µs (R287). -/
  | tileRepair (e : Stamp) (lost : List Nat)
  /-- An unused spare that fails self-test is marked failed (R288). -/
  | spareSelfTestFailure (e : Stamp) (row : Fin 8)
  /-- The junction sensor reaching 110 °C switches the array clock to 0.9 GHz with Ochre alarm 262 (R289). -/
  | throttleEntry (e : Stamp)
  /-- After 1 s at or below 104 °C the array clock returns to 1.2 GHz with Slate alarm 263 (R289). -/
  | throttleExit (e : Stamp)
  /-- ARRAY_QUERY returns clock, temperature, partitions, retirements and per-tile counters (R291). -/
  | arrayQuery (e : Stamp) (r : Request)
  /-- PATTERN_LOAD op CHUNK stages image bytes and the last chunk starts verification (R305). -/
  | patternLoadChunk (e : Stamp) (r : Request)
  /-- PATTERN_LOAD op LIBRARY takes the library image of the partition's shape and starts verification (R305). -/
  | patternLoadLibrary (e : Stamp) (r : Request)
  /-- PATTERN_LOAD op RELEASE empties both banks, undefines the partition and zeroes its data SRAM (R309). -/
  | patternLoadRelease (e : Stamp) (r : Request)
  /-- Verification of a staged image ends, writing it into the inactive bank or failing with the first check's status
  (R306). -/
  | patternVerificationComplete (e : Stamp) (part : Fin 4)
  /-- PATTERN_SWAP checks the inactive pattern and waits for a boundary to make it active (R311). -/
  | patternSwap (e : Stamp) (r : Request)
  /-- PATTERN_PARAM_SET changes a bank's parameter block, applied to copies at the next boundary for the active bank
  (R312). -/
  | patternParamSet (e : Stamp) (r : Request)
  /-- PATTERN_QUERY returns a partition's patterns, timing and counters (R323). -/
  | patternQuery (e : Stamp) (r : Request)
  /-- RESULT_READ returns host-result lines of a held round (R324). -/
  | resultRead (e : Stamp) (r : Request)
  /-- VARIANT_STAGE op CHUNK delivers a variant image, verified and stored at the last chunk (R338). -/
  | variantStageChunk (e : Stamp) (r : Request)
  /-- VARIANT_STAGE op STAGE copies a stored variant into the inactive slot in portions at round boundaries (R339). -/
  | variantStageStage (e : Stamp) (r : Request)
  /-- VARIANT_STAGE op DELETE frees a stored variant that is not resident (R338). -/
  | variantStageDelete (e : Stamp) (r : Request)
  /-- VARIANT_SELECT sets the selector for courses from from_course and suspends or resumes automatic selection (R340). -/
  | variantSelect (e : Stamp) (r : Request)
  /-- When an id's hold_ms passes and no partition or block holds it, the id becomes inactive (R383). -/
  | alarmHoldExpiry (e : Stamp) (alarm : Fin 512)
  /-- ALARM_ROUTE_SET sets class, pins and hold of a range of alarm ids (R384). -/
  | alarmRouteSet (e : Stamp) (r : Request)
  /-- GOOSE_PUB_SET configures a publication, transmitting at once with a new stNum when enabled or changed (R387). -/
  | goosePubSet (e : Stamp) (r : Request)
  /-- At each doubling interval capped at t_max_ms the publication repeats with sqNum raised (R389). -/
  | gooseRepeat (e : Stamp) (pub : Fin 32)
  /-- SESSION_OPEN opens a C37.118.2 output session over UDP or TCP (R391). -/
  | sessionOpen (e : Stamp) (r : Request)
  /-- SESSION_MODIFY announces a new session configuration with STAT bit 10 for announce_s (R398). -/
  | sessionModify (e : Stamp) (r : Request)
  /-- When announce_s has passed the new session configuration applies and CFGCNT rises (R398). -/
  | sessionAnnounceCommit (e : Stamp) (session : Fin 64)
  /-- SESSION_CLOSE ends any TCP connection and frees the session (R398). -/
  | sessionClose (e : Stamp) (r : Request)
  /-- PUBLISH_QUERY returns a session's state and counters (R399). -/
  | publishQuery (e : Stamp) (r : Request)
  /-- DERIVED_STREAM_SET op create makes an ACTIVE derived context from a plane's outputs (R404). -/
  | derivedStreamCreate (e : Stamp) (r : Request)
  /-- DERIVED_STREAM_SET op remove frees a derived context not named by any map or trigger (R406). -/
  | derivedStreamRemove (e : Stamp) (r : Request)
  /-- Command 0x0001 to a session stops its data frames (R397). -/
  | sessionDataOff (e : Stamp) (session : Fin 64) (idcode : Nat) (chk : Bool)
  /-- Command 0x0002 to a session starts its data frames (R397). -/
  | sessionDataOn (e : Stamp) (session : Fin 64) (idcode : Nat) (chk : Bool)
  /-- Command 0x0003 makes the session send its header frame (R397). -/
  | sessionSendHeader (e : Stamp) (session : Fin 64) (idcode : Nat) (chk : Bool)
  /-- Command 0x0004 makes the session send CFG-1 (R397). -/
  | sessionSendCfg1 (e : Stamp) (session : Fin 64) (idcode : Nat) (chk : Bool)
  /-- Command 0x0005 makes the session send CFG-2 (R397). -/
  | sessionSendCfg2 (e : Stamp) (session : Fin 64) (idcode : Nat) (chk : Bool)
  /-- Command 0x0006 makes the session send CFG-3 (R397). -/
  | sessionSendCfg3 (e : Stamp) (session : Fin 64) (idcode : Nat) (chk : Bool)
  /-- A client connects to a TCP session on the leaseholder, starting stopped unless auto_start (R398). -/
  | sessionTcpConnect (e : Stamp) (session : Fin 64) (addr : Bytes)
  /-- A frame at the head of an egress queue starts when its start threshold is buffered, or is discarded while the link
  is down (R488). -/
  | egressFrameTransmit (e : Stamp) (port : Fin 12) (underrun : Bool)
  /-- TRIGGER_SET op 0 returns a trigger's state and counters (R415). -/
  | triggerSetRead (e : Stamp) (r : Request)
  /-- TRIGGER_SET op 1 configures a Swatch trigger condition (R415). -/
  | triggerSetSet (e : Stamp) (r : Request)
  /-- SWATCH_ARM op ARM checks and installs a profile body and takes its ring segments (R412). -/
  | swatchArmArm (e : Stamp) (r : Request)
  /-- SWATCH_ARM op DISARM releases the ring and disarms the profile (R413). -/
  | swatchArmDisarm (e : Stamp) (r : Request)
  /-- SWATCH_ARM op REARM arms the profile with the body in force (R413). -/
  | swatchArmRearm (e : Stamp) (r : Request)
  /-- SWATCH_TRIGGER fires a command trigger and replies when its record's index entry is written (R436). -/
  | swatchTrigger (e : Stamp) (r : Request)
  /-- SWATCH_KEEP keeps or unkeeps a record's segments (R438). -/
  | swatchKeep (e : Stamp) (r : Request)
  /-- SWATCH_DELETE frees a completed record (R439). -/
  | swatchDelete (e : Stamp) (r : Request)
  /-- SWATCH_INDEX_READ returns index entries from a record id (R440). -/
  | swatchIndexRead (e : Stamp) (r : Request)
  /-- SKEW_TABLE_SET sets stream and channel skews for placed instants (R420). -/
  | skewTableSet (e : Stamp) (r : Request)
  /-- MARK_SET op set points a rewind mark at a wale record (R442). -/
  | markSetSet (e : Stamp) (r : Request)
  /-- MARK_SET op clear clears a rewind mark (R442). -/
  | markSetClear (e : Stamp) (r : Request)
  /-- MARK_READ returns wale records from a mark and optionally advances it (R444). -/
  | markRead (e : Stamp) (r : Request)
  /-- A value reaching the recorder is evaluated by the triggers watching its source, firing those whose condition holds
  (R417). -/
  | triggerValueEvaluate (e : Stamp)
  /-- An edge on a Swatch trigger pin held for the debounce fires a type 6 trigger (R416). -/
  | swtPinEdge (e : Stamp) (pin : Fin 2) (level : Bool) (held : Nat)
  /-- A sample or value for an armed profile arrives and a row is formed when every channel has its value (R414). -/
  | swatchSampleArrival (e : Stamp)
  /-- row_wait_ms after a row's instant the row is formed with absent channels MISSING (R414). -/
  | swatchRowWaitExpiry (e : Stamp) (profile : Fin 16)
  /-- A continuous profile re-arms after its record or when a WAITING profile can take its segments (R426). -/
  | profileRearm (e : Stamp) (profile : Fin 16)
  /-- Every 100 µs with the write buffer above 384 KiB the busiest profile's row rate is halved (R430). -/
  | writeBufferHalving (e : Stamp) (level : Nat)
  /-- After 100 ms below 128 KiB each halved profile lowers its shift by one (R431). -/
  | rowRateRestore (e : Stamp) (level : Nat)
  /-- TIME_REF_SET sets reference priorities, formats, delays and PTP priorities (R452). -/
  | timeRefSet (e : Stamp) (r : Request)
  /-- PTP_PORT_SET configures PTP on an Ethernet port (R457). -/
  | ptpPortSet (e : Stamp) (r : Request)
  /-- SERVO_SET sets servo gains, limits and holdover model parameters (R463). -/
  | servoSet (e : Stamp) (r : Request)
  /-- UTC_OFFSET_SET sets or forces the UTC offset and announced leap (R473). -/
  | utcOffsetSet (e : Stamp) (r : Request)
  /-- TIME_QUERY returns Tension's state, time, error, offset and counters (R478). -/
  | timeQuery (e : Stamp) (r : Request)
  /-- A Sync received on a slave port yields a measurement, with a one-step stamp or awaiting its Follow_Up (R456). -/
  | ptpSyncReceive (e : Stamp) (m : PtpEvent)
  /-- A Follow_Up completes a two-step Sync measurement (R456). -/
  | ptpFollowUpReceive (e : Stamp) (m : PtpEvent)
  /-- A Pdelay_Req is answered with Pdelay_Resp and, two-step, Pdelay_Resp_Follow_Up (R453). -/
  | pdelayReqReceive (e : Stamp) (port : Fin 12) (domain version seq : Nat)
  /-- A Pdelay_Resp or its follow-up updates the port's peer delay (R456). -/
  | pdelayRespReceive (e : Stamp) (m : PdelayAnswer)
  /-- An Announce feeds the best master clock algorithm and port states (R454). -/
  | announceReceive (e : Stamp) (a : Announce)
  /-- Each second a master port sends Sync, Announce and Pdelay_Req as its role requires (R453). -/
  | ptpMasterSend (e : Stamp) (port : Fin 12)
  /-- A rising 1PPS edge is captured as a reference instant (R458). -/
  | ppsEdge (e : Stamp) (edge : Nat)
  /-- A ZDA sentence or compact time message completes a 1PPS measurement (R458). -/
  | todMessageReceive (e : Stamp) (m : TodMessage)
  /-- An IRIG-B frame yields a measurement at its on-time mark (R458). -/
  | irigFrameReceive (e : Stamp) (f : IrigFrame)
  /-- A reference giving no valid measurement within its loss window is lost, and without another the lane enters HOLDOVER
  (R450). -/
  | referenceLoss (e : Stamp) (k : RefKind)
  /-- A better reference qualified for revert_s is selected under revertive (R451). -/
  | revertExpiry (e : Stamp)
  /-- Growing holdover error passing unlock_bound_ns flags time stamps unlocked with Ochre alarm 290 (R465). -/
  | unlockBoundCross (e : Stamp)
  /-- The 10 MHz input qualifies after 10 s within ±1 ppm (R459). -/
  | ref10mQualify (e : Stamp)
  /-- The 10 MHz input is lost after 100 ms without edges (R459). -/
  | ref10mLost (e : Stamp)
  /-- Once per second while locked Tension writes its time to the keep-alive RTC (R449). -/
  | rtcWrite (e : Stamp)
  /-- Once per minute after 600 s locked the nearest temperature-table entry is updated (R466). -/
  | tempTableLearn (e : Stamp)
  /-- At the leap instant the new UTC offset applies (R469). -/
  | leapOffsetChange (e : Stamp)
  /-- 86,400 s after a leap the old offset and leap instant are discarded (R469). -/
  | leapStateDiscard (e : Stamp)
  /-- Every 125 ms each lane sends a TIME message to compare its time with the other lane's (R476). -/
  | laneTimeExchange (e : Stamp)
  /-- With no measurement within start_wait_ms START continues on RTC time and passes at once to HOLDOVER (R462). -/
  | startTimeWaitExpiry (e : Stamp)
  /-- PORT_SET configures an Ethernet or serial port, restarting the link on a mode change (R482). -/
  | portSet (e : Stamp) (r : Request)
  /-- CLASSIFIER_SET replaces a port's multicast, VLAN and host-rule lists (R492). -/
  | classifierSet (e : Stamp) (r : Request)
  /-- WAKE_SET configures magic-packet and pattern wake on E4 or E5 (R493). -/
  | wakeSet (e : Stamp) (r : Request)
  /-- POLL_TABLE_SET op 0 returns station entries (R499). -/
  | pollTableSetRead (e : Stamp) (r : Request)
  /-- POLL_TABLE_SET op 1 writes station entries and restarts them at RESETTING (R499). -/
  | pollTableSetWrite (e : Stamp) (r : Request)
  /-- PORT_COUNTERS returns a port's link state and counters (R495). -/
  | portCounters (e : Stamp) (r : Request)
  /-- The received pause time ends and frames may start on the port again (R486). -/
  | pauseTimerExpiry (e : Stamp) (port : Fin 12)
  /-- An Ethernet link comes up, clearing its link-down alarm (R483). -/
  | linkUp (e : Stamp) (port : Fin 12)
  /-- An Ethernet link goes down, raising Ochre alarm 304 + n and discarding egress entries (R483). -/
  | linkDown (e : Stamp) (port : Fin 12)
  /-- A magic packet or matching frame on a wake port in DORMANT starts START within 10 µs (R494). -/
  | wakeFrame (e : Stamp) (port : Fin 12) (f : EthFrame)
  /-- After line idle the poller sends the next station's request by its state and class2_ms (R500). -/
  | pollRequestSend (e : Stamp) (port : Fin 8)
  /-- A station's response is checked, delivered, withheld as a repeat or treated as a failure (R501). -/
  | serialResponseReceive (e : Stamp) (port : Fin 8) (octets : Bytes) (charError : Bool)
  /-- No response within resp_timeout_ms fails the request, repeated once and then OFFLINE (R501). -/
  | responseTimeout (e : Stamp) (port : Fin 8)
  /-- After offline_retry_s an OFFLINE station returns to RESETTING (R501). -/
  | offlineRetryExpiry (e : Stamp) (port : Fin 8) (entry : Fin 64)
  /-- Characters with no request outstanding are counted and discarded (R503). -/
  | unsolicitedCharacter (e : Stamp) (port : Fin 8) (count : Nat)
  /-- MESH_SET configures a radio interface, restarting it or announcing a new channel map (R528). -/
  | meshSet (e : Stamp) (first retry : Bool) (r : Request)
  /-- MESH_NODE_ADD adds a node to the root's node table (R529). -/
  | meshNodeAdd (e : Stamp) (r : Request)
  /-- MESH_NODE_REMOVE removes a node and releases its grants (R529). -/
  | meshNodeRemove (e : Stamp) (r : Request)
  /-- MESH_SLOT_ASSIGN op assign adds a slot grant to the root's grant table (R530). -/
  | meshSlotAssignAssign (e : Stamp) (r : Request)
  /-- MESH_SLOT_ASSIGN op release removes a slot grant (R530). -/
  | meshSlotAssignRelease (e : Stamp) (r : Request)
  /-- MESH_QUERY returns a radio's state and counters (R531). -/
  | meshQuery (e : Stamp) (r : Request)
  /-- At each slot start the sequencer sets the channel and transmits its beacon, data or retransmission, or listens
  (R510). -/
  | meshSlotStart (e : Stamp) (radio : Fin 2) (coin : Bool)
  /-- A received radio frame is checked in order and delivered, relayed, acknowledged or dropped (R515). -/
  | picotFrameReceive (e : Stamp) (radio : Fin 2) (ok : Bool) (psdu : Bytes) (riseAgo fallAgo : Nat)
  /-- 1,000 µs after a data frame's SFD falls the node sends its acknowledgement (R516). -/
  | meshAckSend (e : Stamp) (radio : Fin 2)
  /-- A mesh report from the radio's ingest queue is sequence checked, graded and delivered to its Mesh context (R526). -/
  | meshReportDelivery (e : Stamp) (radio : Fin 2)
  /-- A parent beacon window closes without a beacon, widening the window or losing the parent after three (R524). -/
  | meshBeaconMiss (e : Stamp) (radio : Fin 2)
  /-- A scan's listen on one channel ends and the scan moves to the next channel (R524). -/
  | meshScanChannelExpiry (e : Stamp) (radio : Fin 2)
  /-- supervision_sf superframes without a link frame declare a parent or child LOST (R525). -/
  | meshSupervisionTimeout (e : Stamp) (radio : Fin 2) (child : Option Nat)
  /-- No join response within four superframes restarts the join (R521). -/
  | joinResponseWaitExpiry (e : Stamp) (radio : Fin 2)
  /-- Seen-cache entries older than 30 s are removed (R518). -/
  | seenCacheExpiry (e : Stamp) (radio : Fin 2)
  /-- PLY_SET sets the lane lease policy, preference, flags, compare mask and timing (R563). -/
  | plySet (e : Stamp) (r : Request)
  /-- PLY_PAIR op pair pairs the package with a partner over Azwell (R564). -/
  | plyPairPair (e : Stamp) (r : Request)
  /-- PLY_PAIR op unpair makes the package unpaired, holding the device lease implicitly (R564). -/
  | plyPairUnpair (e : Stamp) (r : Request)
  /-- LEASE_HANDOVER offers the lease to a target and releases it on ACCEPT (R543). -/
  | leaseHandover (e : Stamp) (r : Request)
  /-- PLY_QUERY returns Ply state, holders, epochs, versions and counters (R566). -/
  | plyQuery (e : Stamp) (r : Request)
  /-- WITNESS_SET chooses the lane and device witnesses (R565). -/
  | witnessSet (e : Stamp) (r : Request)
  /-- Every P/2 the holder sends a numbered RENEW (R536). -/
  | renewSend (e : Stamp) (k : LeaseKind)
  /-- A RENEW unacknowledged for P/8 is posted as a RENEW question to the witness (R546). -/
  | renewAckTimeout (e : Stamp) (k : LeaseKind)
  /-- At t_s + P without a later acknowledged RENEW the holder's lease ends and gated transmission stops (R537). -/
  | leaseExpiry (e : Stamp) (k : LeaseKind)
  /-- At t_q + 2P + g an eligible member claims through the witness or acquires under AVAILABLE (R538). -/
  | silenceTakeover (e : Stamp) (k : LeaseKind)
  /-- Every P an eligible member repeats its CLAIM to the witness (R538). -/
  | claimRepeat (e : Stamp) (k : LeaseKind)
  /-- After start_wait_ms with no holder known, the non-preferred eligible lane acquires (R541). -/
  | freeLeaseWaitExpiry (e : Stamp) (k : LeaseKind)
  /-- A member knowing no device holder sends HELLO to each partner lane every P_d/2 (R541). -/
  | plyHelloPeriodic (e : Stamp)
  /-- Every timeout_ms/4 with no question outstanding the lane sends PING to its witness (R545). -/
  | witnessPing (e : Stamp) (k : LeaseKind)
  /-- A witness not answering within timeout_ms becomes unavailable with Ochre alarm 343 (R545). -/
  | witnessUnavailable (e : Stamp) (k : LeaseKind)
  /-- No ACCEPT within the lease period completes LEASE_HANDOVER with TIMEOUT (R543). -/
  | offerTimeout (e : Stamp)
  /-- Every 10 µs on an otherwise idle link the lane sends an idle frame (R548). -/
  | plyIdleFrame (e : Stamp) (link : Fin 2)
  /-- A Ply link frame is CRC checked, deduplicated and its message delivered or resend requested (R548). -/
  | plyFrameReceive (e : Stamp) (link : Fin 2) (x : PlyRx) (bad : Option Nat)
  /-- A link with a lasting fault or 100 µs without a valid frame is lost, moving traffic to the other link (R548). -/
  | plyLinkLoss (e : Stamp) (link : Fin 2)
  /-- Every 1 s a lost link is retrained and returns after 1 s of error-free frames (R548). -/
  | plyLinkRetrain (e : Stamp) (link : Fin 2)
  /-- A HELLO message reports a member's versions, mode, state and epochs (R549). -/
  | plyHello (e : Stamp) (m : Nat) (h : HelloBody)
  /-- A RENEW message is answered with RENEW_ACK or YIELD by epoch (R536). -/
  | plyRenew (e : Stamp) (m lease epoch counter periodUs guardUs : Nat)
  /-- A RENEW_ACK within P/8 acknowledges its RENEW and extends the lease (R537). -/
  | plyRenewAck (e : Stamp) (m lease epoch counter state : Nat)
  /-- A YIELD makes the holder yield at once (R536). -/
  | plyYield (e : Stamp) (m lease epoch : Nat)
  /-- A RELEASE lets the named successor or free-lease member acquire, or records a departure (R540). -/
  | plyRelease (e : Stamp) (m lease epoch successor reason : Nat)
  /-- An OFFER invites the target to take the lease (R543). -/
  | plyOffer (e : Stamp) (m lease epoch target : Nat)
  /-- An ACCEPT commits a pending handover (R543). -/
  | plyAccept (e : Stamp) (m lease epoch target : Nat)
  /-- A DIGEST message is compared with the member's own digests, retrying a mismatch on the next course (R554). -/
  | plyDigest (e : Stamp) (m plane swapGen absent first : Nat) (digests : List Nat) (bad : Option Nat)
  /-- A HEALTH message updates the sender's reported health and eligibility (R557). -/
  | plyHealth (e : Stamp) (m : Nat) (b : Bytes)
  /-- A TIME message yields the cross-lane difference and may set time at START (R476). -/
  | plyTime (e : Stamp) (m tx echoTx echoRx : Nat)
  /-- A TAMPER message from the other lane is logged with Slate alarm 354 (R559). -/
  | plyTamper (e : Stamp) (m sources time : Nat)
  /-- A MIRROR message updates the standby's mirrored pins, GOOSE counters or session course (R400). -/
  | plyMirror (e : Stamp) (m : Nat) (x : MirrorKind)
  /-- A PULL_REQ makes the holder send the requested item (R560). -/
  | plyPullReq (e : Stamp) (m item offset : Nat)
  /-- PULL_DATA delivers pulled state, completing the pull and clearing PULLING at its last item (R560). -/
  | plyPullData (e : Stamp) (m : Nat) (c : PullItem) (total : Nat)
  /-- A CHECK request or result settles a lasting digest mismatch (R555). -/
  | plyCheck (e : Stamp) (m plane : Nat) (result fail : Bool) (course : Nat) (bad : Option Nat)
  /-- A WITNESS_QUERY carries a question to an Azwell witness (R546). -/
  | plyWitnessQuery (e : Stamp) (k : LeaseKind) (kind : Nat)
  /-- A WITNESS_VOTE answers a question with KEEP, HOLDER_GONE or DENY (R546). -/
  | plyWitnessVote (e : Stamp) (q vote : Nat)
  /-- An Azwell datagram is checked, acknowledged, ordered and its messages delivered (R551). -/
  | azwellDatagramReceive (e : Stamp) (d : AzDatagram) (bad : Option Nat)
  /-- An unacknowledged reliable datagram is resent every P_d/4, up to eight times (R551). -/
  | azwellRetransmit (e : Stamp) (m : Nat)
  /-- P_d without a valid datagram or failed retransmissions lose the Azwell link (R552). -/
  | azwellLinkLoss (e : Stamp) (m : Nat)
  /-- A digest unmatched 100 ms after arrival or production is counted and discarded (R554). -/
  | digestUnmatchedExpiry (e : Stamp)
  /-- Once per second each member sends HEALTH to every member in contact (R557). -/
  | healthSend (e : Stamp)
  /-- TIME ineligibility clears after 10 s without a disagreement (R558). -/
  | timeReasonClear (e : Stamp)
  /-- KEY_GENERATE creates a key in an EMPTY slot (R580). -/
  | keyGenerate (e : Stamp) (r : Request)
  /-- KEY_WRITE writes host key material into a slot (R581). -/
  | keyWrite (e : Stamp) (r : Request)
  /-- KEY_DERIVE derives a child key by HKDF from a parent (R582). -/
  | keyDerive (e : Stamp) (r : Request)
  /-- KEY_DELETE empties a slot and its flash record (R583). -/
  | keyDelete (e : Stamp) (r : Request)
  /-- KEY_INVALIDATE clears a slot's material and orphans its children (R583). -/
  | keyInvalidate (e : Stamp) (r : Request)
  /-- KEY_ATTEST returns a signed or tagged statement about a slot (R584). -/
  | keyAttest (e : Stamp) (r : Request)
  /-- ROLE_CHALLENGE returns a nonce valid for 10 s (R577). -/
  | roleChallenge (e : Stamp) (r : Request)
  /-- ROLE_RESPOND op 0 grants privilege when the signature and owner hash verify (R577). -/
  | roleRespondTake (e : Stamp) (r : Request)
  /-- ROLE_RESPOND op 1 drops privilege (R577). -/
  | roleRespondDrop (e : Stamp) (r : Request)
  /-- ROLE_RESPOND op 2 takes privilege and binds the key into an owner entry (R578). -/
  | roleRespondBind (e : Stamp) (r : Request)
  /-- 60 s after five failed responses, responses are accepted again (R579). -/
  | roleLockoutExpiry (e : Stamp)
  /-- SLV_QUERY op STATUS returns Selvedge status, identity and tamper record (R586). -/
  | slvQueryStatus (e : Stamp) (r : Request)
  /-- SLV_QUERY op SLOTS returns slot entries (R586). -/
  | slvQuerySlots (e : Stamp) (r : Request)
  /-- SLV_QUERY op TAMPER_SET sets tamper enables and debounce (R586). -/
  | slvQueryTamperSet (e : Stamp) (r : Request)
  /-- SLV_QUERY op TAMPER_ACK acknowledges latched tamper records (R586). -/
  | slvQueryTamperAck (e : Stamp) (r : Request)
  /-- Every 10 s the entropy health and engine known-answer tests run, failing lastingly on a second failure (R571). -/
  | selvedgeSelfTest (e : Stamp) (first retry : Bool)
  /-- A tamper on an enabled source zeroises the lane's keys, latches a record and raises Madder alarm 352 (R587). -/
  | tamperDetect (e : Stamp) (sources : BitVec 10)
  /-- MODE_SET requests a mode transition allowed by the transition table (R591). -/
  | modeSet (e : Stamp) (r : Request)
  /-- LANE_RESET op 0 resets the lane into START (R619). -/
  | laneResetRestart (e : Stamp) (r : Request)
  /-- LANE_RESET op 1 restarts the lane into SALVAGE (R619). -/
  | laneResetSalvage (e : Stamp) (r : Request)
  /-- CONFIG_COMMIT writes the running configuration over the older config store copy (R611). -/
  | configCommit (e : Stamp) (r : Request)
  /-- CONFIG_READ returns bytes of the config store copy in force (R613). -/
  | configRead (e : Stamp) (r : Request)
  /-- POOL_SPLIT_SET sets the Swatch pool and segment size from the next START (R614). -/
  | poolSplitSet (e : Stamp) (r : Request)
  /-- SYS_INFO returns lane identity, mode, start cause, slots and firmware state (R620). -/
  | sysInfo (e : Stamp) (r : Request)
  /-- UPDATE_BEGIN starts staging an update package (R605). -/
  | updateBegin (e : Stamp) (r : Request)
  /-- UPDATE_CHUNK stages package bytes in DRAM (R605). -/
  | updateChunk (e : Stamp) (r : Request)
  /-- UPDATE_FINISH verifies the package, erases the inactive slot and starts the build (R606). -/
  | updateFinish (e : Stamp) (r : Request)
  /-- The built image is verified, written TRIAL and selected, with optional restart (R606). -/
  | updateBuildComplete (e : Stamp) (built : Option BuiltImage)
  /-- UPDATE_CONFIRM op 0 confirms the TESTING image (R609). -/
  | updateConfirmConfirm (e : Stamp) (r : Request)
  /-- UPDATE_CONFIRM op 1 rejects the TESTING slot and resets onto the other (R609). -/
  | updateConfirmReject (e : Stamp) (r : Request)
  /-- SLOT_SELECT selects a VALID or TRIAL boot slot, optionally restarting (R610). -/
  | slotSelect (e : Stamp) (r : Request)
  /-- On reset release the lane runs the start steps: boot, verify, train, load, test, apply config, links and time
  (R594). -/
  | startSequence (e : Stamp) (o : StartOutcome)
  /-- When every start step completes the lane enters SERVICE and begins decoding and alignment (R594). -/
  | startComplete (e : Stamp) (first0 retry0 first1 retry1 : Bool)
  /-- A START not reaching SERVICE within 10 s is counted as a start failure (R604). -/
  | startFailureTimeout (e : Stamp)
  /-- A TESTING image meeting its conditions in the window is confirmed VALID with Slate alarm 361 (R607). -/
  | imageConfirmation (e : Stamp)
  /-- The confirm window closes unconfirmed with Ochre alarm 360 (R608). -/
  | confirmWindowClose (e : Stamp)
  /-- A 250 ms control-core watchdog expiry releases leases and resets the lane (R601). -/
  | watchdogExpiry (e : Stamp)
  /-- LA_RSTN held low for 10 µs resets the lane, and START begins on its rise (R601). -/
  | rstnLow (e : Stamp) (low : Bool) (held : Nat)
  /-- LA_WAKE high for 1 ms wakes a DORMANT lane (R672). -/
  | wakePin (e : Stamp) (held : Nat)
  /-- rtc_wake_s after DORMANT entry the RTC wakes the lane (R600). -/
  | rtcWakeAlarm (e : Stamp)
  /-- VIN rising through 4.5 V and staying 1 ms releases both lanes from reset with start cause 0 (R660). -/
  | vinPowerUp (e : PackageStamp)
  /-- VIN falling below 4.75 V with the warning armed starts the brown-out journal within 5 ms (R615). -/
  | vinWarning (e : Stamp) (mv : Nat)
  /-- Still running 100 ms after the warning with VIN at or above 4.5 V, the lane rides through with Slate alarm 364
  (R616). -/
  | rideThrough (e : Stamp)
  /-- VIN above 5.0 V for 100 ms arms the VIN warning (R617). -/
  | vinWarningArm (e : Stamp)
  /-- After a warning before start step 6, VIN at or above 4.5 V for 100 ms restarts the lane (R665). -/
  | earlyWarningRestart (e : Stamp)
  /-- VIN above 19 V for 10 µs switches off both lanes' regulators (R658). -/
  | vinOvervoltage (e : PackageStamp)
  /-- VIN back in range for 100 ms restarts both lanes (R658). -/
  | overvoltageRestart (e : PackageStamp)
  /-- The sensor at 120 °C or more for 1 s makes the lane unhealthy with Ochre alarm 376 (R681). -/
  | junctionOverheat (e : Stamp) (celsius : Int)
  /-- The sensor at or below 110 °C for 10 s clears the overheat reason and alarm (R681). -/
  | junctionOverheatClear (e : Stamp) (celsius : Int)
  /-- GAUGE_SET sets a gauge's source and bins and clears it (R627). -/
  | gaugeSet (e : Stamp) (r : Request)
  /-- GAUGE_SNAPSHOT copies a gauge in one sc cycle and optionally clears it (R629). -/
  | gaugeSnapshot (e : Stamp) (r : Request)
  /-- FAULT_LOG_READ returns fault-log records by class from a sequence number (R631). -/
  | faultLogRead (e : Stamp) (r : Request)
  /-- DRILL_RUN runs loopback, script, scenario replay and self-test in DRILL (R632). -/
  | drillRun (e : Stamp) (r : Request)
  /-- A drill completes with its verdict, alarms 370 or 371, and optional return to SERVICE (R634). -/
  | drillVerdict (e : Stamp) (v : DrillVerdict)
  /-- HEALTH_QUERY returns the health body, transient and lasting counts and the last drill result (R635). -/
  | healthQuery (e : Stamp) (r : Request)
  /-- Every interval_us a gauge of an interval source takes a sample (R626). -/
  | gaugeIntervalSample (e : Stamp) (gauge : Fin 64) (reading : Int)
  /-- A detected error's step is repeated once and classed transient or lasting with the resource's lasting action (R621). -/
  | errorRetry (e : Stamp) (site : ErrorSite) (repeatOk : Bool) (covered : List (Nat × Word))
  /-- The scrubber corrects a word or finds an uncorrectable location handled as a user read (R625). -/
  | scrubErrorFound (e : Stamp) (site : ErrorSite) (corrected repeatOk : Bool)
  /-- A SYS_RESET write with KEY 0xA5 and OP 1 resets the lane with start cause 10 (R642). -/
  | sysResetRestart (e : Stamp) (v : Word)
  /-- A SYS_RESET write with KEY 0xA5 and OP 2 resets the lane into SALVAGE (R642). -/
  | sysResetSalvage (e : Stamp) (v : Word)
  /-- Setting GLG_CTRL.ENABLE zeroes a ring's heads and tails and sets the expected phase (R644). -/
  | glgRingEnable (e : Stamp) (ring : Fin 4) (v : Word)
  /-- A GLG_SQ_TAIL write makes the lane fetch new submission entries into the request queue (R645). -/
  | glgSqDoorbell (e : Stamp) (ring : Fin 4) (index : Nat) (entries : List (Option Submission))
  /-- A GLG_CQ_HEAD write frees completion entries for waiting replies (R647). -/
  | glgCqHeadWrite (e : Stamp) (ring : Fin 4) (index : Nat)
  /-- An HFR_TX_TAIL write makes the lane take transmit descriptors for host frames (R648). -/
  | hfrTxDoorbell (e : Stamp) (index : Nat) (descs : List (Option TxDescriptor))
  /-- An HFR_RX_TAIL write returns receive descriptors to the lane (R648). -/
  | hfrRxTailWrite (e : Stamp) (index : Nat) (addrs : List (Option Nat))
  /-- A read of HFR_RX_DROP returns and clears the oversize drop count (R17). -/
  | hfrRxDropRead (e : Stamp)
  /-- A held-off MSI-X message is sent when the holdoff expires if its cause is still set (R649). -/
  | intHoldoffExpiry (e : Stamp) (vector : Fin 11)
  /-- A TNS_LATCH write captures Tension's time, quality and error (R651). -/
  | tnsLatch (e : Stamp) (v : Word)
  /-- A GAU_SEL write with CLEAR 0 snapshots a gauge into the window (R652). -/
  | gauSelSnapshot (e : Stamp) (gauge : Fin 64)
  /-- A GAU_SEL write with CLEAR 1 snapshots and clears a gauge (R652). -/
  | gauSelSnapshotClear (e : Stamp) (gauge : Fin 64)
  /-- A PLY_WITNESS write with the pending QSEQ delivers a host witness vote (R653). -/
  | plyWitnessWrite (e : Stamp) (v : Word)
  /-- An MBX_DOORBELL write without BYPASS submits the mailbox request as from its ring (R654). -/
  | mbxDoorbell (e : Stamp) (v : Word)
  /-- An MBX_DOORBELL write with BYPASS serves HELLO, ABORT or CANCEL on arrival (R654). -/
  | mbxDoorbellBypass (e : Stamp) (v : Word)
  /-- A write to a register without its own row sets, clears or ignores fields by their access codes (R17). -/
  | registerWrite (e : Stamp) (off : Nat) (v : Word)
  /-- A host access to a DORMANT lane is answered by the hub and wakes the lane with start cause 2 (R655). -/
  | hostAccessWhileDormant (e : Stamp) (a : HostAccess)
  /-- A PCIe function-level reset returns that function's host registers to reset and drops privilege (R655). -/
  | functionLevelReset (e : Stamp)
  /-- A hot reset or PCIe link loss resets the host registers of both functions (R655). -/
  | pcieHotReset (e : PackageStamp)
  /-- HOST_PERSTN resets the host port only (R672). -/
  | hostPerstn (e : PackageStamp)
  /-- Every 100 µs each lane exchanges a heartbeat with the hub (R35). -/
  | hubHeartbeatSend (e : Stamp)
  /-- 1 ms without a heartbeat declares the hub lost, removing the host witness and privilege (R35). -/
  | hubLost (e : Stamp)
  /-- A resumed heartbeat declares the hub present and logs the outage (R35). -/
  | hubReturn (e : Stamp)
  /-- VIN collapses below the operating range after the journal and both lanes lose supply and stop (R34). -/
  | vinSupplyLoss (e : PackageStamp)
  /-- A keep-alive domain whose supply falls below 2.0 V loses its wrap key and RTC (R661). -/
  | keepAliveSupplyLoss (e : Stamp)
  /-- A lane's die or regulator stops without warning and the lane sends nothing more (R540). -/
  | laneDieFailure (e : Stamp)
  /-- A tamper source that read tamper returns to its normal state, and a stored enable deferred at START takes effect
  (R687). -/
  | tamperInputNormal (e : Stamp) (source : Fin 10)
  /-- The standby lane decodes a request that the holder's poller sent on a shared serial bus and tracks the station's
  state and next FCB (R504). -/
  | observedPollRequest (e : Stamp) (port : Fin 8) (octets : Bytes)
  /-- The client of a TCP output session closes or loses its connection and the session returns to listening (R398). -/
  | sessionTcpDisconnect (e : Stamp) (session : Fin 64)
deriving DecidableEq, Repr

end Sys2Proof
end

