-- ==== Sys2Proof/Decode.lean ====
section
/-!
DEFINITION. The command that a word spells by the opcode table's bits. The table of this block gives no row any bits (every
row's list of fields is empty), so no word spells a command; the encodings that the spec does give (request packets, bundles,
datagrams) are read by the commands that receive them.
-/
namespace Sys2Proof

/-- No row of the table has bits, so no word spells a command. -/
def decodeTableWord (_nbits _w : Nat) : Option Instr := none

end Sys2Proof
end

