-- ==== Sys2Proof/Config.lean ====
section
/-!
DEFINITION. What an implementation fixes and the spec leaves open: opaque constants with no body. Nothing in
Lean can evaluate them, so a statement that holds of the model holds for every value of them.
-/
namespace Sys2Proof.Config

/-- The device serial (16 bytes), the identity key's private scalar (under the production root, or with debug
unlocked under the test root) and the endorsement (96 bytes) of a lane, fixed at manufacture (R568, R570, R586). -/
opaque serial : LaneId → Bytes
opaque identityPrivate : LaneId → Bool → Bytes
opaque endorsement : LaneId → Bytes

/-- The silicon step (`SYS_LANE.STEP`, SYS_INFO). -/
opaque siliconStep : LaneId → Byte

/-- The random values of the DRBG (R571): the n-th draw of a lane, `len` bytes. -/
opaque random : LaneId → Nat → Nat → Bytes

/-- Whether the increment of the time counter, held to 2^-64 s, is rounded up for a frequency correction of `y`
units of 2^-48: R447 gives the resolution and no rounding (log 6). -/
opaque incRoundUp : Int → Bool

/-- Whether the quantisation of y to 2^-48 rounds up (R460 gives no rounding, log 6): a function of the exact
value. -/
opaque servoRoundUp : Rat → Bool

/-- The PTP clock identity and offsetScaledLogVariance of a lane (R454): the spec gives none. -/
opaque clockIdentity : LaneId → Nat
opaque clockVariance : LaneId → Nat

/-- The horizontal eye of Ethernet link `port` as a standby measures it at a tc, in 1/256 UI (R557): a measured value. -/
opaque eyeWidth : LaneId → Nat → Nat → Byte

/-- The per-message secret number of an ECDSA signature (FIPS 186-5): curve and draw. A signature takes it modulo n − 1,
plus 1. -/
opaque ecdsaSecret : Nat → Nat → Nat

/-- Whether the wale history pool holds the given histories (R114, R178): Swatch pool in MiB, per stream its type,
rate and history_ms, and the number of chain-state areas. The spec gives no size of a record (log 15). -/
opaque historyFits : Nat → List (Nat × Nat × Nat) → Nat → Bool

/-- Rectangular parts of a polar phasor of a C37.118.2 frame, magnitude and angle as exact rationals of the frame's
fields (R123): the spec gives no rounding (log 16). -/
opaque polarRe : Rat → Rat → Word
opaque polarIm : Rat → Rat → Word
/-- The same where a field is no finite number: the two words as received (R123 names no result, log 16). -/
opaque polarBadRe : Word → Word → Word
opaque polarBadIm : Word → Word → Word
/-- An integer phasor of CFG-3 (R123): polar or not, its two fields, scale factor and angle adjustment (log 16). -/
opaque phasor3Re : Bool → Rat → Rat → Word → Word → Word
opaque phasor3Im : Bool → Rat → Rat → Word → Word → Word

/-! The phasor estimation chain computes in FP32 "in a fixed order of operations" that the spec does not give (R184):
each of these is one expression of a rule, a function of the values that the rule names (log 17). A pair of words is a
complex value. -/
/-- R179: scale × a sample that is no FP32 value. -/
opaque peScaleWide : Word → Int → Word
/-- R179: √2·x·e^(−j·2π·phase), the phase in 2^-32 of a turn. -/
opaque peMix : Word → Word → Word × Word
/-- R180: coefficient k of the decimator for D1; the spec gives its length and its bounds. -/
opaque decimTap : Nat → Nat → Word
/-- R180, R181: the sum of products of coefficients and values. -/
opaque firSum : List (Word × Word) → Word
/-- R181: the Lagrange interpolation of four grid values at a fraction of the interval after the second. -/
opaque lagrange : List Word → Rat → Word
/-- R182: the droop between two entries, at |Δf|. -/
opaque peLerp : Word → Word → Word → Word
/-- R182: z·e^(−j·2π·Δf·G) / (Σh·D), with Σh in units of 2^-22. -/
opaque peCorrect : Word × Word → Word → Rat → Int → Word → Word × Word
/-- R183: arg(a·conj b)·f0 / 2π. -/
opaque peAngleRate : Nat → Word × Word → Word × Word → Word
/-- R191: whether a scaled coefficient of a library bank rounds up, and entry i of its droop table for M. -/
opaque bankRoundUp : Rat → Bool
opaque libraryDroop : Nat → Nat → Nat → Word
/-- R207: the mean of the mixed samples; arg(X1·conj X1′) / (2π·(T − T′)); the difference of two Δf over their
separation; and a Δf or ROCOF that R207 grades INVALID and gives no value. -/
opaque peMean : List Word → Word
opaque peSingleRate : Word × Word → Word × Word → Rat → Word
opaque peSingleRocof : Word → Word → Rat → Word
opaque peUnstated : Nat → Nat → Word
/-- R197: K, k, the value of the outgoing and of the incoming bank. -/
opaque peFade : Nat → Nat → Word → Word → Word
/-- R193: √2·Re(X·e^(j·2π·(phase + Δf·t))): the phase of f0·(t_n − τ), X, Δf and t_n − T of the most recent output. -/
opaque peSubstitute : Word → Word × Word → Word → Rat → Word

/-- The octets of a publication's GOOSE frame, a function of its strings and member count under the coding of IEC
61850-8-1 (R26, R388). -/
opaque gooseLength : GoosePub → Nat

/-- The Rinpol pattern key held in the firmware, by curve (R303), and the library's images by id and shape (R348):
neither stands in the spec. -/
opaque patternKey : Nat → Bytes
opaque libraryImage : Nat → Nat → Nat → Bytes

/-! The reference patterns compute in FP32 "in an order fixed by the image" (R325, R356), and the spec gives no image:
each of these is one expression of a rule, a function of the values that the rule names (log 27). -/
/-- The kind-0 and kind-1 targets of a library image's output table: id, kind, piece; and whether its bus voltages are a
derived stream (R346). -/
opaque libraryTarget : Nat → Nat → Nat → Nat
opaque libraryDerived : Bool
/-- The built-in variant of library image 1 by shape, in the form of R336. -/
opaque builtInVariant : Nat → Nat → Bytes
/-- A value of an output line for which no rule gives a result: item and course. -/
opaque libraryUnstated : Nat → Nat → Word
/-- The sum and the mean of values, the quotient of two, and arg(a·conj b) in degrees. -/
opaque libSum : List Word → Word
opaque libMean : List Word → Word
opaque libQuotient : Word → Word → Word
opaque libAngle : Word × Word → Word × Word → Word
/-- R325: G⁻¹ Hᴴ W z̃ under a variant. -/
opaque estSolve : Bytes → List (Word × Word) → List (Word × Word)
/-- R329: h_i x; the buses of h_i. -/
opaque estProject : Bytes → Nat → List (Word × Word) → Word × Word
opaque estBuses : Bytes → Nat → List Nat
/-- R330: the pivot of channel j after the channels kept so far; x̃ + u_j w_j ẑ_j; x̃ + U M⁻¹ (H_S x̃). -/
opaque estPivot : Bytes → List Nat → Nat → Word
opaque estAddPseudo : Bytes → List (Word × Word) → Nat → Word × Word → List (Word × Word)
opaque estCorrect : Bytes → List Nat → List (Word × Word) → List (Word × Word)
/-- R330, R332: σ_i², Ω_ii, |r_i| / √Ω_ii; and J over the used channels. -/
opaque estSigma2 : Bytes → Nat → Word
opaque estOmega : Bytes → Nat → Word
opaque estNormalised : Bytes → Nat → Word × Word → List (Word × Word) → Word
opaque estObjective : Bytes → List (Nat × (Word × Word)) → List (Word × Word) → Word
/-- R368: Σ X_j / |X_j|; the rate of an angle: two angles in degrees, Δk, r. -/
opaque islandVector : List (Word × Word) → Word × Word
opaque islandRate : Word → Word → Nat → Nat → Word
/-- R374: the ROCOF of two frequencies, rocof_span and r; the vector shift of X[k] and X[L] with f[L], nominal
frequency, Δk and r. -/
opaque islandRocof : Word → Word → Nat → Nat → Word
opaque islandShift : Word × Word → Word × Word → Word → Nat → Nat → Nat → Word
/-- R352, R353: |X| of a phasor; the filter of D_a over the samples of its span. -/
opaque oscMagnitude : Word × Word → Word
opaque oscFir : Nat → List Word → Word
/-- R355: the next mean and variance, and the normalised sample: detrend_s, mean, variance, y. -/
opaque oscMean : Word → Word → Word → Word
opaque oscVariance : Word → Word → Word → Word → Word
opaque oscNormal : Word → Word → Word → Word
/-- R356: φᵀθ; λR + Σ φφᵀ; λρ + Σ φy; the solution for θ. -/
opaque oscPredict : List Word → List Word → Word
opaque oscMatrix : Word → List Word → List (List Word) → List Word
opaque oscRhs : Word → List Word → List (List Word × Word) → List Word
opaque oscSolve : List Word → List Word → List Word
/-- R357: the starting roots of order p; 24 Aberth iterations; f and ζ of a root. -/
opaque oscStart : Nat → List (Word × Word)
opaque oscRoots : List Word → List (Word × Word) → List (Word × Word)
opaque oscFrequency : Word × Word → Word
opaque oscDamping : Word × Word → Word
/-- R360: the phase after a step; the next Y, C and P; the shape, the coherence, the amplitude. -/
opaque oscPhase : Word → Word → Word
opaque oscDemod : Word → Word × Word → Word → Word → Word × Word
opaque oscCross : Word → Word × Word → Word × Word → Word × Word → Word × Word
opaque oscPower : Word → Word → Word × Word → Word
opaque oscShape : Word × Word → Word → Word × Word
opaque oscCoherence : Word × Word → Word → Word → Word
opaque oscAmplitude : Word × Word → Word → Word
/-- R361, R362: a resonator after a step: fo_window_s, bin, step; the power of a bin; the vertex of a peak. -/
opaque oscBin : Word → Nat → Nat → Word × Word → Word → Word × Word
opaque oscBinPower : List (Word × Word) → Word
opaque oscVertex : Nat → Word → Word → Word → Word
/-- R363: P, Q, θ and L of a branch; its demodulators and E after a step: def_s, f_FO, step; the score of an area. -/
opaque oscBranch : Word × Word → Word × Word → Word × Word → List Word
opaque oscEnergy : Word → Word → Nat → List Word × Word → List Word → List Word × Word
opaque oscScore : List Word → List Word → Word
/-- The 64 feature lines of library image 4 (R304, R348), and the set of each line: the spec says no more of them. -/
opaque triggerFeatures : List (Nat × Word × Word × Nat) → Bytes → Nat → Bytes
opaque triggerSet : Nat → Nat

/-- The bytes of the config store's copy in force (R613): generation, format, content. The spec gives no layout. -/
opaque configImage : Nat → Nat → RunConfig → Bytes
/-- Whether an update package's signature verifies and its target hash is the one named (R606); the package's layout is
Rinpol's. -/
opaque packageVerifies : Bytes → Bytes → Bool

/-- The length in bytes of an item of a pull (R560), whose layout the spec does not give: item, its content's tc. -/
opaque pullLength : Nat → Nat → Nat

/-! Values that the rules leave open. -/
/-- A polar phasor of an output session (R392): magnitude and angle of real and imaginary words; the spec gives no
rounding (log 16). -/
opaque polarMag : Word → Word → Word
opaque polarAng : Word → Word → Word
/-- The angle in degrees of a complex value (R410, R416), and the root mean square of values (R429): the spec gives no
rounding (log 16). -/
opaque angleDeg : Word → Word → Word
opaque rmsOf : List Word → Word

end Sys2Proof.Config
end

