-- ==== Sys2Proof/Machine/Fp32.lean ====
section
/-!
DEFINITION. FP32 arithmetic of the Stitch Array (R255 to R258): exact values as sign, magnitude and power of two,
one rounding, and the correctly rounded functions.
-/
namespace Sys2Proof.Machine

/-- A binary32 operand as R255 reads it: subnormals are zeros of their sign; a number is ±m × 2^e with m ≠ 0. -/
inductive Fp where
  | nan
  | inf (neg : Bool)
  | zero (neg : Bool)
  | num (neg : Bool) (m : Nat) (e : Int)
deriving DecidableEq, Repr

/-- The operand of a word (R255). -/
def Fp.ofWord (w : Word) : Fp :=
  let n : Nat := w.toNat
  let neg := w.getLsbD 31
  let e : Nat := n / 2 ^ 23 % 256
  let m : Nat := n % 2 ^ 23
  if e = 255 then (if m = 0 then .inf neg else .nan)
  else if e = 0 then .zero neg
  else .num neg (2 ^ 23 + m) ((e : Int) - 150)

/-- Every NaN result (R255). -/
def fpNan : Word := 0x7FC00000

/-- The sign bit as a word. -/
def fpSign (neg : Bool) : Word := if neg then 0x80000000 else 0

/-- Infinity and zero of a sign. -/
def fpInf (neg : Bool) : Word := fpSign neg ||| 0x7F800000
def fpZero (neg : Bool) : Word := fpSign neg

/-- m × 2^sh rounded to an integer, nearest, ties to even; sh negative divides. -/
def roundShift (m : Nat) (sh : Int) : Nat :=
  if 0 ≤ sh then m * 2 ^ sh.toNat
  else
    let d := 2 ^ (-sh).toNat
    let q := m / d
    let r := m % d
    if d < 2 * r || (2 * r = d && q % 2 = 1) then q + 1 else q

/-- ±m × 2^e rounded to 24 significant bits as if the exponent range were unbounded; then zero of its sign below
2^-126 and infinity from 2^128 (R255). -/
def fpRound (neg : Bool) (m : Nat) (e : Int) : Word :=
  if m = 0 then fpZero neg
  else
    let l : Int := (Nat.log2 m : Int)
    let q0 := roundShift m (23 - l)
    let top : Int := l + e
    -- rounding may carry into the next binade
    let q := if q0 = 2 ^ 24 then 2 ^ 23 else q0
    let x := if q0 = 2 ^ 24 then top + 1 else top
    if x < -126 then fpZero neg
    else if 127 < x then fpInf neg
    else fpSign neg ||| BitVec.ofNat 32 ((x + 127).toNat * 2 ^ 23 + (q - 2 ^ 23))

/-- The signed integer of a sign and a magnitude. -/
def fpInt (neg : Bool) (m : Nat) : Int := if neg then -(m : Int) else (m : Int)

/-- i × 2^e rounded; an exact zero is +0 (R255). -/
def fpRoundInt (i : Int) (e : Int) : Word := fpRound (decide (i < 0)) i.natAbs e

/-- The product of two operands before rounding. -/
def Fp.mul (a b : Fp) : Fp :=
  match a, b with
  | .nan, _ => .nan
  | _, .nan => .nan
  | .inf s, .inf t => .inf (s != t)
  | .inf _, .zero _ => .nan
  | .zero _, .inf _ => .nan
  | .inf s, .num t _ _ => .inf (s != t)
  | .num s _ _, .inf t => .inf (s != t)
  | .zero s, .zero t => .zero (s != t)
  | .zero s, .num t _ _ => .zero (s != t)
  | .num s _ _, .zero t => .zero (s != t)
  | .num s m e, .num t k f => .num (s != t) (m * k) (e + f)

/-- The sum of two exact operands, rounded once. -/
def Fp.addRound (a b : Fp) : Word :=
  match a, b with
  | .nan, _ => fpNan
  | _, .nan => fpNan
  | .inf s, .inf t => if s = t then fpInf s else fpNan
  | .inf s, _ => fpInf s
  | _, .inf t => fpInf t
  | .zero s, .zero t => fpZero (s && t)
  | .zero _, .num t k f => fpRound t k f
  | .num s m e, .zero _ => fpRound s m e
  | .num s m e, .num t k f =>
    let g := min e f
    let i := fpInt s (m * 2 ^ (e - g).toNat) + fpInt t (k * 2 ^ (f - g).toNat)
    fpRoundInt i g

/-- An exact operand rounded. -/
def Fp.round : Fp → Word
  | .nan => fpNan
  | .inf s => fpInf s
  | .zero s => fpZero s
  | .num s m e => fpRound s m e

/-- FMA, FMUL, FADD round once (R255, R256). -/
def fpFma (a b c : Word) : Word := Fp.addRound (Fp.mul (.ofWord a) (.ofWord b)) (.ofWord c)
def fpMul (a b : Word) : Word := (Fp.mul (.ofWord a) (.ofWord b)).round
def fpAdd (a b : Word) : Word := Fp.addRound (.ofWord a) (.ofWord b)

/-- The negated operand. -/
def fpNeg (a : Word) : Word := a ^^^ 0x80000000

/-- FSUB. -/
def fpSub (a b : Word) : Word := fpAdd a (fpNeg b)

/-- FABS of a word: NaN is canonical, a subnormal is zero (R255). -/
def fpAbs (a : Word) : Word :=
  match Fp.ofWord a with
  | .nan => fpNan
  | .zero _ => fpZero false
  | _ => a &&& 0x7FFFFFFF

/-- The order of two operands that are not NaN: less, with −0 equal to +0. -/
def Fp.lt (a b : Fp) : Bool :=
  match a, b with
  | .nan, _ => false
  | _, .nan => false
  | .inf s, .inf t => s && !t
  | .inf s, _ => s
  | _, .inf t => !t
  | .zero _, .zero _ => false
  | .zero _, .num t _ _ => !t
  | .num s _ _, .zero _ => s
  | .num s m e, .num t k f =>
    let g := min e f
    decide (fpInt s (m * 2 ^ (e - g).toNat) < fpInt t (k * 2 ^ (f - g).toNat))

def Fp.isNan : Fp → Bool
  | .nan => true
  | _ => false

/-- FCMPLT, FCMPEQ, FCMPLE, FCMPUN (R257). -/
def fpLt (a b : Word) : Bool := Fp.lt (.ofWord a) (.ofWord b)
def fpUn (a b : Word) : Bool := (Fp.ofWord a).isNan || (Fp.ofWord b).isNan
def fpEq (a b : Word) : Bool := !fpUn a b && !fpLt a b && !fpLt b a
def fpLe (a b : Word) : Bool := !fpUn a b && !fpLt b a

/-- Whether a zero operand is negative. -/
def Fp.negZero : Fp → Bool
  | .zero s => s
  | _ => false

/-- FMIN and FMAX: NaN from either, −0 below +0 (R257). -/
def fpMin (a b : Word) : Word :=
  if fpUn a b then fpNan
  else if fpLt a b || (fpEq a b && (Fp.ofWord a).negZero) then (Fp.ofWord a).round else (Fp.ofWord b).round
def fpMax (a b : Word) : Word :=
  if fpUn a b then fpNan
  else if fpLt b a || (fpEq a b && (Fp.ofWord b).negZero) then (Fp.ofWord a).round else (Fp.ofWord b).round

/-- FCVTI: nearest even, saturating, NaN to 0 (R257). -/
def fpToInt (a : Word) : Word :=
  match Fp.ofWord a with
  | .nan => 0
  | .inf s => if s then 0x80000000 else 0x7FFFFFFF
  | .zero _ => 0
  | .num s m e =>
    let i := fpInt s (roundShift m (min e 64))
    if 2147483647 < i then 0x7FFFFFFF else if i < -2147483648 then 0x80000000 else BitVec.ofInt 32 i

/-- ICVTF: nearest even (R257). -/
def fpOfInt (a : Word) : Word := fpRoundInt a.toInt 0

/-- An exact rational rounded as R255 rounds: 300 bits of quotient and a sticky bit decide the rounding. -/
def fpOfRat (r : Rat) : Word :=
  if r = 0 then 0
  else
    let n := r.num.natAbs
    let sh := 300 + Nat.log2 r.den
    let q := n * 2 ^ sh / r.den
    let s := if n * 2 ^ sh % r.den = 0 then 0 else 1
    fpRound (decide (r < 0)) (2 * q + s) (-(sh : Int) - 1)

/-! ### Correctly rounded functions (R258)

The exact functions are evaluated in fixed point with 512 fractional bits, far beyond the bits that decide the
rounding of a binary32 result; arguments at which the function is rational are taken apart first. -/

def fx : Nat := 512
def fxOne : Int := 2 ^ 512

/-- The product and the quotient in fixed point. -/
def fxMul (a b : Int) : Int := a * b / fxOne
def fxDiv (a b : Int) : Int := a * fxOne / b

/-- Σ over k of (±) t^(2k+1) / (2k+1), the series of atan (alternating) and atanh, `fuel` terms. -/
def fxAtanSeries (alt : Bool) (t2 : Int) : Nat → Nat → Int → Int → Int
  | 0, _, _, acc => acc
  | f + 1, k, p, acc =>
    let term := p / ((2 * k + 1 : Nat) : Int)
    fxAtanSeries alt t2 f (k + 1) (fxMul p t2) (if alt && k % 2 = 1 then acc - term else acc + term)

def fxAtan (t : Int) : Int := fxAtanSeries true (fxMul t t) 180 0 t 0
def fxAtanh (t : Int) : Int := fxAtanSeries false (fxMul t t) 180 0 t 0

/-- π and ln 2. -/
def fxPi : Int := 16 * fxAtan (fxOne / 5) - 4 * fxAtan (fxOne / 239)
def fxLn2 : Int := 2 * fxAtanh (fxOne / 3)

/-- Σ over k of r^k / k!, `fuel` terms. -/
def fxExpSeries (r : Int) : Nat → Nat → Int → Int → Int
  | 0, _, _, acc => acc
  | f + 1, k, p, acc => fxExpSeries r f (k + 1) (fxMul p r / ((k + 1 : Nat) : Int)) (acc + p)

/-- sin and cos of a fixed-point angle: the alternating halves of the exponential series. -/
def fxSinSeries (x2 : Int) : Nat → Nat → Int → Int → Int
  | 0, _, _, acc => acc
  | f + 1, k, p, acc =>
    fxSinSeries x2 f (k + 2) (-(fxMul p x2 / (((k + 1) * (k + 2) : Nat) : Int))) (acc + p)
def fxSin (x : Int) : Int := fxSinSeries (fxMul x x) 60 1 x 0
def fxCos (x : Int) : Int := fxSinSeries (fxMul x x) 60 0 fxOne 0

/-- A fixed-point result rounded. -/
def fpOfFx (i : Int) : Word := fpRoundInt i (-(fx : Int))

/-- RCP (R258). -/
def fpRcp (a : Word) : Word :=
  match Fp.ofWord a with
  | .nan => fpNan
  | .inf s => fpZero s
  | .zero s => fpInf s
  | .num s m e =>
    let q := 2 ^ 80 / m
    fpRound s (2 * q + (if 2 ^ 80 % m = 0 then 0 else 1)) (-80 - e - 1)

/-- The integer square root, bit by bit from 2^(k−1). -/
def isqrtFrom (n : Nat) : Nat → Nat → Nat
  | 0, acc => acc
  | k + 1, acc => isqrtFrom n k (if (acc + 2 ^ k) * (acc + 2 ^ k) ≤ n then acc + 2 ^ k else acc)

/-- RSQRT (R258): 1/√(m × 2^e), with e made even. -/
def fpRsqrt (a : Word) : Word :=
  match Fp.ofWord a with
  | .nan => fpNan
  | .zero s => fpInf s
  | .inf s => if s then fpNan else fpZero false
  | .num true _ _ => fpNan
  | .num false m e =>
    let m' := if e % 2 = 0 then m else 2 * m
    let e' := if e % 2 = 0 then e else e - 1
    let n := 2 ^ 160 / m'
    let r := isqrtFrom n 82 0
    let exact := decide (2 ^ 160 % m' = 0) && decide (r * r = n)
    fpRound false (2 * r + (if exact then 0 else 1)) (-80 - e' / 2 - 1)

/-- The fraction of a turn of ±m × 2^e in units of 2^-512 (exact for every binary32). -/
def turnFrac (s : Bool) (m : Nat) (e : Int) : Int :=
  let i := fpInt s m
  (if 0 ≤ e then 0 else i * 2 ^ ((512 : Int) + e).toNat) % fxOne

/-- sin of a turn fraction f in units of 2^-512, 0 ≤ f < 1, by octants; 0 and ±1 are exact. -/
def fxSinTurn (f : Int) : Int :=
  let eighth := fxOne / 8
  let o := f / eighth
  let rad := fun (d : Int) => fxMul (2 * fxPi) d
  if o = 0 || o = 7 then fxSin (rad (if o = 7 then f - fxOne else f))
  else if o = 1 || o = 2 then fxCos (rad (f - 2 * eighth))
  else if o = 3 || o = 4 then -(fxSin (rad (f - 4 * eighth)))
  else -(fxCos (rad (f - 6 * eighth)))

/-- SIN and COS of turns (R258). -/
def fpSin (a : Word) : Word :=
  match Fp.ofWord a with
  | .nan => fpNan
  | .inf _ => fpNan
  | .zero s => fpZero s
  | .num s m e => fpOfFx (fxSinTurn (turnFrac s m e))
def fpCos (a : Word) : Word :=
  match Fp.ofWord a with
  | .nan => fpNan
  | .inf _ => fpNan
  | .zero _ => 0x3F800000
  | .num s m e => fpOfFx (fxSinTurn ((turnFrac s m e + fxOne / 4) % fxOne))

/-- atan q / 2π for 0 ≤ q ≤ 1 in fixed point, as a fraction of a turn. -/
def fxAtanTurn (q : Int) : Int :=
  let half := fxOne / 2
  let t := if 3 * fxOne < 10 * q then fxDiv (q - half) (fxOne + q / 2) else q
  let base := if 3 * fxOne < 10 * q then fxAtan half else 0
  fxDiv (base + fxAtan t) (2 * fxPi)

/-- The angle of (x, y) for positive magnitudes y = m × 2^e, x = k × 2^f, in [0, 0.25] turns. -/
def fxAngle (m : Nat) (e : Int) (k : Nat) (f : Int) : Int :=
  let g := min e f
  let y : Int := (m * 2 ^ (e - g).toNat : Nat)
  let x : Int := (k * 2 ^ (f - g).toNat : Nat)
  if y = x then fxOne / 8
  else if y < x then fxAtanTurn (y * fxOne / x)
  else fxOne / 4 - fxAtanTurn (x * fxOne / y)

/-- ATAN2 of y and x in turns (R258). -/
def fpAtan2 (y x : Word) : Word :=
  let quarter : Bool → Word := fun s => fpSign s ||| 0x3E800000
  match Fp.ofWord y, Fp.ofWord x with
  | .nan, _ => fpNan
  | _, .nan => fpNan
  | .zero _, .zero t => if t then 0x3F000000 else 0
  | .zero _, .num t _ _ => if t then 0x3F000000 else 0
  | .zero _, .inf t => if t then 0x3F000000 else 0
  | .inf s, .inf t => fpSign s ||| (if t then 0x3EC00000 else 0x3E000000)
  | .inf s, _ => quarter s
  | .num s _ _, .inf t => if t then fpSign s ||| 0x3F000000 else 0
  | .num s _ _, .zero _ => quarter s
  | .num s m e, .num t k f =>
    let a := fxAngle m e k f
    let i := if t then fxOne / 2 - a else a
    fpRound s i.toNat (-(fx : Int))

/-- EXP (R258). -/
def fpExp (a : Word) : Word :=
  match Fp.ofWord a with
  | .nan => fpNan
  | .inf s => if s then 0 else fpInf false
  | .zero _ => 0x3F800000
  | .num s m e =>
    if 8 < (Nat.log2 m : Int) + e then (if s then 0 else fpInf false)
    else
      let x : Int := fpInt s m * fxOne / 2 ^ (-(min e 0)).toNat * 2 ^ (max e 0).toNat
      let k := (x + fxLn2 / 2) / fxLn2
      let r := x - k * fxLn2
      fpRound false (fxExpSeries r 110 0 fxOne 0).toNat (k - (fx : Int))

/-- LOG (R258): ln (m × 2^e) with m in [1, 2). -/
def fpLog (a : Word) : Word :=
  match Fp.ofWord a with
  | .nan => fpNan
  | .zero _ => fpInf true
  | .inf s => if s then fpNan else fpInf false
  | .num true _ _ => fpNan
  | .num false m e =>
    let l := Nat.log2 m
    let one : Int := 2 ^ l
    let t := ((m : Int) - one) * fxOne / ((m : Int) + one)
    fpOfFx ((e + (l : Int)) * fxLn2 + 2 * fxAtanh t)

end Sys2Proof.Machine
end

