-- ==== Sys2Proof/Machine/Operands.lean ====
section
/-!
DEFINITION. Operand forms: little-endian fields of parameter structures (R15), the parameter prefix (R66), flow
keys (R67, R68), signed fields, FP32 words as exact rationals, tables keyed by number, fine-tag arithmetic (R12).
-/
namespace Sys2Proof.Machine

/-- The value of little-endian bytes (R15). -/
def leNat : Bytes → Nat
  | [] => 0
  | b :: t => b.toNat + 256 * leNat t

/-- The little-endian field of `len` bytes at offset `off`; bytes beyond the end read 0. -/
def field (p : Bytes) (off len : Nat) : Nat := leNat ((p.drop off).take len)

/-- The value of big-endian bytes (published standards, R15). -/
def beNat (b : Bytes) : Nat := leNat b.reverse

/-- The big-endian field of `len` bytes at offset `off`. -/
def fieldBE (p : Bytes) (off len : Nat) : Nat := beNat ((p.drop off).take len)

/-- The `len` bytes at offset `off`. -/
def slice (p : Bytes) (off len : Nat) : Bytes := (p.drop off).take len

/-- `n` in `len` little-endian bytes, modulo 256 to the power `len`. -/
def le (len n : Nat) : Bytes :=
  match len with
  | 0 => []
  | k + 1 => BitVec.ofNat 8 n :: le k (n / 256)

/-- `n` in `len` big-endian bytes. -/
def be (len n : Nat) : Bytes := (le len n).reverse

/-- `n` zero bytes. -/
def zeros (n : Nat) : Bytes := List.replicate n 0

/-- Exactly `n` bytes: cut or zero-padded. -/
def fit (n : Nat) (b : Bytes) : Bytes := (b ++ zeros (n - b.length)).take n

/-- An unsigned number of `bits` bits read as two's complement. -/
def signed (bits n : Nat) : Int :=
  if n % 2 ^ bits < 2 ^ (bits - 1) then (n % 2 ^ bits : Nat) else ((n % 2 ^ bits : Nat) : Int) - (2 ^ bits : Nat)

/-- A signed number as an unsigned field of `bits` bits, two's complement. -/
def unsigned (bits : Nat) (i : Int) : Nat := (i % ((2 ^ bits : Nat) : Int)).toNat

/-- A signed number saturated to `bits` bits. -/
def saturate (bits : Nat) (i : Int) : Int :=
  max (-((2 ^ (bits - 1) : Nat) : Int)) (min i (((2 ^ (bits - 1) : Nat) : Int) - 1))

/-- Bit `i` of a number. -/
def bit (n i : Nat) : Bool := n / 2 ^ i % 2 == 1

/-- Bits [hi:lo] of a number. -/
def bits (n hi lo : Nat) : Nat := n / 2 ^ lo % 2 ^ (hi + 1 - lo)

/-- A Boolean as 0 or 1. -/
def b2n (b : Bool) : Nat := if b then 1 else 0

/-- Whether every byte of a field is 0 (R21). -/
def isZero (p : Bytes) (off len : Nat) : Bool := (slice p off len).all (· == 0)

/-- A 32-bit counter that wraps (R118, R244, R399, R478, R566). -/
def bump (n : Nat) : Nat := (n + 1) % 2 ^ 32

/-- A 32-bit counter that saturates (R626). -/
def bumpSat (n : Nat) : Nat := min (n + 1) (2 ^ 32 - 1)

/-- Whether a value lies in a range with both ends included (R23). -/
def inRange (lo hi n : Nat) : Bool := lo ≤ n && n ≤ hi

/-- Whether a signed value lies in a range with both ends included (R23). -/
def inRangeI (lo hi n : Int) : Bool := lo ≤ n && n ≤ hi

/-- An FP32 word as an exact rational, subnormals flushed to zero (R26); none for an infinity or a NaN. -/
def fp32ToRat (w : Word) : Option Rat :=
  let n := w.toNat
  let e := n / 2 ^ 23 % 256
  let m := n % 2 ^ 23
  let sgn : Int := if n / 2 ^ 31 = 1 then -1 else 1
  if e = 255 then none
  else if e = 0 then some 0
  else if e ≥ 150 then some ((sgn * ((2 ^ 23 + m) * 2 ^ (e - 150) : Nat) : Int) : Rat)
  else some (mkRat (sgn * ((2 ^ 23 + m : Nat) : Int)) (2 ^ (150 - e)))

/-- An FP32 parameter within a range with both ends included (R23). A decimal end stands for the FP32 value nearest to it: R365
lists 0.01 both as an end of f_lo and as its default (log 28). -/
def fp32In (lo hi : Rat) (w : Word) : Bool :=
  match fp32ToRat w, fp32ToRat (fpOfRat lo), fp32ToRat (fpOfRat hi) with
  | some v, some a, some b => decide (a ≤ v) && decide (v ≤ b)
  | _, _, _ => false

/-- The absolute value of a rational. -/
def ratAbs (r : Rat) : Rat := if r < 0 then -r else r

/-- A rational limited to ±m. -/
def ratClamp (m r : Rat) : Rat := if r < -m then -m else if m < r then m else r

/-- The sum of a list of rationals. -/
def ratSum (l : List Rat) : Rat := l.foldr (· + ·) 0

/-! ### Fine tags -/

/-- The signed difference of two fine tags (R12). -/
def tagDiff (a b : FineTag) : Int := (a - b).toInt

/-- a is later than b (R12). -/
def tagLater (a b : FineTag) : Bool := decide (0 < tagDiff a b)

/-! ### The parameter prefix -/

/-- Length of the prefix: 12 bytes with TIMED, else 4 (R66). -/
def prefixLen (r : Request) : Nat := if r.flags.getLsbD 0 then 12 else 4

/-- The parameters after the prefix: offsets of every parameter table count from here (R66). -/
def body (r : Request) : Bytes := r.params.drop (prefixLen r)

/-- flow_key (R66). -/
def flowKey (r : Request) : Nat := field r.params 0 4

/-- The kind of the flow key, bits [31:28] (R66). -/
def flowKind (r : Request) : Nat := flowKey r / 2 ^ 28

/-- The object id of the flow key, bits [15:0] (R66). -/
def flowId (r : Request) : Nat := flowKey r % 2 ^ 16

/-- The flow of a request (R68): flow 0 for kind 0, else 1 + ((64 × k + i) mod 1,023). -/
def flowOf (r : Request) : Nat :=
  if flowKind r = 0 then 0 else 1 + (64 * flowKind r + flowId r) % 1023

/-- due as a fine tag, bits [39:0] (R66). -/
def dueTag (r : Request) : FineTag := BitVec.ofNat 40 (field r.params 4 8)

/-- TIMED and BARRIER (R61). -/
def isTimed (r : Request) : Bool := r.flags.getLsbD 0
def isBarrierFlag (r : Request) : Bool := r.flags.getLsbD 1

/-! ### Tables -/

/-- The entry of a table under a key. -/
def tget {α : Type} : Table α → Nat → Option α
  | [], _ => none
  | (k, v) :: t, i => if k = i then some v else tget t i

/-- A table with the entry of a key set; keys stay strictly rising. -/
def tput {α : Type} : Table α → Nat → α → Table α
  | [], k, v => [(k, v)]
  | (k', v') :: t, k, v =>
    if k < k' then (k, v) :: (k', v') :: t
    else if k = k' then (k, v) :: t
    else (k', v') :: tput t k v

/-- A table without the entry of a key. -/
def tdel {α : Type} (t : Table α) (k : Nat) : Table α := t.filter (fun e => e.1 != k)

/-- The entry of a key, or a default where none is listed. -/
def tgetD {α : Type} (t : Table α) (k : Nat) (d : α) : α := (tget t k).getD d

/-- A table with one entry changed, where it is listed. -/
def tmod {α : Type} (t : Table α) (k : Nat) (f : α → α) : Table α :=
  t.map (fun e => if e.1 = k then (e.1, f e.2) else e)

/-- Keys strictly rising: the canonical form of a table. -/
def trising {α : Type} : Table α → Bool
  | [] => true
  | [_] => true
  | a :: b :: t => a.1 < b.1 && trising (b :: t)

end Sys2Proof.Machine
end

