-- ==== Sys2Proof/Machine/Ops.lean ====
section
/-!
DEFINITION. The shared operations of a lane: its time bases, its outputs, the fault log, interrupt causes, Ply
messages and free values.
-/
namespace Sys2Proof.Machine

/-! ### Time bases -/

/-- tc cycles of a stated time: the time base runs at 250 MHz (R6). -/
def usTc (n : Nat) : Nat := 250 * n
def msTc (n : Nat) : Nat := 250000 * n
def secTc (n : Nat) : Nat := 250000000 * n

/-- The increment of Tension's counter per tc in 2^-64 s: 4 ns × (1 + y), y in 2^-48 (R447). Where the exact
value is no whole number of 2^-64 s the rounding is open (log 6). -/
def tickInc (y : Int) : Nat :=
  let num : Int := 4 * 2 ^ 64 * (2 ^ 48 + y)
  let den : Int := 10 ^ 9 * 2 ^ 48
  (num / den).toNat + (if num % den = 0 then 0 else if Config.incRoundUp y then 1 else 0)

/-- Whether Tension runs: in every mode but DORMANT, on a powered lane (R688). -/
def tensionRuns (l : Lane) : Bool :=
  l.powered && l.dieOk && (l.mode.mode != .dormant) && !l.mode.rstnLow && l.mode.supply.heldAt.isNone

/-- `n` tc cycles pass in a lane: the free-running count advances, and Tension's clock by its increment (R447). -/
def advance (n : Nat) (l : Lane) : Lane :=
  { l with
    tc := l.tc + n
    time := { l.time with time := if tensionRuns l then l.time.time + tickInc l.time.y * n else l.time.time } }

/-- The full timestamp of now: bits [79:32] TAI seconds, bits [31:0] fraction (R9). -/
def nowFull (l : Lane) : Nat := l.time.time / 2 ^ 32 % 2 ^ 80

/-- The fine tag of now (R10). -/
def nowTag (l : Lane) : FineTag := BitVec.ofNat 40 (l.time.time / 2 ^ 40)

/-- Now in 2^-24 s of TAI. -/
def nowUnits (l : Lane) : Nat := l.time.time / 2 ^ 40

/-- Microseconds in 2^-24 s, rounded down. -/
def usUnits (us : Nat) : Nat := 2 ^ 24 * us / 1000000

/-- TAI seconds of now. -/
def nowSec (l : Lane) : Nat := l.time.time / 2 ^ 64

/-- Nanoseconds of a time in 2^-64 s, exactly. -/
def timeNs (t : Nat) : Rat := mkRat ((t * 10 ^ 9 : Nat) : Int) (2 ^ 64)

/-- Nanoseconds of a full timestamp (R9), exactly. -/
def fullNs (t : Nat) : Rat := mkRat ((t * 10 ^ 9 : Nat) : Int) (2 ^ 32)

/-- The RTC's time in 2^-64 s: the value last written, counted on at the nominal rate (R449); TAI 0 when never
set. -/
def rtcTime (l : Lane) : Nat :=
  match l.rtc with
  | none => 0
  | some (v, at_) => v + tickInc 0 * (l.tc - at_)

/-! ### Running -/

/-- Streams are decoded, courses aligned and rounds run only in SERVICE, HOLDOVER and DRILL (R688). -/
def serving (l : Lane) : Bool :=
  l.powered && l.dieOk && !l.mode.rstnLow && l.mode.supply.heldAt.isNone &&
    (l.mode.mode == .service || l.mode.mode == .holdover || l.mode.mode == .drill)

/-- The die runs: it is powered, out of reset and not in DORMANT (R534, R548). -/
def dieRuns (l : Lane) : Bool := tensionRuns l

/-- A drill loops a port: test 0 the Ethernet ports, test 1 the serial ports of port_mask (R632, R633). `p` is the
port's bit in the mask. -/
def looped (l : Lane) (p : Nat) : Bool :=
  l.health.drill.any (fun d => bit d.portMask.toNat p && bit d.tests (if p ≤ 11 then 0 else 1))

/-- The lane's member id: 2 × device_index + lane (R532). -/
def memberId (l : Lane) : Nat :=
  2 * (match l.cfg.pair with | some p => p.deviceIndex | none => 0) + l.id.code

/-- The device index of the package (R532). -/
def deviceIndex (l : Lane) : Nat := match l.cfg.pair with | some p => p.deviceIndex | none => 0

/-- The package holds the device lease: implicitly when unpaired, otherwise by the lane lease's holder (R533). -/
def holdsDevice (l : Lane) : Bool := l.cfg.pair.isNone || l.ply.deviceLease.held

/-- The leaseholder: it holds its package's lane lease and its package holds the device lease (R533). -/
def isLeaseholder (l : Lane) : Bool := l.ply.laneLease.held && holdsDevice l

/-! ### Outputs and free values -/

/-- The lane drives something outwards (log 4). -/
def emit (o : Output) (l : Lane) : Lane := { l with out := l.out ++ [o] }

/-- `len` random bytes of the DRBG (R571): a free value, fresh at each draw. -/
def drawRandom (len : Nat) (l : Lane) : Bytes × Lane :=
  (fit len (Config.random l.id l.fresh len), { l with fresh := l.fresh + 1 })

/-! ### Interrupt causes (R649) -/

/-- Whether a vector's holdoff has passed (INT_HOLDOFF). -/
def holdoffPassed (l : Lane) (b : Nat) : Bool :=
  match tget l.host.lastMsg b with
  | none => true
  | some at_ => decide (at_ + usTc l.host.intHoldoff ≤ l.tc)

/-- Sends the MSI-X message of cause `b`, or holds it off (R649). In SPI mode `HOST_IRQN` follows the causes and
no message is sent (R640); a message waits while the hub is lost (log 23). -/
def signalCause (b : Nat) (l : Lane) : Lane :=
  if l.spi || l.host.intMask.getLsbD b then l
  else if l.mode.hubPresent && holdoffPassed l b then
    emit (.msix b) { l with host := { l.host with lastMsg := tput l.host.lastMsg b l.tc } }
  else { l with host := { l.host with heldMsg := if l.host.heldMsg.contains b then l.host.heldMsg else l.host.heldMsg ++ [b] } }

/-- Sets cause bit `b` of INT_CAUSE and signals it while unmasked (R649). -/
def setCause (b : Nat) (l : Lane) : Lane :=
  signalCause b { l with host := { l.host with intCause := l.host.intCause ||| (BitVec.ofNat 11 (2 ^ b)) } }

/-- The cause bits of INT_CAUSE. -/
def causeHfrTx : Nat := 4
def causeHfrRx : Nat := 5
def causeAlarm : Nat := 6
def causeWitness : Nat := 7
def causeMode : Nat := 8
def causeFault : Nat := 9
def causeStarted : Nat := 10

/-! ### The fault log (R630) -/

/-- Appends a record; the newest of 65,536 replaces the oldest (R630). A lasting fault or a tamper record sets
`INT_CAUSE.FAULT`. -/
def logFaultAt (time : Nat) (cls : FaultClass) (res : Resource) (status object : Nat) (alarm : Option Nat)
    (detail : Bytes) (l : Lane) : Lane :=
  let rec_ : FaultRecord :=
    { seq := l.health.nextSeq, status := status, cls := cls, resource := res, time := time, object := object,
      alarm := alarm, detail := detail }
  let log := l.health.log ++ [rec_]
  let l1 := { l with health := { l.health with
    log := log.drop (log.length - 65536), nextSeq := bump l.health.nextSeq } }
  if cls == .lasting || res == .tamper then setCause causeFault l1 else l1

/-- Appends a record at the present time. -/
def logFault (cls : FaultClass) (res : Resource) (status object : Nat) (alarm : Option Nat) (detail : Bytes)
    (l : Lane) : Lane := logFaultAt (nowFull l) cls res status object alarm detail l

/-! ### Ply messages (R548, R549) -/

/-- The versions that a lane negotiates on the Ply links: 1.0 to 1.4 (R553). -/
def plyVersion (l : Lane) : Version := l.ply.version.getD ⟨1, 0⟩

/-- Whether the negotiated version of the Ply links is at least 1.`minor` (R553). -/
def plyAtLeast (l : Lane) (minor : Nat) : Bool := (Version.mk 1 minor).le (plyVersion l)

/-- One frame on link 0 (primary) or link 1 (secondary): the link sequence, then the message (R548). -/
def plyFrame (k : Nat) (m : Option PlyMsg) (l : Lane) : Lane :=
  let lk := if k = 0 then l.ply.link0 else l.ply.link1
  let lk' := { lk with txSeq := bump lk.txSeq, lastSent := l.tc, sent := ((lk.txSeq, m) :: lk.sent).take 8 }
  emit (.ply k lk.txSeq m)
    { l with ply := if k = 0 then { l.ply with link0 := lk' } else { l.ply with link1 := lk' } }

/-- RENEW, RENEW_ACK, RELEASE and YIELD travel on both links (R548). -/
def onBothLinks : PlyBody → Bool
  | .renew .. | .renewAck .. | .release .. | .yield .. => true
  | _ => false

/-- Sends a message to the other lane of the package: on both links, or on the primary link, or on the secondary
while the primary is lost (R548). A lane sends only while its die runs. -/
def plySend (lease : Nat) (b : PlyBody) (l : Lane) : Lane :=
  if dieRuns l then
    let m : PlyMsg := { sender := memberId l, lease := lease, body := b }
    if onBothLinks b then plyFrame 1 (some m) (plyFrame 0 (some m) l)
    else if l.ply.link0.up then plyFrame 0 (some m) l
    else plyFrame 1 (some m) l
  else l

/-- The Azwell class of a message (R549). -/
def azReliable : PlyBody → Bool
  | .yield .. | .release .. | .offer .. | .accept .. | .digest .. | .tamper .. | .mirrorPins .. | .mirrorGoose ..
  | .mirrorCourse .. | .pullReq .. | .pullData .. | .check .. => true
  | _ => false

/-- Sends an Azwell datagram to a peer: member 0 to 3, or 0xFE for a witness (R550, R551). While Selvedge is
ZEROISED Azwell cannot authenticate and sends nothing (R589). -/
def azSend (dest : Nat) (reliable : Bool) (msgs : List PlyMsg) (l : Lane) : Lane :=
  if l.keys.zeroised || !dieRuns l then l
  else
    let p := tgetD l.ply.az dest .reset
    let seq := p.txSeq + 1
    let rseq := if reliable then p.txRseq + 1 else 0
    let p' := { p with
      txSeq := seq
      txRseq := if reliable then p.txRseq + 1 else p.txRseq
      pending := if reliable then p.pending ++ [{ rseq := rseq, msgs := msgs, sentAt := l.tc, resends := 0 }]
        else p.pending }
    emit (.azwell dest seq rseq p.rxRseq msgs) { l with ply := { l.ply with az := tput l.ply.az dest p' } }

/-- The members of the partner package (R532). -/
def partnerMembers (l : Lane) : List Nat :=
  match l.cfg.pair with
  | none => []
  | some p => [2 * (1 - p.deviceIndex), 2 * (1 - p.deviceIndex) + 1]

/-- Sends one message to both lanes of the partner package over Azwell. -/
def azSendPartners (lease : Nat) (b : PlyBody) (l : Lane) : Lane :=
  (partnerMembers l).foldl
    (fun acc m => azSend m (azReliable b) [{ sender := memberId acc, lease := lease, body := b }] acc) l

end Sys2Proof.Machine
end

