-- ==== Sys2Proof/Machine/QueueOps.lean ====
section
/-!
DEFINITION. The queues (chapter 04): depth, writing an item, taking an item, and pause (R150 to R166).
-/
namespace Sys2Proof.Machine

/-- The default sizes of R156: ring entries and spill MiB. -/
def queueSizes (n : Nat) : Nat × Nat :=
  if n ≤ 3 then (1024, 128)
  else if n ≤ 11 then (512, 32)
  else if n ≤ 19 then (64, 1)
  else if n ≤ 21 then (128, 4)
  else if n ≤ 25 then (256, 16)
  else if n ≤ 29 then (512, 16)
  else if n ≤ 37 then (256, 8)
  else if n ≤ 45 then (32, 1)
  else if n ≤ 47 then (64, 1)
  else if n ≤ 55 then (128, 2)
  else if n = 56 then (256, 8)
  else (512, 14)

/-- D of R155. -/
def queueDepth (ring spill : Nat) : Nat := 64 + ring + 16384 * spill

/-- The settings of a queue before any QUEUE_SET (R156, R157). -/
def queueDflt (n : Nat) : QueueCfg :=
  let z := queueSizes n
  let d := queueDepth z.1 z.2
  { ring := z.1, spill := z.2, pauseEnable := false, pauseQuanta := 4096, highWm := 3 * d / 4, lowWm := d / 2 }

/-- The pending settings of a queue: what QUEUE_SET has set, in force from the next START as to the sizes (R158). -/
def queueCfg (l : Lane) (n : Nat) : QueueCfg := tgetD l.cfg.queues n (queueDflt n)

/-- The sizes in force: those that START applied (R158). -/
def queueInForce (l : Lane) (n : Nat) : Nat × Nat := tgetD l.queueSizes n (queueSizes n)

/-- D of the queue as it stands. -/
def depthLimit (l : Lane) (n : Nat) : Nat := queueDepth (queueInForce l n).1 (queueInForce l n).2

def queueOf (l : Lane) (n : Nat) : Queue := tgetD l.queues n .empty

def setQueue (n : Nat) (q : Queue) (l : Lane) : Lane := { l with queues := tput l.queues n q }

/-- Entries held: those of the items not yet read, and the producer's partial item (R159). -/
def queueHeld (q : Queue) : Nat := (q.items.map (·.entries)).sum - q.read + q.partialLen

/-- Entries of an item of `len` bytes: its data entries and the trailer (R151). -/
def frameEntries (len : Nat) : Nat := (len + 63) / 64 + 1
def packetEntries (len : Nat) : Nat := (len + 63) / 64

/-- An item written whole into a queue with room: its counters, and whether an entry of it passes the spill region,
which it does when the entries ahead fill the head stage and the ring (R152, R159). -/
def appendItem (ring spill : Nat) (entries : Nat) (p : QPayload) (q : Queue) : Queue :=
  let held := queueHeld q + entries
  let sp := decide (32 + ring < held) && spill != 0
  { q with
    items := q.items ++ [{ entries := entries, spilled := sp, payload := p }]
    maxDepth := max q.maxDepth held
    enqueued := bump q.enqueued
    spillItems := if sp then bump q.spillItems else q.spillItems }

/-- Whether a waiting producer's item can be written now: it fits, or the queue is empty and the item passes
through it entry by entry (R154, R160). -/
def roomFor (limit entries : Nat) (q : Queue) : Bool := queueHeld q + entries ≤ limit || queueHeld q == 0

/-- A producer that never waits writes an item: dropped where the producer is in the drop of R162 and R165 or where
the queue fills, else appended. -/
def enqueueOrDrop (n entries : Nat) (p : QPayload) (l : Lane) : Lane :=
  let q := { queueOf l n with partialLen := 0 }
  if q.dropping then setQueue n { q with dropping := false } l
  else if queueHeld q + entries ≤ depthLimit l n then
    setQueue n (appendItem (queueInForce l n).1 (queueInForce l n).2 entries p q) l
  else setQueue n { q with droppedFull := bump q.droppedFull } l

/-- A producer that waits writes an item (R160, R161): behind the items that already wait. -/
def enqueueOrWait (n entries : Nat) (p : QPayload) (l : Lane) : Lane :=
  let q := queueOf l n
  if q.waiting.isEmpty && roomFor (depthLimit l n) entries q then
    setQueue n (appendItem (queueInForce l n).1 (queueInForce l n).2 entries p q) l
  else setQueue n { q with waiting := q.waiting ++ [{ entries := entries, spilled := false, payload := p }] } l

/-- The items that wait and fit now are written, oldest first (R160). -/
def admitWaiting (limit ring spill : Nat) : List QItem → Queue → Queue
  | [], q => { q with waiting := [] }
  | i :: t, q =>
    if roomFor limit i.entries q then admitWaiting limit ring spill t (appendItem ring spill i.entries i.payload q)
    else { q with waiting := i :: t }

/-- A waiting producer's handshake completes when the queue has room (R160). -/
def unblock (n : Nat) (l : Lane) : Lane :=
  let q := queueOf l n
  setQueue n (admitWaiting (depthLimit l n) (queueInForce l n).1 (queueInForce l n).2 q.waiting q) l

/-- Below high_wm the next rise to it is signalled again (R163). -/
def noteDepth (n : Nat) (l : Lane) : Lane :=
  let q := queueOf l n
  setQueue n { q with highSeen := q.highSeen && (queueCfg l n).highWm ≤ queueHeld q } l

/-- The consumer takes the oldest item whole; producers that wait go on (R153, R160). -/
def popItem (n : Nat) (l : Lane) : Lane :=
  let q := queueOf l n
  unblock n (noteDepth n (setQueue n { q with items := q.items.tail, read := 0, discarded := false } l))

/-- Whether a producer that waits could write an item now (R160). -/
def canEnqueue (n entries : Nat) (l : Lane) : Bool :=
  (queueOf l n).waiting.isEmpty && roomFor (depthLimit l n) entries (queueOf l n)

/-- The oldest item of a queue. -/
def headItem (l : Lane) (n : Nat) : Option QItem := (queueOf l n).items.head?

end Sys2Proof.Machine
end

