-- ==== Sys2Proof/Machine/Flags.lean ====
section
/-!
DEFINITION. The flags a lane raises: alarm ids with their holds and pins (R381 to R386), the GOOSE events that
alarms start (R387 to R390), and `OWN` (R379).
-/
namespace Sys2Proof.Machine

/-- The fixed classes of the system alarms (R382, R567). Ids that R382 does not list have none. -/
def sysClass (id : Nat) : Option AlarmClass :=
  if id = 256 || id = 257 || id = 258 then some .ochre
  else if id = 259 || id = 260 then some .slate
  else if id = 261 || id = 262 then some .ochre
  else if id = 263 then some .slate
  else if 264 ≤ id && id ≤ 267 then some .ochre
  else if id = 268 then some .slate
  else if id = 269 then some .ochre
  else if id = 270 then some .slate
  else if 288 ≤ id && id ≤ 290 then some .ochre
  else if id = 291 then some .slate
  else if id = 292 then some .ochre
  else if id = 293 then some .slate
  else if 304 ≤ id && id ≤ 325 then some .ochre
  else if id = 326 || id = 327 then some .slate
  else if 336 ≤ id && id ≤ 338 then some .ochre
  else if id = 339 then some .slate
  else if id = 340 then some .ochre
  else if id = 341 then some .slate
  else if 342 ≤ id && id ≤ 344 then some .ochre
  else if id = 345 then some .slate
  else if id = 352 then some .madder
  else if id = 353 then some .ochre
  else if id = 354 then some .slate
  else if id = 355 then some .ochre
  else if id = 360 then some .ochre
  else if id = 361 then some .slate
  else if id = 362 || id = 363 then some .ochre
  else if id = 364 then some .slate
  else if id = 365 then some .ochre
  else if id = 368 then some .ochre
  else if id = 369 || id = 370 then some .slate
  else if id = 371 || id = 376 then some .ochre
  else none

/-- The routing of an id: as set, else the defaults of R384 with a system alarm's fixed class. -/
def routeOf (l : Lane) (id : Nat) : AlarmRoute :=
  tgetD l.cfg.routes id { cls := (sysClass id).getD .slate, pins := 0, holdMs := 100 }

/-- Whether an id is active (R383). -/
def alarmActive (l : Lane) (id : Nat) : Bool := (tget l.publish.active id).isSome

/-- The pins that the lane's own alarm state asks for: pin n is high while an active Madder id routes to it
(R25, R385). -/
def ownPins (l : Lane) : BitVec 8 :=
  l.publish.active.foldl
    (fun acc e => if (routeOf l e.1).cls == .madder then acc ||| (routeOf l e.1).pins else acc) 0

/-- Alarm pins and `OWN`: low in START, DORMANT, SALVAGE or reset (R379); from the lane's own state while it holds
the lease, and as mirrored otherwise (R378). A change of the holder's pins is mirrored over Ply (R400). -/
def refreshPins (l : Lane) : Lane :=
  let run := serving l
  let holder := isLeaseholder l
  let pins := if !run then 0 else if holder then ownPins l else l.publish.mirrorPins
  let l1 := { l with publish := { l.publish with pins := pins, own := run && holder } }
  if run && holder && pins != l.publish.pins then plySend 0xFF (.mirrorPins pins.toNat) l1 else l1

/-! ### GOOSE (R387 to R390) -/

/-- sqNum and stNum wrap from 0xFFFF_FFFF to 1 (R389). -/
def gooseNext (n : Nat) : Nat := if n = 2 ^ 32 - 1 then 1 else n + 1

/-- The running state of a publication: stNum starts at 1 after START (R403). -/
def gooseRun (l : Lane) (n : Nat) : GooseRun :=
  tgetD l.publish.goose n
    { stNum := 1, sqNum := 0, framesSent := 0, intervalMs := 0, nextAt := 0, eventTime := 0, mirrored := none }

/-- The member states of a publication as a mask, bit i for member i (R388, R400). -/
def memberBits (l : Lane) (ms : List Nat) : List Bool := ms.map (alarmActive l)

/-- A list of Booleans as a number, first the least significant bit. -/
def boolsNat : List Bool → Nat
  | [] => 0
  | b :: t => b2n b + 2 * boolsNat t

/-- The link of an Ethernet port is up (R483). -/
def linkUp (l : Lane) (n : Nat) : Bool := (tget l.ports.eth n).any (·.up)

/-- The pause timer of an Ethernet port runs (R486). -/
def linkPaused (l : Lane) (n : Nat) : Bool := (tget l.ports.eth n).any (·.pausedUntil.isSome)

/-- A frame of a publication leaves (R390): by the fast path from the held template, counted where the link is down
(R483) and waiting while the port is paused (R486), or through the port's egress queue. -/
def sendGoose (p : GoosePub) (f : GooseFrame) (l : Lane) : Lane :=
  if f.fast then
    if linkUp l p.port then
      if linkPaused l p.port then
        { l with ports := { l.ports with eth := tmod l.ports.eth p.port (fun e => { e with fastHeld := e.fastHeld ++ [f] }) } }
      else emit (.goose f) l
    else { l with ports := { l.ports with eth := tmod l.ports.eth p.port (fun e =>
             { e with counters := { e.counters with txLinkDown := bump e.counters.txLinkDown } }) } }
  else
    let len := Config.gooseLength p
    enqueueOrWait (26 + p.port) (frameEntries len) (.egress (.goose f) len false none) l

/-- Transmits publication `n` with the numbers of `r`, followed by `interval` ms: timeAllowedtoLive is twice the
interval that follows (R389). The holder mirrors it over Ply (R400). Only the leaseholder transmits (R378). -/
def gooseTransmit (n : Nat) (p : GoosePub) (r : GooseRun) (interval : Nat) (fast : Bool) (l : Lane) : Lane :=
  if serving l && isLeaseholder l then
    let ms := memberBits l p.members
    let r' := { r with framesSent := bump r.framesSent, intervalMs := interval, nextAt := l.tc + msTc interval }
    let l1 := { l with publish := { l.publish with goose := tput l.publish.goose n r' } }
    let f : GooseFrame := ⟨n, r.stNum, r.sqNum, 2 * interval, r.eventTime, ms, fast⟩
    let l2 := sendGoose p f l1
    plySend 0xFF (.mirrorGoose n r.stNum r.sqNum interval (boolsNat ms)) l2
  else { l with publish := { l.publish with goose := tput l.publish.goose n r } }

/-- An event of publication `n`: stNum rises, sqNum is 0, and it transmits at once with the first repeat after
t_min_ms (R387, R389). -/
def gooseStart (n : Nat) (p : GoosePub) (fast : Bool) (l : Lane) : Lane :=
  let r := gooseRun l n
  gooseTransmit n p { r with stNum := gooseNext r.stNum, sqNum := 0, eventTime := nowFull l } p.tMinMs fast l

/-- The events that a change of the named ids starts, publication by publication in ascending number; one event
for all members that change together (R389), by the fast path where one of the `fast` ids, activated Madder ids, is
a member (R390). The lane's publications run only while it holds the lease (R378); a standby notes the time of the
event, which a later takeover sends (R388, R401). -/
def gooseEvent (ids fast : List Nat) (l : Lane) : Lane :=
  if serving l && isLeaseholder l then
    l.cfg.goose.foldl
      (fun acc e =>
        if e.2.enable && e.2.members.any (ids.contains ·) then
          gooseStart e.1 e.2 (e.2.members.any (fast.contains ·)) acc
        else acc) l
  else if serving l then
    let note := fun (t : Table GooseRun) (e : Nat × GoosePub) =>
      if e.2.enable && e.2.members.any (ids.contains ·) then tput t e.1 { gooseRun l e.1 with eventTime := nowFull l }
      else t
    { l with publish := { l.publish with goose := l.cfg.goose.foldl note l.publish.goose } }
  else l

/-- The Madder ids among some (R390). -/
def madderIds (l : Lane) (ids : List Nat) : List Nat := ids.filter (fun id => (routeOf l id).cls == .madder)

/-! ### Activation and clearing (R383, R386) -/

/-- The record and the interrupt of an activation or a clear, for an id whose class is not off (R386). -/
def alarmRecord (on : Bool) (id : Nat) (l : Lane) : Lane :=
  if (routeOf l id).cls == .off then l
  else setCause causeAlarm
    (logFault (if on then .alarmOn else .alarmOff) .none 0 id (some id) [] l)

/-- The instant at which an id becomes active (R416): of the course whose round raised it, or now. -/
def alarmInstant (l : Lane) (st : AlarmState) : Int :=
  match (st.parts.head?.bind (tget l.array.parts)).bind (·.round) with
  | some r => (r.course.instant : Nat)
  | none => (nowUnits l : Nat)

/-- An inactive id becomes active: its state, its record and interrupt, and the pins (R383, R385, R386); the recorder
sees it (R416). -/
def alarmOn (id : Nat) (st : AlarmState) (l : Lane) : Lane :=
  let l1 := { l with
    publish := { l.publish with active := tput l.publish.active id st }
    swatch := { l.swatch with trigFeed := l.swatch.trigFeed ++ [.alarm id (alarmInstant l st)] } }
  refreshPins (alarmRecord true id l1)

/-- Makes an inactive id active, with the GOOSE event that follows (R383, R389, R390). -/
def activate (id : Nat) (st : AlarmState) (l : Lane) : Lane :=
  gooseEvent [id] (madderIds l [id]) (alarmOn id st l)

/-- An active id becomes inactive: its record and interrupt, and the pins (R383, R385, R386). -/
def clearActive (id : Nat) (l : Lane) : Lane :=
  refreshPins (alarmRecord false id { l with publish := { l.publish with active := tdel l.publish.active id } })

/-- Makes an active id inactive, with the GOOSE event that follows (R383, R389). -/
def deactivate (id : Nat) (l : Lane) : Lane := gooseEvent [id] [] (clearActive id l)

/-- The time for which a block holds an event of the id: hold_ms, or the time that the rule states (R382, R383):
1 s for 339, 341, 368 and 369 (R567, R622, R623). -/
def eventHoldMs (l : Lane) (id : Nat) : Nat :=
  if id = 339 || id = 341 || id = 368 || id = 369 then 1000 else (routeOf l id).holdMs

/-- A system alarm raised as an event: active for its hold from its latest event (R382, R383). -/
def raiseEvent (id : Nat) (l : Lane) : Lane :=
  let til := l.tc + msTc (eventHoldMs l id)
  match tget l.publish.active id with
  | some st => { l with publish := { l.publish with active := tput l.publish.active id { st with eventUntil := til } } }
  | none => activate id { since := l.tc, parts := [], cond := false, eventUntil := til } l

/-- The owning block holds a system alarm raised while its condition lasts (R383). -/
def raiseCond (id : Nat) (l : Lane) : Lane :=
  match tget l.publish.active id with
  | some st => { l with publish := { l.publish with active := tput l.publish.active id { st with cond := true } } }
  | none => activate id { since := l.tc, parts := [], cond := true, eventUntil := l.tc } l

/-- Whether an active id becomes inactive now: nothing holds it and hold_ms has passed since it became active
(R383). -/
def alarmDone (l : Lane) (id : Nat) (st : AlarmState) : Bool :=
  st.parts.isEmpty && !st.cond && decide (st.eventUntil ≤ l.tc) &&
    decide (st.since + msTc (routeOf l id).holdMs ≤ l.tc)

/-- Clears an id that nothing holds any more (R383). -/
def settleAlarm (id : Nat) (l : Lane) : Lane :=
  match tget l.publish.active id with
  | some st => if alarmDone l id st then deactivate id l else l
  | none => l

/-- The block stops holding a system alarm (R383). -/
def dropCond (id : Nat) (l : Lane) : Lane :=
  match tget l.publish.active id with
  | some st =>
    settleAlarm id { l with publish := { l.publish with active := tput l.publish.active id { st with cond := false } } }
  | none => l

/-- The alarm follows its condition. -/
def condAlarm (id : Nat) (c : Bool) (l : Lane) : Lane := if c then raiseCond id l else dropCond id l

/-- An ALARM of partition `p`: its partition holds the id raised from now on (R274, R383). The GOOSE events of a row
are `rowAlarms`' part. -/
def raisePattern (p id : Nat) (l : Lane) : Lane :=
  match tget l.publish.active id with
  | some st =>
    let parts := if st.parts.contains p then st.parts else st.parts ++ [p]
    { l with publish := { l.publish with active := tput l.publish.active id { st with parts := parts } } }
  | none => alarmOn id { since := l.tc, parts := [p], cond := false, eventUntil := l.tc } l

/-- Partition `p` stops holding some ids at the end of Bind-off of its clean round that did not raise them (R383);
those that nothing holds any more clear together, as one GOOSE event (R389). -/
def releasePattern (p : Nat) (ids : List Nat) (l : Lane) : Lane :=
  let drop := fun (st : AlarmState) => { st with parts := st.parts.filter (· != p) }
  let l1 := { l with publish := { l.publish with active := ids.foldl (fun t id => tmod t id drop) l.publish.active } }
  let gone := ids.filter (fun id => ((tget l1.publish.active id).map (alarmDone l1 id)).getD false)
  gooseEvent gone [] (gone.foldl (fun acc id => clearActive id acc) l1)

/-- A lasting fault: a fault-log record, alarm 368 for 1 s, and the lasting count of the resource (R622, R635). -/
def lastingFault (res : Resource) (object : Nat) (l : Lane) : Lane :=
  let l1 := logFault .lasting res (Status.faultLasting).code object none [] l
  let l2 := { l1 with
    health := { l1.health with lasting := tput l1.health.lasting res.code (tgetD l1.health.lasting res.code 0 + 1) }
    mode := { l1.mode with lastingSinceStart := l1.mode.lastingSinceStart + 1 } }
  raiseEvent 368 l2

/-- A transient error of a resource: a record, its count, and Slate alarm 369 at the sixteenth within 3,600 s,
after which the window restarts (R621, R623). -/
def transientFault (res : Resource) (object : Nat) (l : Lane) : Lane :=
  let key := (res.code, object)
  let l1 := logFault .transient res 0 object none [] l
  let old := ((l1.health.transientTimes.find? (fun e => e.1 == key)).map (·.2)).getD []
  let recent := (old.filter (fun t => decide (l1.tc ≤ t + secTc 3600))) ++ [l1.tc]
  let full := 16 ≤ recent.length
  let rest := l1.health.transientTimes.filter (fun e => e.1 != key)
  let l2 := { l1 with health := { l1.health with
    transient := tput l1.health.transient res.code (bump (tgetD l1.health.transient res.code 0))
    transientTimes := rest ++ [(key, if full then [] else recent)] } }
  if full then raiseEvent 369 l2 else l2

end Sys2Proof.Machine
end

