-- ==== Sys2Proof/Machine/GaugeOps.lean ====
section
/-!
DEFINITION. Gauge samples (R626 to R628).
-/
namespace Sys2Proof.Machine

/-- ⌊base × 2^(n/8)⌋ exactly (R628): the largest e with e^8 ≤ base^8 × 2^n, found bit by bit from 2^31. -/
def logEdgeFrom (target : Nat) : Nat → Nat → Nat
  | 0, acc => acc
  | k + 1, acc =>
    let cand := acc + 2 ^ k
    logEdgeFrom target k (if cand ^ 8 ≤ target then cand else acc)

/-- Edge e_i (R628), set to 2^31 − 1 where it would exceed that. -/
def gaugeEdge (c : GaugeCfg) (i : Nat) : Int :=
  let top : Int := 2147483647
  if c.log then
    let b := c.base.toNat
    min top (logEdgeFrom (b ^ 8 * 2 ^ (i * c.width)) 32 0 : Nat)
  else min top (c.base + (i * c.width : Nat))

/-- The bin of a sample (R628): 0 below e_0, i for e_(i−1) ≤ v < e_i, 31 at or above e_30. A bin between two equal
edges takes no sample. -/
def gaugeBin (c : GaugeCfg) (v : Int) : Nat :=
  ((List.range 31).find? (fun i => decide (v < gaugeEdge c i))).getD 31

/-- One sample of a gauge (R626): smallest, largest, count, sum and bin, each saturating. -/
def gaugeAdd (c : GaugeCfg) (now : Nat) (v : Int) (g : GaugeVal) : GaugeVal :=
  let w := saturate 32 v
  let b := gaugeBin c w
  { g with
    min := min g.min w, max := max g.max w, count := bumpSat g.count, sum := saturate 64 (g.sum + w)
    bins := g.bins.set b (bumpSat (g.bins.getD b 0)), lastSample := now }

/-- The contents of gauge `n`; one that no GAUGE_SET has cleared was cleared by START. -/
def gaugeVal (l : Lane) (n : Nat) : GaugeVal := tgetD l.health.gauges n (.cleared l.mode.start.beganAt)

/-- A sample of a source and object reaches every gauge set to it (R626). -/
def gaugeSample (source object : Nat) (v : Int) (l : Lane) : Lane :=
  l.cfg.gauges.foldl (fun acc e =>
    if e.2.source = source && e.2.object = object then
      { acc with health := { acc.health with gauges := tput acc.health.gauges e.1 (gaugeAdd e.2 acc.tc v (gaugeVal acc e.1)) } }
    else acc) l

end Sys2Proof.Machine
end

