-- ==== Sys2Proof/Machine/Crypto.lean ====
section
/-!
DEFINITION. The published functions that the spec names (R26, R98, R571, R573, R581, R582, R584) and does not restate:
SHA-256 and SHA-384 (FIPS 180-4), HMAC (FIPS 198-1), HKDF (RFC 5869), AES-128 and AES-256 (FIPS 197) in CMAC (SP
800-38B) and GMAC (SP 800-38D), and ECDSA and ECDH on P-256 and P-384 (FIPS 186-5, SP 800-56A). Log 7 (PRESUMED: the
values are those of the standards).
-/
namespace Sys2Proof.Machine

/-! ### SHA-2 -/

/-- What SHA-256 and SHA-384 differ in: the round constants, the initial value, and the six rotations and two shifts
of the four sigma functions. -/
structure Sha2 (w : Nat) where
  k : List (BitVec w)
  init : List (BitVec w)
  big0 : Nat × Nat × Nat
  big1 : Nat × Nat × Nat
  small0 : Nat × Nat × Nat
  small1 : Nat × Nat × Nat

/-- The round constants and initial value of SHA-256. -/
def sha256K : List (BitVec 32) :=
  [0x428A2F98, 0x71374491, 0xB5C0FBCF, 0xE9B5DBA5, 0x3956C25B, 0x59F111F1, 0x923F82A4, 0xAB1C5ED5] ++
  [0xD807AA98, 0x12835B01, 0x243185BE, 0x550C7DC3, 0x72BE5D74, 0x80DEB1FE, 0x9BDC06A7, 0xC19BF174] ++
  [0xE49B69C1, 0xEFBE4786, 0x0FC19DC6, 0x240CA1CC, 0x2DE92C6F, 0x4A7484AA, 0x5CB0A9DC, 0x76F988DA] ++
  [0x983E5152, 0xA831C66D, 0xB00327C8, 0xBF597FC7, 0xC6E00BF3, 0xD5A79147, 0x06CA6351, 0x14292967] ++
  [0x27B70A85, 0x2E1B2138, 0x4D2C6DFC, 0x53380D13, 0x650A7354, 0x766A0ABB, 0x81C2C92E, 0x92722C85] ++
  [0xA2BFE8A1, 0xA81A664B, 0xC24B8B70, 0xC76C51A3, 0xD192E819, 0xD6990624, 0xF40E3585, 0x106AA070] ++
  [0x19A4C116, 0x1E376C08, 0x2748774C, 0x34B0BCB5, 0x391C0CB3, 0x4ED8AA4A, 0x5B9CCA4F, 0x682E6FF3] ++
  [0x748F82EE, 0x78A5636F, 0x84C87814, 0x8CC70208, 0x90BEFFFA, 0xA4506CEB, 0xBEF9A3F7, 0xC67178F2]

def sha256Init : List (BitVec 32) :=
  [0x6A09E667, 0xBB67AE85, 0x3C6EF372, 0xA54FF53A, 0x510E527F, 0x9B05688C, 0x1F83D9AB, 0x5BE0CD19]

/-- The round constants and initial value of SHA-384. -/
def sha384K : List (BitVec 64) :=
  [0x428A2F98D728AE22, 0x7137449123EF65CD, 0xB5C0FBCFEC4D3B2F, 0xE9B5DBA58189DBBC, 0x3956C25BF348B538] ++
  [0x59F111F1B605D019, 0x923F82A4AF194F9B, 0xAB1C5ED5DA6D8118, 0xD807AA98A3030242, 0x12835B0145706FBE] ++
  [0x243185BE4EE4B28C, 0x550C7DC3D5FFB4E2, 0x72BE5D74F27B896F, 0x80DEB1FE3B1696B1, 0x9BDC06A725C71235] ++
  [0xC19BF174CF692694, 0xE49B69C19EF14AD2, 0xEFBE4786384F25E3, 0x0FC19DC68B8CD5B5, 0x240CA1CC77AC9C65] ++
  [0x2DE92C6F592B0275, 0x4A7484AA6EA6E483, 0x5CB0A9DCBD41FBD4, 0x76F988DA831153B5, 0x983E5152EE66DFAB] ++
  [0xA831C66D2DB43210, 0xB00327C898FB213F, 0xBF597FC7BEEF0EE4, 0xC6E00BF33DA88FC2, 0xD5A79147930AA725] ++
  [0x06CA6351E003826F, 0x142929670A0E6E70, 0x27B70A8546D22FFC, 0x2E1B21385C26C926, 0x4D2C6DFC5AC42AED] ++
  [0x53380D139D95B3DF, 0x650A73548BAF63DE, 0x766A0ABB3C77B2A8, 0x81C2C92E47EDAEE6, 0x92722C851482353B] ++
  [0xA2BFE8A14CF10364, 0xA81A664BBC423001, 0xC24B8B70D0F89791, 0xC76C51A30654BE30, 0xD192E819D6EF5218] ++
  [0xD69906245565A910, 0xF40E35855771202A, 0x106AA07032BBD1B8, 0x19A4C116B8D2D0C8, 0x1E376C085141AB53] ++
  [0x2748774CDF8EEB99, 0x34B0BCB5E19B48A8, 0x391C0CB3C5C95A63, 0x4ED8AA4AE3418ACB, 0x5B9CCA4F7763E373] ++
  [0x682E6FF3D6B2B8A3, 0x748F82EE5DEFB2FC, 0x78A5636F43172F60, 0x84C87814A1F0AB72, 0x8CC702081A6439EC] ++
  [0x90BEFFFA23631E28, 0xA4506CEBDE82BDE9, 0xBEF9A3F7B2C67915, 0xC67178F2E372532B, 0xCA273ECEEA26619C] ++
  [0xD186B8C721C0C207, 0xEADA7DD6CDE0EB1E, 0xF57D4F7FEE6ED178, 0x06F067AA72176FBA, 0x0A637DC5A2C898A6] ++
  [0x113F9804BEF90DAE, 0x1B710B35131C471B, 0x28DB77F523047D84, 0x32CAAB7B40C72493, 0x3C9EBE0A15C9BEBC] ++
  [0x431D67C49C100D4C, 0x4CC5D4BECB3E42B6, 0x597F299CFC657E2A, 0x5FCB6FAB3AD6FAEC, 0x6C44198C4A475817]

def sha384Init : List (BitVec 64) :=
  [0xCBBB9D5DC1059ED8, 0x629A292A367CD507, 0x9159015A3070DD17, 0x152FECD8F70E5939] ++
  [0x67332667FFC00B31, 0x8EB44A8768581511, 0xDB0C2E0D64F98FA7, 0x47B5481DBEFA4FA4]

def sha256Of : Sha2 32 :=
  { k := sha256K, init := sha256Init, big0 := (2, 13, 22), big1 := (6, 11, 25), small0 := (7, 18, 3),
    small1 := (17, 19, 10) }

def sha384Of : Sha2 64 :=
  { k := sha384K, init := sha384Init, big0 := (28, 34, 39), big1 := (14, 18, 41), small0 := (1, 8, 7),
    small1 := (19, 61, 6) }

/-- The exclusive or of three rotations to the right. -/
def shaBig {w : Nat} (r : Nat × Nat × Nat) (x : BitVec w) : BitVec w :=
  x.rotateRight r.1 ^^^ x.rotateRight r.2.1 ^^^ x.rotateRight r.2.2

/-- The exclusive or of two rotations to the right and a shift. -/
def shaSmall {w : Nat} (r : Nat × Nat × Nat) (x : BitVec w) : BitVec w :=
  x.rotateRight r.1 ^^^ x.rotateRight r.2.1 ^^^ x >>> r.2.2

/-- One round: the eight working variables, and the sixteen words of the schedule whose first is this round's. -/
def shaRound {w : Nat} (c : Sha2 w) (st : List (BitVec w) × List (BitVec w)) (k : BitVec w) :
    List (BitVec w) × List (BitVec w) :=
  let v (i : Nat) : BitVec w := st.1.getD i 0
  let s (i : Nat) : BitVec w := st.2.getD i 0
  let t1 := v 7 + shaBig c.big1 (v 4) + ((v 4 &&& v 5) ^^^ (~~~(v 4) &&& v 6)) + k + s 0
  let t2 := shaBig c.big0 (v 0) + ((v 0 &&& v 1) ^^^ (v 0 &&& v 2) ^^^ (v 1 &&& v 2))
  ([t1 + t2, v 0, v 1, v 2, v 3 + t1, v 4, v 5, v 6],
   st.2.drop 1 ++ [shaSmall c.small1 (s 14) + s 9 + shaSmall c.small0 (s 1) + s 0])

/-- The compression of one block of sixteen words. -/
def shaBlock {w : Nat} (c : Sha2 w) (h block : List (BitVec w)) : List (BitVec w) :=
  (h.zip (c.k.foldl (shaRound c) (h, block)).1).map (fun x => x.1 + x.2)

/-- The message padded to whole blocks of 2w bytes: a one bit, zeros, and the length in bits as w / 4 bytes. -/
def shaPad (w : Nat) (msg : Bytes) : Bytes :=
  let n := msg.length + 1 + w / 4
  msg ++ [0x80] ++ zeros ((2 * w - n % (2 * w)) % (2 * w)) ++ be (w / 4) (8 * msg.length)

/-- The sixteen words of block `i` of a padded message. -/
def shaWords (w : Nat) (p : Bytes) (i : Nat) : List (BitVec w) :=
  (List.range 16).map (fun j => BitVec.ofNat w (fieldBE p (2 * w * i + w / 8 * j) (w / 8)))

/-- The eight words after the last block, big-endian. -/
def sha2 {w : Nat} (c : Sha2 w) (msg : Bytes) : Bytes :=
  let p := shaPad w msg
  ((List.range (p.length / (2 * w))).foldl (fun h i => shaBlock c h (shaWords w p i)) c.init).flatMap
    (fun x => be (w / 8) x.toNat)

/-- SHA-256: 32 bytes. -/
def sha256 (msg : Bytes) : Bytes := fit 32 (sha2 sha256Of msg)

/-- SHA-384: 48 bytes. -/
def sha384 (msg : Bytes) : Bytes := fit 48 (sha2 sha384Of msg)

/-- HMAC-SHA-256: 32 bytes. -/
def hmac (key msg : Bytes) : Bytes :=
  let k := fit 64 (if 64 < key.length then sha256 key else key)
  sha256 (k.map (· ^^^ 0x5C) ++ sha256 (k.map (· ^^^ 0x36) ++ msg))

/-- The blocks T(1) to T(n) of HKDF's expansion, joined; `prev` is the block before. -/
def hkdfExpand (prk info prev : Bytes) : Nat → Nat → Bytes
  | 0, _ => []
  | n + 1, i =>
    let t := hmac prk (prev ++ info ++ be 1 i)
    t ++ hkdfExpand prk info t n (i + 1)

/-- HKDF-SHA-256 (R582). -/
def hkdf (ikm salt info : Bytes) (len : Nat) : Bytes :=
  fit len (hkdfExpand (hmac salt ikm) info [] ((len + 31) / 32) 1)

/-! ### AES -/

/-- The double of an element of AES's field of 256. -/
def xtime (a : Byte) : Byte := (a <<< 1) ^^^ (if a.getLsbD 7 then 0x1B else 0)

/-- The product of two elements of the field, over the bits of the second from the highest. -/
def gfMul (a b : Byte) : Byte :=
  [7, 6, 5, 4, 3, 2, 1, 0].foldl (fun acc i => xtime acc ^^^ (if b.getLsbD i then a else 0)) 0

/-- The substitution: the inverse (the 254th power), then the affine map. -/
def sbox (a : Byte) : Byte :=
  let inv := [true, true, true, true, true, true, false].foldl
    (fun acc m => let q := gfMul acc acc; if m then gfMul q a else q) a
  inv ^^^ inv.rotateLeft 1 ^^^ inv.rotateLeft 2 ^^^ inv.rotateLeft 3 ^^^ inv.rotateLeft 4 ^^^ 0x63

def xorBlocks (a b : Bytes) : Bytes := (a.zip b).map (fun x => x.1 ^^^ x.2)

/-- The substitution and row shift of a round: byte r of column c comes from column c + r. -/
def subShift (s : Bytes) : Bytes := (List.range 16).map (fun i => sbox (s.getD ((i + 4 * (i % 4)) % 16) 0))

/-- The column mix: byte r of a column takes 2, 3, 1, 1 times bytes r, r + 1, r + 2, r + 3 of the column. -/
def mixColumns (s : Bytes) : Bytes :=
  (List.range 16).map (fun i =>
    let x (j : Nat) : Byte := s.getD (i / 4 * 4 + (i + j) % 4) 0
    xtime (x 0) ^^^ xtime (x 1) ^^^ x 1 ^^^ x 2 ^^^ x 3)

/-- The key schedule: `n` more words of four bytes, `nk` words apart, after the words so far; `rcon` is the next round
constant. -/
def keyWords (nk : Nat) : Nat → Byte → List Bytes → List Bytes
  | 0, _, ws => ws
  | n + 1, rcon, ws =>
    let i := ws.length
    let last := ws.getD (i - 1) []
    let t : Bytes :=
      if i % nk = 0 then xorBlocks ((last.drop 1 ++ last.take 1).map sbox) [rcon, 0, 0, 0]
      else if 6 < nk && i % nk == 4 then last.map sbox
      else last
    keyWords nk n (if i % nk = 0 then xtime rcon else rcon) (ws ++ [xorBlocks (ws.getD (i - nk) []) t])

/-- The round keys of a key of 16 or 32 bytes. -/
def roundKeys (key : Bytes) : List Bytes :=
  let nk := key.length / 4
  let ws := keyWords nk (4 * (nk + 7) - nk) 1 ((List.range nk).map (fun i => slice key (4 * i) 4))
  (List.range (nk + 7)).map (fun r => (joined ws (4 * r)))
where
  /-- Four words from word `i` on, joined. -/
  joined (ws : List Bytes) (i : Nat) : Bytes := ((ws.drop i).take 4).flatten

/-- AES of one block of 16 bytes. -/
def aes (key block : Bytes) : Bytes :=
  let ks := roundKeys key
  let n := ks.length - 1
  let mid := (List.range (n - 1)).foldl (fun s r => xorBlocks (mixColumns (subShift s)) (ks.getD (r + 1) []))
    (xorBlocks (fit 16 block) (ks.getD 0 []))
  xorBlocks (subShift mid) (ks.getD n [])

/-- The double of a block in CMAC's field of 2^128. -/
def cmacDouble (b : Bytes) : Bytes :=
  let n := beNat b
  be 16 ((2 * n) % 2 ^ 128 ^^^ (if 2 ^ 127 ≤ n then 0x87 else 0))

/-- The AES-CMAC tag: 16 bytes. -/
def cmac (key msg : Bytes) : Bytes :=
  let k1 := cmacDouble (aes key (zeros 16))
  let n := (msg.length + 15) / 16 - 1
  let last := slice msg (16 * n) 16
  let tail := if last.length = 16 then xorBlocks last k1 else xorBlocks (fit 16 (last ++ [0x80])) (cmacDouble k1)
  fit 16 (aes key (xorBlocks tail
    ((List.range n).foldl (fun c i => aes key (xorBlocks c (slice msg (16 * i) 16))) (zeros 16))))

/-- The product in GMAC's field of 2^128, whose first bit is the highest of the number. -/
def ghashMul (x y : Nat) : Nat :=
  ((List.range 128).foldl (fun (a : Nat × Nat) i =>
    (if bit x (127 - i) then a.1 ^^^ a.2 else a.1, a.2 / 2 ^^^ (if a.2 % 2 = 1 then 0xE1 * 2 ^ 120 else 0))) (0, y)).1

/-- The AES-GMAC tag of a message under a 12-byte IV: 16 bytes. -/
def gmac (key iv msg : Bytes) : Bytes :=
  let h := beNat (aes key (zeros 16))
  let body := (List.range ((msg.length + 15) / 16)).foldl
    (fun y i => ghashMul (y ^^^ beNat (fit 16 (slice msg (16 * i) 16))) h) 0
  let s := ghashMul (body ^^^ (8 * msg.length * 2 ^ 64)) h
  fit 16 (xorBlocks (aes key (fit 12 iv ++ [0, 0, 0, 1])) (be 16 s))

/-! ### P-256 and P-384 -/

/-- A curve y² = x³ − 3x + b over the prime p, its base point and that point's order n. -/
structure Curve where
  p : Nat
  b : Nat
  gx : Nat
  gy : Nat
  n : Nat

def curveP256 : Curve :=
  { p := 0xFFFFFFFF00000001000000000000000000000000FFFFFFFFFFFFFFFFFFFFFFFF
    b := 0x5AC635D8AA3A93E7B3EBBD55769886BC651D06B0CC53B0F63BCE3C3E27D2604B
    gx := 0x6B17D1F2E12C4247F8BCE6E563A440F277037D812DEB33A0F4A13945D898C296
    gy := 0x4FE342E2FE1A7F9B8EE7EB4A7C0F9E162BCE33576B315ECECBB6406837BF51F5
    n := 0xFFFFFFFF00000000FFFFFFFFFFFFFFFFBCE6FAADA7179E84F3B9CAC2FC632551 }

def curveP384 : Curve :=
  { p := 0xFFFFFFFFFFFFFFFFFFFFFFFFFFFFFFFFFFFFFFFFFFFFFFFFFFFFFFFFFFFFFFFEFFFFFFFF0000000000000000FFFFFFFF
    b := 0xB3312FA7E23EE7E4988E056BE3F82D19181D9C6EFE8141120314088F5013875AC656398D8A2ED19D2A85C8EDD3EC2AEF
    gx := 0xAA87CA22BE8B05378EB1C71EF320AD746E1D3B628BA79B9859F741E082542A385502F25DBF55296C3A545E3872760AB7
    gy := 0x3617DE4A96262C6F5D9E98BF9292DC29F8F41DBD289A147CE9DA3113B5F0B8C00A60B1CE1D7E819D7A431D7C90EA0E5F
    n := 0xFFFFFFFFFFFFFFFFFFFFFFFFFFFFFFFFFFFFFFFFFFFFFFFFC7634D81F4372DDF581A0DB248B0A77AECEC196ACCC52973 }

/-- The curve that the model numbers 256 or 384. -/
def curveNamed (curve : Nat) : Curve := if curve = 256 then curveP256 else curveP384

/-- The order n of a curve (R573). -/
def curveOrder (curve : Nat) : Nat := (curveNamed curve).n

/-- A power modulo m, over the bits of an exponent below 2^384 from the highest. -/
def powMod (m a e : Nat) : Nat :=
  (List.range 384).foldl (fun acc i => if bit e (383 - i) then acc * acc % m * a % m else acc * acc % m) 1

/-- The inverse modulo a prime. -/
def invMod (m a : Nat) : Nat := powMod m (a % m) (m - 2)

def subMod (m a b : Nat) : Nat := (a + m - b % m) % m

/-- A point of a curve: none is the point at infinity. -/
abbrev Point := Option (Nat × Nat)

/-- The point where a line of slope k through the first point meets the curve again, reflected. -/
def chord (c : Curve) (k x1 y1 x2 : Nat) : Point :=
  let x := subMod c.p (subMod c.p (k * k) x1) x2
  some (x, subMod c.p (k * subMod c.p x1 x) y1)

/-- The sum of two points. -/
def pointAdd (c : Curve) (a b : Point) : Point :=
  match a, b with
  | none, q => q
  | q, none => q
  | some (x1, y1), some (x2, y2) =>
    if x1 = x2 then
      if (y1 + y2) % c.p = 0 then none
      else chord c ((3 * x1 * x1 + (c.p - 3)) * invMod c.p (2 * y1) % c.p) x1 y1 x1
    else chord c (subMod c.p y2 y1 * invMod c.p (subMod c.p x2 x1) % c.p) x1 y1 x2

/-- A multiple of a point, over the bits of a factor below 2^384 from the highest. -/
def pointMul (c : Curve) (k : Nat) (a : Point) : Point :=
  (List.range 384).foldl (fun acc i =>
    let d := pointAdd c acc acc
    if bit k (383 - i) then pointAdd c d a else d) none

/-- The point that an uncompressed public key 0x04 ‖ X ‖ Y spells. -/
def pointOf (curve : Nat) (pub : Bytes) : Nat × Nat :=
  (fieldBE pub 1 (curve / 8), fieldBE pub (1 + curve / 8) (curve / 8))

/-- Whether an uncompressed point lies on its curve (R573). -/
def onCurve (curve : Nat) (pub : Bytes) : Bool :=
  let c := curveNamed curve
  let q := pointOf curve pub
  q.1 < c.p && q.2 < c.p && q.2 * q.2 % c.p == (q.1 * q.1 * q.1 + (c.p - 3) * q.1 + c.b) % c.p

/-- The uncompressed public point of a private scalar: 65 bytes on P-256 and 97 on P-384 (R580). -/
def ecPublic (curve : Nat) (priv : Bytes) : Bytes :=
  let c := curveNamed curve
  let q := (pointMul c (beNat priv) (some (c.gx, c.gy))).getD (0, 0)
  fit (1 + curve / 4) ([4] ++ be (curve / 8) q.1 ++ be (curve / 8) q.2)

/-- The X coordinate of the ECDH shared point (R582). -/
def ecdhX (curve : Nat) (priv peer : Bytes) : Bytes :=
  fit (curve / 8) (be (curve / 8) ((pointMul (curveNamed curve) (beNat priv) (some (pointOf curve peer))).getD (0, 0)).1)

/-- The digest of a message that ECDSA signs: SHA-256 on P-256 and SHA-384 on P-384 (R303, R577, R584). -/
def ecdsaDigest (curve : Nat) (msg : Bytes) : Nat := beNat (if curve = 256 then sha256 msg else sha384 msg)

/-- An ECDSA signature r ‖ s, big-endian (R584), under a per-message secret number in [1, n − 1]. -/
def ecdsaSign (curve : Nat) (priv msg : Bytes) (secret : Nat) : Bytes :=
  let c := curveNamed curve
  let k := 1 + secret % (c.n - 1)
  let r := ((pointMul c k (some (c.gx, c.gy))).getD (0, 0)).1 % c.n
  let s := invMod c.n k * (ecdsaDigest curve msg + r * beNat priv) % c.n
  fit (curve / 4) (be (curve / 8) r ++ be (curve / 8) s)

/-- Whether an ECDSA signature verifies (R303, R577, R606). -/
def ecdsaVerify (curve : Nat) (pub msg sig : Bytes) : Bool :=
  let c := curveNamed curve
  let r := fieldBE sig 0 (curve / 8)
  let s := fieldBE sig (curve / 8) (curve / 8)
  let w := invMod c.n s
  let sum := pointAdd c (pointMul c (ecdsaDigest curve msg * w % c.n) (some (c.gx, c.gy)))
    (pointMul c (r * w % c.n) (some (pointOf curve pub)))
  inRange 1 (c.n - 1) r && inRange 1 (c.n - 1) s && onCurve curve pub &&
    match sum with
    | some q => q.1 % c.n == r
    | none => false

end Sys2Proof.Machine
end

