-- ==== Sys2Proof/Machine/ParamLen.lean ====
section
/-!
DEFINITION. The lengths of the parameter structures (R686): what check 5 of R72 requires after the prefix.
-/
namespace Sys2Proof.Machine

/-- The length of the common and type parts of STREAM_ADD (R114). A type outside 1 to 4 has no type part: the
length then only covers the common part. -/
def streamPartLen (b : Bytes) (_ : Nat) : Option Nat :=
  match field b 0 1 with
  | 1 => some 64
  | 2 => some 132
  | 3 => some 40
  | 4 => some (120 + 8 * field b 33 1)
  | _ => if 32 ≤ b.length then some b.length else none

/-- PORT_SET's structure depends on the port that the flow key names: 48 bytes for Ethernet (R482), 16 for serial
(R496); a radio id fails by its id and not by length. -/
def portSetLen (id len : Nat) : Nat := if id ≤ 11 then 48 else if id ≤ 19 then 16 else len

/-- The length in bytes that the parameter structure of an opcode has after the prefix, computed from the
parameters where the chapter gives a varying length (R686). -/
def bodyLen (op id : Nat) (b : Bytes) : Option Nat :=
  match op with
  -- chapter 02
  | 0x0000 => some 4
  | 0x0001 => some 8
  | 0x0002 => some 8
  | 0x0003 => some 8
  | 0x0004 => some 4
  | 0x0005 => some 0
  -- chapter 03
  | 0x0200 => streamPartLen b 0
  | 0x0201 =>
    (match field b 0 1 with
     | 0 => (streamPartLen (b.drop 4) 0).map (· + 4)
     | 2 => some (16 + field b 12 4)
     | _ => some 4)
  | 0x0202 => some 4
  | 0x0203 => some 4
  | 0x0204 => some 68
  | 0x0205 => some 12
  -- chapter 05
  | 0x0300 => some 16
  | 0x0301 => some (if field b 1 1 = 1 then 100 else 100 + 4 * field b 4 2)
  | 0x0302 => some 8
  | 0x0303 => some 4
  | 0x0304 => some 4
  -- chapter 06
  | 0x0400 => some 32
  | 0x0401 =>
    (match field b 0 1 with
     | 0 => some 36
     | 1 => some (12 + 8 * field b 8 4)
     | 2 => some 12
     | _ => some 4)
  | 0x0402 => some 4
  | 0x0403 => some 4
  | 0x0404 => some 16
  -- chapters 07 and 08
  | 0x0500 => some (20 + field b 12 4)
  | 0x0501 => some 16
  | 0x0502 => some (12 + field b 8 4)
  | 0x0503 => some 4
  | 0x0504 => some (16 + field b 12 4)
  | 0x0505 => some 12
  | 0x0506 => some 4
  | 0x0507 => some 16
  -- chapters 04 and 14
  | 0x0900 => some (portSetLen id b.length)
  | 0x0901 => some (16 + 8 * field b 0 1 + 4 * field b 1 1 + 16 * field b 2 1)
  | 0x0902 => some 648
  | 0x0903 => some (if field b 0 1 = 1 then 4 + 8 * field b 2 1 else 4)
  | 0x0904 => some 4
  | 0x0905 => some 20
  | 0x0906 => some 4
  | 0x0907 => some 4
  -- chapter 18
  | 0x0100 => some 4
  | 0x0101 => some 8
  | 0x0102 => some 4
  | 0x0103 => some 0
  | 0x0104 => some 8
  | 0x0105 => some 8
  -- chapter 11
  | 0x0600 => some (64 + 32 * field b 50 1 + 24 * field b 52 2 + field b 54 2)
  | 0x0601 => some (68 + 32 * field b 54 1 + 24 * field b 56 2 + field b 58 2)
  | 0x0602 => some 4
  | 0x0603 => some 288
  | 0x0604 => some (4 + 4 * field b 2 2)
  | 0x0605 => some (8 + field b 2 2)
  | 0x0606 => some 4
  -- chapter 12
  | 0x0700 => some 64
  | 0x0701 => some (if field b 0 1 = 0 then 32 + 8 * field b 7 1 + 8 * field b 22 1 else 4)
  | 0x0702 => some 12
  | 0x0703 => some 8
  | 0x0704 => some 8
  | 0x0705 => some (8 + 4 * field b 5 1)
  | 0x0706 => some 12
  | 0x0707 => some 8
  | 0x0708 => some 8
  -- chapter 15
  | 0x0A00 => some (48 + 8 * field b 46 1)
  | 0x0A01 => some 16
  | 0x0A02 => some 8
  | 0x0A03 => some 8
  | 0x0A04 => some 4
  -- chapter 13
  | 0x0800 => some 32
  | 0x0801 => some 24
  | 0x0802 => some 64
  | 0x0803 => some 12
  | 0x0804 => some 4
  -- chapter 16
  | 0x0B00 => some 16
  | 0x0B01 => some 48
  | 0x0B02 => some 4
  | 0x0B03 => some 4
  | 0x0B04 => some 24
  -- chapter 17
  | 0x0C00 => some 8
  | 0x0C01 => some (16 + field b 12 2)
  | 0x0C02 => some (44 + field b 10 2 + field b 8 2)
  | 0x0C03 => some 4
  | 0x0C04 => some 4
  | 0x0C05 => some 36
  | 0x0C06 => some 4
  | 0x0C07 => some 200
  | 0x0C08 => some (if field b 0 1 = 2 then 8 else 4)
  -- chapter 18, update
  | 0x0D00 => some 68
  | 0x0D01 => some (8 + field b 4 4)
  | 0x0D02 => some 8
  | 0x0D03 => some 4
  | 0x0D04 => some 4
  -- chapter 19
  | 0x0E00 => some 16
  | 0x0E01 => some 4
  | 0x0E02 => some 8
  | 0x0E03 => some 8
  | 0x0E04 => some 4
  | _ => none

/-- record_size (R246). -/
def recordSize (count : Nat) : Nat := 16 + 8 * count + 8 * ((count + 7) / 8)

/-- The largest result of an opcode whose length parameter bounds it (R102): WALE_READ, MARK_READ, CONFIG_READ,
FAULT_LOG_READ, SWATCH_INDEX_READ and RESULT_READ. The results of the other opcodes have at most 1,200 bytes (ARRAY_QUERY), less
than any reply datagram holds, and count as 0 here. -/
def maxResult (op : Nat) (b : Bytes) : Nat :=
  match op with
  | 0x0404 => 24 + field b 10 2 * recordSize (field b 9 1)
  | 0x0707 => 24 + field b 4 2 * recordSize (field b 3 1)
  | 0x0104 => 16 + field b 4 4
  | 0x0E02 => 16 + 64 * field b 4 2
  | 0x0708 => 8 + 256 * field b 4 2
  | 0x0507 => 32 + 64 * field b 12 2
  | _ => 0

/-- Whether `param_len` fits the opcode's parameter structure (check 5 of R72). -/
def bodyFits (r : Request) : Bool := bodyLen r.opcode (flowId r) (body r) == some (body r).length

end Sys2Proof.Machine
end

