-- ==== Sys2Proof/Machine/Glegal.lean ====
section
/-!
DEFINITION. Glegal packets: the opcode index (R94), admission (R72), replies and their delivery (R60, R64, R646,
R654, R97), and the one service that every opcode's row runs (R75, R92).
-/
namespace Sys2Proof.Machine

/-! ### The opcode index -/

/-- Whether an opcode of the index is one that version 3.0, 3.1 or 3.2 adds (R71). -/
def opSince (op : Nat) : Version :=
  if op = 0x0003 then ⟨3, 0⟩
  else if op = 0x0005 || op = 0x0B04 || op = 0x0507 then ⟨3, 2⟩
  else ⟨2, 0⟩

/-- The flow kind that an opcode requires (R94); `none` for an opcode that is not defined. NOP, which accepts any
kind from 0 to 10 (R67), is given 16 here. -/
def opKind (op : Nat) : Option Nat :=
  if op = 0x0000 then some 16
  else if op ≤ 0x0005 then some 0
  else if 0x0100 ≤ op && op ≤ 0x0105 then some 0
  else if op = 0x0204 then some 0
  else if 0x0200 ≤ op && op ≤ 0x0205 then some 1
  else if 0x0300 ≤ op && op ≤ 0x0304 then some 1
  else if 0x0400 ≤ op && op ≤ 0x0403 then some 2
  else if op = 0x0404 then some 1
  else if op = 0x0506 then some 0
  else if 0x0500 ≤ op && op ≤ 0x0507 then some 3
  else if op = 0x0600 || op = 0x0601 || op = 0x0602 || op = 0x0606 then some 4
  else if op = 0x0603 then some 5
  else if op = 0x0604 then some 0
  else if op = 0x0605 then some 1
  else if op = 0x0700 || op = 0x0701 || op = 0x0702 then some 6
  else if op = 0x0703 || op = 0x0704 || op = 0x0708 then some 0
  else if op = 0x0705 || op = 0x0706 || op = 0x0707 then some 1
  else if op = 0x0801 then some 7
  else if 0x0800 ≤ op && op ≤ 0x0804 then some 0
  else if 0x0900 ≤ op && op ≤ 0x0904 then some 7
  else if 0x0905 ≤ op && op ≤ 0x0907 then some 8
  else if 0x0A00 ≤ op && op ≤ 0x0A04 then some 7
  else if 0x0B00 ≤ op && op ≤ 0x0B04 then some 0
  else if 0x0C00 ≤ op && op ≤ 0x0C05 then some 9
  else if 0x0C06 ≤ op && op ≤ 0x0C08 then some 0
  else if 0x0D00 ≤ op && op ≤ 0x0D04 then some 0
  else if op = 0x0E00 || op = 0x0E01 then some 10
  else if 0x0E02 ≤ op && op ≤ 0x0E04 then some 0
  else none

/-- The opcodes that are always barriers (R94). -/
def opBarrier (op : Nat) : Bool :=
  op == 0x0101 || op == 0x0102 || op == 0x0103 || op == 0x0B02 || op == 0x0D02 || op == 0x0D04

/-- HELLO, ABORT and CANCEL take no task entry (R77, R94). -/
def opBypass (op : Nat) : Bool := op == 0x0001 || op == 0x0002 || op == 0x0003

/-- The opcodes whose commit point is their dispatch to a control core (kind D of R87, R94). -/
def opCommitsAtDispatch (op : Nat) : Bool :=
  op == 0x0000 || op == 0x0005 || op == 0x0100 || op == 0x0104 || op == 0x0203 || op == 0x0304 || op == 0x0403 ||
  op == 0x0404 || op == 0x0503 || op == 0x0506 || op == 0x0507 || op == 0x0606 || op == 0x0707 || op == 0x0708 ||
  op == 0x0804 || op == 0x0904 || op == 0x0A04 || op == 0x0B03 || op == 0x0C08 || op == 0x0E02 || op == 0x0E04

/-- The opcodes that require the lease: LEASE_HANDOVER alone (R95). -/
def opNeedsLease (op : Nat) : Bool := op == 0x0B02

/-- A request is a barrier by its flag or by its opcode (R81). -/
def isBarrier (r : Request) : Bool := isBarrierFlag r || opBarrier r.opcode

/-- The id range of a flow kind (R67). -/
def kindIdOk (kind id : Nat) : Bool :=
  match kind with
  | 0 => true
  | 1 => inRange 1 16383 id
  | 2 => id ≤ 3
  | 3 => id ≤ 3
  | 4 => id ≤ 63
  | 5 => id ≤ 31
  | 6 => id ≤ 255
  | 7 => id ≤ 21
  | 8 => id ≤ 63
  | 9 => id ≤ 255
  | 10 => id ≤ 63
  | _ => false

/-- The opcodes a mode accepts (R74); MODE_SET is accepted by the mode its parameters name. -/
def modeAccepts (m : Mode) (r : Request) : Bool :=
  let op := r.opcode
  let target := field (body r) 0 1
  match m with
  | .dormant => false
  | .start => op < 0x0100 || op == 0x0100 || op == 0x0102 || (op == 0x0101 && target == 5)
  | .service => true
  | .holdover => true
  | .drill => true
  | .salvage => op < 0x0100 || op == 0x0100 || op == 0x0102 || (op == 0x0101 && target == 1) ||
      (0x0D00 ≤ op && op < 0x0E00) || op == 0x0E02 || op == 0x0E04

/-! ### Admission (R72) -/

/-- The four versions of R69. -/
def versions : List Version := [⟨2, 0⟩, ⟨3, 0⟩, ⟨3, 1⟩, ⟨3, 2⟩]

/-- The negotiated version of a source: 2.0 until it completes a HELLO (R70). -/
def sourceVersion (l : Lane) (src : Nat) : Version := tgetD l.needle.versions src ⟨2, 0⟩

/-- Check 1: one of the four versions and not above the negotiated one (R70). HELLO is accepted at any of the
four (R69). -/
def versionOk (l : Lane) (r : Request) : Bool :=
  versions.contains r.version && (r.opcode == 0x0001 || r.version.le (sourceVersion l r.src))

/-- Check 2: the length field (R72). -/
def lengthOk (r : Request) : Bool :=
  r.paramLen ≤ 65520 && r.paramLen == r.params.length && prefixLen r ≤ r.paramLen

/-- Check 3: the opcode is defined at the request's version (R71, R94). -/
def opcodeOk (r : Request) : Bool := (opKind r.opcode).isSome && (opSince r.opcode).le r.version

/-- The flags of a request: reserved bits 0, no flag newer than the version (R61, R71), and none on the bypass
opcodes (R77). -/
def flagsOk (r : Request) : Bool :=
  (r.flags &&& 0xFFFC == 0) &&
  (!isTimed r || Version.le ⟨3, 0⟩ r.version) &&
  (!isBarrierFlag r || Version.le ⟨3, 1⟩ r.version) &&
  (!opBypass r.opcode || (!isTimed r && !isBarrierFlag r))

/-- The group: 0 to 3, and on a host ring the ring's number (R59, R73). -/
def groupOk (r : Request) : Bool := r.group ≤ 3 && (4 ≤ r.src || r.group == r.src)

/-- The tags of a source that have not yet received their replies (R63): task entries and pending ABORTs. -/
def tagHeld (l : Lane) (src : Nat) (tag : Word) : Bool :=
  l.needle.entries.any (fun e => e.req.src == src && e.req.tag == tag) ||
  l.needle.aborts.any (fun a => a.req.src == src && a.req.tag == tag)

/-- The flow key (R66, R67): kind, reserved bits [27:16] and id. -/
def flowKeyOk (r : Request) : Bool :=
  (flowKey r / 2 ^ 16 % 2 ^ 12 == 0) &&
  (match opKind r.opcode with
   | some 16 => flowKind r ≤ 10 && kindIdOk (flowKind r) (flowId r)
   | some k => flowKind r == k && kindIdOk k (flowId r)
   | none => false)

/-- The due time: reserved bits 0 and not more than 32,767 s after now (R66, R85). -/
def dueOk (l : Lane) (r : Request) : Bool :=
  !isTimed r || (field r.params 9 3 == 0 && decide (tagDiff (dueTag r) (nowTag l) ≤ 32767 * 2 ^ 24))

/-- Check 4 of R72. -/
def fieldsOk (l : Lane) (r : Request) : Bool :=
  flagsOk r && groupOk r && r.rsvd == 0 && !tagHeld l r.src r.tag && flowKeyOk r && dueOk l r

/-- Requests in service: dispatched and not yet replied (R79). -/
def inService (l : Lane) : List TaskEntry :=
  l.needle.entries.filter (fun e => e.phase == .inService || e.phase == .committed)

/-- The timed entries held (R77). -/
def timedHeld (l : Lane) : Nat := (l.needle.entries.filter (fun e => e.phase == .delayed)).length

/-- Check 7: the Needle has room (R78). Bypass opcodes hold no entry (R77). -/
def roomOk (l : Lane) (r : Request) : Bool :=
  opBypass r.opcode || (l.needle.entries.length < 4096 && (!isTimed r || timedHeld l < 512))

/-- A request from a management peer (R96). -/
def isPeer (src : Nat) : Bool := 0x10 ≤ src && src ≤ 0x13

/-! ### Replies -/

/-- The reply packet (R60): for BAD_VERSION the version fields are 3 and 2. -/
def replyPacket (r : Request) (st : Status) (flags : Nat) (result : Bytes) : Bytes :=
  let v : Version := if st == .badVersion then ⟨3, 2⟩ else r.version
  le 1 v.major ++ le 1 v.minor ++ le 2 st.code ++ le 2 flags ++ zeros 2 ++ le 4 r.tag.toNat ++
    le 4 result.length ++ result

/-- The reply flags a version defines (R62, R71): TRANSIENT_SEEN from 3.0 and SUPERSEDED_INFO from 3.1. -/
def replyFlags (v : Version) (late transient supersededInfo : Bool) : Nat :=
  b2n late + 2 * b2n (transient && Version.le ⟨3, 0⟩ v) + 4 * b2n (supersededInfo && Version.le ⟨3, 1⟩ v)

/-- The entries of a ring of this size. -/
def ringSize (r : GlgRing) : Nat := 2 ^ r.sizeLog2

/-- The lane never writes the entry before `GLG_CQ_HEAD` (R647). -/
def cqFull (r : GlgRing) : Bool := (r.cqTail + 1) % ringSize r == r.cqHead

/-- The completion ring's host address (R641 GLG registers). -/
def cqBase (r : GlgRing) : Nat := r.cqBaseLo.toNat / 64 * 64 + 2 ^ 32 * r.cqBaseHi.toNat

/-- The completion entry of a reply (R646), with TRUNCATED or NO_REPLY. -/
def completionEntry (packet : Bytes) (sqIndex cflags : Nat) (phase : Bool) : Bytes :=
  slice packet 8 4 ++ slice packet 2 2 ++ slice packet 4 2 ++ slice packet 12 4 ++
    le 1 sqIndex ++ le 1 cflags ++ zeros 1 ++ le 1 (b2n phase)

/-- Writes a completion at `GLG_CQ_TAIL` and sets its cause; the phase inverts on each wrap (R646, R647). -/
def writeCompletion (n : Nat) (packet : Bytes) (sqIndex cflags : Nat) (l : Lane) : Lane :=
  let r := tgetD l.host.rings n .reset
  let l1 := emit (.hostWrite (cqBase r + 16 * r.cqTail) (completionEntry packet sqIndex cflags r.phase)) l
  let tail := (r.cqTail + 1) % ringSize r
  let r' := { r with cqTail := tail, phase := if tail = 0 then !r.phase else r.phase }
  setCause n { l1 with host := { l1.host with rings := tput l1.host.rings n r' } }

/-- A reply into a host ring (R646): the header and as much of the result as the buffer allows, then the
completion entry. A slot without room for a header takes none of it, and its entry carries NO_REPLY (R645). -/
def completeRing (n : Nat) (slot : HostSlot) (packet : Bytes) (l : Lane) : Lane :=
  if slot.rspLen < 16 then writeCompletion n packet slot.sqIndex 2 l
  else writeCompletion n packet slot.sqIndex (b2n (slot.rspLen < packet.length))
    (emit (.hostWrite slot.rspAddr (packet.take slot.rspLen)) l)

/-- Delivers a ring reply: discarded while the ring is disabled (R644), waiting while the completion ring is full
(R647, R161) or the hub is lost (log 23), else written. -/
def deliverRing (n : Nat) (slot : HostSlot) (packet : Bytes) (l : Lane) : Lane :=
  let r := tgetD l.host.rings n .reset
  if !r.enable then l
  else if cqFull r || !(queueOf l (52 + n)).items.isEmpty || !l.mode.hubPresent then
    enqueueOrWait (52 + n) (packetEntries packet.length) (.reply slot packet) l
  else completeRing n slot packet l

/-- The tag of a datagram under a slot's key (R98): HMAC truncated to 16 bytes, or GMAC whose IV is the sequence
and a constant. None when the slot holds no such key. -/
def authTag (k : KeySlot) (seq const : Nat) (msg : Bytes) : Option Bytes :=
  if k.state != .valid then none
  else if k.type = 3 then some ((hmac k.material msg).take 16)
  else if k.type = 1 || k.type = 2 then some (gmac k.material (le 8 seq ++ le 4 const) msg)
  else none

/-- A reply datagram to a management peer (R97, R98), kept among the peer's last 16 (R100). -/
def deliverPeer (src seq : Nat) (packet : Bytes) (l : Lane) : Lane :=
  match tget l.peers src with
  | none => l
  | some p =>
    let head := le 2 0x474C ++ le 1 1 ++ le 1 p.keySlot ++ le 8 seq ++ packet
    match authTag (tgetD l.keys.slots p.keySlot .dflt) seq 2 head with
    | none => l
    | some t =>
      emit (.mgmt src (head ++ t))
        { l with peers := tput l.peers src { p with replies := ((seq, head ++ t) :: p.replies).take 16 } }

/-- A reply in the SPI mailbox (R654). -/
def deliverMailbox (src : Nat) (packet : Bytes) (l : Lane) : Lane :=
  setCause src { l with host := { l.host with mbx := { l.host.mbx with
    busy := false, done := true, rspLen := packet.length, reply := packet } } }

/-- A bypass reply in MBX_BYP_REPLY, 64 bytes (R654). -/
def deliverBypass (src : Nat) (packet : Bytes) (l : Lane) : Lane :=
  setCause src { l with host := { l.host with mbx := { l.host.mbx with bypDone := true, bypReply := fit 64 packet } } }

/-- Delivers a reply packet to the source of its request; a completion that the disabling of its ring or a reset of
the function has discarded goes nowhere (R644, R655). -/
def deliver (r : Request) (packet : Bytes) (l : Lane) : Lane :=
  if l.host.discard.contains r then
    { l with host := { l.host with discard := l.host.discard.erase r } }
  else
  match r.path with
  | .ring slot => deliverRing r.src slot packet l
  | .mailbox => deliverMailbox r.src packet l
  | .bypass => deliverBypass r.src packet l
  | .peer seq => deliverPeer r.src seq packet l

/-- The task entry of a source's tag. -/
def entryOf (l : Lane) (src : Nat) (tag : Word) : Option TaskEntry :=
  l.needle.entries.find? (fun e => e.req.src == src && e.req.tag == tag)

/-- The Needle without the entries of a source's tag: posting the reply frees the entry and its flow (R77, R91). -/
def freeEntry (src : Nat) (tag : Word) (l : Lane) : Lane :=
  { l with needle := { l.needle with
    entries := l.needle.entries.filter (fun e => !(e.req.src == src && e.req.tag == tag)) } }

/-- Posts the one reply of a request (R64): its flags (R62), its packet (R60), its delivery, and the release of
its task entry (R91). -/
def postReply (r : Request) (st : Status) (supersededInfo : Bool) (result : Bytes) (l : Lane) : Lane :=
  let e := entryOf l r.src r.tag
  let mark := (r.src, r.tag)
  let flags := replyFlags r.version ((e.map (·.lateAbort)).getD false) ((e.map (·.transientSeen)).getD false)
    (supersededInfo || l.pe.info.contains mark)
  let packet := replyPacket r st flags result
  let l1 := { l with pe := { l.pe with info := l.pe.info.filter (· != mark) } }
  deliver r packet (freeEntry r.src r.tag (emit (.reply r.src packet) l1))

/-- A refusal: the reply carries the status and no result (R60). -/
def refuse (r : Request) (st : Status) (l : Lane) : Lane := postReply r st false [] l

/-- A refusal at admission: one reply (R64), which leaves an earlier request of the same tag as it is (R63). -/
def refuseArrival (r : Request) (st : Status) (l : Lane) : Lane :=
  let packet := replyPacket r st 0 []
  deliver r packet (emit (.reply r.src packet) l)

/-! ### Service (R75) -/

/-- The checks at dispatch before the ranges: the mode, then the lease (R75). -/
def dispatchStatus (l : Lane) (r : Request) : Status :=
  if !modeAccepts l.mode.mode r then .wrongMode
  else if opNeedsLease r.opcode && !isLeaseholder l then .notLeaseholder
  else .ok

/-- The number of op values of the opcodes that begin with an op byte. -/
def opCount (op : Nat) : Option Nat :=
  if op = 0x0102 || op = 0x0605 || op = 0x0700 || op = 0x0706 || op = 0x0903 || op = 0x0905 || op = 0x0A03 ||
    op = 0x0B01 || op = 0x0D03 then some 2
  else if op = 0x0500 || op = 0x0504 || op = 0x0701 || op = 0x0C07 then some 3
  else if op = 0x0C08 then some 4
  else if op = 0x0401 then some 5
  else if op = 0x0201 then some 6
  else none

/-- The op byte: at offset 0, in MESH_SLOT_ASSIGN at offset 6 (R530), in MARK_SET at offset 1 (R442). -/
def opByte (r : Request) : Nat :=
  field (body r) (if r.opcode = 0x0A03 then 6 else if r.opcode = 0x0706 then 1 else 0) 1

/-- The op byte of a request lies in its range (R22). -/
def opByteOk (r : Request) : Bool :=
  match opCount r.opcode with
  | some n => opByte r < n
  | none => true

/-- Whether a request is the named command: its opcode, and where the opcode has ops, its op byte (log 8). A request
whose op byte is out of range is served, and refused, by the row of op 0. -/
def names (opcode : Nat) (op : Option Nat) (r : Request) : Bool :=
  r.opcode == opcode &&
    (match op with
     | some o => opByte r == o || (o == 0 && !opByteOk r)
     | none => true)

/-- The status with which a request of an opcode completes before it takes effect: mode and lease (R75), the
length of its structure (R686), the range of its op byte, then the opcode's own check. -/
def serviceStatus (check : Lane → Request → Status) (l : Lane) (r : Request) : Status :=
  match dispatchStatus l r with
  | .ok => if !bodyFits r then .badLength else if !opByteOk r then .badParam else check l r
  | st => st

/-- The service of one request: a request that is not the named command changes nothing; one that fails a check
replies that status and has no other effect (R22, R75); any other takes effect and replies OK with its result. -/
def serve (opcode : Nat) (op : Option Nat) (check : Lane → Request → Status)
    (apply : Request → Lane → Lane × Bytes) (r : Request) (l : Lane) : Lane :=
  if names opcode op r then
    match serviceStatus check l r with
    | .ok => postReply r .ok false (apply r l).2 (apply r l).1
    | st => refuse r st l
  else l

/-- The service of a request that waits for its commit point after its checks (kinds B, F, I, M and W of R87):
`start` begins it and posts no reply. -/
def serveHeld (opcode : Nat) (op : Option Nat) (check : Lane → Request → Status)
    (start : Request → Lane → Lane) (r : Request) (l : Lane) : Lane :=
  if names opcode op r then
    match serviceStatus check l r with
    | .ok => start r l
    | st => refuse r st l
  else l

/-- Marks a request past its commit point (R88). -/
def markCommitted (r : Request) (l : Lane) : Lane :=
  { l with needle := { l.needle with entries := l.needle.entries.map (fun e =>
      if e.req.src == r.src && e.req.tag == r.tag then { e with phase := .committed } else e) } }

/-- The status of a check that must hold: `bad` where it does not, else the rest. -/
def need (c : Bool) (bad : Status) (rest : Status) : Status := if c then rest else bad

end Sys2Proof.Machine
end

