-- ==== Sys2Proof/Machine/SwatchOps.lean ====
section
/-!
DEFINITION. The Swatch recorder's shared operations (chapter 12): segments, rows, records, measurements, and what a
fire does. Instants are counted in 2^-24 s of TAI.
-/
namespace Sys2Proof.Machine

/-! ### Profiles and their derived quantities (R410, R411) -/

def profileRun (l : Lane) (p : Nat) : ProfileRun := tgetD l.swatch.profiles p .zero
def setProfile (p : Nat) (r : ProfileRun) (l : Lane) : Lane :=
  { l with swatch := { l.swatch with profiles := tput l.swatch.profiles p r } }
def profileCfg (l : Lane) (p : Nat) : Option ProfileCfg := tget l.cfg.profiles p
def triggerRun (l : Lane) (i : Nat) : TriggerRun := tgetD l.swatch.triggers i .zero
def setTrigger (i : Nat) (r : TriggerRun) (l : Lane) : Lane :=
  { l with swatch := { l.swatch with triggers := tput l.swatch.triggers i r } }
/-- The records of the index; the mirror in flash holds one entry per KEPT record (R603, R615). -/
def withRecords (t : Table Record) (l : Lane) : Lane :=
  { l with
    swatch := { l.swatch with records := t }
    boot := { l.boot with swatchMirror := t.filter (fun e => !e.2.opened && e.2.flags.getLsbD 5) } }

def setRecord (r : Record) (l : Lane) : Lane := withRecords (tput l.swatch.records r.id r) l

/-- A channel is complex (R105). -/
def channelComplex (l : Lane) (id ch : Nat) : Bool :=
  match tget l.cfg.streams id with
  | none => false
  | some c =>
    match c.part with
    | .pmu _ => ch < 64
    | .sv _ => ch < 8
    | .derived _ kinds => kinds.getD ch 0 == 1
    | _ => false

/-- A channel holds a word and no FP32 number (R105). -/
def channelWord (l : Lane) (id ch : Nat) : Bool :=
  match tget l.cfg.streams id with
  | none => false
  | some c =>
    match c.part with
    | .pmu _ => 112 ≤ ch
    | .derived _ kinds => kinds.getD ch 0 == 3
    | .legacy p => (p.points[ch]?).any (fun x => x.kind != 3)
    | _ => false

/-- The words of a profile's channel entry: two for a complex channel. -/
def entryWords (l : Lane) (c : ProfileCfg) (e : Nat × Nat) : Nat := if c.phasor && channelComplex l e.1 e.2 then 2 else 1

def rateEff (c : ProfileCfg) : Nat := c.rate / c.avgN
def rowsOfMs (c : ProfileCfg) (ms : Nat) : Nat := (ms * rateEff c + 999) / 1000
def rowBytes (l : Lane) (c : ProfileCfg) : Nat :=
  (16 + 4 * (c.channels.map (entryWords l c)).sum + 7) / 8 * 8
def segSize (l : Lane) : Nat := 2 ^ l.swatch.segShift
def segCount (l : Lane) : Nat := 2 ^ 20 * l.swatch.poolMib / segSize l
def rowsPerSeg (l : Lane) (c : ProfileCfg) : Nat := (segSize l - 64) / rowBytes l c
def ringSegments (l : Lane) (c : ProfileCfg) : Nat := (rowsOfMs c c.preMs + rowsPerSeg l c - 1) / rowsPerSeg l c + 1
def writeRate (l : Lane) (c : ProfileCfg) : Nat := rateEff c * rowBytes l c

/-- The instant of row n (R212, R414): n × avg_n / rate, rounded as fine tags are. -/
def rowInstant (rate avg n : Nat) : Int :=
  ((n * avg / rate * 2 ^ 24 + (n * avg % rate * 2 ^ 24 + rate / 2) / rate : Nat) : Int)

/-- The row n with t_n ≤ T < t_(n+1) (R423). -/
def rowOf (c : ProfileCfg) (t : Int) : Nat :=
  let n0 := t.toNat * rateEff c / 2 ^ 24
  ([n0 + 1, n0].find? (fun n => decide (rowInstant c.rate c.avgN n ≤ t))).getD (n0 - 1)

/-- The first row at or after an instant. -/
def rowFrom (c : ProfileCfg) (t : Int) : Nat :=
  let n := rowOf c t
  if t ≤ rowInstant c.rate c.avgN n then n else n + 1

/-! ### Segments (R408, R422) -/

def segOf (l : Lane) (s : Nat) : Option Segment := tget l.swatch.segments s
def setSeg (s : Nat) (x : Segment) (l : Lane) : Lane := { l with swatch := { l.swatch with segments := tput l.swatch.segments s x } }
def freeSegs (ss : List Nat) (l : Lane) : Lane :=
  { l with swatch := { l.swatch with segments := l.swatch.segments.filter (fun e => !ss.contains e.1) } }
def segRows (l : Lane) (s : Nat) : List Row := ((segOf l s).map (·.rows)).getD []

/-- An empty segment of a profile's ring. -/
def blankSeg (l : Lane) (p : Nat) (c : ProfileCfg) (shift : Nat) : Segment :=
  { state := .ring, profile := p, recordId := 0, ordinal := 0, next := none, startRow := 0, shift := shift, rate := c.rate
    avgN := c.avgN, rowBytes := rowBytes l c, channelCount := c.channels.length, trigRow := none, last := false, rows := [] }

/-- The first of `k` segments from `i` on that holds nothing. -/
def freeFrom (l : Lane) (i : Nat) : Nat → Option Nat
  | 0 => none
  | k + 1 => if (segOf l i).isNone then some i else freeFrom l (i + 1) k

def freeSegment (l : Lane) : Option Nat := freeFrom l 0 (segCount l)

/-- A completed record that is not kept and holds segments (R408). -/
def isDone (r : Record) : Bool := !r.opened && !r.flags.getLsbD 5 && !r.segments.isEmpty

/-- A record's segments and its index entry go (R422, R439). -/
def dropRecord (id : Nat) (l : Lane) : Lane :=
  match tget l.swatch.records id with
  | none => l
  | some r =>
    let l1 := freeSegs r.segments l
    withRecords (tdel l1.swatch.records id) l1

/-- R422: a FREE segment, else one of the DONE record with the lowest id when `recycle` is set. -/
def takeSegment (recycle : Bool) (l : Lane) : Option (Nat × Lane) :=
  match freeSegment l with
  | some s => some (s, l)
  | none =>
    if recycle then
      match l.swatch.records.find? (fun e => isDone e.2) with
      | some e => (freeSegment (dropRecord e.1 l)).map (fun s => (s, dropRecord e.1 l))
      | none => none
    else none

/-- Brings a profile's ring up by `k` segments; none where they cannot be taken. -/
def takeRing (p : Nat) (c : ProfileCfg) : Nat → Lane → Option Lane
  | 0, l => some l
  | k + 1, l =>
    match takeSegment c.recycle l with
    | none => none
    | some (s, l1) =>
      let r := profileRun l1 p
      takeRing p c k (setProfile p { r with ring := r.ring ++ [s] } (setSeg s (blankSeg l1 p c r.shift) l1))

/-- The ring's segments are FREE again (R413). -/
def freeRing (p : Nat) (l : Lane) : Lane :=
  let r := profileRun l p
  setProfile p { r with ring := [] } (freeSegs r.ring l)

/-- The ring restarts empty (R413, R426, R435). -/
def emptyRing (p : Nat) (l : Lane) : Lane :=
  (profileRun l p).ring.foldl (fun acc s =>
    match segOf acc s with
    | some x => setSeg s { x with rows := [] } acc
    | none => acc) l

/-- A segment takes one more row of this shift: it has room, and one row rate (R425, R430). -/
def segTakes (per shift : Nat) (x : Segment) : Bool := x.rows.length < per && (x.rows.isEmpty || x.shift == shift)

def addRow (s shift : Nat) (row : Row) (l : Lane) : Lane :=
  match segOf l s with
  | some x => setSeg s { x with shift := shift, rows := x.rows ++ [row] } l
  | none => l

/-- A row of an ARMED profile: into the ring's segment in use, the next unused one, or the oldest, which is cleared. -/
def writeRing (p : Nat) (c : ProfileCfg) (shift : Nat) (row : Row) (l : Lane) : Lane :=
  let r := profileRun l p
  let used := r.ring.takeWhile (fun s => !(segRows l s).isEmpty)
  let per := rowsPerSeg l c
  match used.getLast? with
  | some s =>
    if (segOf l s).any (segTakes per shift) then addRow s shift row l
    else
      match r.ring.drop used.length with
      | u :: _ => addRow u shift row l
      | [] =>
        match r.ring with
        | o :: t => addRow o shift row (setSeg o (blankSeg l p c shift) (setProfile p { r with ring := t ++ [o] } l))
        | [] => l
  | none =>
    match r.ring with
    | s :: _ => addRow s shift row l
    | [] => l

/-! ### Numbers of words -/

/-- An FP32 word for comparison: none for a NaN, an infinity beyond every number. -/
def trigRat (w : Word) : Option Rat :=
  match Fp.ofWord w with
  | .nan => none
  | .inf neg => some (if neg then -(2 ^ 200 : Nat) else ((2 ^ 200 : Nat) : Rat))
  | _ => some ((fp32ToRat w).getD 0)

/-- The component of a value (R410): 0 real, 1 magnitude, 2 angle in degrees, 3 imaginary of a complex value. -/
def component (k : Nat) (w0 w1 : Word) : Word :=
  match k with
  | 1 => Config.polarMag w0 w1
  | 2 => Config.angleDeg w0 w1
  | 3 => w1
  | _ => w0

/-- Wrap into (−180, 180]. -/
def wrapDeg (x : Rat) : Rat := x - 360 * ((x - 180) / 360).ceil

/-- The crossing of bound B between the last false and the first true value (R418). -/
def crossing (b : Word) (a x : TrigVal) : Int :=
  let num := (fp32ToRat (fpSub b a.w0)).getD 0
  let den := (fp32ToRat (fpSub x.w0 a.w0)).getD 0
  let phi := if den = 0 then (0 : Rat) else (fp32ToRat (fpOfRat (num / den))).getD 0
  a.at_ + (phi * (x.at_ - a.at_)).floor

/-- The skew s of a channel (R421), in fine units. -/
def skewOf (l : Lane) (stream ch : Nat) : Int :=
  let t := tgetD l.cfg.skews stream .zero
  ((t.stream + tgetD t.channels ch 0) * (2 ^ 24 : Nat) + 500000000) / 1000000000

/-! ### Measurements (R429) -/

/-- The largest or smallest of instants with numbers; of equals the first. -/
def extreme (better : Rat → Rat → Bool) : List (Int × Rat × Word) → Option (Int × Rat × Word)
  | [] => none
  | x :: t =>
    match extreme better t with
    | none => some x
    | some y => if better y.2.1 x.2.1 then some y else some x

/-- Successive pairs. -/
def pairs {α : Type} (xs : List α) : List (α × α) := xs.zip xs.tail

/-- The positive-going zero crossings of a sequence of values. -/
def zeroCrossings (vs : List TrigVal) : List Int :=
  (pairs vs).filterMap (fun (a, b) => if !fpLt 0 a.w0 && fpLt 0 b.w0 then some (crossing 0 a b) else none)

/-- Seconds between two instants. -/
def secondsBetween (a b : Int) : Rat := mkRat (b - a) (2 ^ 24)

/-- The value and instant of a measurement over the inputs of its channel, in order (R429); none without a usable
value. `rate` counts inputs per second. -/
def measureValue (e : MeasEntry) (rate : Nat) (vs : List (TrigVal × Word)) : Option (Word × Option Int) :=
  let xs := vs.filterMap (fun v => (trigRat v.2).map (fun r => (v.1.at_, r, v.2)))
  match e.kind with
  | 0 => (extreme (fun a b => decide (a < b)) xs).map (fun x => (x.2.2, some x.1))
  | 1 => (extreme (fun a b => decide (b < a)) xs).map (fun x => (x.2.2, some x.1))
  | 2 => if xs.isEmpty then none else some (Config.rmsOf (xs.map (·.2.2)), none)
  | 5 =>
    let ds := (pairs xs).filterMap (fun (a, b) =>
      if a.1 = b.1 then none else some (b.1, (b.2.1 - a.2.1) / secondsBetween a.1 b.1, (0 : Word)))
    (extreme (fun a b => decide (ratAbs b < ratAbs a)) ds).map (fun x => (fpOfRat x.2.1, some x.1))
  | 6 =>
    let ds := (pairs (pairs xs)).map (fun (p, q) => (q.2.1, wrapDeg (q.2.2.1 - 2 * q.1.2.1 + p.1.2.1), (0 : Word)))
    (extreme (fun a b => decide (ratAbs b < ratAbs a)) ds).map (fun x => (fpOfRat x.2.1, some x.1))
  | 7 =>
    let above := xs.filter (fun x => (trigRat e.threshold).any (fun h => decide (h < x.2.1)))
    if xs.isEmpty then none else some (fpOfRat (mkRat (above.length : Nat) rate), above.head?.map (·.1))
  | _ =>
    let cs := zeroCrossings (vs.map (·.1))
    match cs.head?, cs.getLast? with
    | some a, some b =>
      if a = b then none
      else
        let hz := ((cs.length - 1 : Nat) : Rat) / secondsBetween a b
        some (fpOfRat (if e.kind = 3 then hz else 1 / hz), some a)
    | _, _ => none

/-- One measurement of a record: value and offset from T, corrected for skew (R421, R429). -/
def measureEntry (l : Lane) (c : ProfileCfg) (t : Int) (inputs : List SrcVal) (e : MeasEntry) : Word × Int :=
  let vs := (inputs.filter (fun x => x.ch == e.channel)).map (fun x =>
    ({ at_ := x.at_, w0 := x.w0, w1 := x.w1 : TrigVal },
     if e.kind = 6 then Config.angleDeg x.w0 x.w1 else component e.component x.w0 x.w1))
  let entry := c.channels.getD e.channel (0, 0)
  match measureValue e c.rate vs with
  | none => (fpNan, 0)
  | some (w, none) => (w, 0)
  | some (w, some at_) => (w, at_ - skewOf l entry.1 entry.2 - t)

/-! ### The end of a record (R426, R434) -/

/-- Flag bits of the index entry (R434). -/
def setFlag (b : Nat) (on : Bool) (f : BitVec 16) : BitVec 16 := if on then f ||| BitVec.ofNat 16 (2 ^ b) else f

/-- The rows of a record, with the shift of each (R423, R432). -/
def recordRows (l : Lane) (r : Record) : List (Row × Nat) :=
  (r.segments.flatMap (fun s => ((segOf l s).map (fun x => x.rows.map (fun y => (y, x.shift)))).getD [])).filter
    (fun x => decide (r.firstRow < x.1.n + 2 ^ x.2) && decide (x.1.n ≤ r.lastRow))

/-- The segments of a record that holds T, and its last (R432). -/
def sealSegs (r : Record) (state : SegState) (l : Lane) : Lane :=
  r.segments.zipIdx.foldl (fun acc (s, i) =>
    match segOf acc s with
    | none => acc
    | some x =>
      let hold := x.rows.zipIdx.find? (fun y => decide (y.1.n ≤ r.triggerRow) && decide (r.triggerRow < y.1.n + 2 ^ x.shift))
      setSeg s { x with state := state, last := decide (i + 1 = r.segments.length), trigRow := hold.map (·.2) } acc) l

/-- Segments of kept records. -/
def keptSegs (l : Lane) : Nat := (l.swatch.segments.filter (fun e => e.2.state == .kept)).length

/-- KEPT segments would stay within three quarters of the pool (R438). -/
def keepFits (l : Lane) (r : Record) : Bool := 4 * (keptSegs l + r.segments.length) ≤ 3 * segCount l

/-- The requests that wait for a record's index entry reply with its id (R436). -/
def answerCommands (id : Nat) (l : Lane) : Lane :=
  let mine := l.swatch.commands.filter (fun x => x.2.1 == id)
  let l1 := { l with swatch := { l.swatch with commands := l.swatch.commands.filter (fun x => x.2.1 != id) } }
  mine.foldl (fun acc x => postReply x.1 .ok false (le 4 id ++ zeros 4) acc) l1

/-- The profile after its record (R426): a single one is DISARMED and releases its ring; a continuous one waits for
its re-arm. -/
def afterRecord (p : Nat) (l : Lane) : Lane :=
  let r := profileRun l p
  match r.state, (profileCfg l p) with
  | .recording, some c =>
    if c.single then
      freeRing p (setProfile p { r with state := .disarmed, record := none, inputs := [], half := [] }
        { l with cfg := { l.cfg with profiles := tput l.cfg.profiles p { c with armed := false } } })
    else setProfile p { r with record := none } l
  | _, _ => setProfile p { r with record := none, inputs := [], half := [] } l

/-- The record ends (R426, R429, R434): the measurements, the index entry, its segments DONE or KEPT, the replies, and
its profile. -/
def finishRecord (id : Nat) (extra : BitVec 16) (l : Lane) : Lane :=
  match tget l.swatch.records id with
  | none => l
  | some r =>
    let rows := recordRows l r
    let c := profileCfg l r.profile
    let post := (c.map (fun c => rowsOfMs c (if c.measMs = 0 then c.postMs else c.measMs))).getD 0
    let inWindow := rows.filter (fun x => decide (r.triggerRow ≤ x.1.n) && decide (x.1.n < r.triggerRow + post))
    let ms := (c.map (fun c => c.meas.map (measureEntry l c r.t (inWindow.flatMap (·.1.src))))).getD []
    let halv := (rows.map (·.2)).foldl max 0
    let keep := r.keepAtEnd && keepFits l r
    let f := setFlag 0 (2 ≤ r.segments.length) <| setFlag 3 (halv != 0) <| setFlag 5 keep <|
      setFlag 8 (rows.any (·.1.holdover)) <| setFlag 9 (rows.any (·.1.unlocked)) (r.flags ||| extra)
    let before := (rows.filter (fun x => decide (x.1.n ≤ r.triggerRow))).length
    let endAt := ((rows.getLast?).map (fun x => rowInstant r.rate r.avgN x.1.n)).getD r.t
    let r' := { r with
      flags := f, halvings := halv, rows := rows.length, trigIndex := before - 1, measurements := ms, endAt := endAt
      opened := false }
    answerCommands id (afterRecord r.profile (setRecord r' (sealSegs r (if keep then .kept else .done) l)))

/-- TRUNCATED, STEP, BROWNOUT, ROWS_DROPPED as flag words. -/
def flagTruncated : BitVec 16 := 0x0002
def flagStep : BitVec 16 := 0x0040
def flagBrownout : BitVec 16 := 0x0080

/-! ### Rows of a record (R425) -/

/-- Every profile that records stands at shift 8 and the write buffer is full (R430). -/
def rowsDrop (l : Lane) : Bool :=
  decide (512 * 1024 ≤ l.swatch.buffer) &&
    l.swatch.profiles.all (fun e => !(e.2.state == .armed || e.2.state == .recording) || e.2.shift == 8)

/-- A row of a record: into its last segment, or into a new one chained to it; where none can be taken the record is
truncated (R425). -/
def writeRecord (id : Nat) (c : ProfileCfg) (shift : Nat) (row : Row) (l : Lane) : Lane :=
  match tget l.swatch.records id with
  | none => l
  | some r =>
    if rowsDrop l then setRecord { r with flags := setFlag 12 true r.flags } l
    else
      match r.segments.getLast? with
      | some s =>
        if (segOf l s).any (segTakes (rowsPerSeg l c) shift) then addRow s shift row l
        else
          match takeSegment c.recycle l with
          | none => finishRecord id flagTruncated l
          | some (u, l1) =>
            let x := { blankSeg l1 r.profile c shift with state := .open_, recordId := id, ordinal := r.segments.length }
            let l2 := match segOf l1 s with
              | some y => setSeg s { y with next := some u } l1
              | none => l1
            addRow u shift row (setRecord { r with segments := r.segments ++ [u] } (setSeg u x l2))
      | none =>
        match takeSegment c.recycle l with
        | none => finishRecord id flagTruncated l
        | some (u, l1) =>
          let x := { blankSeg l1 r.profile c shift with state := .open_, recordId := id }
          addRow u shift row (setRecord { r with segments := [u] } (setSeg u x l1))

/-- The record ends when its last row is written. -/
def endIfDone (id : Nat) (reached : Nat) (l : Lane) : Lane :=
  match tget l.swatch.records id with
  | some r => if r.opened && decide (r.lastRow < reached) then finishRecord id 0 l else l
  | none => l

/-! ### Fires (R419, R423, R424, R427) -/

/-- The oldest row of a ring; without one, the row that comes next. -/
def ringOldest (l : Lane) (p : Nat) : Nat :=
  let r := profileRun l p
  ((r.ring.flatMap (segRows l)).head?.map (·.n)).getD r.nextRow

/-- Segments become a record's, in order (R408, R432). -/
def chainSegs (id first : Nat) (ss : List Nat) (l : Lane) : Lane :=
  ss.zipIdx.foldl (fun acc (s, i) =>
    match segOf acc s with
    | none => acc
    | some x =>
      let start := if i = 0 then (x.rows.filter (fun y => decide (y.n + 2 ^ x.shift ≤ first))).length else 0
      setSeg s { x with
        state := .open_, recordId := id, ordinal := i, next := ss[i + 1]?, startRow := start } acc) l

/-- The ring segments that a record takes (R423): those that hold its first row and all later rows, the one in use
among them. -/
def takenSegs (l : Lane) (c : ProfileCfg) (p first : Nat) : List Nat :=
  let r := profileRun l p
  let used := r.ring.takeWhile (fun s => !(segRows l s).isEmpty)
  let holds := fun (s : Nat) => (segOf l s).any (fun x =>
    x.rows.any (fun y => decide (first < y.n + 2 ^ x.shift)) || (some s == used.getLast? && x.rows.length < rowsPerSeg l c))
  let ss := used.filter holds
  if ss.isEmpty then (r.ring.drop used.length).take 1 else ss

/-- The first id from `i` on that no record of the index has. -/
def idFrom (l : Lane) (i : Nat) : Nat → Nat
  | 0 => i
  | k + 1 => if (tget l.swatch.records i).isSome then idFrom l (bump i) k else i

/-- The next record id (R423): ids count from 1 at START, past those that a restored index entry still has (R446). -/
def nextRecordId (l : Lane) : Nat := idFrom l l.swatch.nextId l.swatch.records.length

/-- A record opens (R423). -/
def openRecord (p : Nat) (c : ProfileCfg) (i : Nat) (t : Int) (l : Lane) : Lane :=
  let run := profileRun l p
  let row := rowOf c t
  let first : Int := (row : Int) - (rowsOfMs c c.preMs : Nat)
  let oldest := ringOldest l p
  let short := decide (first < (oldest : Int))
  let firstRow := if short then oldest else first.toNat
  let id := nextRecordId l
  let ss := takenSegs l c p firstRow
  let r : Record :=
    { id := id, profile := p, t := t, triggerRow := row, firstRow := firstRow, lastRow := row + rowsOfMs c c.postMs - 1
      cause := [i], later := [], segments := ss, flags := setFlag 2 short 0, halvings := 0
      channelCount := c.channels.length, rowBytes := rowBytes l c, rate := c.rate, avgN := c.avgN, rows := 0, trigIndex := 0
      measurements := [], endAt := 0, keepAtEnd := false, opened := true }
  let l1 := chainSegs id firstRow ss (setRecord r { l with swatch := { l.swatch with nextId := bump id } })
  let l2 := setProfile p { run with state := .recording, record := some id, ring := run.ring.filter (fun s => !ss.contains s) } l1
  endIfDone id run.nextRow l2

/-- A fire joins an open record (R424). -/
def joinRecord (c : ProfileCfg) (r : Record) (i : Nat) (t : Int) : Record :=
  let row := rowOf c t
  if row = r.triggerRow then { r with cause := if r.cause.contains i then r.cause else r.cause ++ [i] }
  else
    let later := if r.later.contains i then r.later else r.later ++ [i]
    let last := max r.lastRow (min (row + rowsOfMs c c.postMs - 1) (r.triggerRow + rowsOfMs c c.maxMs - 1))
    if t < r.t then { r with later := later, flags := setFlag 11 true r.flags }
    else if c.extend && r.lastRow < last then { r with later := later, lastRow := last, flags := setFlag 4 true r.flags }
    else { r with later := later }

/-- A request of SWATCH_TRIGGER waits for the index entry of its record (R436). -/
def waitFor (cmd : Option Request) (id i : Nat) (l : Lane) : Lane :=
  match cmd with
  | some r => { l with swatch := { l.swatch with commands := l.swatch.commands ++ [(r, id, i)] } }
  | none => l

/-- A trigger's counters. -/
def countTrigger (i : Nat) (f : TriggerRun → TriggerRun) (l : Lane) : Lane := setTrigger i (f (triggerRun l i)) l

/-- A fire acts on its profile (R415, R423, R424, R427): it opens a record, joins the open one, is held until the
re-arm, or is missed. -/
def actFire (i p : Nat) (t : Int) (cmd : Option Request) (l : Lane) : Lane :=
  let run := profileRun l p
  let rec_ := fun (s : Lane) => countTrigger i (fun x => { x with recorded := bump x.recorded }) s
  match run.state, run.record, profileCfg l p with
  | .armed, _, some c => openRecord p c i t (waitFor cmd (nextRecordId l) i (rec_ l))
  | .recording, some id, some c =>
    match tget l.swatch.records id with
    | some r => setRecord (joinRecord c r i t) (waitFor cmd id i (rec_ l))
    | none => l
  | .recording, none, some _ => setProfile p { run with held := run.held ++ [(i, t, cmd)] } l
  | _, _, _ => countTrigger i (fun x => { x with missed := bump x.missed }) l

/-- The qualifier has fired within its window before this instant (R419). -/
def qualified (l : Lane) (c : TriggerCfg) (t : Int) : Bool :=
  c.qualifier == 0xFFFF ||
    (triggerRun l c.qualifier).fired.any (fun q => decide (q ≤ t) && decide ((t - q) * 1000000 ≤ ((c.qualWindowUs * 2 ^ 24 : Nat) : Int)))

/-- A trigger fires with a placed instant (R415, R419): an unqualified fire is counted and has no effect. -/
def fire (i : Nat) (c : TriggerCfg) (t : Int) (cmd : Option Request) (l : Lane) : Lane :=
  if !qualified l c t then countTrigger i (fun x => { x with unqualified := bump x.unqualified }) l
  else
    let l1 := countTrigger i (fun x =>
      { x with
        fires := bump x.fires, lastInstant := some t
        fired := (x.fired.filter (fun q => decide ((nowUnits l : Int) - q ≤ ((600 * 2 ^ 24 : Nat) : Int)))) ++ [t] }) l
    if c.profile = 0xFF then l1 else actFire i c.profile t cmd l1

/-! ### Withdrawal, steps, brown-out and START -/

/-- A record without a cause is discarded (R437): its segments become FREE, and a recording profile re-arms. -/
def discardRecord (r : Record) (l : Lane) : Lane :=
  let l1 := dropRecord r.id l
  let run := profileRun l1 r.profile
  if run.record = some r.id then setProfile r.profile { run with record := none } l1 else l1

/-- ABORT of SWATCH_TRIGGER (R437): its bit leaves both masks. -/
def withdrawTrigger (r : Request) (l : Lane) : Lane :=
  let mine := fun (q : Request) => q.src == r.src && q.tag == r.tag
  let held := l.swatch.profiles.map (fun e => (e.1, { e.2 with held := e.2.held.filter (fun h => !(h.2.2.any mine)) }))
  let l0 := { l with swatch := { l.swatch with
    profiles := held, commands := l.swatch.commands.filter (fun x => !mine x.1) } }
  match l.swatch.commands.find? (fun x => mine x.1) with
  | none => l0
  | some (_, id, i) =>
    match tget l0.swatch.records id with
    | none => l0
    | some x =>
      let x' := { x with cause := x.cause.filter (· != i), later := x.later.filter (· != i) }
      if x'.cause.isEmpty && x'.later.isEmpty then discardRecord x l0 else setRecord x' l0

/-- Every open record ends at its last written row (R435, R445). -/
def endOpenRecords (extra : BitVec 16) (l : Lane) : Lane :=
  (l.swatch.records.filter (fun e => e.2.opened)).foldl (fun acc e => finishRecord e.1 extra acc) l

/-- A time step (R435): open records end with STEP, and every ring restarts empty at the new time. -/
def swatchStep (l : Lane) : Lane :=
  let l1 := endOpenRecords flagStep l
  l1.swatch.profiles.foldl (fun acc e =>
    match profileCfg acc e.1 with
    | some c =>
      setProfile e.1 { profileRun acc e.1 with nextRow := rowFrom c (nowUnits acc : Nat), inputs := [], half := [] } (emptyRing e.1 acc)
    | none => acc) l1

/-- Brown-out (R445): open records end with TRUNCATED and BROWNOUT, and every profile stops. -/
def swatchBrownout (l : Lane) : Lane :=
  let l1 := endOpenRecords (flagTruncated ||| flagBrownout) l
  l1.swatch.profiles.foldl (fun acc e =>
    freeRing e.1 (setProfile e.1 { profileRun acc e.1 with state := .disarmed, record := none, inputs := [], half := [], held := [] } acc)) l1

/-- The index entries that the journal commits (R445): of all kept records and of the 32 most recent others. -/
def journalIndex (l : Lane) : Table Record :=
  let ended := l.swatch.records.filter (fun e => !e.2.opened)
  let plain := ended.filter (fun e => !e.2.flags.getLsbD 5)
  let recent := plain.drop (plain.length - 32)
  ended.filter (fun e => e.2.flags.getLsbD 5 || recent.any (fun x => x.1 == e.1))

end Sys2Proof.Machine
end

