-- ==== Sys2Proof/Machine/Needle.lean ====
section
/-!
DEFINITION. The Needle (chapter 02): admission, dispatch, delay lists, ABORT and CANCEL, HELLO, and Glegal over
UDP.
-/
namespace Sys2Proof.Machine

/-! ### Admission -/

/-- The admission checks in their order (R72). `maxUdp` is the largest param_len of R101 where the source is a
peer; there the largest result must fit a reply datagram too (R102). -/
def admissionStatus (l : Lane) (r : Request) (maxUdp : Nat) : Status :=
  need (versionOk l r) .badVersion <|
  need (lengthOk r && (!isPeer r.src || r.paramLen ≤ maxUdp)) .badLength <|
  need (opcodeOk r) .badOpcode <|
  need (fieldsOk l r) .badParam <|
  need (bodyFits r && (!isPeer r.src || maxResult r.opcode (body r) ≤ maxUdp)) .badLength <|
  need (modeAccepts l.mode.mode r) .wrongMode <|
  need (roomOk l r) .busy .ok

/-- A PE_BANK_SWAP joins its flow: the stream's held swap completes with SUPERSEDED, and the joining request's reply
carries SUPERSEDED_INFO (R201). -/
def peSupersede (r : Request) (l : Lane) : Lane :=
  if r.opcode = 0x0302 then
    match tget l.pe.streams (flowId r) with
    | some { fade := f, held := some { req := some q, .. }, superseded := n } =>
      refuse q .superseded { l with pe := { l.pe with
        streams := tput l.pe.streams (flowId r) { fade := f, held := none, superseded := bump n }
        info := l.pe.info ++ [(r.src, r.tag)] } }
    | _ => l
  else l

/-- Admits a request: one task entry, on its group's delay list when TIMED, else at the tail of its flow (R77,
R79). -/
def admitTask (r : Request) (l : Lane) : Lane :=
  let e : TaskEntry :=
    { req := r, adm := l.needle.nextAdm, phase := if isTimed r then .delayed else .queued,
      joined := if isTimed r then 0 else l.needle.nextJoin, lateAbort := false, transientSeen := false }
  let l1 := { l with needle := { l.needle with
    entries := l.needle.entries ++ [e]
    nextAdm := l.needle.nextAdm + 1
    nextJoin := if isTimed r then l.needle.nextJoin else l.needle.nextJoin + 1 } }
  if isTimed r then l1 else peSupersede r l1

/-- Needle_free: task entries not held (R69). -/
def needleFree (l : Lane) : Nat := 4096 - l.needle.entries.length

/-! ### HELLO (R69) -/

/-- The highest of the four versions within the source's range (R69). -/
def commonVersion (lo hi : Version) : Option Version :=
  (versions.filter (fun v => lo.le v && v.le hi)).getLast?

def helloMin (r : Request) : Version := ⟨field (body r) 0 1, field (body r) 1 1⟩
def helloMax (r : Request) : Version := ⟨field (body r) 2 1, field (body r) 3 1⟩

/-- HELLO's checks (R69, R21): the maximum is not below the minimum; a common version exists. -/
def helloCheck (_ : Lane) (r : Request) : Status :=
  need ((helloMin r).le (helloMax r) && isZero (body r) 4 4) .badParam <|
  need (commonVersion (helloMin r) (helloMax r)).isSome .badVersion .ok

/-- The version of the active image (SYS_INFO, HELLO). -/
def firmware (l : Lane) : Nat :=
  match l.mode.active with
  | .a => l.boot.slotA.version
  | .b => l.boot.slotB.version
  | .recovery => 0

/-- max_param_len of a source (R69): 65,520 on a ring, R101's on a peer. -/
def maxParamLen (src maxUdp : Nat) : Nat := if isPeer src then maxUdp else 65520

/-- HELLO takes effect: the source's version is negotiated and reported (R69). -/
def helloApply (maxUdp : Nat) (r : Request) (l : Lane) : Lane × Bytes :=
  let v := (commonVersion (helloMin r) (helloMax r)).getD ⟨2, 0⟩
  ({ l with needle := { l.needle with versions := tput l.needle.versions r.src v } },
   le 1 v.major ++ le 1 v.minor ++ le 1 l.id.code ++ le 1 l.mode.mode.code ++ le 4 (firmware l) ++
     le 4 (maxParamLen r.src maxUdp) ++ le 2 (needleFree l) ++ zeros 2)

def laneHello (maxUdp : Nat) (r : Request) (l : Lane) : Lane :=
  serve 0x0001 none helloCheck (helloApply maxUdp) r l

/-! ### ABORT and CANCEL -/

/-- The target's source: 0xFF names the sender's own (R88). -/
def targetSrc (r : Request) : Nat :=
  if field (body r) 4 1 = 0xFF then r.src else field (body r) 4 1

def targetTag (r : Request) : Word := BitVec.ofNat 32 (field (body r) 0 4)

/-- The ranges of ABORT and CANCEL (R88). -/
def abortCheck (_ : Lane) (r : Request) : Status :=
  let t := field (body r) 4 1
  need ((t ≤ 3 || isPeer t || t == 0xFF) && isZero (body r) 5 3) .badParam .ok

/-- The 4-byte result of ABORT and CANCEL (R88). -/
def targetState (n : Nat) : Bytes := le 1 n ++ zeros 3

/-- Whether two requests are one: the same source and tag. -/
def sameRequest (a b : Request) : Bool := a.src == b.src && a.tag == b.tag

/-- The swaps of a stream without those of a request (R200, R201). -/
def withdrawSwap (r : Request) (p : PeStream) : PeStream :=
  let mine := fun (s : PeSwap) => s.req.any (sameRequest r)
  { p with fade := p.fade.filter (fun s => !mine s), held := p.held.filter (fun s => !mine s) }

/-- A change of a partition that waits for its boundary, or an image in verification, is dropped (R310). -/
def withdrawChange (r : Request) (p : Part) : Part :=
  { p with
    change := p.change.filter (fun c => !sameRequest r c.1)
    verifying := p.verifying.filter (fun v => !sameRequest r v.1) }

/-- The work that a request in service has under way before its commit point is undone (R87, R88): the request
has no effect. Each clause names the held work of one opcode. -/
def withdraw (r : Request) (l : Lane) : Lane :=
  let mine := sameRequest r
  let sessions := l.publish.sessions.map (fun e =>
    match e.2.announce with
    | some (_, _, q) => if mine q then (e.1, { e.2 with announce := none }) else e
    | none => e)
  { withdrawTrigger r l with
    publish := { l.publish with sessions := sessions }
    ply := { l.ply with handover := l.ply.handover.filter (fun h => !mine h.req) }
    pe := { l.pe with streams := l.pe.streams.map (fun e => (e.1, withdrawSwap r e.2)) }
    array := { l.array with parts := l.array.parts.map (fun e => (e.1, withdrawChange r e.2)) }
    health := { l.health with drill := l.health.drill.filter (fun d => !mine d.req) }
    mode := { l.mode with build := l.mode.build.filter (fun b => !mine b.req) } }

/-- The start of `laneAbort`. -/
def abortStart (q : Request) (s : Lane) : Lane :=
  { s with needle := { s.needle with
    aborts := s.needle.aborts ++ [{ req := q, targetTag := targetTag q, targetSrc := targetSrc q }] } }

/-- ABORT arrives: it waits to take effect (R88). -/
def laneAbort (r : Request) (l : Lane) : Lane :=
  serveHeld 0x0002 none abortCheck abortStart r l

/-- An ABORT takes effect on its target's state (R88): on a delay list or queued, in service before its commit
point, at or after it, or not held. -/
def takeAbort (a : PendingAbort) (l : Lane) : Lane :=
  match entryOf l a.targetSrc a.targetTag with
  | none => postReply a.req .okTooLate false (targetState 4) l
  | some e =>
    match e.phase with
    | .delayed | .queued =>
      postReply a.req .ok false (targetState 1) (refuse e.req .aborted l)
    | .inService =>
      postReply a.req .ok false (targetState 2) (refuse e.req .aborted (withdraw e.req l))
    | .committed =>
      postReply a.req .okTooLate false (targetState 3)
        { l with needle := { l.needle with entries := l.needle.entries.map (fun x =>
          if x.req.src == a.targetSrc && x.req.tag == a.targetTag then { x with lateAbort := true } else x) } }

/-- The first ABORT that has arrived takes effect (R88); without one nothing happens. -/
def laneAbortTakesEffect (l : Lane) : Lane :=
  match l.needle.aborts with
  | [] => l
  | a :: rest => takeAbort a { l with needle := { l.needle with aborts := rest } }

/-- CANCEL's effect and status (R89): a target not yet dispatched completes with CANCELLED. -/
def cancelTarget (r : Request) (l : Lane) : Lane :=
  match entryOf l (targetSrc r) (targetTag r) with
  | none => postReply r .okTooLate false (targetState 4) l
  | some e =>
    match e.phase with
    | .delayed | .queued => postReply r .ok false (targetState 1) (refuse e.req .cancelled l)
    | .inService | .committed => postReply r .okTooLate false (targetState 3) l

def laneCancel (r : Request) (l : Lane) : Lane := serveHeld 0x0003 none abortCheck cancelTarget r l

/-! ### Request arrival (R72) -/

/-- HELLO, ABORT and CANCEL are served on arrival (R77). -/
def serveBypass (maxUdp : Nat) (r : Request) (l : Lane) : Lane :=
  if r.opcode = 0x0001 then laneHello maxUdp r l
  else if r.opcode = 0x0002 then laneAbort r l
  else laneCancel r l

/-- The request leaves the request queue of its ring (queue 48 + n, R645) when it stands at its head. -/
def takeFromRing (r : Request) (l : Lane) : Lane :=
  match (queueOf l (48 + r.src % 4)).items.head? with
  | some i => if i.payload = .request r then popItem (48 + r.src % 4) l else l
  | none => l

/-- Counts a BUSY refusal (R94). -/
def countBusy (st : Status) (l : Lane) : Lane :=
  if st == .busy then { l with needle := { l.needle with busyRefusals := bump l.needle.busyRefusals } } else l

/-- A request arrives: the first check that fails decides the reply, and a request that passes every check is
admitted, or served at once on the bypass path (R72, R77). -/
def arrive (maxUdp : Nat) (r : Request) (l : Lane) : Lane :=
  let st := admissionStatus l r maxUdp
  if st = .ok then
    if opBypass r.opcode then serveBypass maxUdp r l else admitTask r l
  else refuseArrival r st (countBusy st l)

def laneArrival (maxUdp : Nat) (r : Request) (l : Lane) : Lane := arrive maxUdp r (takeFromRing r l)

/-! ### Delay lists (R84 to R86) -/

/-- A delayed entry whose due time is at or before the current time (R84). -/
def dueNow (l : Lane) (e : TaskEntry) : Bool :=
  e.phase == .delayed && !tagLater (dueTag e.req) (nowTag l)

/-- The due entries, sorted by due time as the delay list holds them; equal due times keep admission order
(R84). -/
def insertDue (e : TaskEntry) : List TaskEntry → List TaskEntry
  | [] => [e]
  | x :: t => if tagLater (dueTag x.req) (dueTag e.req) then e :: x :: t else x :: insertDue e t

/-- The delay list of all groups in the order its entries leave it. -/
def dueOrder (l : Lane) : List TaskEntry :=
  (l.needle.entries.filter (dueNow l)).foldl (fun acc e => insertDue e acc) []

/-- One entry leaves its delay list and joins the tail of its flow (R84). -/
def joinFlow (n : NeedleSt) (e : TaskEntry) : NeedleSt :=
  { n with
    entries := n.entries.map (fun x => if x.adm = e.adm then { x with phase := .queued, joined := n.nextJoin } else x)
    nextJoin := n.nextJoin + 1 }

/-- The 1 µs tick: every entry that is due joins the tail of its flow (R84). -/
def laneDelayTick (l : Lane) : Lane :=
  (dueOrder l).foldl (fun acc e => peSupersede e.req { acc with needle := joinFlow acc.needle e }) l

/-! ### Dispatch (R80 to R83) -/

/-- A queued request heads its flow when no other queued request of the flow joined earlier (R79, R80). -/
def headsFlow (l : Lane) (e : TaskEntry) : Bool :=
  l.needle.entries.all (fun x =>
    !(x.phase == .queued && flowOf x.req == flowOf e.req && decide (x.joined < e.joined)))

/-- No request of its flow is in service (R80). -/
def flowFree (l : Lane) (e : TaskEntry) : Bool :=
  (inService l).all (fun x => flowOf x.req != flowOf e.req)

/-- A barrier that waits in its flow, or is in service, and was admitted before `e` holds `e` back; not so one
that stands behind `e` in its own flow (R81, log 9). -/
def heldBack (l : Lane) (e : TaskEntry) : Bool :=
  l.needle.entries.any (fun b =>
    isBarrier b.req && b.phase != .delayed && decide (b.adm < e.adm) &&
    !(b.phase == .queued && flowOf b.req == flowOf e.req && decide (e.joined < b.joined)))

/-- A request is ready (R80). -/
def ready (l : Lane) (e : TaskEntry) : Bool :=
  e.phase == .queued && headsFlow l e && flowFree l e && !heldBack l e

/-- The ready requests of a group. -/
def readyOf (l : Lane) (g : Nat) : List TaskEntry :=
  l.needle.entries.filter (fun e => ready l e && e.req.group == g)

/-- The ready request of a group that was admitted earliest (R83): entries stand in admission order. -/
def earliest (l : Lane) (g : Nat) : Option TaskEntry := (readyOf l g).head?

/-- What a group can dispatch now: its earliest ready request, unless that is a barrier while another request is
in service, in which case the group counts as having no ready request (R81, R83). -/
def candidate (l : Lane) (g : Nat) : Option TaskEntry :=
  match earliest l g with
  | some e => if isBarrier e.req && !(inService l).isEmpty then none else some e
  | none => none

/-- The weight of a group (R82). -/
def weightOf (l : Lane) (g : Nat) : Nat := l.cfg.weights.getD g 1

/-- The visits in order until one dispatches: a group without credit or without a ready request is passed over,
and the next visit begins with the group's full weight (R83). `fuel` bounds the visits to one round. -/
def visitGroups (l : Lane) : Nat → Nat → Nat → Option (TaskEntry × Nat × Nat)
  | 0, _, _ => none
  | fuel + 1, g, credit =>
    match credit, candidate l g with
    | c + 1, some e => some (e, g, c)
    | _, _ => visitGroups l fuel ((g + 1) % 4) (weightOf l ((g + 1) % 4))

/-- A dispatched request that fails the mode or the lease check completes at once; any other is in service, and
one whose commit point is its dispatch stands past it (R75, R87). -/
def dispatch (e : TaskEntry) (l : Lane) : Lane :=
  match dispatchStatus l e.req with
  | .ok => { l with needle := { l.needle with entries := l.needle.entries.map (fun x =>
      if x.adm = e.adm then { x with phase := if opCommitsAtDispatch x.req.opcode then .committed else .inService }
      else x) } }
  | st => refuse e.req st l

/-- A control core is free (at most four requests are in service, R94): the Needle dispatches the next ready
request of its visits (R83). Where every group is passed over, the visits come round with full weights. -/
def laneDispatch (l : Lane) : Lane :=
  if 4 ≤ (inService l).length then l
  else
    match visitGroups l 5 l.needle.visit l.needle.credit with
    | none => { l with needle := { l.needle with credit := weightOf l l.needle.visit } }
    | some (e, g, c) => dispatch e { l with needle := { l.needle with visit := g, credit := c } }

/-! ### NOP, NEEDLE_GROUP_SET, NEEDLE_STATUS -/

/-- NOP's four reserved bytes (R686). -/
def nopCheck (_ : Lane) (r : Request) : Status := need (isZero (body r) 0 4) .badParam .ok

/-- The effect and result of `laneNop`. -/
def nopApply (_ : Request) (s : Lane) : Lane × Bytes :=
  (s, [])

def laneNop (r : Request) (l : Lane) : Lane :=
  serve 0x0000 none nopCheck nopApply r l

/-- The weights lie in 1 to 15 (R82). -/
def groupSetCheck (_ : Lane) (r : Request) : Status :=
  need ((slice (body r) 0 4).all (fun b => inRange 1 15 b.toNat)) .badParam .ok

/-- The new weights, which take effect at the next visit to a group (R82). -/
def groupSetApply (r : Request) (l : Lane) : Lane × Bytes :=
  ({ l with cfg := { l.cfg with weights := (slice (body r) 0 4).map (·.toNat) } }, [])

def laneGroupSet (r : Request) (l : Lane) : Lane := serve 0x0004 none groupSetCheck groupSetApply r l

/-- The NEEDLE_STATUS result (R94). -/
def needleStatus (l : Lane) : Bytes :=
  le 2 l.needle.entries.length ++ le 2 (timedHeld l) ++ le 1 (inService l).length ++ zeros 3 ++
    le 4 (readyOf l 0).length ++ le 4 (readyOf l 1).length ++ le 4 (readyOf l 2).length ++
    le 4 (readyOf l 3).length ++ le 4 l.needle.busyRefusals

/-- The checks of `laneNeedleStatus`. -/
def needleStatusCheck (_ : Lane) (_ : Request) : Status :=
  .ok

/-- The effect and result of `laneNeedleStatus`. -/
def needleStatusApply (_ : Request) (s : Lane) : Lane × Bytes :=
  (s, needleStatus s)

def laneNeedleStatus (r : Request) (l : Lane) : Lane :=
  serve 0x0005 none needleStatusCheck needleStatusApply r l

/-! ### Glegal over UDP (R96 to R102) -/

/-- The request of a packet with its 16-byte header (R59). -/
def packetRequest (src : Nat) (path : ReplyPath) (p : Bytes) : Request :=
  { src := src, version := ⟨field p 0 1, field p 1 1⟩, opcode := field p 2 2, flags := BitVec.ofNat 16 (field p 4 2),
    group := field p 6 1, rsvd := field p 7 1, tag := BitVec.ofNat 32 (field p 8 4), paramLen := field p 12 4,
    params := p.drop 16, path := path }

/-- Counts a dropped datagram of one source address; the sixteenth within 1 s raises alarm 257 (R99). -/
def dropDatagram (addr : Bytes) (l : Lane) : Lane :=
  let recent := (l.needle.dropTimes.filter (fun e => decide (l.tc ≤ e.2 + secTc 1))) ++ [(addr, l.tc)]
  let l1 := { l with needle := { l.needle with dgDropped := bump l.needle.dgDropped, dropTimes := recent } }
  if 16 ≤ (recent.filter (fun e => e.1 = addr)).length then raiseEvent 257 l1 else l1

/-- The peer with a source address (R96). -/
def peerOf (l : Lane) (addr : Bytes) : Option (Nat × Peer) := l.peers.find? (fun e => e.2.addr = addr)

/-- Whether a slot is orphaned (R574): a parent whose generation differs from the one recorded, or an orphaned
parent. A chain of derivation is at most 256 slots long. -/
def orphaned (slots : Table KeySlot) : Nat → KeySlot → Bool
  | 0, _ => true
  | fuel + 1, k =>
    match k.parent with
    | none => false
    | some (p, g) =>
      let ps := tgetD slots p .dflt
      ps.generation != g || orphaned slots fuel ps

/-- The state of a slot with orphans computed (R572, R574). -/
def slotState (l : Lane) (n : Nat) : SlotState :=
  let k := tgetD l.keys.slots n .dflt
  if k.state == .valid && orphaned l.keys.slots 257 k then .orphaned else k.state

/-- The key in a slot when it can be used (R575, R589). -/
def usableKey (l : Lane) (n : Nat) : Option KeySlot :=
  if l.keys.zeroised then none
  else if slotState l n == .valid then tget l.keys.slots n else none

/-- The checks of R99 on a datagram of a known peer, with the magic of the protocol that reads it. -/
def datagramOk (l : Lane) (p : Peer) (d : Bytes) : Bool :=
  44 ≤ d.length && field d 0 2 == 0x474C && field d 2 1 == 1 && field d 3 1 == p.keySlot && field d 4 8 != 0 &&
  (match usableKey l p.keySlot with
   | some k => k.usage.getLsbD 1 &&
       authTag k (field d 4 8) 1 (d.take (d.length - 16)) == some (d.drop (d.length - 16))
   | none => false)

/-- A sequence below the window of the 64 sequences below the highest, or in it and already seen, is a duplicate (R100). -/
def isDuplicate (highest : Nat) (seen : List Nat) (seq : Nat) : Bool :=
  seq + 64 < highest || seen.contains seq

/-- The window after a sequence is accepted (R100). -/
def acceptSeq (highest : Nat) (seen : List Nat) (seq : Nat) : Nat × List Nat :=
  let h := max highest seq
  (h, seq :: seen.filter (fun x => decide (h ≤ x + 64)))

/-- A datagram arrives at the management port (R99 to R102): dropped and counted, answered as a duplicate, or
accepted and passed to admission. `fragment` tells an IP fragment (R101). -/
def laneDatagram (maxUdp : Nat) (addr : Bytes) (fragment : Bool) (d : Bytes) (l : Lane) : Lane :=
  if !dieRuns l then l
  else if fragment then
    { l with needle := { l.needle with dgFragments := bump l.needle.dgFragments } }
  else
    match peerOf l addr with
    | none => dropDatagram addr l
    | some (n, p) =>
      if !datagramOk l p d then dropDatagram addr l
      else
        let seq := field d 4 8
        if isDuplicate p.highest p.seen seq then
          match p.replies.find? (fun e => e.1 == seq) with
          | some rep => emit (.mgmt n rep.2) l
          | none => { l with needle := { l.needle with dgDuplicates := bump l.needle.dgDuplicates } }
        else
          let w := acceptSeq p.highest p.seen seq
          let l1 := { l with peers := tput l.peers n { p with highest := w.1, seen := w.2 } }
          arrive maxUdp (packetRequest n (.peer seq) ((d.drop 12).take (d.length - 28))) l1

end Sys2Proof.Machine
end

