-- ==== Sys2Proof/Machine/SessionOps.lean ====
section
/-!
DEFINITION. How the frames of an output session reach the egress queue of its port (R391, R394, R400).
-/
namespace Sys2Proof.Machine

/-- The size of a session's data frame (R391, R393): 14 bytes of header, per PMU entry STAT, FREQ and DFREQ, its
phasors, analogs and digital words as floats and words, and CHK. -/
def sessionDataLen (c : SessionCfg) : Nat :=
  16 + 10 * c.pmus.length +
    (c.channels.map (fun k => if k.kind ≤ 1 then 8 else if k.kind = 4 then 4 else if k.kind = 5 || k.kind = 7 then 2
      else 0)).sum

/-- An IPv4-mapped address (R391). -/
def isV4 (a : Bytes) : Bool := a.take 12 == zeros 10 ++ [0xFF, 0xFF]

/-- A UDP session's Ethernet frame, with FCS, VLAN tag and PRP trailer (R391). -/
def sessionFrameLen (c : SessionCfg) (prp : Bool) : Nat :=
  sessionDataLen c + (if isV4 c.srcAddr then 46 else 66) + (if c.vlan = 0 then 0 else 4) + (if prp then 6 else 0)

/-- A session's data frame enters the egress queue of its port: it is counted, and for a UDP session its course is
mirrored to the standby (R394, R399, R400). -/
def queueSession (n : Nat) (c : SessionCfg) (f : DataFrame) (l : Lane) : Lane :=
  let len := sessionFrameLen c false
  let l1 := enqueueOrWait (26 + c.port) (frameEntries len) (.egress (.session n f) len false none) l
  let l2 := { l1 with publish := { l1.publish with sessions := tmod l1.publish.sessions n (fun s =>
    { s with framesSent := bump s.framesSent, lastCourse := f.course }) } }
  if c.tcp then l2 else plySend 0xFF (.mirrorCourse n f.course) l2

/-- Whether the egress queue of a session's port has room for its frame (R161, R394). -/
def sessionRoom (c : SessionCfg) (l : Lane) : Bool :=
  canEnqueue (26 + c.port) (frameEntries (sessionFrameLen c false)) l

/-- A frame formed for transmission (R394): into the egress queue, or among at most four that wait while it is
full; a fifth drops the oldest. -/
def sendSession (n : Nat) (c : SessionCfg) (f : DataFrame) (l : Lane) : Lane :=
  match tget l.publish.sessions n with
  | none => l
  | some s =>
    if s.waiting.isEmpty && sessionRoom c l then queueSession n c f l
    else
      let w := s.waiting ++ [f]
      let full := decide (4 < w.length)
      let s' := { s with
        waiting := if full then w.tail else w
        framesDropped := if full then bump s.framesDropped else s.framesDropped }
      { l with publish := { l.publish with sessions := tput l.publish.sessions n s' } }

/-- The waiting frames of one session that the egress queue now takes, oldest first. -/
def drainWaiting (n : Nat) (c : SessionCfg) : List DataFrame → Lane → Lane
  | [], l => { l with publish := { l.publish with sessions := tmod l.publish.sessions n (fun s => { s with waiting := [] }) } }
  | f :: t, l =>
    if sessionRoom c l then drainWaiting n c t (queueSession n c f l)
    else { l with publish := { l.publish with sessions := tmod l.publish.sessions n (fun s => { s with waiting := f :: t }) } }

/-- The sessions of a port whose frames wait go on (R394). -/
def drainSessions (port : Nat) (l : Lane) : Lane :=
  l.publish.sessions.foldl (fun acc e =>
    match tget acc.cfg.sessions e.1 with
    | some c => if c.port = port && !e.2.waiting.isEmpty then drainWaiting e.1 c e.2.waiting acc else acc
    | none => acc) l

end Sys2Proof.Machine
end

