-- ==== Sys2Proof/Machine/TimeOps.lean ====
section
/-!
DEFINITION. What other blocks read of Tension: the estimated error (R464, R465), the time-quality codes (R468), the
UTC offset and leap state (R469 to R471), and fine tags joined to full time (R477); and the frequency correction with
what the junction temperature does to it (R447, R465).
-/
namespace Sys2Proof.Machine

/-! ### Estimated error (R464, R465) -/

/-- Seconds of a number of tc, exactly. -/
def tcSeconds (n : Nat) : Rat := mkRat (n : Int) 250000000

/-- The frequency uncertainty u in ppb: 0.1 while the 10 MHz input is qualified, else `holdover_ppb` (R465). -/
def holdoverPpb (l : Lane) : Rat :=
  if l.time.ref10m then mkRat 1 10 else (fp32ToRat l.cfg.servo.holdoverPpb).getD 0

/-- The aging a in ppb per second: `aging_ppb_day` / 86,400 (R465). -/
def agingPpb (l : Lane) : Rat := (fp32ToRat l.cfg.servo.agingPpbDay).getD 0 / 86400

/-- E in ns: the value at the last valid measurement, growing in holdover as E_0 + u·t + ½·a·t² (R465). -/
def estErr (l : Lane) : Option Rat :=
  match l.time.e0 with
  | none => none
  | some e0 =>
    if l.time.state == .holdover then
      let t := tcSeconds (l.tc - l.time.e0At)
      some (e0 + holdoverPpb l * t + agingPpb l * t * t / 2)
    else some e0

/-- est_error_ns: E, saturating; all ones when unknown (R478). -/
def estErrorNs (l : Lane) : Nat :=
  match estErr l with
  | none => 2 ^ 32 - 1
  | some e => min (2 ^ 32 - 1) e.floor.toNat

/-- The base of a reference's estimated error in ns (R464). -/
def refBaseNs (l : Lane) : RefKind → Nat
  | .ptp => 40
  | .pps => 100
  | .irig => if l.cfg.timeRef.irigAm then 5000 else 200

/-- The state of one reference. -/
def refOf (t : TimeSt) : RefKind → RefSt
  | .ptp => t.ptp
  | .pps => t.pps
  | .irig => t.irig

/-- The selected reference is traceable (R468). -/
def traceable (l : Lane) : Bool :=
  match l.time.selected with
  | some k => (refOf l.time k).traceable
  | none => false

/-- TIME_QUERY.state (R478). -/
def timeStateCode (l : Lane) : Nat :=
  match l.time.state with
  | .freeRunning => 0
  | .acquiring => 1
  | .locked => 2
  | .holdover => if l.time.unlocked then 4 else 3

/-! ### Time quality (R468) -/

/-- FRACSEC [3:0] of R468. -/
def fracQuality (l : Lane) : Nat :=
  match estErr l with
  | none => 0xF
  | some e =>
    if traceable l && decide (e ≤ 1000) then 0x0
    else if e ≤ 1000 then 0x4
    else if e ≤ 10000 then 0x5
    else if e ≤ 100000 then 0x6
    else if e ≤ 1000000 then 0x7
    else if e ≤ 10000000 then 0x8
    else if e ≤ 100000000 then 0x9
    else if e ≤ 1000000000 then 0xA
    else if e ≤ 10000000000 then 0xB
    else 0xF

/-- STAT [8:6] of R468. -/
def statQuality (l : Lane) : Nat :=
  match estErr l with
  | none => 7
  | some e =>
    if e < 100 then 1
    else if e < 1000 then 2
    else if e < 10000 then 3
    else if e < 100000 then 4
    else if e < 1000000 then 5
    else if e < 10000000 then 6
    else 7

/-- STAT [5:4] of R468: the time since HOLDOVER was entered. At 1,000 s exactly it reads 0b11, as the worked example after R468
shows (DEDUCED, log 33). -/
def statUnlockedTime (l : Lane) : Nat :=
  match l.time.holdoverAt with
  | none => 0
  | some t =>
    let d := l.tc - t
    if d < secTc 10 then 0 else if d < secTc 100 then 1 else if d < secTc 1000 then 2 else 3

/-! ### The frequency correction (R447, R465) -/

/-- A rational quantised to 2^-48; its rounding is open (log 6). -/
def quantise48 (v : Rat) : Int :=
  let x := v * ((2 ^ 48 : Nat) : Rat)
  if x.den = 1 then x.num else x.floor + (if Config.servoRoundUp x then 1 else 0)

/-- The frequency correction as a rational. -/
def freqOf (y : Int) : Rat := mkRat y (2 ^ 48)

/-- A new frequency correction takes effect and is remembered for the means of R465. -/
def setFreq (y : Int) (l : Lane) : Lane :=
  { l with time := { l.time with y := y, history := ((l.tc, y, l.health.junction) :: l.time.history).take 8192 } }

/-- The correction table interpolated linearly, in ppb (R465): entry i stands at −40 + 10 i °C; beyond the ends the
end entries hold. -/
def tempCorr (l : Lane) (t : Rat) : Rat :=
  let tab := l.cfg.servo.tempTable
  let x := (t + 40) / 10
  let at_ := fun (i : Nat) => mkRat (tab.getD i 0) 10
  if x ≤ 0 then at_ 0
  else if 15 ≤ x then at_ 15
  else
    let i := x.floor.toNat
    at_ i + (at_ (i + 1) - at_ i) * (x - (i : Rat))

/-- y_h of R465 as a fraction, for a mean correction and a mean junction temperature: ȳ + c(T_j) − c(T̄), within
±`max_adj_ppb` (R447). -/
def holdoverOf (l : Lane) (ybar tbar : Rat) : Rat :=
  ratClamp (mkRat (l.cfg.servo.maxAdjPpb : Int) (10 ^ 9))
    (ybar + (tempCorr l ((l.health.junction : Int) : Rat) - tempCorr l tbar) / 1000000000)

/-- In holdover the correction follows the junction temperature and the table (R465). -/
def retune (l : Lane) : Lane :=
  if l.time.state == .holdover then setFreq (quantise48 (holdoverOf l l.time.holdMean.1 l.time.holdMean.2)) l
  else setFreq l.time.y l

/-- The junction sensor reads a temperature in °C. -/
def setJunction (t : Int) (l : Lane) : Lane := retune { l with health := { l.health with junction := t } }

/-! ### UTC (R469 to R471) -/

/-- o′ = o ± 1 of a known leap (R469). -/
def leapNewOffset (o : Nat) (lp : Leap) : Nat := if lp.deletion then o - 1 else o + 1

/-- The offset for TAI second S: o′ when S ≥ L + o′, and o otherwise (R469). -/
def offsetAt (t : TimeSt) (s : Nat) : Nat :=
  match t.leap with
  | none => t.utcOffset
  | some lp =>
    let o' := leapNewOffset t.utcOffset lp
    if lp.soc + o' ≤ s then o' else t.utcOffset

/-- The offset in force now. -/
def utcNow (l : Lane) : Nat := offsetAt l.time (nowSec l)

/-- The TAI second at which the new offset applies: L + o′ (R469). -/
def leapInstant (t : TimeSt) : Option Nat :=
  t.leap.map (fun lp => lp.soc + leapNewOffset t.utcOffset lp)

/-- FRACSEC bits [6:4] for a TAI second (R471): pending in the 60 s before the change, occurred for 86,400 s after
it, and the direction while either is set. -/
def leapBits (t : TimeSt) (s : Nat) : Nat :=
  match t.leap, leapInstant t with
  | some lp, some i =>
    let pending := s < i && i ≤ s + 60
    let occurred := i ≤ s && s < i + 86400
    b2n pending + 2 * b2n occurred + 4 * b2n (lp.deletion && (pending || occurred))
  | _, _ => 0

/-- FRACSEC bits [31:24]: the leap bits and the quality (R393, R468, R471). -/
def timeQualityByte (l : Lane) (s : Nat) : Nat := 16 * leapBits l.time s + fracQuality l

/-! ### Fine tags and full time -/

/-- The full time of a fine tag in units of 2^-24 s: the current full time plus the signed difference (R477). -/
def joinTag (l : Lane) (t : FineTag) : Int :=
  ((l.time.time / 2 ^ 40 : Nat) : Int) + tagDiff t (nowTag l)

/-- The fine tag of a full time in units of 2^-24 s. -/
def tagOfFull (t : Int) : FineTag := BitVec.ofInt 40 t

end Sys2Proof.Machine
end

