-- ==== Sys2Proof/Machine/PlyOps.lean ====
section
/-!
DEFINITION. Ply's shared operations (chapter 16): eligibility, contact, acquiring, releasing and losing a lease,
what a change of leaseholder does to the outputs (R378, R401, R402), witness questions, and the Ply alarms.
-/
namespace Sys2Proof.Machine

/-! ### Leases and their parameters -/

def leaseOf (l : Lane) : LeaseKind → Lease
  | .lane => l.ply.laneLease
  | .device => l.ply.deviceLease

def setLease (k : LeaseKind) (x : Lease) (l : Lane) : Lane :=
  match k with
  | .lane => { l with ply := { l.ply with laneLease := x } }
  | .device => { l with ply := { l.ply with deviceLease := x } }

/-- The lease byte of a message (R549). -/
def leaseCode : LeaseKind → Nat
  | .lane => 0
  | .device => 1

/-- P in tc (R533, R563, R564). -/
def periodTc (l : Lane) : LeaseKind → Nat
  | .lane => usTc l.cfg.ply.periodUs
  | .device => usTc ((l.cfg.pair.map (·.periodUs)).getD 20000)

/-- g in tc. -/
def guardTc (l : Lane) : LeaseKind → Nat
  | .lane => usTc l.cfg.ply.guardUs
  | .device => usTc ((l.cfg.pair.map (·.guardUs)).getD 2000)

/-- The lease's policy is `AVAILABLE` (R563, R564). -/
def policyAvailable (l : Lane) : LeaseKind → Bool
  | .lane => l.cfg.ply.available
  | .device => (l.cfg.pair.map (·.available)).getD false

/-- This lane, or this lane's package, is the preferred one (R539). -/
def preferredHere (l : Lane) : LeaseKind → Bool
  | .lane => l.cfg.ply.preferred == l.id.code
  | .device => (l.cfg.pair.map (fun p => p.preferredDevice == p.deviceIndex)).getD true

/-- The member id of the other lane of the package. -/
def siblingId (l : Lane) : Nat := 2 * deviceIndex l + l.id.other.code

/-- The other members of a lease (R532, R533). -/
def otherMembers (l : Lane) : LeaseKind → List Nat
  | .lane => [siblingId l]
  | .device => partnerMembers l

/-! ### Eligibility and state -/

/-- The reason mask (R535): MODE, UNHEALTHY and AWAITING_CONTACT are computed, the others stand in the state. -/
def reasonMask (l : Lane) : BitVec 16 :=
  l.ply.reasons |||
    (if l.mode.mode == .service || l.mode.mode == .holdover then 0 else 1) |||
    (if l.health.unhealthy.isEmpty then 0 else 4) |||
    (if l.ply.laneLease.awaiting || l.ply.deviceLease.awaiting then 0x80 else 0)

/-- Eligible: in SERVICE or HOLDOVER with reason mask 0 (R535). -/
def eligible (l : Lane) : Bool :=
  dieRuns l && (l.mode.mode == .service || l.mode.mode == .holdover) && reasonMask l == 0

/-- The Ply state (R534). -/
def plyState (l : Lane) : PlyState :=
  if !dieRuns l || l.mode.mode == .start || l.mode.mode == .salvage then .off
  else if l.ply.laneLease.held then (if holdsDevice l then .holder else .localHolder)
  else if reasonMask l == 0 then .standby
  else .ineligible

/-- The lane acts as the holder of a lease: the device lease is its package's, and only the package's agent renews, claims
or releases it (R533). -/
def leads (l : Lane) (k : LeaseKind) : Bool := (leaseOf l k).held && (k == .lane || l.ply.laneLease.held)

/-- The lane takes part in the leases (R534). -/
def takesPart (l : Lane) : Bool := plyState l != .off

/-- A member is in contact (R541): a valid frame within P, or a datagram within P_d; a departed member counts as
in contact until a message from it arrives (R542). -/
def inContact (l : Lane) (m : Nat) : Bool :=
  match tget l.ply.contacts m with
  | none => false
  | some c =>
    c.departed ||
      decide (l.tc ≤ c.lastSeen + (if m / 2 = deviceIndex l then periodTc l .lane else periodTc l .device))

/-- A member in contact that is not OFF, not INELIGIBLE and has not departed (R541, R542). -/
def memberEligible (l : Lane) (m : Nat) : Bool :=
  match tget l.ply.contacts m with
  | none => false
  | some c => inContact l m && !c.departed && 2 ≤ c.state

/-- A member's departure notice is its latest message (R542). -/
def departed (l : Lane) (m : Nat) : Bool := ((tget l.ply.contacts m).map (·.departed)).getD false

/-- The only other member has departed (R542): the sibling, or the partner package, whose agent has sent its notice and
whose other lane is out of contact, OFF or departed as well. -/
def allDeparted (l : Lane) (k : LeaseKind) : Bool :=
  (otherMembers l k).any (departed l) && (otherMembers l k).all (fun m =>
    departed l m || !inContact l m || ((tget l.ply.contacts m).map (·.state)).getD 0 == 0)

/-- The member that a RELEASE names (R540, R543): the eligible sibling; for the device lease the partner's eligible agent;
0xFF for none. -/
def eligibleSuccessor (l : Lane) (k : LeaseKind) : Nat :=
  ((otherMembers l k).find? (fun m => memberEligible l m &&
    (k == .lane || 3 ≤ ((tget l.ply.contacts m).map (·.state)).getD 0))).getD 0xFF

/-- Whether the version negotiated with a member is at least 1.`minor` (R553). -/
def memberAtLeast (l : Lane) (m minor : Nat) : Bool :=
  if m / 2 = deviceIndex l then plyAtLeast l minor
  else (Version.mk 1 minor).le (((tgetD l.ply.az m .reset).version).getD ⟨1, 0⟩)

/-! ### Messages -/

/-- The key epoch that the lane reports (R549, R587). -/
def keyEpochNow (l : Lane) : Nat := if l.keys.zeroised then 0 else l.keys.keyEpoch

/-- arith_gen of the active image (R549, R604). -/
def arithGen (l : Lane) : Nat :=
  match l.mode.active with
  | .a => l.boot.slotA.arithGen
  | .b => l.boot.slotB.arithGen
  | .recovery => 0

/-- The holder of a lease as this lane knows it, 0xFF for none. -/
def knownHolder (l : Lane) (k : LeaseKind) : Nat := ((leaseOf l k).holder).getD 0xFF

/-- The device lease's holder: the package itself when unpaired (R533). -/
def knownDevice (l : Lane) : Nat :=
  match l.cfg.pair with
  | none => 0
  | some p => if l.ply.deviceLease.held then p.deviceIndex else knownHolder l .device

/-- The HELLO body (R549). -/
def helloBody (l : Lane) : HelloBody :=
  { minVer := ⟨1, 0⟩, maxVer := ⟨1, 4⟩, firmware := firmware l, arithGen := arithGen l, mode := l.mode.mode.code,
    state := (plyState l).code, reasons := reasonMask l, laneEpoch := l.ply.laneLease.epoch,
    laneHolder := knownHolder l .lane, deviceEpoch := l.ply.deviceLease.epoch, deviceHolder := knownDevice l,
    configGen := l.mode.configGen, keyEpoch := keyEpochNow l, policy := b2n l.cfg.ply.available }

/-- Sends HELLO to the other lane, and to the partner package where paired. -/
def sendHello (l : Lane) : Lane :=
  azSendPartners 0xFF (.hello (helloBody l)) (plySend 0xFF (.hello (helloBody l)) l)

/-- A member sends HELLO at each change of its Ply state (R541), and of the key epoch and the policy that the other members
compare with theirs (R535, R587). -/
def announce (l : Lane) : Lane :=
  if plyState l = l.ply.announced && keyEpochNow l = l.ply.announcedEpoch && b2n l.cfg.ply.available = l.ply.announcedPolicy then l
  else
    sendHello { l with ply := { l.ply with
      announced := plyState l, announcedEpoch := keyEpochNow l, announcedPolicy := b2n l.cfg.ply.available
      lastHello := l.tc } }

/-- A message of a lease: on the Ply links for the lane lease, to both lanes of the partner for the device lease
(R536). -/
def sendLease (k : LeaseKind) (b : PlyBody) (l : Lane) : Lane :=
  match k with
  | .lane => plySend 0 b l
  | .device => azSendPartners 1 b l

/-! ### What a change of leaseholder does to the outputs -/

/-- Step 3 of R401 for one publication: with the mirrored numbers and sqNum + 1 when its member states equal the
mirrored ones, stNum + 1 and sqNum 0 otherwise, then on from the mirrored interval; without a mirror stNum starts
at 1 (R403). -/
def gooseTakeover (n : Nat) (p : GoosePub) (l : Lane) : Lane :=
  let r := gooseRun l n
  match r.mirrored with
  | none => gooseTransmit n p { r with sqNum := 0, eventTime := nowFull l } p.tMinMs false l
  | some (st, sq, interval, ms) =>
    if ms = boolsNat (memberBits l p.members) then
      gooseTransmit n p { r with stNum := st, sqNum := gooseNext sq } interval false l
    else gooseTransmit n p { r with stNum := gooseNext st, sqNum := 0, eventTime := nowFull l } interval false l

/-- Courses no longer in the catch-up ring: the published courses between the last mirrored one and the oldest
frame of a full ring (R401). -/
def catchupMissing (c : SessionCfg) (s : SessionRun) : Nat :=
  match s.mirroredCourse, s.catchup with
  | some m, f :: _ => if s.catchup.length < 256 then 0 else (f.course - m - 1) / c.outDiv
  | _, _ => 0

/-- Step 5 of R401 for one UDP session: every frame after the last mirrored course, in course order. -/
def sessionCatchup (n : Nat) (l : Lane) : Lane :=
  match tget l.cfg.sessions n, tget l.publish.sessions n with
  | some c, some s =>
    if c.tcp then l
    else
      let frames := s.catchup.filter (fun f =>
        match s.mirroredCourse with
        | some m => decide (m < f.course)
        | none => true)
      let s' := { s with
        catchup := []
        catchupSent := (s.catchupSent + frames.length) % 2 ^ 32
        catchupLost := (s.catchupLost + catchupMissing c s) % 2 ^ 32 }
      let l1 := { l with publish := { l.publish with sessions := tput l.publish.sessions n s' } }
      frames.foldl (fun acc f => sendSession n c f acc) l1
  | _, _ => l

/-- A lane becomes the leaseholder: `OWN` rises, its pins continue from its own alarm state, GOOSE, ARP and the
catch-up follow in this order (R401). -/
def takeOver (l : Lane) : Lane :=
  let l1 := refreshPins l
  let l2 := l1.cfg.goose.foldl (fun acc e => if e.2.enable then gooseTakeover e.1 e.2 acc else acc) l1
  let l3 := l2.cfg.sessions.foldl (fun acc e => emit (.arp e.2.srcAddr) acc) l2
  l3.cfg.sessions.foldl (fun acc e => sessionCatchup e.1 acc) l3

/-- A lane stops being the leaseholder: gated transmission stops, its TCP connections are reset, and its pins hold
their last states until the new holder's first mirror (R379, R402). -/
def stepDown (l : Lane) : Lane :=
  let l1 := { l with publish := { l.publish with mirrorPins := l.publish.pins } }
  let connected := l1.publish.sessions.filter (fun e => e.2.client.isSome)
  let l2 := connected.foldl (fun acc e => emit (.tcpReset e.1) acc) l1
  refreshPins { l2 with publish := { l2.publish with
    sessions := l2.publish.sessions.map (fun e => (e.1, { e.2 with
      client := none, waiting := [], sending := if e.2.client.isSome then false else e.2.sending })) } }

/-- Runs a change of a lease and what follows when the lane becomes, or stops being, the leaseholder. -/
def leaseChange (f : Lane → Lane) (l : Lane) : Lane :=
  let l' := f l
  if !isLeaseholder l && isLeaseholder l' then takeOver l'
  else if isLeaseholder l && !isLeaseholder l' then stepDown l'
  else refreshPins l'

/-! ### Acquiring and giving up -/

/-- Sends RENEW and records it: the counter rises by one, and it counts as acknowledged when it is sent where R537
or R542 says so. -/
def sendRenew (k : LeaseKind) (witnessUp : Bool) (l : Lane) : Lane :=
  let x := leaseOf l k
  let auto := (!policyAvailable l k && !witnessUp) || (policyAvailable l k && x.alone) || allDeparted l k
  let x' := { x with
    counter := x.counter + 1, sentAt := l.tc, acked := auto, timedOut := false
    until_ := if auto then l.tc + periodTc l k else x.until_ }
  let gd : Nat × Nat := match k with
    | .lane => (l.cfg.ply.periodUs, l.cfg.ply.guardUs)
    | .device => ((l.cfg.pair.map (·.periodUs)).getD 0, (l.cfg.pair.map (·.guardUs)).getD 0)
  sendLease k (.renew x.epoch x'.counter gd.1 gd.2) (setLease k x' l)

/-- The witness of a lease. -/
def witnessOf (l : Lane) : LeaseKind → WitnessSt
  | .lane => l.ply.laneWit
  | .device => l.ply.deviceWit

def setWitness (k : LeaseKind) (w : WitnessSt) (l : Lane) : Lane :=
  match k with
  | .lane => { l with ply := { l.ply with laneWit := w } }
  | .device => { l with ply := { l.ply with deviceWit := w } }

/-- The kind of witness configured for a lease: 0 none, 1 host, 2 Azwell (R565). -/
def witnessKind (l : Lane) : LeaseKind → Nat
  | .lane => l.cfg.witness.laneWitness
  | .device => l.cfg.witness.deviceWitness

/-- A configured witness is available (R545). -/
def witnessUp (l : Lane) (k : LeaseKind) : Bool := witnessKind l k != 0 && (witnessOf l k).available

/-- A new agent's device lease (R533, R564): its package holds it on until P_d/2 after the last word from the old agent, which
renewed it every P_d/2 (log 52). -/
def inheritDevice (l : Lane) : Lane :=
  let x := l.ply.deviceLease
  if l.cfg.pair.isSome && x.held then
    let seen := ((tget l.ply.contacts (siblingId l)).map (·.lastSeen)).getD 0
    let t := max x.until_ (seen + periodTc l .device / 2)
    setLease .device (if t ≤ l.tc then { x with held := false, holder := none } else { x with until_ := t }) l
  else l

/-- The lane acquires a lease: it holds it until P from now, at the epoch one above the highest it has seen, which
it writes to flash; acquisition counts as an acknowledged RENEW, and the first RENEW is sent at once (R537, R539).
Alarm 339 reports it. -/
def acquire (k : LeaseKind) (l : Lane) : Lane :=
  let x := leaseOf l k
  let alone := (otherMembers l k).all (fun m => !inContact l m)
  let epoch := bump x.epoch
  let x' := { x with
    held := true, until_ := l.tc + periodTc l k, epoch := epoch, sentAt := l.tc, acked := true, timedOut := false
    alone := alone, holder := some (match k with | .lane => memberId l | .device => deviceIndex l)
    noHolderSince := none, lastClaim := none }
  let l1 := leaseChange (fun s =>
    let s0 := match k with | .lane => inheritDevice s | .device => s
    let s1 := setLease k x' s0
    { s1 with
      flashEpochs := match k with | .lane => (epoch, s.flashEpochs.2) | .device => (s.flashEpochs.1, epoch)
      ply := { s1.ply with ctr := { s1.ply.ctr with acquisitions := bump s1.ply.ctr.acquisitions }, lastAcquired := nowTag s } }) l
  announce (sendRenew k (witnessUp l k) (raiseEvent 339 l1))

/-- A pending LEASE_HANDOVER whose lease ends before an ACCEPT completes with NOT_LEASEHOLDER (R543). -/
def dropHandover (l : Lane) : Lane :=
  match l.ply.handover with
  | none => l
  | some h => refuse h.req .notLeaseholder { l with ply := { l.ply with handover := none } }

/-- The lane no longer holds a lease (by YIELD, expiry or release). -/
def loseLease (k : LeaseKind) (l : Lane) : Lane :=
  if (leaseOf l k).held then
    leaseChange (fun s => setLease k { leaseOf s k with
      held := false, holder := none, alone := false, serviceSince := (leaseOf s k).serviceSince.map (fun _ => s.tc) } s) l
  else l

/-- The holder yields at once (R536, R539). -/
def yieldLease (k : LeaseKind) (l : Lane) : Lane :=
  if !leads l k then loseLease k l
  else if (leaseOf l k).held then
    let l1 := loseLease k (dropHandover l)
    announce { l1 with ply := { l1.ply with ctr := { l1.ply.ctr with yields := bump l1.ply.ctr.yields } } }
  else l

/-- The holder releases a lease: gated transmission stops before RELEASE is sent (R540). -/
def releaseLease (k : LeaseKind) (successor reason : Nat) (l : Lane) : Lane :=
  if (leaseOf l k).held then
    let l1 := loseLease k (dropHandover l)
    let l2 := setLease k { leaseOf l1 k with noHolderSince := some l1.tc } l1
    announce (sendLease k (.release (leaseOf l2 k).epoch successor reason) l2)
  else l

/-- An orderly entry to OFF (R540, R542): the lane lease is released to an eligible sibling, which becomes the agent of the
device lease too; without one an agent releases the device lease as well. The departure notice follows on both links,
and to the partner package from its agent. -/
def leaveService (reason : Nat) (l : Lane) : Lane :=
  let agent := l.ply.laneLease.held
  let l1 := if leads l .device && eligibleSuccessor l .lane = 0xFF then releaseLease .device (eligibleSuccessor l .device) reason l else l
  let l2 := releaseLease .lane (eligibleSuccessor l1 .lane) reason l1
  let l3 := plySend 0 (.release l2.ply.laneLease.epoch 0xFF reason) l2
  if agent then azSendPartners 1 (.release l3.ply.deviceLease.epoch 0xFF reason) l3 else l3

/-- Whether the lane may act for a lease: eligible, not holding it, and for the device lease the agent (R533). -/
def mayClaim (l : Lane) (k : LeaseKind) : Bool :=
  eligible l && !(leaseOf l k).held && (k == .lane || l.ply.laneLease.held)

/-! ### The witness (R545, R546) -/

/-- Both leases have the Azwell witness (R565). -/
def sharedWitness (l : Lane) : Bool := witnessKind l .lane == 2 && witnessKind l .device == 2

/-- The other lease. -/
def otherLease : LeaseKind → LeaseKind
  | .lane => .device
  | .device => .lane

/-- A question to the witness of a lease is outstanding, for either lease of a shared witness (R545). -/
def questionOut (l : Lane) (k : LeaseKind) : Bool :=
  (witnessOf l k).outstanding.isSome || (sharedWitness l && (witnessOf l (otherLease k)).outstanding.isSome)

/-- A RENEW or CLAIM replaces a shared witness's outstanding PING (R545). -/
def dropPing (k : LeaseKind) (l : Lane) : Lane :=
  let w := witnessOf l (otherLease k)
  if sharedWitness l && w.outstanding.any (fun q => q.2.1 == 0) then
    setWitness (otherLease k) { w with outstanding := none } l
  else l

/-- Posts a question: RENEW and CLAIM replace an outstanding question, and a PING is not sent while one is
outstanding (R545, R653). A host witness is asked while the hub is present (R35). -/
def askWitness (k : LeaseKind) (kind : Nat) (l : Lane) : Lane :=
  let w := witnessOf l k
  if witnessKind l k = 0 || (kind = 0 && questionOut l k) || (witnessKind l k = 1 && !l.mode.hubPresent) then l
  else
    let x := leaseOf l k
    let holder := (x.holder).getD 0xFF
    let q := max l.ply.laneWit.nextQseq l.ply.deviceWit.nextQseq
    let w' := { w with outstanding := some (q, kind, x.sentAt), lastPing := l.tc, nextQseq := bump q }
    let l1 := setWitness k w' (dropPing k l)
    if witnessKind l k = 1 then
      setCause causeWitness { l1 with host := { l1.host with
        wq := some ⟨q, kind, leaseCode k, x.epoch, holder⟩, wqLast := ⟨q, kind, leaseCode k, x.epoch, holder⟩ } }
    else
      azSend 0xFE false
        [{ sender := memberId l, lease := leaseCode k, body := .witnessQuery q kind (leaseCode k) x.epoch holder }] l1

/-- A message of a lease from another member, or a witness's answer, ends AWAITING_CONTACT (R538). -/
def clearAwaiting (k : LeaseKind) (l : Lane) : Lane := setLease k { leaseOf l k with awaiting := false } l

/-- A witness has answered: it is available, for both leases where both have it (R545). -/
def witnessHeard (k : LeaseKind) (l : Lane) : Lane :=
  let l1 := clearAwaiting k (setWitness k { witnessOf l k with available := true, lastAnswer := l.tc, outstanding := none } l)
  if sharedWitness l1 then
    clearAwaiting (otherLease k)
      (setWitness (otherLease k) { witnessOf l1 (otherLease k) with available := true, lastAnswer := l.tc } l1)
  else l1

/-- A witness's answer (R545, R546): it makes the witness available; KEEP acknowledges the RENEW asked about, and
HOLDER_GONE lets an eligible claimant acquire (R537, R538). A vote on a stale sequence is ignored. -/
def witnessAnswer (k : LeaseKind) (qseq vote : Nat) (l : Lane) : Lane :=
  let w := witnessOf l k
  match w.outstanding with
  | none => l
  | some (q, kind, sent) =>
    if q ≠ qseq then l
    else
      let l1 := witnessHeard k l
      let x := leaseOf l1 k
      if kind = 1 && vote = 1 && leads l1 k then
        setLease k { x with acked := x.acked || x.sentAt == sent, until_ := max x.until_ (sent + periodTc l1 k) } l1
      else if kind = 2 && vote = 2 && mayClaim l1 k then acquire k l1
      else l1

/-! ### Unhealthiness, automatic handover, alarms -/

/-- A sibling suitable for R544: eligible, with a selected reference and not flagged unlocked, by its last HEALTH
(time state locked). -/
def suitableSibling (l : Lane) : Bool :=
  memberEligible l (siblingId l) &&
    field (((tget l.ply.contacts (siblingId l)).map (·.health)).getD []) 7 1 == 2

/-- A handover is counted (R566), and the lane lease goes to the sibling. -/
def handToSibling (reason : Nat) (l : Lane) : Lane :=
  releaseLease .lane (siblingId l) reason
    { l with ply := { l.ply with ctr := { l.ply.ctr with handovers := bump l.ply.ctr.handovers } } }

/-- A holder in HOLDOVER hands over under `handover_on_holdover`, and an unhealthy holder releases while an
eligible member is in contact: the sibling, or the partner's agent for the device lease (R540, R544). -/
def autoHandover (l : Lane) : Lane :=
  if !l.ply.laneLease.held then l
  else if !l.health.unhealthy.isEmpty && memberEligible l (siblingId l) then releaseLease .lane (siblingId l) 1 l
  else if !l.health.unhealthy.isEmpty && leads l .device && eligibleSuccessor l .device != 0xFF then
    releaseLease .device (eligibleSuccessor l .device) 1 l
  else if l.mode.mode == .holdover && l.cfg.ply.handoverOnHoldover && suitableSibling l then handToSibling 5 l
  else l

/-- With `handover_on_tamper` a holder whose Selvedge zeroises hands over to an eligible sibling whose Selvedge is
not zeroised, with reason 4 (R544). -/
def tamperHandover (l : Lane) : Lane :=
  let sib := (tget l.ply.contacts (siblingId l)).map (·.health)
  if l.ply.laneLease.held && l.cfg.ply.handoverOnTamper && memberEligible l (siblingId l) &&
      field (sib.getD []) 36 1 == 0 then handToSibling 4 l
  else l

/-- The partner package's agent: the lane that the partner's HELLO names as its lane lease's holder (R533). -/
def partnerAgentId (l : Lane) : Option Nat :=
  (partnerMembers l).find? (fun m => ((tget l.ply.contacts m).bind (·.hello)).any (fun h => h.laneHolder == m))

/-- The member whose digests this lane compares with its own (R554): the leaseholder, in the package that holds the device
lease; for the leaseholder itself, the other lane. -/
def comparePeer (l : Lane) : Nat := if holdsDevice l then siblingId l else (partnerAgentId l).getD (siblingId l)

/-- Comparison is suspended under R556: different nonzero arith_gen values, or one 0 and firmware that differs, or
either lane in DRILL. -/
def compareBlocked (l : Lane) : Bool :=
  match (tget l.ply.contacts (comparePeer l)).bind (·.hello) with
  | none => l.mode.mode == .drill
  | some h =>
    let a := if memberAtLeast l (comparePeer l) 4 then h.arithGen else 0
    let b := if memberAtLeast l (comparePeer l) 4 then arithGen l else 0
    (a != 0 && b != 0 && a != b) || ((a == 0 || b == 0) && h.firmware != firmware l) ||
      l.mode.mode == .drill || h.mode == 4

/-- Each Ply alarm is active while its condition holds (R567). Blocks raise alarms while the lane serves. -/
def plyAlarms (l : Lane) : Lane :=
  if !serving l then l
  else
    let down0 := !l.ply.link0.up
    let down1 := !l.ply.link1.up
    let members := siblingId l :: partnerMembers l
    let noOther := members.all (fun m => !memberEligible l m)
    let waiting := (isLeaseholder l && (noOther || !l.health.unhealthy.isEmpty)) ||
      (!l.ply.laneLease.held && eligible l && members.all (fun m => !inContact l m) &&
        !policyAvailable l .lane && !witnessUp l .lane)
    let witDown := (witnessKind l .lane != 0 && !l.ply.laneWit.available) ||
      (witnessKind l .device != 0 && !l.ply.deviceWit.available)
    let azDown := l.cfg.pair.isSome && (partnerMembers l).all (fun m => !(tgetD l.ply.az m .reset).up)
    condAlarm 345 (compareBlocked l && members.any (inContact l))
      (condAlarm 344 azDown (condAlarm 343 witDown (condAlarm 342 waiting
        (condAlarm 338 (down0 && down1) (condAlarm 337 down1 (condAlarm 336 down0 l))))))

/-- Sets or clears one stored reason bit (R535). -/
def setReason (b : Nat) (v : Bool) (l : Lane) : Lane :=
  let m : BitVec 16 := BitVec.ofNat 16 (2 ^ b)
  { l with ply := { l.ply with reasons := if v then l.ply.reasons ||| m else l.ply.reasons &&& ~~~m } }

/-- The member whose values a lane compares with its own (R535): its package's holder, or for an agent whose package does
not hold the device lease the partner's agent. -/
def referenceMember (l : Lane) : Option Nat :=
  if isLeaseholder l then none
  else if l.ply.laneLease.held then partnerAgentId l
  else l.ply.laneLease.holder.filter (· != memberId l)

/-- The periods and the guard of the last RENEW differ from this lane's (R535, R563, R564). -/
def renewDiffers (l : Lane) (k : LeaseKind) : Bool :=
  let x := leaseOf l k
  !x.held && x.silence.isSome && (x.theirPeriod != periodTc l k || x.theirGuard != guardTc l k)

/-- KEY_EPOCH and PARAMS follow what the holder's HELLO and RENEWs say (R535). -/
def refreshReasons (l : Lane) : Lane :=
  let renew := renewDiffers l .lane || (l.cfg.pair.isSome && renewDiffers l .device)
  match referenceMember l with
  | none => setReason 3 false (setReason 5 renew l)
  | some m =>
    match (tget l.ply.contacts m).bind (·.hello) with
    | none => setReason 5 renew l
    | some h => setReason 3 (h.keyEpoch != keyEpochNow l) (setReason 5 (renew || h.policy != b2n l.cfg.ply.available) l)

/-- What follows every change of Ply's inputs: the reasons that follow the holder, automatic handover, the HELLO of a
changed state, the alarms. -/
def plySettle (l : Lane) : Lane := plyAlarms (announce (autoHandover (refreshReasons l)))

/-- The lane declares itself unhealthy by a resource (R535, R540). -/
def declareUnhealthy (code : Nat) (l : Lane) : Lane :=
  let u := if l.health.unhealthy.contains code then l.health.unhealthy else l.health.unhealthy ++ [code]
  plySettle { l with health := { l.health with unhealthy := u } }

/-- A reason of unhealthiness ends. -/
def clearUnhealthy (code : Nat) (l : Lane) : Lane :=
  plySettle { l with health := { l.health with unhealthy := l.health.unhealthy.filter (· != code) } }

/-- The lane knows no holder of a lease (R541): the preferred lane acquires at once when members in contact are
eligible, and another lane once the preferred one is not eligible and a further start_wait_ms has passed. -/
def freeLease (k : LeaseKind) (l : Lane) : Lane :=
  let x := leaseOf l k
  match x.noHolderSince with
  | none => l
  | some t =>
    if !mayClaim l k then l
    else if !(otherMembers l k).any (inContact l) then l
    else if preferredHere l k then acquire k l
    else if (otherMembers l k).all (fun m => !memberEligible l m) &&
        decide (t + msTc l.cfg.ply.startWaitMs ≤ l.tc) then acquire k l
    else l

end Sys2Proof.Machine
end

