-- ==== Sys2Proof/Machine/Bundle.lean ====
section
/-!
DEFINITION. The bundle encoding (R276, R277): the fields of its 192 bits, the words of a bundle, and when a bundle
is malformed.
-/
namespace Sys2Proof.Machine

/-! ### Fields -/

def decodeV (b : BitVec 48) : VSlot :=
  { op := b.extractLsb' 40 8, pred := b.extractLsb' 37 3, vd := b.extractLsb' 31 6, va := b.extractLsb' 25 6,
    vb := b.extractLsb' 19 6, vc := b.extractLsb' 13 6, negA := b.extractLsb' 12 1, negC := b.extractLsb' 11 1,
    conjB := b.extractLsb' 10 1, bsrc := b.extractLsb' 8 2, lane := b.extractLsb' 4 4, rsvd := b.extractLsb' 0 4 }

def encodeV (v : VSlot) : BitVec 48 :=
  v.op ++ v.pred ++ v.vd ++ v.va ++ v.vb ++ v.vc ++ v.negA ++ v.negC ++ v.conjB ++ v.bsrc ++ v.lane ++ v.rsvd

def decodeS (b : BitVec 32) : SSlot :=
  { op := b.extractLsb' 26 6, pred := b.extractLsb' 23 3, sd := b.extractLsb' 18 5, sa := b.extractLsb' 13 5,
    sb := b.extractLsb' 8 5, low := b.extractLsb' 0 8 }

def encodeS (s : SSlot) : BitVec 32 := s.op ++ s.pred ++ s.sd ++ s.sa ++ s.sb ++ s.low

def decodeL (b : BitVec 24) : LSlot :=
  { op := b.extractLsb' 21 3, dst := b.extractLsb' 15 6, base := b.extractLsb' 10 5, offset := b.extractLsb' 0 10 }

def encodeL (l : LSlot) : BitVec 24 := l.op ++ l.dst ++ l.base ++ l.offset

def decodeT (b : BitVec 24) : TSlot :=
  { op := b.extractLsb' 21 3, pred := b.extractLsb' 18 3, src := b.extractLsb' 12 6, base := b.extractLsb' 7 5,
    offset := b.extractLsb' 0 7 }

def encodeT (t : TSlot) : BitVec 24 := t.op ++ t.pred ++ t.src ++ t.base ++ t.offset

def decodeN (b : BitVec 16) : NSlot :=
  { op := b.extractLsb' 13 3, f12 := b.extractLsb' 10 3, f9 := b.extractLsb' 8 2, f7 := b.extractLsb' 4 4,
    f3 := b.extractLsb' 0 4 }

def encodeN (n : NSlot) : BitVec 16 := n.op ++ n.f12 ++ n.f9 ++ n.f7 ++ n.f3

def decodeC (b : BitVec 24) : CSlot :=
  { op := b.extractLsb' 20 4, f19 := b.extractLsb' 17 3, f16 := b.extractLsb' 14 3, f13 := b.extractLsb' 11 3,
    f10 := b.extractLsb' 8 3, f7 := b.extractLsb' 0 8 }

def encodeC (c : CSlot) : BitVec 24 := c.op ++ c.f19 ++ c.f16 ++ c.f13 ++ c.f10 ++ c.f7

/-- The bundle in its 192 bits (R276). -/
def decodeBundle (b : BitVec 192) : Bundle :=
  { v := decodeV (b.extractLsb' 0 48), s := decodeS (b.extractLsb' 48 32), l := decodeL (b.extractLsb' 80 24),
    t := decodeT (b.extractLsb' 104 24), n0 := decodeN (b.extractLsb' 128 16), n1 := decodeN (b.extractLsb' 144 16),
    c := decodeC (b.extractLsb' 160 24), parity := b.extractLsb' 184 8 }

def encodeBundle (b : Bundle) : BitVec 192 :=
  b.parity ++ encodeC b.c ++ encodeN b.n1 ++ encodeN b.n0 ++ encodeT b.t ++ encodeL b.l ++ encodeS b.s ++ encodeV b.v

/-! ### Fields read as numbers -/

/-- Direction and hops of a SEND: bits [12:11] and [10:8]. -/
def nDir (n : NSlot) : Dir :=
  match (n.f12 >>> 1).toNat with
  | 0 => .n
  | 1 => .e
  | 2 => .s
  | _ => .w
def nHops (n : NSlot) : Nat := (n.f12.extractLsb' 0 1 ++ n.f9).toNat
/-- Source register of a send, bits [7:2]. -/
def nSrc (n : NSlot) : Nat := (n.f7 ++ n.f3.extractLsb' 2 2).toNat
/-- Latch and destination register of a RECV: bits [12:10] and [9:4]. -/
def nLatch (n : NSlot) : Option Latch :=
  match n.f12.toNat with
  | 0 => some .n
  | 1 => some .e
  | 2 => some .s
  | 3 => some .w
  | 4 => some .row
  | 5 => some .col
  | _ => none
def nDst (n : NSlot) : Nat := (n.f9 ++ n.f7).toNat

/-- LOOP: trip count − 1 in [19:10], body length − 1 in [9:0]. -/
def cTrip (c : CSlot) : Nat := (c.f19 ++ c.f16 ++ c.f13 ++ c.f10.extractLsb' 2 1).toNat + 1
def cBodyLen (c : CSlot) : Nat := (c.f10.extractLsb' 0 2 ++ c.f7).toNat + 1
/-- ALARM: pred in [19:17], id in [16:9]. -/
def cAlarmId (c : CSlot) : Nat := (c.f16 ++ c.f13 ++ c.f10.extractLsb' 1 2).toNat

/-- The immediate of an immediate form, bits [17:0]. -/
def sImm (s : SSlot) : BitVec 18 := s.sa ++ s.sb ++ s.low

/-! ### Well-formed bundles (R277) -/

/-- Complex operations. -/
def vComplex (op : Nat) : Bool := op == 0x08 || op == 0x09 || op == 0x0A
/-- Operations that write a predicate. -/
def vCompare (op : Nat) : Bool := 0x10 ≤ op && op ≤ 0x16

/-- The operations of the V table. -/
def vDefined (op : Nat) : Bool :=
  op ≤ 0x06 || vComplex op || vCompare op || op == 0x18 || op == 0x19 || (0x20 ≤ op && op ≤ 0x28) ||
  (0x30 ≤ op && op ≤ 0x32) || (0x38 ≤ op && op ≤ 0x3E)

/-- Which fields an operation uses: va, b, vc, neg_a, neg_c, conj_b. -/
def vUsesA (op : Nat) : Bool := op != 0x30
def vUsesB (op : Nat) : Bool :=
  (1 ≤ op && op ≤ 5) || op == 0x08 || op == 0x09 || vCompare op || (0x20 ≤ op && op ≤ 0x28) || op == 0x30 ||
  op == 0x31 || op == 0x3C
def vUsesC (op : Nat) : Bool := op == 0x01 || op == 0x08
def vUsesNegA (op : Nat) : Bool := op == 1 || op == 2 || op == 3 || op == 8 || op == 9
def vUsesNegC (op : Nat) : Bool := op == 1 || op == 3 || op == 8
def vUsesConj (op : Nat) : Bool := op == 8 || op == 9

/-- The V slot is well formed. -/
def vOk (v : VSlot) : Bool :=
  let op := v.op.toNat
  if op = 0 then v == decodeV 0
  else
    vDefined op && v.rsvd == 0 &&
    (!vCompare op || v.vd.extractLsb' 3 3 == 0) &&
    (vUsesA op || v.va == 0) &&
    (if vUsesB op then
       (match v.bsrc.toNat with
        | 0 => v.lane == 0
        | 1 => !vComplex op || v.lane.extractLsb' 0 1 == 0
        | 2 => !vComplex op && v.vb.extractLsb' 5 1 == 0 && v.lane == 0
        | _ => false : Bool)
     else v.vb == 0 && v.bsrc == 0 && v.lane == 0) &&
    (vUsesC op || v.vc == 0) && (vUsesNegA op || v.negA == 0) && (vUsesNegC op || v.negC == 0) &&
    (vUsesConj op || v.conjB == 0)

/-- Scalar operations that write a predicate. -/
def sCompare (op : Nat) : Bool := (0x0A ≤ op && op ≤ 0x0C) || op == 0x14 || op == 0x15

/-- The S slot is well formed. -/
def sOk (s : SSlot) : Bool :=
  let op := s.op.toNat
  if op = 0 then s == decodeS 0
  else if (1 ≤ op && op ≤ 9) || (0x10 ≤ op && op ≤ 0x13) then s.low == 0
  else if sCompare op then s.low == 0 && s.sd.extractLsb' 3 2 == 0
  else if op = 0x16 || op = 0x17 then s.low == 0 && s.sb == 0
  else if op = 0x18 then s.low == 0
  else if op = 0x19 then s.sa.extractLsb' 2 3 == 0 && s.sb == 0 && s.low == 0
  else if 0x20 ≤ op && op ≤ 0x23 then true
  else if 0x24 ≤ op && op ≤ 0x26 then (sImm s).extractLsb' 5 13 == 0
  else op == 0x28

/-- The L and T slots are well formed. -/
def lOk (l : LSlot) : Bool :=
  match l.op.toNat with
  | 0 => l == decodeL 0
  | 1 | 3 | 4 | 6 => true
  | 2 | 5 => l.dst.extractLsb' 5 1 == 0
  | _ => false
def tOk (t : TSlot) : Bool :=
  match t.op.toNat with
  | 0 => t == decodeT 0
  | 1 | 3 => true
  | 2 | 4 => t.src.extractLsb' 5 1 == 0
  | _ => false

/-- An N sub-slot is well formed. -/
def nOk (n : NSlot) : Bool :=
  match n.op.toNat with
  | 0 => n == decodeN 0
  | 1 => nHops n != 0 && n.f3.extractLsb' 0 2 == 0
  | 2 | 3 => n.f12 == 0 && n.f9 == 0 && n.f3.extractLsb' 0 2 == 0
  | 4 => (nLatch n).isSome && n.f3 == 0
  | _ => false

/-- The C slot is well formed. NOT, ALL and ANY use pa only. -/
def cOk (c : CSlot) : Bool :=
  match c.op.toNat with
  | 0 => c == decodeC 0
  | 1 => true
  | 2 => c.f10 != 7 && c.f7 == 0 && (c.f10.toNat < 4 || c.f13 == 0)
  | 3 => c.f7 == 0 && c.f10.extractLsb' 0 1 == 0
  | 4 => c.f19 == 0 && c.f16 == 0 && c.f13 == 0 && c.f10 == 0 && c.f7 == 0
  | _ => false

/-- The parity byte: the XOR of bytes 0 to 22 (R276). -/
def bundleParity (b : BitVec 192) : BitVec 8 :=
  (List.range 23).foldl (fun acc i => acc ^^^ b.extractLsb' (8 * i) 8) 0

/-- A bundle is well formed (R277). -/
def bundleOk (w : BitVec 192) : Bool :=
  let b := decodeBundle w
  vOk b.v && sOk b.s && lOk b.l && tOk b.t && nOk b.n0 && nOk b.n1 && cOk b.c && b.parity == bundleParity w

end Sys2Proof.Machine
end

