-- ==== Sys2Proof/Machine/Tile.lean ====
section
/-!
DEFINITION. What one tile does in one row (R249 to R262, R269 to R275): operand reads, the V, S, L, T and C slots,
results with their latencies, and the loop sequence.
-/
namespace Sys2Proof.Machine

/-! ### Registers and memory -/

def zeroLanes : List Word := List.replicate 16 0

/-- A vector register; s0 reads 0; p0 reads all ones (R250). -/
def vreg (t : Tile) (r : Nat) : List Word := tgetD t.v r zeroLanes
def sreg (t : Tile) (r : Nat) : Word := if r = 0 then 0 else tgetD t.s r 0
def preg (t : Tile) (r : Nat) : BitVec 16 := if r = 0 then 0xFFFF else tgetD t.p r 0

/-- A table with one entry written, without an entry that equals what an unlisted key reads as. -/
def putD {α : Type} [DecidableEq α] (d : α) (m : Table α) (k : Nat) (v : α) : Table α := if v = d then tdel m k else tput m k v

/-- A word of the data SRAM written; words not listed are 0 (R309). -/
def putWord (m : Table Word) (k : Nat) (w : Word) : Table Word := putD 0 m k w

/-- The canonical form of a table: keys strictly rising, and no entry that equals what an unlisted key reads as. -/
def canonical {α : Type} [DecidableEq α] (d : α) (m : Table α) : Bool := trising m && m.all (fun e => decide (e.2 ≠ d))

/-- The canonical form of a tile's data SRAM. -/
def Memory.wf (m : Table Word) : Bool := canonical 0 m

/-- Lanes of `new` where the mask is 1, of `old` elsewhere (R254). -/
def mergeLanes (mask : BitVec 16) (new old : List Word) : List Word :=
  (List.range 16).map (fun i => if mask.getLsbD i then new.getD i 0 else old.getD i 0)

/-- Writes one result (R250, R252): s0 and p0 ignore writes. -/
def writeDest (d : Dest) (t : Tile) : Tile :=
  match d with
  | .vec r mask lanes => { t with v := putD zeroLanes t.v r (mergeLanes mask lanes (vreg t r)) }
  | .sca r w => if r = 0 then t else { t with s := putD 0 t.s r w }
  | .prd r mask bits =>
    if r = 0 then t else { t with p := putD 0 t.p r ((bits &&& mask) ||| (preg t r &&& ~~~mask)) }

/-- The order of results due in one row: earlier issue first, then the lower slot, so that the one R253 keeps is
written last. -/
def resultBefore (a b : Result) : Bool :=
  a.due < b.due || (a.due == b.due && (a.issued < b.issued || (a.issued == b.issued && a.slot ≤ b.slot)))

def insertResult (x : Result) : List Result → List Result
  | [] => [x]
  | y :: t => if resultBefore x y then x :: y :: t else y :: insertResult x t

/-- Results due by the end of row `row` are written, in the order of R252 and R253. -/
def settleResults (row : Nat) (t : Tile) : Tile :=
  let due := (t.results.filter (fun r => decide (r.due ≤ row))).foldr insertResult []
  due.foldl (fun acc r => writeDest r.dest acc)
    { t with results := t.results.filter (fun r => decide (row < r.due)) }

/-- Stores due by the end of row `row` write memory (R261). -/
def settleStores (row : Nat) (t : Tile) : Tile :=
  let due := t.stores.filter (fun s => decide (s.due ≤ row))
  due.foldl (fun acc s => { acc with mem := s.words.foldl (fun m w => putWord m w.1 w.2) acc.mem })
    { t with stores := t.stores.filter (fun s => decide (row < s.due)) }

/-- Everything that issued takes its effect (R282). -/
def settleAll (t : Tile) : Tile :=
  let last := (t.results.map (·.due)).foldl max ((t.stores.map (·.due)).foldl max 0)
  settleStores last (settleResults last t)

/-- The word address of a byte address, modulo 2^18 (R259). -/
def wordAddr (a : Nat) : Nat := a % 2 ^ 18 / 4
/-- The first word of the line of a byte address. -/
def lineAddr (a : Nat) : Nat := a % 2 ^ 18 / 64 * 16
/-- The bank of a byte address, bits [9:6] (R259). -/
def bankOf (a : Nat) : Nat := a / 64 % 16

def memWord (t : Tile) (w : Nat) : Word := tgetD t.mem w 0
def memLine (t : Tile) (a : Nat) : List Word := (List.range 16).map (fun i => memWord t (lineAddr a + i))

/-! ### The V slot -/

/-- Operand b (R276): the register, one lane (a pair for complex operations) broadcast, or a scalar broadcast. -/
def vOperandB (t : Tile) (v : VSlot) : List Word :=
  let reg := vreg t v.vb.toNat
  match v.bsrc.toNat with
  | 0 => reg
  | 1 =>
    if vComplex v.op.toNat then
      (List.range 16).map (fun i => reg.getD (v.lane.toNat + i % 2) 0)
    else List.replicate 16 (reg.getD v.lane.toNat 0)
  | _ => List.replicate 16 (sreg t v.vb.toNat)

def negIf (f : BitVec 1) (w : Word) : Word := if f = 1 then fpNeg w else w

/-- Pairs of one operation over 16 lanes. -/
def lanes2 (f : Word → Word → Word) (a b : List Word) : List Word := List.zipWith f a b

/-- The parts of a complex multiply-add in the order of R256. -/
def cfmaRe (ar ai br bi cr : Word) : Word := fpFma ar br (fpFma (fpNeg ai) bi cr)
def cfmaIm (ar ai br bi ci : Word) : Word := fpFma ar bi (fpFma ai br ci)

/-- A function of eight complex lanes. -/
def complexLanes (f : Nat → Word × Word) : List Word :=
  (List.range 8).flatMap (fun i => [(f i).1, (f i).2])

/-- REDADD's fixed tree (R276 V table). -/
def redPairs : List Word → List Word
  | a :: b :: t => fpAdd a b :: redPairs t
  | l => l
def redAdd (a : List Word) : Word := (redPairs (redPairs (redPairs (redPairs a)))).headD 0

/-- The 16 lanes that a V operation computes; compares give 1 for true. -/
def vLanes (t : Tile) (v : VSlot) : List Word :=
  let a0 := vreg t v.va.toNat
  let a := a0.map (negIf v.negA)
  let b := vOperandB t v
  let c := (vreg t v.vc.toNat).map (negIf v.negC)
  let bi : Word → Word := fun w => negIf v.conjB w
  let bool := fun (f : Word → Word → Bool) => lanes2 (fun x y => if f x y then 1 else 0) a0 b
  match v.op.toNat with
  | 0x01 => List.zipWith (fun (x : Word × Word) z => fpFma x.1 x.2 z) (a.zip b) c
  | 0x02 => lanes2 fpMul a b
  | 0x03 => lanes2 (fun x y => fpAdd x (negIf v.negC y)) a b
  | 0x04 => lanes2 fpMin a0 b
  | 0x05 => lanes2 fpMax a0 b
  | 0x06 => a0.map fpAbs
  | 0x08 => complexLanes (fun i =>
      (cfmaRe (a.getD (2*i) 0) (a.getD (2*i+1) 0) (b.getD (2*i) 0) (bi (b.getD (2*i+1) 0)) (c.getD (2*i) 0),
       cfmaIm (a.getD (2*i) 0) (a.getD (2*i+1) 0) (b.getD (2*i) 0) (bi (b.getD (2*i+1) 0)) (c.getD (2*i+1) 0)))
  | 0x09 => complexLanes (fun i =>
      (cfmaRe (a.getD (2*i) 0) (a.getD (2*i+1) 0) (b.getD (2*i) 0) (bi (b.getD (2*i+1) 0)) 0,
       cfmaIm (a.getD (2*i) 0) (a.getD (2*i+1) 0) (b.getD (2*i) 0) (bi (b.getD (2*i+1) 0)) 0))
  | 0x0A => complexLanes (fun i =>
      (fpFma (a0.getD (2*i) 0) (a0.getD (2*i) 0) (fpMul (a0.getD (2*i+1) 0) (a0.getD (2*i+1) 0)), 0))
  | 0x10 => bool fpEq
  | 0x11 => bool fpLt
  | 0x12 => bool fpLe
  | 0x13 => bool fpUn
  | 0x14 => bool (fun x y => x == y)
  | 0x15 => bool (fun x y => decide (x.toInt < y.toInt))
  | 0x16 => bool (fun x y => decide (x.toNat < y.toNat))
  | 0x18 => a0.map fpToInt
  | 0x19 => a0.map fpOfInt
  | 0x20 => lanes2 (· + ·) a0 b
  | 0x21 => lanes2 (· - ·) a0 b
  | 0x22 => lanes2 (· &&& ·) a0 b
  | 0x23 => lanes2 (· ||| ·) a0 b
  | 0x24 => lanes2 (· ^^^ ·) a0 b
  | 0x25 => lanes2 (fun x y => x <<< (y.toNat % 32)) a0 b
  | 0x26 => lanes2 (fun x y => x >>> (y.toNat % 32)) a0 b
  | 0x27 => lanes2 (fun x y => x.sshiftRight (y.toNat % 32)) a0 b
  | 0x28 => mergeLanes (preg t v.pred.toNat) a0 b
  | 0x30 => b
  | 0x31 => b.map (fun y => a0.getD (y.toNat % 16) 0)
  | 0x32 => List.replicate 16 (redAdd a0)
  | 0x38 => a0.map fpRcp
  | 0x39 => a0.map fpRsqrt
  | 0x3A => a0.map fpSin
  | 0x3B => a0.map fpCos
  | 0x3C => lanes2 fpAtan2 a0 b
  | 0x3D => a0.map fpExp
  | 0x3E => a0.map fpLog
  | _ => zeroLanes

/-- The latencies of the V table. -/
def vLatency (op : Nat) : Nat :=
  if op = 1 || op = 2 || vComplex op then 4
  else if 3 ≤ op && op ≤ 5 || op = 0x18 || op = 0x19 then 2
  else if op = 0x32 then 6
  else if 0x38 ≤ op then 8
  else 1

/-- The lanes of a compare as predicate bits. -/
def laneBits (l : List Word) : BitVec 16 :=
  (List.range 16).foldl (fun acc i => if l.getD i 0 = 1 then acc ||| BitVec.ofNat 16 (2 ^ i) else acc) 0

/-- The result of the V slot. SEL is not masked by its predicate (V table). -/
def vResult (row : Nat) (t : Tile) (v : VSlot) : List Result :=
  let op := v.op.toNat
  if op = 0 then []
  else
    let lanes := vLanes t v
    let mask := if op = 0x28 then 0xFFFF else preg t v.pred.toNat
    let due := row + vLatency op - 1
    if vCompare op then
      [{ due := due, issued := row, slot := 0, dest := .prd (v.vd.toNat % 8) mask (laneBits lanes) }]
    else [{ due := due, issued := row, slot := 0, dest := .vec v.vd.toNat mask lanes }]

/-! ### The S slot -/

/-- LIDX (R271): the iteration index of the active loop at a level; 0 without one. -/
def loopIndex (t : Tile) (level : Nat) : Nat := ((t.loops[level]?).map (·.index)).getD 0

/-- The word that an S operation computes; compares give 1 for true. -/
def sValue (t : Tile) (s : SSlot) : Word :=
  let a := sreg t s.sa.toNat
  let b := sreg t s.sb.toNat
  let d := sreg t s.sd.toNat
  let imm := (sImm s).setWidth 32
  let sh := (sImm s).toNat % 32
  let bool := fun (c : Bool) => (if c then 1 else 0 : Word)
  match s.op.toNat with
  | 0x01 => a + b
  | 0x02 => a - b
  | 0x03 => a &&& b
  | 0x04 => a ||| b
  | 0x05 => a ^^^ b
  | 0x06 => a <<< (b.toNat % 32)
  | 0x07 => a >>> (b.toNat % 32)
  | 0x08 => a.sshiftRight (b.toNat % 32)
  | 0x09 => a * b
  | 0x0A => bool (a == b)
  | 0x0B => bool (decide (a.toInt < b.toInt))
  | 0x0C => bool (decide (a.toNat < b.toNat))
  | 0x10 => fpAdd a b
  | 0x11 => fpSub a b
  | 0x12 => fpMul a b
  | 0x13 => fpFma a b d
  | 0x14 => bool (fpLt a b)
  | 0x15 => bool (fpEq a b)
  | 0x16 => fpToInt a
  | 0x17 => fpOfInt a
  | 0x18 => (vreg t ((s.sa ++ s.sb.extractLsb' 4 1).toNat)).getD (s.sb.toNat % 16) 0
  | 0x19 => BitVec.ofNat 32 (loopIndex t (s.sa.toNat % 4))
  | 0x20 => d + (sImm s).signExtend 32
  | 0x21 => d &&& imm
  | 0x22 => d ||| imm
  | 0x23 => d ^^^ imm
  | 0x24 => d <<< sh
  | 0x25 => d >>> sh
  | 0x26 => d.sshiftRight sh
  | 0x28 => imm <<< 14
  | _ => 0

/-- The latencies of the S table. -/
def sLatency (op : Nat) : Nat :=
  if op = 0x12 || op = 0x13 then 4
  else if op = 0x09 || op = 0x10 || op = 0x11 || op = 0x16 || op = 0x17 then 2
  else 1

/-- The result of the S slot: only when bit 0 of its predicate is 1 (R254); a compare writes all 16 bits. -/
def sResult (row : Nat) (t : Tile) (s : SSlot) : List Result :=
  let op := s.op.toNat
  if op = 0 || !(preg t s.pred.toNat).getLsbD 0 then []
  else
    let w := sValue t s
    let due := row + sLatency op - 1
    if sCompare op then
      [{ due := due, issued := row, slot := 1,
         dest := .prd (s.sd.toNat % 8) 0xFFFF (if w = 1 then 0xFFFF else 0) }]
    else [{ due := due, issued := row, slot := 1, dest := .sca s.sd.toNat w }]

/-! ### The L and T slots -/

/-- The access size of a load and of a store. -/
def lSize (l : LSlot) : Nat := if l.op.toNat = 1 || l.op.toNat = 4 then 64 else 4
def tSize (s : TSlot) : Nat := if s.op.toNat = 1 || s.op.toNat = 3 then 64 else 4

/-- base + offset × size, modulo 2^32. -/
def advanced (t : Tile) (base : BitVec 5) (off : Int) (size : Nat) : Word :=
  sreg t base.toNat + BitVec.ofInt 32 (off * (size : Int))

/-- Forms ending in I access the base itself. -/
def lPost (l : LSlot) : Bool := 4 ≤ l.op.toNat
def tPost (s : TSlot) : Bool := 3 ≤ s.op.toNat

/-- The byte address of an access. -/
def lAddr (t : Tile) (l : LSlot) : Nat :=
  (if lPost l then sreg t l.base.toNat else advanced t l.base l.offset.toInt (lSize l)).toNat
def tAddr (t : Tile) (s : TSlot) : Nat :=
  (if tPost s then sreg t s.base.toNat else advanced t s.base s.offset.toInt (tSize s)).toNat

/-- A load samples memory in its issue row and is written with latency 3 (R261); forms ending in I write the base
with latency 1. -/
def lData (row : Nat) (t : Tile) (l : LSlot) : List Result :=
  let a := lAddr t l
  match l.op.toNat with
  | 1 | 4 => [{ due := row + 2, issued := row, slot := 2, dest := .vec l.dst.toNat 0xFFFF (memLine t a) }]
  | 2 | 5 => [{ due := row + 2, issued := row, slot := 2, dest := .sca (l.dst.toNat % 32) (memWord t (wordAddr a)) }]
  | 3 | 6 =>
    [{ due := row + 2, issued := row, slot := 2,
       dest := .vec l.dst.toNat 0xFFFF (List.replicate 16 (memWord t (wordAddr a))) }]
  | _ => []

def lBase (row : Nat) (t : Tile) (l : LSlot) : List Result :=
  if lPost l && l.op.toNat ≤ 6 then
    [{ due := row, issued := row, slot := 2, dest := .sca l.base.toNat (advanced t l.base l.offset.toInt (lSize l)) }]
  else []

/-- A store writes at the end of the next row the words whose predicate bit allows it (R254, R261, R262). -/
def tStore (row : Nat) (t : Tile) (s : TSlot) : List StoreOp :=
  let a := tAddr t s
  let p := preg t s.pred.toNat
  match s.op.toNat with
  | 1 | 3 =>
    let data := vreg t s.src.toNat
    [{ due := row + 1,
       words := ((List.range 16).filter (fun i => p.getLsbD i)).map (fun i => (lineAddr a + i, data.getD i 0)) }]
  | 2 | 4 => if p.getLsbD 0 then [{ due := row + 1, words := [(wordAddr a, sreg t (s.src.toNat % 32))] }] else []
  | _ => []

def tBase (row : Nat) (t : Tile) (s : TSlot) : List Result :=
  if tPost s && s.op.toNat ≤ 4 then
    [{ due := row, issued := row, slot := 3, dest := .sca s.base.toNat (advanced t s.base s.offset.toInt (tSize s)) }]
  else []

/-- Both memory slots access one bank (R260). -/
def bankConflict (t : Tile) (b : Bundle) : Bool :=
  b.l.op != 0 && b.t.op != 0 && bankOf (lAddr t b.l) == bankOf (tAddr t b.t)

/-! ### The C slot -/

/-- PSET (R275). -/
def psetBits (t : Tile) (c : CSlot) : BitVec 16 :=
  let a := preg t c.f16.toNat
  let b := preg t c.f13.toNat
  match c.f10.toNat with
  | 0 => a &&& b
  | 1 => a ||| b
  | 2 => a ^^^ b
  | 3 => a &&& ~~~b
  | 4 => ~~~a
  | 5 => if a = 0xFFFF then 0xFFFF else 0
  | _ => if a = 0 then 0 else 0xFFFF

def cResult (row : Nat) (t : Tile) (c : CSlot) : List Result :=
  if c.op.toNat = 2 then
    [{ due := row, issued := row, slot := 6, dest := .prd c.f19.toNat 0xFFFF (psetBits t c) }]
  else []

/-- The id of an ALARM that takes effect (R254, R273). -/
def cAlarm (t : Tile) (c : CSlot) : Option Nat :=
  if c.op.toNat = 3 && (preg t c.f19.toNat).getLsbD 0 then some (cAlarmId c) else none

/-- The loops that end at this bundle are counted, the innermost first (R269, R270): the next address and the
loops still active. -/
def loopBack (a : Nat) : List LoopSt → Nat × List LoopSt
  | [] => (a + 1, [])
  | x :: t =>
    if x.last = a then
      if x.left = 0 then loopBack a t
      else (x.first, { x with left := x.left - 1, index := x.index + 1 } :: t)
    else (a + 1, x :: t)

/-- The address after bundle `a`: a LOOP opens its body, any other bundle may close one (R268, R269). -/
def nextFetch (a : Nat) (c : CSlot) (loops : List LoopSt) : Nat × List LoopSt :=
  if c.op.toNat = 1 then
    (a + 1, { first := a + 1, last := a + cBodyLen c, left := cTrip c - 1, index := 0 } :: loops)
  else loopBack a loops

/-! ### One row of one tile -/

/-- Issues a bundle in row `row`: results and stores set out, the fetch sequence advanced. On a bank conflict the
accesses are not performed (R282). `recv` gives the results of the N slots. -/
def issueBundle (row : Nat) (b : Bundle) (recv : List Result) (t : Tile) : Tile :=
  let clash := bankConflict t b
  let nf := nextFetch t.pc b.c t.loops
  { t with
    results := t.results ++ vResult row t b.v ++ sResult row t b.s ++ (if clash then [] else lData row t b.l) ++
      lBase row t b.l ++ tBase row t b.t ++ recv ++ cResult row t b.c
    stores := t.stores ++ (if clash then [] else tStore row t b.t)
    pc := nf.1
    loops := nf.2 }

end Sys2Proof.Machine
end

