-- ==== Sys2Proof/Machine/Tiles.lean ====
section
/-!
DEFINITION. The tiles of a partition, and what a lasting fault of one does (R247, R286 to R288, R321).
-/
namespace Sys2Proof.Machine

/-- A partition, empty where none is allocated. -/
def partOf (l : Lane) (n : Nat) : Part := tgetD l.array.parts n .empty

/-- One partition is replaced. -/
def setPart (n : Nat) (p : Part) (l : Lane) : Lane := { l with array := { l.array with parts := tput l.array.parts n p } }

/-! ### Tiles of a partition -/

abbrev Rect := Nat × Nat × Nat × Nat

/-- The logical tile at an index of a rectangle's tile directory (R247, R297). -/
def tileAt (r : Rect) (t : Nat) : Nat := 8 * (r.1 + t / r.2.2.2) + r.2.1 + t % r.2.2.2
def rectTiles (r : Rect) : Nat := r.2.2.1 * r.2.2.2

def tileOf (l : Lane) (n : Nat) : Tile := tgetD l.array.tiles n .zero
def setTile (n : Nat) (t : Tile) (l : Lane) : Lane :=
  { l with array := { l.array with tiles := putD Tile.zero l.array.tiles n t } }

/-- The retired physical column of a row (R286). -/
def retiredColumn (l : Lane) (row : Nat) : Option Nat := (l.health.retired.find? (fun x => x / 9 == row)).map (· % 9)

/-- The physical tile of a logical tile (R247, R286). -/
def physicalTile (l : Lane) (n : Nat) : Nat :=
  match retiredColumn l (n / 8) with
  | some f => if f ≤ n % 8 then 9 * (n / 8) + n % 8 + 1 else 9 * (n / 8) + n % 8
  | none => 9 * (n / 8) + n % 8

/-- Counts at the physical tile of a logical one (R291). -/
def countTile (n : Nat) (f : TileCounters → TileCounters) (l : Lane) : Lane :=
  let k := physicalTile l n
  { l with array := { l.array with counters := tput l.array.counters k (f (tgetD l.array.counters k ⟨0, 0, 0⟩)) } }

/-- Writes bytes from a word address on, four to a word (R15, R259). -/
def writeBytes (w : Nat) (b : Bytes) (t : Tile) : Tile :=
  { t with mem := (List.range (b.length / 4)).foldl (fun m i => putWord m (w + i) (BitVec.ofNat 32 (field b (4 * i) 4))) t.mem }

/-- The 64 bytes of a line. -/
def lineBytes (t : Tile) (line : Nat) : Bytes := (List.range 16).flatMap (fun i => le 4 (memWord t (16 * line + i)).toNat)

/-- One tile of a partition is changed. -/
def modTile (n : Nat) (f : Tile → Tile) (l : Lane) : Lane := setTile n (f (tileOf l n)) l

/-- Every tile of a rectangle is changed. -/
def modTiles (r : Rect) (f : Nat → Tile → Tile) (l : Lane) : Lane :=
  (List.range (rectTiles r)).foldl (fun acc t => modTile (tileAt r t) (f t) acc) l

/-! ### Faulty tiles (R286 to R288, R321) -/

/-- The reason of unhealthiness of R288. -/
def arrayUnhealthy : Nat := 16

/-- A row can take one repair: its spare is neither in use nor failed (R288). -/
def rowRepairable (l : Lane) (row : Nat) : Bool :=
  (retiredColumn l row).isNone && !l.health.spareFailed.getLsbD row && !l.array.repairs.any (fun x => x / 8 == row)

/-- The active bank of a partition is marked FAULTED (R321). -/
def markFaulted (n : Nat) (l : Lane) : Lane := raiseEvent 269 (setPart n { partOf l n with faulted := true } l)

/-- The partitions that hold a logical tile. -/
def partsWith (l : Lane) (ok : Nat → Bool) : List Nat :=
  (l.array.parts.filter (fun e => e.2.rect.any (fun r => (List.range (rectTiles r)).any (fun t => ok (tileAt r t))))).map (·.1)

/-- A tile's fault is lasting (R286 to R288): the repair of its row begins and stops every partition that holds a
tile to be shifted; in a row that cannot be repaired the lane becomes unhealthy and the active bank FAULTED. -/
def tileLasting (tile : Nat) (l : Lane) : Lane :=
  let l0 := lastingFault .sram tile l
  if rowRepairable l0 (tile / 8) then
    let stop := partsWith l0 (fun x => x / 8 == tile / 8 && tile % 8 ≤ x % 8)
    stop.foldl (fun acc n => setPart n { partOf acc n with repairing := true } acc)
      { l0 with array := { l0.array with repairs := l0.array.repairs ++ [tile] } }
  else declareUnhealthy arrayUnhealthy ((partsWith l0 (· == tile)).foldl (fun acc n => markFaulted n acc) l0)

end Sys2Proof.Machine
end

