-- ==== Sys2Proof/Machine/Ply.lean ====
section
/-!
DEFINITION. The Ply commands and events (chapter 16): the lease timers, the messages, the links, Azwell, digests,
health, pulls, and PLY_SET, PLY_PAIR, WITNESS_SET, PLY_QUERY and LEASE_HANDOVER.
-/
namespace Sys2Proof.Machine

/-! ### Lease timers -/

/-- The holder sends RENEW every P/2 (R536). -/
def laneRenewSend (k : LeaseKind) (l : Lane) : Lane :=
  if leads l k && decide ((leaseOf l k).sentAt + periodTc l k / 2 ≤ l.tc) then
    sendRenew k (witnessUp l k) l
  else l

/-- P/8 after an unacknowledged RENEW: it is counted once, and the witness is asked (R536, R546). -/
def laneRenewAckTimeout (k : LeaseKind) (l : Lane) : Lane :=
  let x := leaseOf l k
  if leads l k && !x.acked && !x.timedOut && decide (x.sentAt + periodTc l k / 8 ≤ l.tc) then
    let l1 := setLease k { x with timedOut := true } l
    askWitness k 1 { l1 with ply := { l1.ply with ctr := { l1.ply.ctr with renewalsUnacked := bump l1.ply.ctr.renewalsUnacked } } }
  else l

/-- At t_s + P the holder's lease ends; under `AVAILABLE` it carries AWAITING_CONTACT (R537, R538). -/
def laneLeaseExpiry (k : LeaseKind) (l : Lane) : Lane :=
  let x := leaseOf l k
  if leads l k && decide (x.until_ ≤ l.tc) then
    let l1 := loseLease k (dropHandover l)
    plySettle (setLease k { leaseOf l1 k with
      silence := some x.sentAt, theirPeriod := periodTc l k, theirGuard := guardTc l k, awaiting := policyAvailable l k } l1)
  else l

/-- The instant at which a member may act on silence (R538, R541): t_q + 2P + g with the larger P; alone in
SERVICE without a witness under `AVAILABLE`, start_wait_ms for the preferred lane and that much more for the
other. -/
def takeoverAt (l : Lane) (k : LeaseKind) : Option Nat :=
  let x := leaseOf l k
  let p := max (periodTc l k) x.theirPeriod
  match x.silence with
  | some t => some (t + 2 * p + guardTc l k)
  | none =>
    x.serviceSince.map (fun t =>
      if witnessUp l k then t + 2 * p + guardTc l k
      else if preferredHere l k then t + msTc l.cfg.ply.startWaitMs
      else t + msTc l.cfg.ply.startWaitMs + 2 * p + guardTc l k)

/-- Takeover after silence (R538, R541): CLAIM through an available witness, acquisition under `AVAILABLE` without
one, and under `SAFE_SINGLE` never. Without a known holder and with a member in contact the free-lease rule
applies instead. -/
def laneSilenceTakeover (k : LeaseKind) (l : Lane) : Lane :=
  match takeoverAt l k with
  | none => l
  | some t =>
    if !mayClaim l k || !decide (t ≤ l.tc) then l
    else if (leaseOf l k).silence.isNone && (otherMembers l k).any (inContact l) then l
    else if witnessUp l k then
      if (leaseOf l k).lastClaim.isSome then l
      else askWitness k 2 (setLease k { leaseOf l k with lastClaim := some l.tc } l)
    else if policyAvailable l k then acquire k l
    else plyAlarms l

/-- An eligible member repeats its CLAIM every P (R538). -/
def laneClaimRepeat (k : LeaseKind) (l : Lane) : Lane :=
  match (leaseOf l k).lastClaim with
  | none => l
  | some t =>
    if mayClaim l k && witnessUp l k && decide (t + periodTc l k ≤ l.tc) then
      askWitness k 2 (setLease k { leaseOf l k with lastClaim := some l.tc } l)
    else l

/-- After start_wait_ms with no message naming a holder the lane knows none, and the free-lease rule applies
(R541). -/
def laneFreeLease (k : LeaseKind) (l : Lane) : Lane :=
  let x := leaseOf l k
  match x.noHolderSince, x.holder, x.serviceSince with
  | none, none, some t =>
    if !x.held && decide (t + msTc l.cfg.ply.startWaitMs ≤ l.tc) then
      freeLease k (setLease k { x with noHolderSince := some l.tc } l)
    else l
  | _, _, _ => freeLease k l

/-- A member that knows no holder of the device lease sends HELLO to each partner lane every P_d/2 (R541). -/
def lanePlyHelloPeriodic (l : Lane) : Lane :=
  if dieRuns l && l.cfg.pair.isSome && knownDevice l = 0xFF && decide (l.ply.lastHello + periodTc l .device / 2 ≤ l.tc) then
    azSendPartners 0xFF (.hello (helloBody l)) { l with ply := { l.ply with lastHello := l.tc } }
  else l

/-- Every timeout_ms/4 with no question outstanding the lane sends PING (R545). -/
def laneWitnessPing (k : LeaseKind) (l : Lane) : Lane :=
  if takesPart l && decide ((witnessOf l k).lastPing + msTc l.cfg.witness.timeoutMs / 4 ≤ l.tc) then
    askWitness k 0 l
  else l

/-- A witness becomes unavailable: the silence instant is not before that moment, and alarm 343 is raised (R538,
R545, R567). -/
def witnessLost (k : LeaseKind) (l : Lane) : Lane :=
  let l1 := setWitness k { witnessOf l k with available := false } l
  let x := leaseOf l1 k
  plySettle (setLease k { x with silence := x.silence.map (fun t => max t l.tc), lastClaim := none } l1)

/-- A witness that has not answered within timeout_ms becomes unavailable (R545). -/
def laneWitnessUnavailable (k : LeaseKind) (l : Lane) : Lane :=
  let w := witnessOf l k
  if w.available && decide (w.lastAnswer + msTc l.cfg.witness.timeoutMs ≤ l.tc) then witnessLost k l else l

/-- No ACCEPT within the lease's period: the request completes with TIMEOUT and has no effect (R543). -/
def laneOfferTimeout (l : Lane) : Lane :=
  match l.ply.handover with
  | none => l
  | some h =>
    if decide (h.sentAt + periodTc l h.lease ≤ l.tc) then
      refuse h.req .timeout { l with ply := { l.ply with handover := none } }
    else l

/-! ### Messages -/

/-- A message from a member arrives: it is in contact (R541, R542), and a holder is alone no longer (R537). -/
def noteContact (m : Nat) (l : Lane) : Lane :=
  let c := tgetD l.ply.contacts m ⟨l.tc, false, 0, 0, none, []⟩
  { l with ply := { l.ply with
    contacts := tput l.ply.contacts m { c with lastSeen := l.tc, departed := false }
    laneLease := { l.ply.laneLease with alone := if m = siblingId l then false else l.ply.laneLease.alone }
    deviceLease := { l.ply.deviceLease with alone := if (partnerMembers l).contains m then false else l.ply.deviceLease.alone } } }

/-- A message names a holder of a lease at an epoch: the lane knows it from now on (R539, R541). -/
def learnHolder (k : LeaseKind) (holder epoch : Nat) (l : Lane) : Lane :=
  let x := leaseOf l k
  let e := max x.epoch epoch
  if x.held then
    -- two holders of one lease in contact: the lower epoch yields, and at equal epochs the one not preferred (R539)
    let conflict : Bool := match k with | .lane => holder != memberId l | .device => holder != deviceIndex l
    if holder ≠ 0xFF && conflict && (x.epoch < epoch || (x.epoch = epoch && !preferredHere l k)) then
      let l1 := yieldLease k l
      setLease k { leaseOf l1 k with epoch := e, holder := some holder, noHolderSince := none } l1
    else l
  else if holder = 0xFF then setLease k { x with epoch := e } l
  else setLease k { x with epoch := e, holder := some holder, noHolderSince := none } l

/-- The versions of Ply (R553). -/
def plyVersions : List Version := [⟨1, 0⟩, ⟨1, 2⟩, ⟨1, 3⟩, ⟨1, 4⟩]

/-- The highest version common with a member's range (R553). -/
def plyCommon (lo hi : Version) : Option Version := (plyVersions.filter (fun v => lo.le v && v.le hi)).getLast?

/-- The other lane of the package tells who holds the device lease, which the agent knows itself (R533). -/
def learnDevice (holder epoch : Nat) (l : Lane) : Lane :=
  let x := l.ply.deviceLease
  if l.ply.laneLease.held || epoch < x.epoch then l
  else if holder = deviceIndex l then
    setLease .device { x with held := true, epoch := epoch, holder := some holder, noHolderSince := none } l
  else if holder = 0xFF then setLease .device { x with held := false, epoch := epoch } l
  else setLease .device { x with held := false, epoch := epoch, holder := some holder, noHolderSince := none } l

/-- HELLO (R549): the member's versions, state, reasons, epochs and holders. -/
def onHello (m : Nat) (h : HelloBody) (l : Lane) : Lane :=
  let l1 := noteContact m l
  let c := tgetD l1.ply.contacts m ⟨l.tc, false, 0, 0, none, []⟩
  let c' := { c with state := h.state, reasons := h.reasons, hello := some h }
  let l2 := { l1 with ply := { l1.ply with contacts := tput l1.ply.contacts m c' } }
  let v := plyCommon h.minVer h.maxVer
  let l3 :=
    if m = siblingId l then { l2 with ply := { l2.ply with version := v } }
    else
      let a := { tgetD l2.ply.az m .reset with version := v, up := v.isSome, lastValid := l.tc }
      { l2 with ply := { l2.ply with az := tput l2.ply.az m a } }
  let l4 := if m / 2 = deviceIndex l then learnHolder .lane h.laneHolder h.laneEpoch l3 else l3
  let l5 := if l.cfg.pair.isNone then l4
    else if m / 2 = deviceIndex l then learnDevice h.deviceHolder h.deviceEpoch l4
    else learnHolder .device h.deviceHolder h.deviceEpoch l4
  plySettle (freeLease .device (freeLease .lane (refreshReasons l5)))

/-- RENEW from a holder (R536): answered YIELD below the highest known epoch, otherwise acknowledged; it renews
the silence instant and ends a CLAIM (R538). A lane in OFF takes no part, and the agent answers for its package. -/
def onRenew (k : LeaseKind) (m epoch counter periodUs guardUs : Nat) (l : Lane) : Lane :=
  if !takesPart l then l
  else
    let l1 := clearAwaiting k (noteContact m l)
    let x := leaseOf l1 k
    let answers := k == .lane || l1.ply.laneLease.held
    if epoch < x.epoch then (if answers then sendLease k (.yield x.epoch) l1 else l1)
    else
      let holder := match k with | .lane => m | .device => m / 2
      let l2 := learnHolder k holder epoch l1
      if (leaseOf l2 k).held then l2
      else
        let y := leaseOf l2 k
        let l3 := refreshReasons (setLease k { y with
          silence := some l.tc, theirPeriod := usTc periodUs, theirGuard := usTc guardUs, lastClaim := none } l2)
        plySettle (if answers then sendLease k (.renewAck epoch counter (plyState l3).code) l3 else l3)

/-- RENEW_ACK (R536, R537): it counts when it names the latest RENEW and arrives within P/8 of it. -/
def onRenewAck (k : LeaseKind) (m epoch counter : Nat) (l : Lane) : Lane :=
  let l1 := clearAwaiting k (noteContact m l)
  let x := leaseOf l1 k
  if leads l1 k && x.epoch == epoch && x.counter == counter && decide (l.tc ≤ x.sentAt + periodTc l k / 8) then
    setLease k { x with acked := true, until_ := x.sentAt + periodTc l k } l1
  else l1

/-- YIELD (R536): the holder yields at once. -/
def onYield (k : LeaseKind) (m epoch : Nat) (l : Lane) : Lane :=
  let l1 := clearAwaiting k (noteContact m l)
  let l2 := yieldLease k l1
  plySettle (setLease k { leaseOf l2 k with epoch := max (leaseOf l2 k).epoch epoch } l2)

/-- RELEASE (R540 to R542): with reason 2 or 3 and no successor a departure; the successor named acquires on
receipt, and otherwise the free-lease rule names the one that does. -/
def onRelease (k : LeaseKind) (m epoch successor reason : Nat) (l : Lane) : Lane :=
  let l1 := clearAwaiting k (noteContact m l)
  let departs := (reason = 2 || reason = 3) && successor = 0xFF
  let c := tgetD l1.ply.contacts m ⟨l.tc, false, 0, 0, none, []⟩
  let l2 := if departs then { l1 with ply := { l1.ply with contacts := tput l1.ply.contacts m { c with departed := true, state := 1 } } }
    else l1
  if !takesPart l2 then l2
  else
    let x := leaseOf l2 k
    let wasHolder : Bool := match k with
      | .lane => x.holder == some m
      | .device => x.holder == some (m / 2) && (!departs || allDeparted l2 k)
    let e := max x.epoch epoch
    let mine : Bool := match k with
      | .lane => successor = memberId l2
      | .device => successor ≠ 0xFF && successor / 2 = deviceIndex l2
    if x.held then plySettle (setLease k { x with epoch := e } l2)
    else if mine && mayClaim l2 k then
      plySettle (acquire k (setLease k { x with epoch := e, holder := none } l2))
    else
      let named : Nat := match k with | .lane => successor | .device => successor / 2
      let holder' := if successor ≠ 0xFF then some named else if wasHolder then none else x.holder
      let silence' := if successor ≠ 0xFF || wasHolder then none else x.silence
      let since' := if successor = 0xFF && (wasHolder || x.holder.isNone) then some (x.noHolderSince.getD l.tc) else none
      let x' := { x with epoch := e, holder := holder', silence := silence', noHolderSince := since', lastClaim := none }
      plySettle (freeLease k (setLease k x' l2))

/-- OFFER (R543): an eligible target answers ACCEPT; a target in the partner package must be LOCAL_HOLDER. -/
def onOffer (k : LeaseKind) (m epoch target : Nat) (l : Lane) : Lane :=
  let l1 := clearAwaiting k (noteContact m l)
  if target = memberId l && eligible l1 && (k = .lane || plyState l1 = .localHolder) then
    sendLease k (.accept epoch target) l1
  else l1

/-- The commit point of a handover (R543): the lease is marked released, gated transmission stops, and RELEASE
names the target. -/
def commitHandover (h : Handover) (l : Lane) : Lane :=
  let l1 := { l with ply := { l.ply with handover := none, ctr := { l.ply.ctr with handovers := bump l.ply.ctr.handovers } } }
  plySettle (postReply h.req .ok false [] (releaseLease h.lease h.target 0 (markCommitted h.req l1)))

/-- ACCEPT (R543): it commits the pending handover to its sender; one that arrives after the withdrawal is
ignored. -/
def onAccept (k : LeaseKind) (m : Nat) (l : Lane) : Lane :=
  let l1 := clearAwaiting k (noteContact m l)
  match l1.ply.handover with
  | none => l1
  | some h => if h.lease = k && h.target = m && leads l1 k then commitHandover h l1 else l1

/-! ### Digests (R554 to R556) -/

/-- The comparison state of a plane. -/
def compareOf (l : Lane) (p : Nat) : CompareSt := tgetD l.ply.compare p .reset
def setCompare (p : Nat) (c : CompareSt) (l : Lane) : Lane :=
  { l with ply := { l.ply with compare := tput l.ply.compare p c } }

/-- Whether the lane compares digests of a course of plane `p` now (R554 to R556); after a pull, from the first course that
both close afterwards (R560). -/
def compares (l : Lane) (p course : Nat) : Bool :=
  (compareOf l p).startAt ≤ course && (l.mode.mode == .service || l.mode.mode == .holdover) && !l.ply.reasons.getLsbD 1 &&
    l.cfg.ply.compareMask.getLsbD p && !(compareOf l p).suspended && !compareBlocked l

/-- Sends a message to one member: over the Ply links in the package, over Azwell to the partner. -/
def sendTo (m : Nat) (b : PlyBody) (l : Lane) : Lane :=
  if m / 2 = deviceIndex l then plySend 0xFF b l
  else azSend m (azReliable b) [{ sender := memberId l, lease := 0xFF, body := b }] l

/-- A tile of a plane's partition that fails the array self-test is handled as R321 does (R555). -/
def failTile (p : Nat) (bad : Option Nat) (l : Lane) : Lane :=
  match bad, (tget l.cfg.planes p).bind (fun c => (partOf l c.partition_).rect) with
  | some tile, some r => if (List.range (rectTiles r)).any (fun t => tileAt r t == tile) then tileLasting tile l else l
  | _, _ => l

/-- A lasting mismatch: this lane and the holder run the array self-test on p's partition and exchange CHECK results
(R555). `bad` is the tile that fails this lane's self-test; none passes. -/
def startCheck (p course : Nat) (bad : Option Nat) (l : Lane) : Lane :=
  let l1 := { l with ply := { l.ply with ctr := { l.ply.ctr with mismatchLasting := bump l.ply.ctr.mismatchLasting } } }
  let l2 := lastingFault .digest p l1
  let l3 := setCompare p { compareOf l2 p with mismatch := none, checking := some (course, some bad.isNone, none) } l2
  let l4 := failTile p bad l3
  if memberAtLeast l4 (comparePeer l4) 3 then
    sendTo (comparePeer l4) (.check p true bad.isSome course) (sendTo (comparePeer l4) (.check p false false course) l4)
  else l4

/-- One comparison of a course's digests, when neither side marked it absent: a first mismatch waits for the next
compared course, which tells a transient from a lasting one (R555). -/
def compareCourse (p course : Nat) (a b : Option Nat) (bad : Option Nat) (l : Lane) : Lane :=
  match a, b with
  | some x, some y =>
    let l1 := { l with ply := { l.ply with ctr := { l.ply.ctr with compared := bump l.ply.ctr.compared } } }
    let c := compareOf l1 p
    if x = y then
      match c.mismatch with
      | none => l1
      | some _ =>
        let l2 := setCompare p { c with mismatch := none } l1
        transientFault .digest p (raiseEvent 341
          { l2 with ply := { l2.ply with ctr := { l2.ply.ctr with mismatchTransient := bump l2.ply.ctr.mismatchTransient } } })
    else
      match c.mismatch with
      | none => setCompare p { c with mismatch := some course } l1
      | some _ => startCheck p course bad l1
  | _, _ => l

/-- One course of a DIGEST message: compared with the own digest, or kept until the own one is produced (R554). -/
def takeDigest (p course : Nat) (v : Option Nat) (bad : Option Nat) (l : Lane) : Lane :=
  match l.ply.own.find? (fun d => d.plane == p && d.course == course) with
  | some d =>
    let l1 := { l with ply := { l.ply with own := l.ply.own.filter (fun x => !(x.plane == p && x.course == course)) } }
    if compares l1 p course then compareCourse p course d.value v bad l1 else l1
  | none =>
    if compares l p course then { l with ply := { l.ply with remote := l.ply.remote ++ [⟨p, course, v, l.tc⟩] } } else l

/-- Comparison of a plane goes on; alarm 340 ends with the last suspension (R555, R567). -/
def endSuspension (p : Nat) (l : Lane) : Lane :=
  let l1 := setCompare p { compareOf l p with suspended := false, mismatch := none } l
  if l1.ply.compare.any (fun e => e.2.suspended) then l1 else dropCond 340 l1

/-- DIGEST (R554, R555): a change of swap_gen ends a suspension, then its courses are taken in order. -/
def onDigest (m p swapGen absent first : Nat) (digests : List Nat) (bad : Option Nat) (l : Lane) : Lane :=
  let l1 := noteContact m l
  let c := compareOf l1 p
  let l2 := if c.suspended && c.swapSeen ≠ swapGen && memberAtLeast l1 m 4 then
      endSuspension p (setCompare p { c with swapSeen := swapGen } l1)
    else setCompare p { c with swapSeen := if c.suspended then c.swapSeen else swapGen } l1
  let l3 := if m / 2 ≠ deviceIndex l2 && l2.ply.laneLease.held then
      plySend 0xFF (.digest p swapGen absent first digests) l2
    else l2
  (digests.zipIdx).foldl
    (fun acc e => takeDigest p (first + e.2) (if bit absent e.2 then none else some e.1) bad acc) l3

/-- Both CHECK results are known (R555): when neither lane fails, the mismatch is unresolved, alarm 340 is raised
and comparison of the plane is suspended. -/
def settleCheck (p : Nat) (l : Lane) : Lane :=
  let c := compareOf l p
  match c.checking with
  | some (_, some mine, some theirs) =>
    if mine && theirs then
      raiseCond 340 (setCompare p { c with checking := none, suspended := true }
        { l with ply := { l.ply with ctr := { l.ply.ctr with mismatchUnresolved := bump l.ply.ctr.mismatchUnresolved } } })
    else setCompare p { c with checking := none } l
  | _ => l

/-- CHECK (R555): a request is answered with this lane's self-test result; a result settles the mismatch. -/
def onCheck (m p : Nat) (isResult fail : Bool) (course : Nat) (bad : Option Nat) (l : Lane) : Lane :=
  let l1 := noteContact m l
  if isResult then
    let c := compareOf l1 p
    match c.checking with
    | some (k, mine, _) => settleCheck p (setCompare p { c with checking := some (k, mine, some (!fail)) } l1)
    | none => l1
  else
    let l2 := failTile p bad l1
    if memberAtLeast l2 m 3 then sendTo m (.check p true bad.isSome course) l2 else l2

/-- A digest unmatched 100 ms after its arrival or production is counted and discarded (R554). -/
def laneDigestExpiry (l : Lane) : Lane :=
  let old := fun (d : DigestEntry) => decide (d.at_ + msTc 100 ≤ l.tc)
  let n := (l.ply.own.filter old).length + (l.ply.remote.filter old).length
  { l with ply := { l.ply with
    own := l.ply.own.filter (fun d => !old d), remote := l.ply.remote.filter (fun d => !old d)
    ctr := { l.ply.ctr with unmatched := (l.ply.ctr.unmatched + n) % 2 ^ 32 } } }

/-- A message to the partner package's agent over Azwell (R533, R554). -/
def partnerAgent (lease : Nat) (b : PlyBody) (l : Lane) : Lane :=
  match partnerAgentId l with
  | some m => azSend m (azReliable b) [{ sender := memberId l, lease := lease, body := b }] l
  | none => l

/-- This lane's digest or absence marker of a course (R318, R554): the holder sends it, over Azwell in a message of its own;
another member compares it with the holder's, or keeps it. -/
def produceDigest (p course : Nat) (v : Option Nat) (bad : Option Nat) (l : Lane) : Lane :=
  if isLeaseholder l then
    let gen := if plyAtLeast l 4 then tgetD l.ply.swapGen p 0 % 65536 else 0
    let m : PlyBody := .digest p gen (if v.isNone then 1 else 0) course [v.getD 0]
    let l1 := plySend 0xFF m l
    if l.cfg.pair.isSome then partnerAgent 0xFF m l1 else l1
  else
    match l.ply.remote.find? (fun d => d.plane == p && d.course == course) with
    | some d =>
      let l1 := { l with ply := { l.ply with remote := l.ply.remote.filter (fun x => !(x.plane == p && x.course == course)) } }
      if compares l1 p course then compareCourse p course v d.value bad l1 else l1
    | none =>
      if compares l p course then { l with ply := { l.ply with own := l.ply.own ++ [⟨p, course, v, l.tc⟩] } } else l

/-! ### Health, time reason, tamper, mirror, pull -/

/-- The HEALTH body (R557). -/
def healthBytes (l : Lane) : Bytes :=
  le 1 l.mode.mode.code ++ le 1 (plyState l).code ++ le 2 (reasonMask l).toNat ++
    le 1 (b2n l.health.unhealthy.isEmpty) ++ le 1 (unsigned 8 (saturate 8 l.health.junction)) ++
    le 1 (b2n l.health.throttled) ++ le 1 (timeStateCode l) ++ le 4 (estErrorNs l) ++
    le 1 l.health.retired.length ++ le 1 l.health.spareFailed.toNat ++ le 2 l.health.selfTestFail ++
    le 4 l.health.sramCorrected ++ le 4 l.health.dramCorrected ++
    (List.range 12).map (fun n => if linkUp l n then Config.eyeWidth l.id n l.tc else 0) ++ le 1 (b2n l.keys.zeroised) ++ zeros 3 ++
    le 4 l.mode.configGen ++ le 4 l.mode.lastingSinceStart

/-- Once per second each member sends HEALTH to every member in contact (R557). -/
def laneHealthSend (l : Lane) : Lane :=
  if takesPart l && decide (l.ply.lastHealth + secTc 1 ≤ l.tc) then
    let l1 := { l with ply := { l.ply with lastHealth := l.tc } }
    let l2 := if inContact l1 (siblingId l1) then plySend 0xFF (.health ⟨healthBytes l1⟩) l1 else l1
    let l3 := (partnerMembers l2).foldl (fun acc m =>
      if inContact acc m then
        azSend m false [{ sender := memberId acc, lease := 0xFF, body := .health ⟨healthBytes acc⟩ }] acc
      else acc) l2
    { l3 with health := { l3.health with sramCorrected := 0, dramCorrected := 0, selfTestFail := 0 } }
  else l

/-- HEALTH (R557): the sender's reported state and reasons. -/
def onHealth (m : Nat) (b : Bytes) (l : Lane) : Lane :=
  let l1 := noteContact m l
  let c := tgetD l1.ply.contacts m ⟨l.tc, false, 0, 0, none, []⟩
  let l2 := { l1 with ply := { l1.ply with
    contacts := tput l1.ply.contacts m { c with state := field b 1 1, reasons := BitVec.ofNat 16 (field b 2 2), health := b }
    siblingHealth := if m = siblingId l then fit 48 b else l1.ply.siblingHealth } }
  plySettle (freeLease .device (freeLease .lane l2))

/-- TIME clears after 10 s without a disagreement (R558). -/
def laneTimeReasonClear (l : Lane) : Lane :=
  if l.ply.reasons.getLsbD 4 && decide (l.time.lastDisagree + secTc 10 ≤ l.tc) then plySettle (setReason 4 false l)
  else l

/-- TAMPER from the other lane (R559, R587): recorded in the fault log with Slate alarm 354; the receiver keeps its
keys. -/
def onTamper (m sources time : Nat) (l : Lane) : Lane :=
  let l1 := noteContact m l
  let rec_ : TamperRecord :=
    { sources := BitVec.ofNat 10 sources, mode := l.mode.mode, time := time, acknowledged := true, sibling := true }
  let l2 := { l1 with vault := { l1.vault with records := (l1.vault.records ++ [rec_]).drop (l1.vault.records.length + 1 - 8) } }
  raiseEvent 354 (logFault .event .tamper 0 sources none [] l2)

/-- MIRROR (R400): the standby's pins follow within 4 µs; GOOSE numbers and session courses are kept for a
takeover. -/
def onMirrorPins (m pins : Nat) (l : Lane) : Lane :=
  let l1 := noteContact m l
  refreshPins { l1 with publish := { l1.publish with mirrorPins := BitVec.ofNat 8 pins } }

def onMirrorGoose (m n st sq interval members : Nat) (l : Lane) : Lane :=
  let l1 := noteContact m l
  { l1 with publish := { l1.publish with
    goose := tput l1.publish.goose n { gooseRun l1 n with mirrored := some (st, sq, interval, members) } } }

def onMirrorCourse (m n course : Nat) (l : Lane) : Lane :=
  let l1 := noteContact m l
  { l1 with publish := { l1.publish with
    sessions := tmod l1.publish.sessions n (fun s => { s with mirroredCourse := some course }) } }

/-- The last item of a pull has been taken: PULLING clears, and the lane becomes STANDBY or INELIGIBLE (R561). -/
def finishPull (l : Lane) : Lane :=
  let l1 := setReason 1 false { l with ply := { l.ply with pull := none } }
  plySettle (freeLease .device (freeLease .lane l1))

/-- Asks the member pulled from for the next item (R560). -/
def requestItem (src item : Nat) (l : Lane) : Lane :=
  let l1 := { l with ply := { l.ply with pull := some ⟨src, item⟩ } }
  if src / 2 = deviceIndex l then plySend 0xFF (.pullReq item 0) l1
  else azSend src true [{ sender := memberId l1, lease := 0xFF, body := .pullReq item 0 }] l1

end Sys2Proof.Machine
end

