-- ==== Sys2Proof/Machine/StepOps.lean ====
section
/-!
DEFINITION. Planes and their course instants, and what a time step causes in other blocks (R461).
-/
namespace Sys2Proof.Machine

/-- The instant of course k in 2^-24 s of TAI (R212, R213). -/
def courseInstant (c : PlaneCfg) (k : Nat) : Nat :=
  (c.anchorS + k / c.rate) * 2 ^ 24 + (k % c.rate * 2 ^ 24 + c.rate / 2) / c.rate

/-- The first course whose instant is at or after a time (R240). -/
def firstCourseFrom (c : PlaneCfg) (t : Nat) : Nat :=
  let k := (t / 2 ^ 24 - c.anchorS) * c.rate + t % 2 ^ 24 * c.rate / 2 ^ 24 - 1
  let ks := (List.range 4).map (k + ·)
  (ks.find? (fun x => decide (t ≤ courseInstant c x))).getD (k + 4)

def planeCfg (l : Lane) (p : Nat) : Option PlaneCfg := tget l.cfg.planes p
def planeRun (l : Lane) (p : Nat) : PlaneRun := tgetD l.skein.planes p .new
def setPlane (p : Nat) (r : PlaneRun) (l : Lane) : Lane := { l with skein := { l.skein with planes := tput l.skein.planes p r } }

/-! ### Time steps (R238) -/

/-- One RUNNING plane re-anchors: courses whose deadlines now lie in the past are abandoned without a close after a
forward step, and the first close carries STEP. -/
def reanchorPlane (p : Nat) (l : Lane) : Lane :=
  match planeCfg l p with
  | none => l
  | some c =>
    if !c.running then l
    else
      let r := planeRun l p
      let now := nowUnits l
      let past := fun (k : Nat) => decide (courseInstant c k + usUnits c.waitUs < now)
      let keep := r.courses.filter (fun x => !decide (x.instant + usUnits x.rules.waitUs < now))
      let resume := max r.nextOpen (firstCourseFrom c (now - usUnits c.waitUs))
      let next := if past r.nextOpen then resume else r.nextOpen
      let gone := (r.courses.length - keep.length) + (next - r.nextOpen)
      setPlane p { r with
        courses := keep, nextOpen := next, oldest := ((keep.head?).map (·.number)).getD next
        stepPending := true, stepSkipped := (r.stepSkipped + gone) % 2 ^ 32 } l

def reanchor (l : Lane) : Lane := [0, 1, 2, 3].foldl (fun acc p => reanchorPlane p acc) l

/-! ### A time step (R461) -/

/-- Every enabled channel of the lane is marked for a synchronising reset at its stream's next sample (R204). -/
def markAllResets (l : Lane) : Lane :=
  { l with pe := { l.pe with channels := l.pe.channels.map (fun e =>
      if (tget l.cfg.pe e.1).any (·.enable) then (e.1, { e.2 with resetMarked := true }) else e) } }

/-- What a time step causes in the other blocks of the lane (R461): a synchronising reset (R204), re-anchoring of the
planes with STEP in the next course status (R238), and the end of every open swatch (R435). -/
def stepEffects (l : Lane) : Lane := swatchStep (reanchor (markAllResets l))

end Sys2Proof.Machine
end

