-- ==== Sys2Proof/Machine/ModeOps.lean ====
section
/-!
DEFINITION. The change of the mode field (R591).
-/
namespace Sys2Proof.Machine

/-- The mode field changes (R591): the interrupt cause MODE is set (R64), the pins follow (R379), and Ply's state
and alarms follow (R534, R535). -/
def setMode (m : Mode) (l : Lane) : Lane :=
  if l.mode.mode = m then l
  else plySettle (refreshPins (setCause causeMode { l with mode := { l.mode with mode := m } }))

end Sys2Proof.Machine
end

