-- ==== Sys2Proof/Machine/Time.lean ====
section
/-!
DEFINITION. Tension: measurements, the servo, references and their selection, PTP, 1PPS, IRIG-B, holdover, the UTC
offset, and the comparison of the lanes (chapter 13).
-/
namespace Sys2Proof.Machine

/-! ### References and their selection (R450, R451) -/

def setRef (k : RefKind) (x : RefSt) (l : Lane) : Lane :=
  match k with
  | .ptp => { l with time := { l.time with ptp := x } }
  | .pps => { l with time := { l.time with pps := x } }
  | .irig => { l with time := { l.time with irig := x } }

/-- The priority of a reference (R452). -/
def priorityOf (l : Lane) : RefKind → Nat
  | .ptp => l.cfg.timeRef.ptpPriority
  | .pps => l.cfg.timeRef.ppsPriority
  | .irig => l.cfg.timeRef.irigPriority

/-- Among qualified references the one of the lowest priority number; of equal numbers in the order PTP, 1PPS,
IRIG-B; 0xFF is never selected (R451). -/
def bestRef (l : Lane) : Option RefKind :=
  let ok := [RefKind.ptp, .pps, .irig].filter (fun k => (refOf l.time k).qualified && priorityOf l k != 0xFF)
  ok.foldl (fun acc k =>
    match acc with
    | none => some k
    | some b => if priorityOf l k < priorityOf l b then some k else some b) none

/-- The UTC offset and leap by the order of R470. -/
def effectiveUtc (l : Lane) : Nat × Option Leap :=
  match l.cfg.utc with
  | some u =>
    if u.force then (u.offset, u.leap)
    else
      match l.time.selected.bind (fun k => (refOf l.time k).utc) with
      | some s => s
      | none => (u.offset, u.leap)
  | none =>
    match l.time.selected.bind (fun k => (refOf l.time k).utc) with
    | some s => s
    | none => (37, none)

/-- Tension takes its offset and leap from the sources of R470. A change of o from a source without a leap
announcement is applied at once, counted, and raises Slate alarm 293. While o, o′ and L of a past change are kept
(R469), a source that already names o′ changes nothing. -/
def refreshUtc (fromSource : Bool) (l : Lane) : Lane :=
  let (o, lp) := effectiveUtc l
  let kept := l.time.leapDone && (match l.time.leap with
    | some old => o == leapNewOffset l.time.utcOffset old
    | none => false)
  if kept && lp.isNone then l
  else
    let changed := fromSource && o != offsetAt l.time (nowSec l) && lp.isNone
    let l1 := { l with time := { l.time with utcOffset := o, leap := lp, leapDone := false } }
    if changed then raiseEvent 293 { l1 with time := { l1.time with utcChanges := bump l1.time.utcChanges } } else l1

/-- Tension switches from one selected reference to another: counted, with Slate alarm 291; the time does not move
(R451). The servo's next τ runs from the reference's last measurement (R460), and measurements that awaited their
confirmation are discarded and counted (R461). -/
def switchRef (k : RefKind) (l : Lane) : Lane :=
  let l1 := { l with time := { l.time with
    selected := some k, outliers := (l.time.outliers + l.time.bigCount) % 2 ^ 32, bigCount := 0
    lastUsed := (refOf l.time k).lastValid, thetas := [], refSwitches := bump l.time.refSwitches } }
  raiseEvent 291 (refreshUtc true l1)

/-- The first selection of a qualified reference: Tension is locked, and a lane in HOLDOVER returns to SERVICE
(R450, R467). `prev` is the tc of the reference's measurement before the one that qualified it, from which the servo's
first τ runs, as the worked example after R468 shows. -/
def selectRef (k : RefKind) (prev : Option Nat) (l : Lane) : Lane :=
  let l1 := { l with time := { l.time with
    selected := some k, state := .locked, bigCount := 0, lastUsed := prev, thetas := [], holdoverAt := none
    lockedSince := some l.tc, lastLearn := l.tc } }
  let l2 := refreshUtc true l1
  if l2.mode.mode == .holdover then setMode .service l2 else l2

/-- A better reference is selected at once only when none is selected; otherwise after `revert_s` with `revertive`,
or when the selected one is lost (R451). -/
def reselect (prev : Option Nat) (l : Lane) : Lane :=
  match l.time.selected, bestRef l with
  | none, some k => selectRef k prev l
  | _, _ => l

/-- Whether `k` is better than the selected reference (R451). -/
def betterThanSelected (l : Lane) (k : RefKind) : Bool :=
  match l.time.selected with
  | none => false
  | some s => s != k && decide (priorityOf l k < priorityOf l s)

/-- A reference that has stayed qualified for `revert_s` is selected under `revertive` (R451). -/
def laneRevertExpiry (l : Lane) : Lane :=
  match bestRef l with
  | none => l
  | some k =>
    if l.cfg.timeRef.revertive && betterThanSelected l k &&
        decide ((refOf l.time k).qualifiedAt + secTc l.cfg.timeRef.revertS ≤ l.tc) then switchRef k l
    else l

/-- A valid measurement of a reference: the consecutive count, and qualification after `qual_count` of them whose
reference seconds advance by the source's interval of 1 s (R450, R458). -/
def countMeasurement (k : RefKind) (refSecond : Nat) (l : Lane) : Lane :=
  let r := refOf l.time k
  let n := if r.lastSecond = some (refSecond - 1) && 0 < refSecond then r.consecutive + 1 else 1
  let q := r.qualified || decide (l.cfg.timeRef.qualCount ≤ n)
  setRef k { r with
    consecutive := n, lastSecond := some refSecond, lastValid := some l.tc, qualified := q
    qualifiedAt := if r.qualified then r.qualifiedAt else l.tc } l

/-! ### The servo (R460, R461, R464) -/

/-- The proportional-integral step of R460 with θ in ns and τ in seconds. -/
def servoStep (theta tau : Rat) (l : Lane) : Lane :=
  let lim : Rat := mkRat (l.cfg.servo.maxAdjPpb : Int) (10 ^ 9)
  let kp := (fp32ToRat l.cfg.servo.kp).getD 0
  let ki := (fp32ToRat l.cfg.servo.ki).getD 0
  let r := theta / 1000000000 / tau
  let i := ratClamp lim (l.time.integ + ki * r)
  let y := quantise48 (ratClamp lim (-(kp * r + i)))
  setFreq y { l with time := { l.time with integ := i } }

/-- The time moves by −θ: it becomes the reference time of the measurement plus the time elapsed since it (R461,
R462). -/
def moveTime (theta : Rat) (l : Lane) : Lane :=
  let d : Int := (theta * ((2 ^ 64 : Nat) : Rat) / 1000000000).floor
  { l with time := { l.time with time := (((l.time.time : Nat) : Int) - d).toNat } }

/-- Old and new times of a step, as the detail of its record (R461). -/
def stepDetail (old new : Nat) : Bytes := le 16 old ++ le 16 new

/-- Tension steps (R461): the new time, and everything the step causes in the lane. -/
def timeStep (theta : Rat) (l : Lane) : Lane :=
  let l1 := moveTime theta l
  let l2 := { l1 with time := { l1.time with steps := bump l1.time.steps, bigCount := 0, lastUsed := some l1.tc, lastStep := some l1.tc } }
  raiseEvent 288 (logFault .event .time 0 0 (some 288) (stepDetail (nowFull l) (nowFull l1)) (stepEffects l2))

/-- The mean of |θ| over the last 16 valid measurements, the base, and the declared accuracy (R464). -/
def errorOf (l : Lane) (k : RefKind) (thetas : List Rat) : Rat :=
  ratSum (thetas.map ratAbs) / (thetas.length : Rat) + (refBaseNs l k : Rat) + ((refOf l.time k).accuracyNs : Rat)

/-- E after a measurement, and the unlocked flag with alarm 290 (R464, R465, R467). -/
def noteError (k : RefKind) (theta : Rat) (l : Lane) : Lane :=
  let th := (theta :: l.time.thetas).take 16
  let e := errorOf l k th
  let un := decide ((l.cfg.servo.unlockBoundNs : Rat) < e)
  condAlarm 290 un { l with time := { l.time with
    thetas := th, lastTheta := some theta, e0 := some e, e0At := l.tc, unlocked := un } }

/-- A measurement of the selected reference drives the servo: slewed with |θ| ≤ 1 ms, and stepped once
`step_confirm` consecutive ones exceed it; one that is not confirmed is discarded and counted (R460, R461). -/
def useMeasurement (k : RefKind) (theta : Rat) (l : Lane) : Lane :=
  let l1 := gaugeSample 6 0 theta.floor (noteError k theta l)
  if ratAbs theta ≤ 1000000 then
    let l2 := { l1 with time := { l1.time with
      outliers := (l1.time.outliers + l1.time.bigCount) % 2 ^ 32, bigCount := 0, lastUsed := some l1.tc } }
    match l1.time.lastUsed with
    | none => l2
    | some t => if t < l1.tc then servoStep theta (tcSeconds (l1.tc - t)) l2 else l2
  else if l.cfg.servo.stepConfirm ≤ l1.time.bigCount + 1 then timeStep theta l1
  else { l1 with time := { l1.time with bigCount := l1.time.bigCount + 1 } }

/-- The first valid measurement of a reference in START sets the time at once, whatever its θ; one of a better
priority that follows sets it again (R462, log 12). -/
def startMeasurement (k : RefKind) (theta : Rat) (l : Lane) : Lane :=
  let better := match l.time.startSet with | none => true | some p => decide (priorityOf l k < p)
  if l.mode.mode == .start && priorityOf l k != 0xFF && better then
    let l1 := moveTime theta l
    let th : List Rat := [0]
    { l1 with time := { l1.time with
      startSet := some (priorityOf l k), state := .acquiring, thetas := th, lastTheta := some theta
      e0 := some (errorOf l1 k th), e0At := l1.tc, lastUsed := some l1.tc } }
  else l

/-- A valid measurement θ (ns) of reference `k` whose reference time lies in second `refSecond` (R450). -/
def measure (k : RefKind) (theta : Rat) (refSecond : Nat) (l : Lane) : Lane :=
  let set := l.mode.mode == .start && l.time.selected.isNone
  let prev := (refOf l.time k).lastValid
  let l1 := countMeasurement k refSecond l
  let l2 := if set then startMeasurement k theta l1 else l1
  let l3 := if (refOf l2.time k).qualified then reselect prev l2 else l2
  if l3.time.selected = some k && !(set && l2.time.time != l1.time.time) then useMeasurement k theta l3 else l3

/-! ### PTP (R453 to R456) -/

def ptpCfg (l : Lane) (p : Nat) : PtpPortCfg := tgetD l.cfg.ptpPorts p .dflt
def ptpPort (l : Lane) (p : Nat) : PtpPortSt := tgetD l.time.ports p .reset
def setPtpPort (p : Nat) (x : PtpPortSt) (l : Lane) : Lane := { l with time := { l.time with ports := tput l.time.ports p x } }

/-- A PTP message dropped and counted (R453). -/
def dropPtp (l : Lane) : Lane := { l with time := { l.time with ptpDropped := bump l.time.ptpDropped } }

/-- PTP of the port takes part: Tension runs and the port is enabled (R453, R688). -/
def ptpOn (l : Lane) (p : Nat) : Bool := tensionRuns l && (ptpCfg l p).enable

/-- The message is of the port's domain and of PTP version 2 (R453). -/
def ptpMine (l : Lane) (p domain version : Nat) : Bool := domain == (ptpCfg l p).domain && version == 2

/-- The master's Announce has stayed current: within three announce intervals (R450, R456). -/
def announceCurrent (l : Lane) (p : Nat) : Bool :=
  match (ptpPort l p).announce with
  | some (a, t) => decide (l.tc ≤ t + 3 * secTc a.intervalS)
  | none => false

/-- The receive stamp of a port in ns, less `rx_extra_ns` (R457). -/
def rxNs (l : Lane) (p stamp : Nat) : Rat := fullNs stamp - ((ptpCfg l p).rxExtraNs : Rat)

/-- A correction field in ns: units of 2^-16 ns. -/
def corrNs (c : Int) : Rat := mkRat c 65536

/-- θ by the peer-to-peer method with delayAsymmetry (R456): t2 − t1 − mean link delay − corrections. -/
def ptpTheta (l : Lane) (p : Nat) (t2 t1 delay corr : Rat) : Rat :=
  t2 - t1 - delay - corr - (((ptpCfg l p).delayAsymNs : Int) : Rat)

/-- A complete Sync: a measurement when the port is slave, its peer delay is within the limit and the Announce is
current (R456). -/
def syncMeasurement (p : Nat) (t2 corr : Rat) (originNs : Nat) (l : Lane) : Lane :=
  match (ptpPort l p).pdelay with
  | none => l
  | some d =>
    if (ptpPort l p).state == .slave && decide (d ≤ ((ptpCfg l p).pdelayLimitNs : Rat)) && announceCurrent l p then
      measure .ptp (ptpTheta l p t2 (originNs : Rat) d corr) (originNs / 10 ^ 9) l
    else l

/-- A Sync (R456): one-step it is complete, two-step it awaits its Follow_Up. -/
def lanePtpSync (m : PtpEvent) (l : Lane) : Lane :=
  if !ptpOn l m.port then l
  else if !ptpMine l m.port m.domain m.version then dropPtp l
  else if m.twoStep then
    setPtpPort m.port { ptpPort l m.port with pendingSync := some (m.seq, rxNs l m.port m.rxStamp, corrNs m.correction, l.tc) } l
  else syncMeasurement m.port (rxNs l m.port m.rxStamp) (corrNs m.correction) m.originNs l

/-- A Follow_Up completes the Sync of its sequence within 100 ms (R456). -/
def lanePtpFollowUp (m : PtpEvent) (l : Lane) : Lane :=
  if !ptpOn l m.port then l
  else if !ptpMine l m.port m.domain m.version then dropPtp l
  else
    match (ptpPort l m.port).pendingSync with
    | some (seq, t2, corr, at_) =>
      if seq = m.seq && decide (l.tc ≤ at_ + msTc 100) then
        syncMeasurement m.port t2 (corr + corrNs m.correction) m.originNs
          (setPtpPort m.port { ptpPort l m.port with pendingSync := none } l)
      else l
    | none => l

/-- A Pdelay_Req is answered on every enabled port, by the port's step mode (R453). -/
def lanePdelayReq (p domain version seq : Nat) (l : Lane) : Lane :=
  if !ptpOn l p then l
  else if !ptpMine l p domain version then dropPtp l
  else
    let two := (ptpCfg l p).twoStep
    let l1 := emit (.ptp p (.pdelayResp seq two)) l
    if two then emit (.ptp p (.pdelayRespFollowUp seq)) l1 else l1

/-- A Pdelay_Resp or its follow-up updates the port's peer delay: half of the round trip less the responder's
turnaround (R456). -/
def lanePdelayResp (m : PdelayAnswer) (l : Lane) : Lane :=
  if !ptpOn l m.port then l
  else if !ptpMine l m.port m.domain m.version then dropPtp l
  else
    let x := ptpPort l m.port
    match x.pdelayReq with
    | none => l
    | some (seq, t1) =>
      if seq ≠ m.seq then l
      else if m.followUp then
        match x.pdelayResp with
        | some (s2, t2, t4) =>
          if s2 = m.seq then
            setPtpPort m.port { x with
              pdelay := some ((t4 - t1 - ((m.originNs : Rat) - t2) - corrNs m.correction) / 2), pdelayResp := none } l
          else l
        | none => l
      else if m.twoStep then
        setPtpPort m.port { x with pdelayResp := some (m.seq, (m.originNs : Rat) - corrNs m.correction, rxNs l m.port m.rxStamp) } l
      else setPtpPort m.port { x with pdelay := some ((rxNs l m.port m.rxStamp - t1 - corrNs m.correction) / 2) } l

/-- The upper limit in ns of a clockAccuracy class of IEEE 1588; 0 where none is declared (R464). -/
def clockAccuracyNs (a : Nat) : Nat :=
  match a with
  | 0x20 => 25
  | 0x21 => 100
  | 0x22 => 250
  | 0x23 => 1000
  | 0x24 => 2500
  | 0x25 => 10000
  | 0x26 => 25000
  | 0x27 => 100000
  | 0x28 => 250000
  | 0x29 => 1000000
  | 0x2A => 2500000
  | 0x2B => 10000000
  | 0x2C => 25000000
  | 0x2D => 100000000
  | 0x2E => 250000000
  | 0x2F => 1000000000
  | 0x30 => 10000000000
  | _ => 0

/-- clockAccuracy of the lane: the smallest value that covers its estimated error (R455). -/
def ownAccuracy (l : Lane) : Nat :=
  match estErr l with
  | none => 0xFE
  | some e => ((List.range 17).find? (fun i => decide (e ≤ (clockAccuracyNs (0x20 + i) : Rat)))).elim 0x31 (0x20 + ·)

/-- clockClass of the lane (R455). -/
def ownClass (l : Lane) : Nat :=
  if l.time.state == .locked && traceable l then 6
  else if l.mode.mode == .holdover && !l.time.unlocked then 7
  else 248

/-- timeSource of the lane (R455). -/
def ownTimeSource (l : Lane) : Nat :=
  match l.time.selected with
  | some .pps => if l.cfg.timeRef.todCompact && traceable l then 0x20 else 0xA0
  | some .ptp => 0x40
  | _ => 0xA0

/-- The lane's own dataset. -/
def ownDataset (l : Lane) : Announce :=
  { port := 0, domain := 0, version := 2, priority1 := l.cfg.timeRef.priority1, clockClass := ownClass l,
    clockAccuracy := ownAccuracy l, variance := Config.clockVariance l.id, priority2 := l.cfg.timeRef.priority2,
    identity := Config.clockIdentity l.id, steps := 0, utcOffset := utcNow l, utcValid := true, leap59 := false,
    leap61 := false, timeTraceable := traceable l, intervalS := 1 }

/-- The data set comparison of IEEE 1588: a is better than b (R454, log 7). -/
def betterDataset (a b : Announce) : Bool :=
  let key := fun (x : Announce) => [x.priority1, x.clockClass, x.clockAccuracy, x.variance, x.priority2, x.identity, x.steps]
  let rec lt : List Nat → List Nat → Bool
    | x :: xs, y :: ys => x < y || (x == y && lt xs ys)
    | _, _ => false
  lt (key a) (key b)

/-- The best current Announce over the enabled ports that may become slave, with its port (R454). -/
def bestAnnounce (l : Lane) : Option (Nat × Announce) :=
  (l.cfg.ptpPorts.filter (fun e => e.2.enable && e.2.role != 2 && announceCurrent l e.1)).foldl (fun acc e =>
    match (ptpPort l e.1).announce, acc with
    | some (a, _), none => some (e.1, a)
    | some (a, _), some (q, b) => if betterDataset a b then some (e.1, a) else some (q, b)
    | none, x => x) none

/-- The state of one port by its role and the best master clock algorithm (R454): one slave at the best foreign
master, and the others masters; role 1 never master, role 2 never slave. -/
def portState (l : Lane) (best : Option (Nat × Announce)) (p : Nat) : PtpState :=
  let c := ptpCfg l p
  if !c.enable then .disabled
  else
    let slaveHere := match best with
      | some (q, a) => q == p && c.role != 2 && betterDataset a (ownDataset l)
      | none => false
    if slaveHere then .slave
    else if c.role = 1 then .listening
    else .master

/-- The states of all enabled ports (R454). -/
def decidePorts (l : Lane) : Lane :=
  let best := bestAnnounce l
  l.cfg.ptpPorts.foldl (fun acc e => setPtpPort e.1 { ptpPort acc e.1 with state := portState l best e.1 } acc) l

/-- The UTC midnight (a SOC) at the end of the current UTC day (R470). -/
def endOfUtcDay (l : Lane) : Nat := ((nowSec l - utcNow l) / 86400 + 1) * 86400

/-- An Announce (R453, R454, R470): it feeds the best master clock algorithm, and the selected master's UTC
offset, leap, traceability and accuracy. -/
def laneAnnounce (a : Announce) (l : Lane) : Lane :=
  if !ptpOn l a.port then l
  else if !ptpMine l a.port a.domain a.version then dropPtp l
  else
    let l1 := decidePorts (setPtpPort a.port { ptpPort l a.port with announce := some (a, l.tc) } l)
    if (ptpPort l1 a.port).state == .slave then
      let leap := if a.leap61 then some (Leap.mk false (endOfUtcDay l1))
        else if a.leap59 then some (Leap.mk true (endOfUtcDay l1)) else none
      let r := { l1.time.ptp with
        traceable := a.timeTraceable, accuracyNs := clockAccuracyNs a.clockAccuracy
        utc := if a.utcValid then some (a.utcOffset, leap) else none }
      let l2 := setRef .ptp r l1
      if l2.time.selected = some .ptp then refreshUtc true l2 else l2
    else l1

/-- Each second the best master clock algorithm runs, and a port sends by its role: Sync (and Follow_Up) and Announce as master, and Pdelay_Req on every
enabled port (R453). -/
def lanePtpMasterSend (p : Nat) (l0 : Lane) : Lane :=
  if !ptpOn l0 p then l0
  else
    let l := decidePorts l0
    let c := ptpCfg l p
    let x := ptpPort l p
    let seq := (x.txSeq + 1) % 65536
    let t1 := fullNs (nowFull l) + (c.txExtraNs : Rat)
    let l1 := setPtpPort p { x with txSeq := seq, pdelayReq := some (seq, t1), pdelayResp := none } l
    let l2 :=
      if x.state == .master then
        let a := emit (.ptp p (.sync seq c.twoStep)) l1
        let b := if c.twoStep then emit (.ptp p (.followUp seq)) a else a
        let today := fun (del : Bool) => l.time.leap.any (fun lp =>
          lp.deletion == del && lp.soc == endOfUtcDay l && !l.time.leapDone)
        emit (.ptp p (.announce (ownClass l) (ownAccuracy l) (ownTimeSource l) (utcNow l) true
          (today true) (today false) (traceable l))) b
      else l1
    emit (.ptp p (.pdelayReq seq)) l2

/-! ### 1PPS, time of day, IRIG-B (R458) -/

/-- The upper limit in ns of a C37.118 or IEEE 1344 message time quality code (R464). -/
def qualityNs (q : Nat) : Nat :=
  if q = 0 then 0 else if q ≤ 11 then 10 ^ (q - 1) else 10 ^ 11

/-- TAI seconds of a UTC instant that carries no leap flag: with whichever of o and o′ places it within 0.5 s of the
given local time in ns (R472). -/
def utcToTai (l : Lane) (utc : Nat) (localNs : Rat) : Nat :=
  match l.time.leap with
  | none => utc + l.time.utcOffset
  | some lp =>
    let a := utc + l.time.utcOffset
    let b := utc + leapNewOffset l.time.utcOffset lp
    if ratAbs (((b * 10 ^ 9 : Nat) : Rat) - localNs) ≤ 500000000 then b
    else if ratAbs (((a * 10 ^ 9 : Nat) : Rat) - localNs) ≤ 500000000 then a
    else if lp.soc ≤ utc then b else a

/-- A 1PPS measurement: the edge is a whole TAI second plus `pps_cable_ns` (R458). -/
def ppsMeasure (edgeNs : Rat) (second : Nat) (l : Lane) : Lane :=
  measure .pps (edgeNs - ((second * 10 ^ 9 : Nat) : Rat) - ((l.cfg.timeRef.ppsCableNs : Int) : Rat)) second l

/-- The rising edge of 1PPS is the reference instant; in the compact format the message before it names its second
(R458). -/
def lanePpsEdge (stamp : Nat) (l : Lane) : Lane :=
  if !tensionRuns l then l
  else
    let l1 := { l with time := { l.time with ppsEdge := some (fullNs stamp, l.tc), compactNext := none } }
    match l.time.compactNext with
    | some (sec, utc, tr, leap, q) =>
      if l.cfg.timeRef.todCompact then
        let lp := leap.map (fun del => Leap.mk del (endOfUtcDay l1))
        let l2 := setRef .pps { l1.time.pps with traceable := tr, accuracyNs := qualityNs q, utc := some (utc, lp) } l1
        ppsMeasure (fullNs stamp) sec (if l2.time.selected = some .pps then refreshUtc true l2 else l2)
      else l1
    | none => l1

/-- The XOR of bytes (R458). -/
def xorBytes (b : Bytes) : Byte := b.foldl (· ^^^ ·) 0

/-- A compact message is well formed and valid (R458). -/
def compactOk (b : Bytes) : Bool :=
  b.length == 12 && field b 0 1 == 0xA5 && field b 1 1 == 1 && xorBytes (b.take 11) == b.getD 11 0 && bit (field b 9 1) 0 &&
    field b 9 1 < 16 && field b 10 1 ≤ 15

/-- A time-of-day message (R458): ZDA names the preceding edge within 900 ms of it; a compact message names the
next edge. -/
def laneTod (m : TodMessage) (l : Lane) : Lane :=
  if !tensionRuns l then l
  else
    match m with
    | .zda ok utc =>
      match l.time.ppsEdge with
      | some (edge, at_) =>
        if ok && !l.cfg.timeRef.todCompact && decide (l.tc ≤ at_ + msTc 900) then
          let l1 := { l with time := { l.time with ppsEdge := none } }
          ppsMeasure edge (utcToTai l utc edge) (setRef .pps { l1.time.pps with traceable := false, accuracyNs := 0, utc := none } l1)
        else l
      | none => l
    | .compact b =>
      if l.cfg.timeRef.todCompact && compactOk b then
        let f := field b 9 1
        { l with time := { l.time with
          compactNext := some (field b 2 6, field b 8 1, bit f 1, if bit f 2 then some (bit f 3) else none, field b 10 1) } }
      else l

/-- Days from 1970-01-01 to 1 January of a year of the Gregorian calendar. -/
def yearDays (y : Nat) : Nat :=
  let n := y - 1
  (365 * n + n / 4 - n / 100 + n / 400) - 719162

/-- The year nearest the current time in which a day and second fall (R458). -/
def nearestYear (nowS : Nat) (day second : Nat) : Nat :=
  let guess := 1970 + nowS / 31556952
  let dist := fun (y : Nat) =>
    let t := (yearDays y + day - 1) * 86400 + second
    if t ≤ nowS then nowS - t else t - nowS
  [guess - 1, guess, guess + 1].foldl (fun best y => if dist y < dist best then y else best) guess

/-- An IRIG-B frame (R458): its on-time mark plus `irig_delay_ns` is the reference instant; the frame names local
time, converted to UTC by `irig_tz_min`. -/
def laneIrig (f : IrigFrame) (l : Lane) : Lane :=
  if !tensionRuns l || f.am != l.cfg.timeRef.irigAm then l
  else
    let y := f.year.getD (nearestYear (nowSec l - utcNow l) f.day f.second)
    let soc : Int := (((yearDays y + f.day - 1) * 86400 + f.second : Nat) : Int) - 60 * l.cfg.timeRef.irigTzMin
    let mark := fullNs f.mark
    let sec := utcToTai l soc.toNat mark
    let leap := if f.leapPending then some (Leap.mk f.deletion (endOfUtcDay l)) else none
    let r := l.time.irig
    let r' := if l.cfg.timeRef.irig1344 then
        { r with traceable := f.quality == 0, accuracyNs := qualityNs f.quality, utc := some (utcNow l, leap) }
      else { r with traceable := false, accuracyNs := 0, utc := none }
    let l1 := setRef .irig r' l
    let l2 := if l1.time.selected = some .irig then refreshUtc true l1 else l1
    measure .irig (mark - ((sec * 10 ^ 9 : Nat) : Rat) - (l.cfg.timeRef.irigDelayNs : Rat)) sec l2

/-! ### Loss and holdover (R450, R465, R466) -/

/-- The loss window of a reference (R450). -/
def lossWindow (l : Lane) : RefKind → Nat
  | .ptp => 3 * secTc ((bestAnnounce l).elim 1 (fun e => e.2.intervalS))
  | .pps => msTc 2500
  | .irig => msTc 2500

/-- The weighted sum and weight of a piecewise constant history over [from, until], newest entry first. -/
def histSum (sel : Nat × Int × Int → Rat) (from_ : Nat) : Nat → List (Nat × Int × Int) → Rat × Rat
  | _, [] => (0, 0)
  | until_, e :: t =>
    let a := max e.1 from_
    let w : Rat := ((until_ - a : Nat) : Rat)
    let r := if e.1 ≤ from_ then ((0 : Rat), (0 : Rat)) else histSum sel from_ (min until_ e.1) t
    (sel e * w + r.1, w + r.2)

/-- The mean over the last `w` tc of locked time (R465, R466); the present value where no time has passed. -/
def histMean (l : Lane) (w : Nat) (sel : Nat × Int × Int → Rat) (now : Rat) : Rat :=
  let from_ := max (l.tc - w) (l.time.lockedSince.getD l.tc)
  let r := histSum sel from_ l.tc l.time.history
  if r.2 = 0 then now else r.1 / r.2

/-- ȳ and T̄ of R465, over the last `holdover_avg_s` of locked time. -/
def lockedMeans (l : Lane) : Rat × Rat :=
  let w := secTc l.cfg.servo.holdoverAvgS
  (histMean l w (fun e => freqOf e.2.1) (freqOf l.time.y),
    histMean l w (fun e => ((e.2.2 : Int) : Rat)) ((l.health.junction : Int) : Rat))

/-- The correction that R465 would give now (R466). -/
def holdoverFreq (l : Lane) : Rat := holdoverOf l (lockedMeans l).1 (lockedMeans l).2

/-- Tension enters holdover: the frequency of R465 holds, and a lane in SERVICE enters HOLDOVER with Ochre alarm
289; a lane in DRILL stays there (R465). -/
def enterHoldover (l : Lane) : Lane :=
  let l1 := retune { l with time := { l.time with state := .holdover, holdMean := lockedMeans l } }
  let un := match estErr l1 with
    | none => true
    | some e => decide ((l1.cfg.servo.unlockBoundNs : Rat) < e)
  let l2 := { l1 with time := { l1.time with
    selected := none, holdoverAt := some l1.tc, lockedSince := none
    outliers := (l1.time.outliers + l1.time.bigCount) % 2 ^ 32, bigCount := 0, unlocked := un } }
  let l3 := condAlarm 290 un (refreshUtc true l2)
  if l3.mode.mode == .service then raiseEvent 289 (setMode .holdover l3) else l3

/-- The selected reference is selected no longer: another qualified one takes its place, or the lane holds over (R451,
R465). -/
def deselect (k : RefKind) (l : Lane) : Lane :=
  if l.time.selected = some k then
    match bestRef l with
    | some b => switchRef b l
    | none => enterHoldover l
  else l

/-- A reference gives no valid measurement within its loss window (R450): it is lost, and with the selected one
another qualified reference is selected, or the lane holds over (R451, R465). -/
def laneReferenceLoss (k : RefKind) (l : Lane) : Lane :=
  let r := refOf l.time k
  let due := match r.lastValid with | some t => decide (t + lossWindow l k ≤ l.tc) | none => false
  if !due || (!r.qualified && r.consecutive = 0) then l
  else
    deselect k (setRef k { r with qualified := false, consecutive := 0 } l)

/-- Growing holdover error passes `unlock_bound_ns`: own stamps are flagged unlocked with alarm 290 (R465). -/
def laneUnlockCross (l : Lane) : Lane :=
  let beyond := match estErr l with
    | none => true
    | some e => decide ((l.cfg.servo.unlockBoundNs : Rat) < e)
  if l.time.state == .holdover && beyond && !l.time.unlocked then
    raiseCond 290 { l with time := { l.time with unlocked := true } }
  else l

/-- The 10 MHz input qualifies, or is lost (R459). -/
def laneRef10mQualify (l : Lane) : Lane :=
  if tensionRuns l && l.cfg.timeRef.ref10mEnable then { l with time := { l.time with ref10m := true } } else l

def laneRef10mLost (l : Lane) : Lane := { l with time := { l.time with ref10m := false } }

/-- Once per second while its time is locked, Tension writes the RTC (R449). -/
def laneRtcWrite (l : Lane) : Lane :=
  let due := match l.rtc with | some (_, t) => decide (t + secTc 1 ≤ l.tc) | none => true
  if tensionRuns l && l.time.state == .locked && due then { l with rtc := some (l.time.time, l.tc) } else l

/-- A rational in 0.1 ppb rounded to the nearest whole number; a tie is open (log 6). -/
def roundTenth (v : Rat) : Int :=
  let f := v.floor
  let d := v - (f : Rat)
  if d < mkRat 1 2 then f else if d = mkRat 1 2 then f + (if Config.servoRoundUp v then 1 else 0) else f + 1

/-- Once per minute after 600 s locked, the table entry nearest the junction temperature moves by a sixteenth of
the difference between the last minute's mean and the prediction (R466). -/
def laneTempLearn (l : Lane) : Lane :=
  match l.time.lockedSince with
  | none => l
  | some t0 =>
    if l.cfg.servo.tempLearn && l.time.state == .locked && decide (t0 + secTc 600 ≤ l.tc) &&
        decide (l.time.lastLearn + secTc 60 ≤ l.tc) then
      let i := (max 0 (min 15 ((l.health.junction + 45) / 10))).toNat
      let y60 := histMean l (secTc 60) (fun e => freqOf e.2.1) (freqOf l.time.y)
      let d := (y60 - holdoverFreq l) * 10000000000 / 16
      let c := l.cfg.servo.tempTable.getD i 0
      let c' := saturate 16 (roundTenth ((c : Rat) + d))
      { l with
        cfg := { l.cfg with servo := { l.cfg.servo with tempTable := l.cfg.servo.tempTable.set i c' } }
        time := { l.time with lastLearn := l.tc } }
    else l

/-! ### Leap seconds (R469) -/

/-- At the leap instant the new offset applies; o, o′ and L are kept (R469). -/
def laneLeapChange (l : Lane) : Lane :=
  match leapInstant l.time with
  | some i => if i ≤ nowSec l && !l.time.leapDone then { l with time := { l.time with leapDone := true } } else l
  | none => l

/-- 86,400 s after the change the old offset and L are discarded (R469). -/
def laneLeapDiscard (l : Lane) : Lane :=
  match l.time.leap, leapInstant l.time with
  | some lp, some i =>
    if i + 86400 ≤ nowSec l then
      { l with time := { l.time with utcOffset := leapNewOffset l.time.utcOffset lp, leap := none, leapDone := false } }
    else l
  | _, _ => l

/-! ### Comparing the lanes (R476, R596) -/

/-- Every 125 ms the lane sends a TIME message to the other (R476). -/
def laneTimeExchange (l : Lane) : Lane :=
  if dieRuns l && l.mode.mode != .salvage && decide (l.time.lastExchange + msTc 125 ≤ l.tc) then
    let e := l.time.siblingTime.getD (0, 0)
    plySend 0xFF (.time (nowFull l) e.1 e.2) { l with time := { l.time with lastExchange := l.tc } }
  else l

/-- Δ of a two-way exchange in ns: the other lane's time less this lane's (R476). -/
def exchangeDelta (tx echoTx echoRx rx : Nat) : Rat :=
  ((fullNs echoRx - fullNs echoTx) + (fullNs tx - fullNs rx)) / 2

/-- A disagreement is retried at the next exchange; a second one is a lasting fault with Ochre alarm 292, and sets
TIME on the lane that does not hold the lane lease (R476, R558). -/
def timeDisagreement (l : Lane) : Lane :=
  let l1 := { l with time := { l.time with lastDisagree := l.tc } }
  if l.time.diffOnce then
    let l2 := lastingFault .time 0 { l1 with time := { l1.time with
      diffOnce := false, laneDiffFaults := bump l1.time.laneDiffFaults } }
    let l3 := raiseEvent 292 l2
    if l3.ply.laneLease.held then l3 else plySettle (setReason 4 true l3)
  else { l1 with time := { l1.time with diffOnce := true } }

/-- The sibling's time state and estimated error, from its last HEALTH (R557). -/
def siblingTimeState (l : Lane) : Nat := field l.ply.siblingHealth 7 1
def siblingError (l : Lane) : Nat := field l.ply.siblingHealth 8 4

/-- A TIME message (R476, R596): it yields Δ; in START it sets the time where the sibling's time state allows, and
counts as the first valid measurement of R462. -/
def onTime (m tx echoTx echoRx : Nat) (l : Lane) : Lane :=
  let l1 := noteContact m l
  let rx := nowFull l1
  let l2 := { l1 with time := { l1.time with siblingTime := some (tx, rx) } }
  let nearStep := match l2.time.lastStep with | some t => decide (l2.tc < t + secTc 1) | none => false
  if echoTx = 0 || nearStep then l2
  else
    let d := exchangeDelta tx echoTx echoRx rx
    let l3 := { l2 with time := { l2.time with laneDiff := some d } }
    if l3.mode.mode == .start then
      if l3.time.startSet.isNone && (siblingTimeState l3 == 2 || siblingTimeState l3 == 3) then
        let l4 := moveTime (-d) l3
        { l4 with time := { l4.time with
          state := .acquiring, startSet := some 0xFF, e0 := some ((siblingError l4 + 20 : Nat) : Rat), e0At := l4.tc } }
      else l3
    else if l3.time.selected.isSome && siblingTimeState l3 == 2 && !l3.time.unlocked then
      if 1000 < ratAbs d then timeDisagreement l3
      else if l3.time.diffOnce then transientFault .time 0 { l3 with time := { l3.time with diffOnce := false } }
      else l3
    else l3

/-! ### The time opcodes -/

/-- TIME_REF_SET's parameters (R452). -/
def timeRefOf (b : Bytes) : TimeRefCfg :=
  let f := field b 3 1
  { ptpPriority := field b 0 1, ppsPriority := field b 1 1, irigPriority := field b 2 1, revertive := bit f 0,
    todCompact := bit f 1, irig1344 := bit f 2, irigAm := bit f 3, ref10mEnable := bit f 4, qualCount := field b 4 2,
    revertS := field b 6 2, ppsCableNs := signed 32 (field b 8 4), irigDelayNs := field b 12 4,
    irigTzMin := signed 16 (field b 16 2), priority1 := field b 18 1, priority2 := field b 19 1,
    todBaud := field b 20 4, startWaitMs := field b 24 4 }

def priorityOk (p : Nat) : Bool := p ≤ 7 || p == 0xFF

/-- The ranges of R452. -/
def timeRefCheck (_ : Lane) (r : Request) : Status :=
  let b := body r
  let c := timeRefOf b
  need (priorityOk c.ptpPriority && priorityOk c.ppsPriority && priorityOk c.irigPriority && field b 3 1 < 32 &&
    inRange 1 16 c.qualCount && inRange 1 3600 c.revertS && inRangeI (-100000) 100000 c.ppsCableNs &&
    c.irigDelayNs ≤ 1000000 && inRangeI (-720) 840 c.irigTzMin &&
    [4800, 9600, 19200, 38400, 115200].contains c.todBaud && c.startWaitMs ≤ 10000 && isZero b 28 4) .badParam .ok

/-- The new settings apply; a selected reference whose priority becomes 0xFF is selected no longer (R451, R452). -/
def timeRefApply (r : Request) (l : Lane) : Lane × Bytes :=
  let c := timeRefOf (body r)
  let l1 := { l with cfg := { l.cfg with timeRef := c } }
  let l2 := if c.ref10mEnable then l1 else { l1 with time := { l1.time with ref10m := false } }
  match l2.time.selected with
  | some k => (if priorityOf l2 k = 0xFF then deselect k l2 else l2, [])
  | none => (reselect ((bestRef l2).bind (fun k => (refOf l2.time k).lastValid)) l2, [])

def laneTimeRefSet (r : Request) (l : Lane) : Lane := serve 0x0800 none timeRefCheck timeRefApply r l

/-- PTP_PORT_SET's parameters (R457). -/
def ptpPortOf (b : Bytes) : PtpPortCfg :=
  { enable := bit (field b 0 1) 0, profile := field b 1 1, role := field b 2 1, twoStep := bit (field b 3 1) 0,
    tagged := bit (field b 3 1) 1, domain := field b 4 1, vlanTci := field b 6 2, delayAsymNs := signed 32 (field b 8 4),
    pdelayLimitNs := field b 12 4, rxExtraNs := field b 16 4, txExtraNs := field b 20 4 }

/-- The ranges of R457: port ids 0 to 11, and one slave-only port of a lane. -/
def ptpPortCheck (l : Lane) (r : Request) : Status :=
  let b := body r
  let c := ptpPortOf b
  need (flowId r ≤ 11 && field b 0 1 ≤ 1 && c.profile ≤ 1 && c.role ≤ 2 && field b 3 1 < 4 && isZero b 5 1 &&
    c.vlanTci % 4096 ≤ 4094 && !bit c.vlanTci 12 && inRangeI (-1000000) 1000000 c.delayAsymNs &&
    inRange 1 1000000 c.pdelayLimitNs && c.rxExtraNs ≤ 100000 && c.txExtraNs ≤ 100000 &&
    (c.role != 1 || l.cfg.ptpPorts.all (fun e => e.1 == flowId r || e.2.role != 1))) .badParam .ok

def ptpPortApply (r : Request) (l : Lane) : Lane × Bytes :=
  (decidePorts { l with cfg := { l.cfg with ptpPorts := tput l.cfg.ptpPorts (flowId r) (ptpPortOf (body r)) } }, [])

def lanePtpPortSet (r : Request) (l : Lane) : Lane := serve 0x0801 none ptpPortCheck ptpPortApply r l

/-- The 16 signed entries of temp_table. -/
def tempTableOf (b : Bytes) : List Int := (List.range 16).map (fun i => signed 16 (field b (32 + 2 * i) 2))

/-- SERVO_SET's parameters (R463). -/
def servoOf (b : Bytes) : ServoCfg :=
  { kp := BitVec.ofNat 32 (field b 0 4), ki := BitVec.ofNat 32 (field b 4 4), maxAdjPpb := field b 8 4,
    stepConfirm := field b 12 2, holdoverAvgS := field b 14 2, unlockBoundNs := field b 16 4,
    holdoverPpb := BitVec.ofNat 32 (field b 20 4), agingPpbDay := BitVec.ofNat 32 (field b 24 4),
    tempLearn := bit (field b 28 1) 0, tempTable := tempTableOf b }

/-- The ranges of R463. -/
def servoCheck (_ : Lane) (r : Request) : Status :=
  let b := body r
  let c := servoOf b
  need (fp32In (mkRat 1 100) 4 c.kp && fp32In (mkRat 1 1000) 2 c.ki && inRange 1000 500000 c.maxAdjPpb &&
    inRange 1 8 c.stepConfirm && inRange 10 3600 c.holdoverAvgS && inRange 100 10000000 c.unlockBoundNs &&
    fp32In (mkRat 1 1000) 1000 c.holdoverPpb && fp32In 0 100 c.agingPpbDay && field b 28 1 ≤ 1 && isZero b 29 3) .badParam .ok

def servoApply (r : Request) (l : Lane) : Lane × Bytes :=
  let l1 := { l with cfg := { l.cfg with servo := servoOf (body r) } }
  (if l1.time.state == .holdover then retune l1 else l1, [])

def laneServoSet (r : Request) (l : Lane) : Lane := serve 0x0802 none servoCheck servoApply r l

/-- UTC_OFFSET_SET's parameters (R473). -/
def utcSetOf (b : Bytes) : UtcSet :=
  { offset := field b 0 2, force := bit (field b 2 1) 0
    leap := if bit (field b 2 1) 1 then some ⟨field b 3 1 = 1, field b 4 8⟩ else none }

/-- The ranges of R473: leap_soc is a multiple of 86,400, in the future and within 180 days. -/
def utcSetCheck (l : Lane) (r : Request) : Status :=
  let b := body r
  let soc := field b 4 8
  let now := nowSec l - utcNow l
  need (inRangeI 0 255 (signed 16 (field b 0 2)) && field b 2 1 < 4 && field b 3 1 ≤ 1 &&
    (!bit (field b 2 1) 1 || (soc % 86400 == 0 && now < soc && soc ≤ now + 180 * 86400))) .badParam .ok

def utcSetApply (r : Request) (l : Lane) : Lane × Bytes :=
  (refreshUtc false { l with cfg := { l.cfg with utc := some (utcSetOf (body r)) } }, [])

def laneUtcOffsetSet (r : Request) (l : Lane) : Lane := serve 0x0803 none utcSetCheck utcSetApply r l

/-- The slave port, or 0xFF (R478). -/
def slavePort (l : Lane) : Nat := ((l.time.ports.find? (fun e => e.2.state == .slave)).map (·.1)).getD 0xFF

/-- A rational number of ns as a saturated signed 32-bit field. -/
def nsField (v : Option Rat) (none_ : Int) : Bytes :=
  le 4 (unsigned 32 (match v with | some x => saturate 32 x.floor | none => none_))

/-- The TIME_QUERY result (R478). -/
def timeQuery (l : Lane) : Bytes :=
  let lb := leapBits l.time (nowSec l)
  let forced := (l.cfg.utc.map (·.force)).getD false
  le 1 (timeStateCode l) ++ le 1 ((l.time.selected.map RefKind.code).getD 0xFF) ++ le 1 (slavePort l) ++
    le 1 (b2n (traceable l) + 2 * b2n l.time.ref10m + 4 * b2n (bit lb 0) + 8 * b2n (bit lb 1) + 16 * b2n forced +
      32 * b2n l.time.unlocked) ++
    le 4 (estErrorNs l) ++ le 16 (nowFull l) ++ le 4 (nowSec l / 2 ^ 16 % 2 ^ 32) ++ le 2 (utcNow l) ++
    le 1 (b2n ((l.time.leap.map (·.deletion)).getD false)) ++ le 1 (timeQualityByte l (nowSec l)) ++
    le 8 ((l.time.leap.map (·.soc)).getD 0) ++ nsField l.time.lastTheta 0 ++ le 8 (unsigned 64 l.time.y) ++
    le 4 l.time.steps ++ le 4 l.time.refSwitches ++
    le 4 ((l.time.holdoverAt.map (fun t => (l.tc - t) / secTc 1)).getD 0) ++
    nsField l.time.laneDiff (-2147483648) ++ le 4 l.time.laneDiffFaults ++ le 4 l.time.ptpDropped ++ le 4 l.time.outliers

/-- The checks of `laneTimeQuery`. -/
def timeQueryCheck (_ : Lane) (q : Request) : Status :=
  need (isZero (body q) 0 4) .badParam .ok

/-- The effect and result of `laneTimeQuery`. -/
def timeQueryApply (_ : Request) (s : Lane) : Lane × Bytes :=
  (s, timeQuery s)

def laneTimeQuery (r : Request) (l : Lane) : Lane :=
  serve 0x0804 none timeQueryCheck timeQueryApply r l

end Sys2Proof.Machine
end

