-- ==== Sys2Proof/Machine/PlyCmd.lean ====
section
/-!
DEFINITION. The Ply opcodes (R543, R563 to R566) and the Ply links' own events (R548).
-/
namespace Sys2Proof.Machine

/-! ### PLY_SET, PLY_PAIR, WITNESS_SET -/

/-- PLY_SET's parameters (R563). -/
def plyCfgOf (b : Bytes) : PlyCfg :=
  { available := field b 0 1 == 1, preferred := field b 1 1, handoverOnHoldover := bit (field b 2 1) 0,
    handoverOnTamper := bit (field b 2 1) 1, compareMask := BitVec.ofNat 4 (field b 3 1), periodUs := field b 4 4,
    guardUs := field b 8 4, startWaitMs := field b 12 4 }

/-- R564's inequality: 2P + g < P_d / 2. -/
def pairInequality (p g pd : Nat) : Bool := 2 * (2 * p + g) < pd

/-- The ranges of R563, and the inequality of R564 while paired. -/
def plySetCheck (l : Lane) (r : Request) : Status :=
  let b := body r
  let c := plyCfgOf b
  need (field b 0 1 ≤ 1 && c.preferred ≤ 1 && field b 2 1 < 4 && field b 3 1 ≤ 15 && inRange 500 20000 c.periodUs &&
    inRange 100 5000 c.guardUs && inRange 10 10000 c.startWaitMs &&
    (match l.cfg.pair with | some p => pairInequality c.periodUs c.guardUs p.periodUs | none => true)) .badParam .ok

/-- The new values; a PLY_SET ends a suspension of comparison (R555). -/
def plySetApply (r : Request) (l : Lane) : Lane × Bytes :=
  let l1 := { l with cfg := { l.cfg with ply := plyCfgOf (body r) } }
  (plySettle (l1.ply.compare.foldl (fun acc e => if e.2.suspended then endSuspension e.1 acc else acc) l1), [])

def lanePlySet (r : Request) (l : Lane) : Lane := serve 0x0B00 none plySetCheck plySetApply r l

/-- PLY_PAIR's parameters with op 1 (R564). -/
def pairOf (b : Bytes) : PairCfg :=
  { deviceIndex := field b 1 1, port := field b 2 1, available := field b 3 1 == 1, keySlot := field b 4 1,
    preferredDevice := field b 5 1, udpPort := field b 6 2, periodUs := field b 8 4, guardUs := field b 12 4,
    partnerA := slice b 16 16, partnerB := slice b 32 16 }

/-- A slot holds an HMAC or AES key with LINK usage (R564, R572). -/
def linkKeySlot (l : Lane) (n : Nat) : Bool :=
  let k := tgetD l.keys.slots n .dflt
  k.state == .valid && inRange 1 3 k.type && k.usage.getLsbD 1

/-- The ranges of R564, its inequality and its key slot. -/
def pairCheck (l : Lane) (r : Request) : Status :=
  let b := body r
  let c := pairOf b
  need (c.deviceIndex ≤ 1 && c.port ≤ 11 && field b 3 1 ≤ 1 && c.preferredDevice ≤ 1 && inRange 1024 65535 c.udpPort &&
    inRange 5000 200000 c.periodUs && inRange 500 20000 c.guardUs &&
    pairInequality l.cfg.ply.periodUs l.cfg.ply.guardUs c.periodUs && linkKeySlot l c.keySlot) .badParam .ok

/-- What a lane knows of the pair as it begins: neither a holder of the device lease nor a partner, and the other lane under
its new member id (R532, R541). -/
def pairBegin (c : PairCfg) (l : Lane) : Lane :=
  let l1 := { l with cfg := { l.cfg with pair := some c } }
  let own : Table Contact := match tget l.ply.contacts (siblingId l) with
    | some x => tput [] (siblingId l1) x
    | none => []
  let since := if serving l then some l.tc else none
  { l1 with ply := { l1.ply with
    contacts := own, az := []
    laneLease := { l1.ply.laneLease with
      holder := l1.ply.laneLease.holder.map (fun h => if h = memberId l then memberId l1 else siblingId l1) }
    deviceLease := { Lease.reset with epoch := l.ply.deviceLease.epoch, serviceSince := since } } }

/-- New values apply to the pair that there is; another device index, or the first pairing, begins one. -/
def pairApply (r : Request) (l : Lane) : Lane × Bytes :=
  let c := pairOf (body r)
  (plySettle (sendHello (leaseChange (fun s =>
    if s.cfg.pair.map (·.deviceIndex) = some c.deviceIndex then { s with cfg := { s.cfg with pair := some c } }
    else pairBegin c s) l)), [])

def lanePlyPair (r : Request) (l : Lane) : Lane := serve 0x0B01 (some 1) pairCheck pairApply r l

/-- A lane of an unpaired package: device index 0, no partner (R532, R533). -/
def unpaired (l : Lane) : Lane :=
  let l1 := { l with cfg := { l.cfg with pair := none } }
  let own : Table Contact := match tget l.ply.contacts (siblingId l) with
    | some x => tput [] (siblingId l1) x
    | none => []
  { l1 with ply := { l1.ply with
    contacts := own, az := []
    laneLease := { l1.ply.laneLease with
      holder := l1.ply.laneLease.holder.map (fun h => if h = memberId l then memberId l1 else siblingId l1) }
    deviceLease := { Lease.reset with epoch := l.ply.deviceLease.epoch } } }

/-- With op 0 the package becomes unpaired and holds the device lease implicitly (R564). -/
def unpairApply (_ : Request) (l : Lane) : Lane × Bytes :=
  (plySettle (leaseChange unpaired l), [])

/-- The checks of `lanePlyUnpair`. -/
def plyUnpairCheck (_ : Lane) (_ : Request) : Status :=
  .ok

def lanePlyUnpair (r : Request) (l : Lane) : Lane :=
  serve 0x0B01 (some 0) plyUnpairCheck unpairApply r l

/-- WITNESS_SET's parameters (R565). -/
def witnessCfgOf (b : Bytes) : WitnessCfg :=
  { laneWitness := field b 0 1, deviceWitness := field b 1 1, keySlot := field b 2 1, port := field b 3 1,
    udpPort := field b 4 2, timeoutMs := field b 6 2, addr := slice b 8 16 }

/-- The ranges of R565; an Azwell witness needs a slot with a link key (R572). -/
def witnessCheck (l : Lane) (r : Request) : Status :=
  let c := witnessCfgOf (body r)
  need (c.laneWitness ≤ 2 && (c.deviceWitness == 0 || c.deviceWitness == 2) && c.port ≤ 11 && inRange 1 65535 c.udpPort &&
    inRange 100 10000 c.timeoutMs &&
    ((c.laneWitness != 2 && c.deviceWitness != 2) || linkKeySlot l c.keySlot)) .badParam .ok

/-- The witness of a lease under a setting: none, the host, or an Azwell endpoint. -/
def witnessNamed (c : WitnessCfg) (k : LeaseKind) : Nat × Nat × Nat × Nat × Bytes :=
  let kind := match k with | .lane => c.laneWitness | .device => c.deviceWitness
  if kind = 2 then (2, c.keySlot, c.port, c.udpPort, c.addr) else (kind, 0, 0, 0, [])

/-- A change of witness leaves an outstanding question unanswered, and the new witness is available only after its
first answer (R565). -/
def changeWitness (old new : WitnessCfg) (k : LeaseKind) (l : Lane) : Lane :=
  if witnessNamed old k = witnessNamed new k then l
  else
    let l1 := setWitness k { witnessOf l k with outstanding := none } l
    let l2 := if k == .lane then { l1 with host := { l1.host with wq := none } } else l1
    if (witnessOf l2 k).available then witnessLost k l2 else l2

def witnessApply (r : Request) (l : Lane) : Lane × Bytes :=
  let c := witnessCfgOf (body r)
  let l1 := changeWitness l.cfg.witness c .device (changeWitness l.cfg.witness c .lane { l with cfg := { l.cfg with witness := c } })
  (plySettle l1, [])

def laneWitnessSet (r : Request) (l : Lane) : Lane := serve 0x0B04 none witnessCheck witnessApply r l

/-! ### LEASE_HANDOVER (R543) -/

/-- The lease a target takes: the lane lease in the same package, the device lease in the partner. -/
def handoverLease (l : Lane) (target : Nat) : LeaseKind := if target / 2 = deviceIndex l then .lane else .device

/-- The checks at dispatch (R543): not the lane itself; eligible and in contact; LOCAL_HOLDER in the partner. -/
def handoverCheck (l : Lane) (r : Request) : Status :=
  let t := field (body r) 0 1
  need (t ≤ 3 && isZero (body r) 1 3 && t != memberId l) .badParam <|
  need (memberEligible l t &&
    (handoverLease l t == .lane || ((tget l.ply.contacts t).map (·.state)).getD 0 == 3)) .noResource .ok

/-- The holder sends OFFER and waits for ACCEPT; below version 1.2 it sends RELEASE with the successor at once
(R543, R553). -/
def handoverStart (r : Request) (l : Lane) : Lane :=
  let t := field (body r) 0 1
  let k := handoverLease l t
  let h : Handover := { req := r, target := t, lease := k, sentAt := l.tc }
  if memberAtLeast l t 2 then sendLease k (.offer (leaseOf l k).epoch t) { l with ply := { l.ply with handover := some h } }
  else commitHandover h l

def laneLeaseHandover (r : Request) (l : Lane) : Lane := serveHeld 0x0B02 none handoverCheck handoverStart r l

/-! ### PLY_QUERY (R566) -/

def versionBytes (v : Option Version) : Bytes :=
  match v with
  | some x => le 1 x.major ++ le 1 x.minor
  | none => zeros 2

/-- An Azwell peer is up. -/
def anyAzUp (l : Lane) : Bool := (partnerMembers l).any (fun m => (tgetD l.ply.az m .reset).up)

/-- The PLY_QUERY result (R566). -/
def plyQuery (l : Lane) : Bytes :=
  let c := l.ply.ctr
  le 1 (memberId l) ++ le 1 (plyState l).code ++ le 2 (reasonMask l).toNat ++ le 1 (knownHolder l .lane) ++
    le 1 (knownDevice l) ++ le 1 (b2n l.cfg.ply.available) ++
    le 1 (b2n l.ply.link0.up + 2 * b2n l.ply.link1.up + 4 * b2n (anyAzUp l) + 8 * b2n (witnessUp l .lane) +
      16 * b2n l.cfg.pair.isSome) ++
    le 4 l.ply.laneLease.epoch ++ le 4 l.ply.deviceLease.epoch ++ versionBytes (some (plyVersion l)) ++
    versionBytes ((partnerMembers l).findSome? (fun m => (tgetD l.ply.az m .reset).version)) ++
    le 4 c.acquisitions ++ le 4 c.handovers ++ le 4 c.yields ++ le 4 c.renewalsUnacked ++ le 4 c.compared ++
    le 4 c.mismatchTransient ++ le 4 c.mismatchLasting ++ le 4 c.mismatchUnresolved ++ le 4 c.unmatched ++
    le 4 c.linkTransient ++ le 4 c.linkLasting ++ le 4 c.azRetransmits ++ le 4 c.azDropped ++ le 4 c.pullBytes ++
    zeros 4 ++ le 8 l.ply.lastAcquired.toNat ++ fit 48 l.ply.siblingHealth

/-- The checks of `lanePlyQuery`. -/
def plyQueryCheck (_ : Lane) (q : Request) : Status :=
  need (isZero (body q) 0 4) .badParam .ok

/-- The effect and result of `lanePlyQuery`. -/
def plyQueryApply (_ : Request) (s : Lane) : Lane × Bytes :=
  (s, plyQuery s)

def lanePlyQuery (r : Request) (l : Lane) : Lane :=
  serve 0x0B03 none plyQueryCheck plyQueryApply r l

/-! ### The Ply links (R548) -/

def linkOf (l : Lane) (k : Nat) : PlyLink := if k = 0 then l.ply.link0 else l.ply.link1
def setLink (k : Nat) (x : PlyLink) (l : Lane) : Lane :=
  { l with ply := if k = 0 then { l.ply with link0 := x } else { l.ply with link1 := x } }

/-- An idle frame every 10 µs on an otherwise idle link, whenever the die runs (R548). -/
def lanePlyIdle (k : Nat) (l : Lane) : Lane :=
  if dieRuns l && decide ((linkOf l k).lastSent + usTc 10 ≤ l.tc) then plyFrame k none l else l

/-- A link is lost: its traffic moves to the other link, and alarms 336 to 338 follow (R34, R548, R567). The loss is
a fault-log entry. -/
def loseLink (k : Nat) (l : Lane) : Lane :=
  let l1 := setLink k { linkOf l k with up := false, lastRetrain := l.tc, cleanSince := none, retrying := none } l
  plySettle (logFault .event .plyLink 0 k none [] l1)

/-- A link without a valid frame for 100 µs is lost (R548). -/
def lanePlyLinkLoss (k : Nat) (l : Lane) : Lane :=
  let x := linkOf l k
  if dieRuns l && x.up && decide (x.lastValid + usTc 100 ≤ l.tc) then loseLink k l else l

/-- A lost link returns after 1 s of error-free frames (R548). -/
def returnLink (k : Nat) (l : Lane) : Lane :=
  let x := linkOf l k
  match x.cleanSince with
  | some t => if !x.up && decide (t + secTc 1 ≤ l.tc) then plySettle (setLink k { x with up := true } l) else l
  | none => l

/-- Every 1 s a lost link is retrained; frames without error bring it back (R548). -/
def lanePlyRetrain (k : Nat) (l : Lane) : Lane :=
  let x := linkOf l k
  if dieRuns l && !x.up && decide (x.lastRetrain + secTc 1 ≤ l.tc) then
    let l1 := returnLink k l
    if (linkOf l1 k).up then l1
    else setLink k { x with lastRetrain := l.tc } l
  else l

/-- A frame fails its CRC: it is requested again once; a second failure of the same frame is a lasting fault of the
link (R548). -/
def badPlyFrame (k seq : Nat) (l : Lane) : Lane :=
  let x := linkOf l k
  if x.retrying = some seq then
    let l1 := lastingFault .plyLink k { l with ply := { l.ply with ctr := { l.ply.ctr with linkLasting := bump l.ply.ctr.linkLasting } } }
    loseLink k l1
  else emit (.plyResend k seq) (setLink k { x with retrying := some seq, cleanSince := none } l)

/-- A valid frame's link bookkeeping: the retried frame counts a transient, the link's silence ends (R548, R621). -/
def goodPlyFrame (k seq : Nat) (l : Lane) : Lane :=
  let x := linkOf l k
  let l1 := setLink k { x with
    lastValid := l.tc, rxSeen := (seq :: x.rxSeen).take 8, retrying := none
    cleanSince :=
      if x.up then none
      else if x.cleanSince.isSome && decide (l.tc < x.lastValid + usTc 100) then x.cleanSince
      else some l.tc } l
  let l2 := if x.retrying = some seq then
      transientFault .plyLink k { l1 with ply := { l1.ply with ctr := { l1.ply.ctr with linkTransient := bump l1.ply.ctr.linkTransient } } }
    else l1
  returnLink k l2

/-- A member is in contact by any valid frame or datagram, idle ones included (R541), and a holder alone no longer (R537); a
departed member counts as INELIGIBLE until a message from it (R542). -/
def noteFrame (m : Nat) (l : Lane) : Lane :=
  let c := tgetD l.ply.contacts m ⟨l.tc, false, 0, 0, none, []⟩
  { l with ply := { l.ply with
    contacts := tput l.ply.contacts m { c with lastSeen := l.tc }
    laneLease := { l.ply.laneLease with alone := if m = siblingId l then false else l.ply.laneLease.alone }
    deviceLease := { l.ply.deviceLease with alone := if (partnerMembers l).contains m then false else l.ply.deviceLease.alone } } }

def noteIdle (l : Lane) : Lane := noteFrame (siblingId l) l

end Sys2Proof.Machine
end

