-- ==== Sys2Proof/Machine/Keys.lean ====
section
/-!
DEFINITION. Selvedge: key commands, privilege, attestation, tamper and zeroisation (chapter 17).
-/
namespace Sys2Proof.Machine

/-! ### Types, usages, material (R572, R573) -/

/-- The usages a type allows (R572). -/
def usageAllowed (type : Nat) : BitVec 8 :=
  match type with
  | 1 => 0b000011
  | 2 => 0b000011
  | 3 => 0b100111
  | 4 => 0b000100
  | 5 => 0b001000
  | 6 => 0b001000
  | 7 => 0b000100
  | 8 => 0b000100
  | 9 => 0b010000
  | 10 => 0b010000
  | _ => 0

/-- The material length of a type fits (R572). -/
def materialLenOk (type len : Nat) : Bool :=
  match type with
  | 1 => len == 16
  | 2 => len == 32
  | 3 => inRange 32 64 len
  | 4 => len == 32
  | 5 => len == 32
  | 6 => len == 48
  | 7 => len == 32
  | 8 => len == 48
  | 9 => len == 65
  | 10 => len == 97
  | _ => false

/-- The curve of a type: 256 for P-256, 384 for P-384, 0 for none. -/
def curveOf (type : Nat) : Nat :=
  if type = 5 || type = 7 || type = 9 then 256 else if type = 6 || type = 8 || type = 10 then 384 else 0

/-- Private scalars lie in [1, n − 1], and public points are uncompressed and on their curve (R573). -/
def materialOk (type : Nat) (m : Bytes) : Bool :=
  if inRange 5 8 type then inRange 1 (curveOrder (curveOf type) - 1) (beNat m)
  else if type = 9 || type = 10 then field m 0 1 == 4 && onCurve (curveOf type) m
  else true

/-- A usage mask suits a type (R572). -/
def usageOk (type : Nat) (u : BitVec 8) : Bool := u &&& ~~~(usageAllowed type) == 0

/-- The kcv (R581): 0 for types 5 to 10. -/
def kcv (k : KeySlot) : Bytes :=
  if inRange 1 4 k.type then
    (hmac k.material [0x53, 0x4C, 0x56, 0x4B, 0x43, 0x56, 0x30, 0x31]).take 8
  else zeros 8

/-- The public key of a slot, zero-padded to 97 bytes (R580, R584). -/
def slotPublic (k : KeySlot) : Bytes :=
  if inRange 5 8 k.type then fit 97 (ecPublic (curveOf k.type) k.material)
  else if k.type = 9 || k.type = 10 then fit 97 k.material
  else zeros 97

/-! ### Slots -/

def slotOf (l : Lane) (n : Nat) : KeySlot := tgetD l.keys.slots n .dflt

/-- Fills a slot: its generation rises when contents are replaced, and a persistent record goes to flash before the
output is released (R569, R572). -/
def fillSlot (n : Nat) (k : KeySlot) (l : Lane) : Lane :=
  let old := slotOf l n
  let gen := if old.state == .empty then old.generation else bump old.generation
  let k' := { k with generation := gen, state := .valid }
  { l with
    keys := { l.keys with slots := tput l.keys.slots n k' }
    vault := { l.vault with flash :=
      if k.persistent then tput l.vault.flash n ⟨k', l.vault.wrap.getD 0⟩ else tdel l.vault.flash n } }

/-- No enabled source reads tamper, and every tamper record is acknowledged (R590). -/
def mayLeaveZeroised (l : Lane) : Bool :=
  l.vault.records.all (·.acknowledged) &&
    l.keys.inputs &&& (l.vault.kaEnable.setWidth 10 ||| 0x3C0#10) == 0

/-- The commit of a first privileged key command leaves ZEROISED: a new wrap key, and stale flash records erased
(R590). -/
def leaveZeroised (l : Lane) : Lane :=
  if l.keys.zeroised then
    dropCond 353 { l with
      keys := { l.keys with zeroised := false }
      vault := { l.vault with wrap := some l.vault.nextWrap, nextWrap := l.vault.nextWrap + 1, flash := [] } }
  else l

/-- The conditions of a key command after its ranges: privilege (R579), engine (R571), ZEROISED (R590). -/
def keyGate (l : Lane) (r : Request) (rest : Status) : Status :=
  need (l.keys.privilege && !isPeer r.src) .authFailed <|
  need (!l.keys.engineFault) .faultLasting <|
  need (!l.keys.zeroised || mayLeaveZeroised l) .keyZeroised rest

/-! ### KEY_GENERATE, KEY_WRITE, KEY_DERIVE -/

def reqType (r : Request) : Nat := field (body r) 0 1
def reqUsage (r : Request) : BitVec 8 := BitVec.ofNat 8 (field (body r) 1 1)

/-- KEY_GENERATE (R580): types 9 and 10 fail with BAD_PARAM; the slot must be EMPTY. -/
def keyGenCheck (l : Lane) (r : Request) : Status :=
  let b := body r
  need (inRange 1 8 (reqType r) && usageOk (reqType r) (reqUsage r) && field b 2 1 < 4 && isZero b 3 1) .badParam <|
  keyGate l r <|
  need ((slotOf l (flowId r)).state == .empty) .noResource .ok

/-- The length of generated material; 32 for an HMAC key, as a derived one has (R582, log 13). -/
def generatedLen (type : Nat) : Nat :=
  match type with
  | 1 => 16
  | 6 => 48
  | 8 => 48
  | _ => 32

/-- Material from the DRBG (R571); a private scalar is brought into [1, n − 1] (R573). -/
def generateMaterial (type : Nat) (l : Lane) : Bytes × Lane :=
  let d := drawRandom (generatedLen type) l
  if inRange 5 8 type then
    (be (generatedLen type) (1 + beNat d.1 % (curveOrder (curveOf type) - 1)), d.2)
  else d

/-- public_len of the KEY_GENERATE result (R580). -/
def publicLen (type : Nat) : Nat := if curveOf type = 256 then 65 else if curveOf type = 384 then 97 else 0

def keyGenApply (r : Request) (l : Lane) : Lane × Bytes :=
  let g := generateMaterial (reqType r) (leaveZeroised l)
  let k : KeySlot :=
    { state := .valid, type := reqType r, usage := reqUsage r, persistent := bit (field (body r) 2 1) 0, generated := true,
      keyId := field (body r) 4 4, generation := 0, parent := none, material := g.1 }
  (plySettle (fillSlot (flowId r) k g.2), le 2 (publicLen (reqType r)) ++ zeros 2 ++ kcv k ++ slotPublic k ++ zeros 3)

def laneKeyGenerate (r : Request) (l : Lane) : Lane := serve 0x0C00 none keyGenCheck keyGenApply r l

/-- The material of KEY_WRITE (R581). -/
def writeMaterial (r : Request) : Bytes := slice (body r) 16 (field (body r) 12 2)

/-- A slot can be filled: EMPTY, or with `replace` any state (R581, R582). -/
def mayFill (l : Lane) (n : Nat) (replace : Bool) : Bool := (slotOf l n).state == .empty || replace

def keyWriteCheck (l : Lane) (r : Request) : Status :=
  let b := body r
  need (inRange 1 10 (reqType r) && usageOk (reqType r) (reqUsage r) && field b 2 1 < 4 && isZero b 3 1 && isZero b 14 2 &&
    materialLenOk (reqType r) (field b 12 2) && materialOk (reqType r) (writeMaterial r)) .badParam <|
  keyGate l r <|
  need (mayFill l (flowId r) (bit (field b 2 1) 1)) .noResource .ok

def keyWriteApply (r : Request) (l : Lane) : Lane × Bytes :=
  let b := body r
  let k : KeySlot :=
    { state := .valid, type := reqType r, usage := reqUsage r, persistent := bit (field b 2 1) 0, generated := false,
      keyId := field b 4 4, generation := 0, parent := none, material := writeMaterial r }
  let l1 := fillSlot (flowId r) k (leaveZeroised l)
  let epoch := if field b 8 4 = 0 then l1.keys.keyEpoch else field b 8 4
  (plySettle { l1 with keys := { l1.keys with keyEpoch := epoch }, vault := { l1.vault with epoch := epoch } }, kcv k)

def laneKeyWrite (r : Request) (l : Lane) : Lane := serve 0x0C01 none keyWriteCheck keyWriteApply r l

/-- KEY_DERIVE's parameters (R582). -/
def deriveParent (r : Request) : Nat := field (body r) 0 1
def deriveType (r : Request) : Nat := field (body r) 1 1
def deriveUsage (r : Request) : BitVec 8 := BitVec.ofNat 8 (field (body r) 2 1)
def deriveSalt (r : Request) : Bytes := slice (body r) 12 32
def derivePeer (r : Request) : Bytes := slice (body r) 44 (field (body r) 10 2)
def deriveInfo (r : Request) : Bytes := slice (body r) (44 + field (body r) 10 2) (field (body r) 8 2)

/-- peer_len matches the parent: its curve's point for an ECDH parent, else 0 (R582). -/
def peerLenOk (parentType len : Nat) : Bool :=
  if parentType = 7 then len == 65 else if parentType = 8 then len == 97 else len == 0

def keyDeriveCheck (l : Lane) (r : Request) : Status :=
  let b := body r
  let p := slotOf l (deriveParent r)
  need (inRange 1 4 (deriveType r) && usageOk (deriveType r) (deriveUsage r) && field b 3 1 < 4 && field b 8 2 ≤ 256) .badParam <|
  keyGate l r <|
  need (p.state != .empty && p.usage.getLsbD 2 && peerLenOk p.type (field b 10 2) &&
    (curveOf p.type == 0 || (field (derivePeer r) 0 1 == 4 && onCurve (curveOf p.type) (derivePeer r)))) .badParam <|
  need (slotState l (deriveParent r) == .valid) .keyOrphaned <|
  need (mayFill l (flowId r) (bit (field b 3 1) 1)) .noResource .ok

/-- The input keying material (R582). -/
def deriveIkm (p : KeySlot) (peer : Bytes) : Bytes :=
  if curveOf p.type = 0 then p.material else ecdhX (curveOf p.type) p.material peer

def keyDeriveApply (r : Request) (l : Lane) : Lane × Bytes :=
  let b := body r
  let p := slotOf l (deriveParent r)
  let k : KeySlot :=
    { state := .valid, type := deriveType r, usage := deriveUsage r, persistent := bit (field b 3 1) 0, generated := false,
      keyId := field b 4 4, generation := 0, parent := some (deriveParent r, p.generation)
      material := hkdf (deriveIkm p (derivePeer r)) (deriveSalt r) (deriveInfo r) (generatedLen (deriveType r)) }
  (plySettle (fillSlot (flowId r) k (leaveZeroised l)), kcv k)

def laneKeyDerive (r : Request) (l : Lane) : Lane := serve 0x0C02 none keyDeriveCheck keyDeriveApply r l

/-! ### KEY_DELETE, KEY_INVALIDATE (R583) -/

/-- A Glegal peer, PLY_PAIR or WITNESS_SET names the slot (R583). -/
def slotNamedByLinks (l : Lane) (n : Nat) : Bool :=
  l.peers.any (fun e => e.2.keySlot == n) ||
  (l.cfg.pair.map (fun p => p.keySlot == n)).getD false ||
  ((l.cfg.witness.laneWitness == 2 || l.cfg.witness.deviceWitness == 2) && l.cfg.witness.keySlot == n)

/-- The slot named by any user of R583: besides those, an authentication policy that uses a key and a radio that runs. -/
def slotNamed (l : Lane) (n : Nat) : Bool :=
  slotNamedByLinks l n ||
  l.cfg.auth.any (fun e => e.2.mode != 0 && e.2.keySlot == n) ||
  l.cfg.mesh.any (fun e => e.2.role != 0 && e.2.keySlot == n)

def keyDeleteCheck (l : Lane) (r : Request) : Status :=
  need (isZero (body r) 0 4) .badParam <|
  need (l.keys.privilege && !isPeer r.src) .authFailed <|
  need (!slotNamed l (flowId r)) .noResource .ok

/-- The slot and its flash record are cleared; it becomes EMPTY with its generation raised (R583). -/
def keyDeleteApply (r : Request) (l : Lane) : Lane × Bytes :=
  let n := flowId r
  ({ l with
    keys := { l.keys with slots := tput l.keys.slots n { KeySlot.dflt with generation := bump (slotOf l n).generation } }
    vault := { l.vault with flash := tdel l.vault.flash n } }, [])

def laneKeyDelete (r : Request) (l : Lane) : Lane := serve 0x0C03 none keyDeleteCheck keyDeleteApply r l

def keyInvalidateCheck (l : Lane) (r : Request) : Status :=
  need (isZero (body r) 0 4) .badParam <|
  need (l.keys.privilege && !isPeer r.src) .authFailed .ok

/-- The material is cleared, the generation rises and the slot is INVALID, so that its children become orphans
(R574, R583). The flash record follows the slot. -/
def keyInvalidateApply (r : Request) (l : Lane) : Lane × Bytes :=
  let n := flowId r
  let k := { slotOf l n with state := .invalid, material := [], generation := bump (slotOf l n).generation }
  ({ l with
    keys := { l.keys with slots := tput l.keys.slots n k }
    vault := { l.vault with flash := if k.persistent then tput l.vault.flash n ⟨k, l.vault.wrap.getD 0⟩ else l.vault.flash } }, [])

def laneKeyInvalidate (r : Request) (l : Lane) : Lane := serve 0x0C04 none keyInvalidateCheck keyInvalidateApply r l

/-! ### KEY_ATTEST (R584) -/

/-- A slot usable as the signer or the secret: VALID, of a suitable type and usage. -/
def signerOk (l : Lane) (n : Nat) : Bool :=
  n == 0xFF || (slotState l n == .valid && inRange 5 6 (slotOf l n).type && (slotOf l n).usage.getLsbD 3)
def secretOk (l : Lane) (n : Nat) : Bool :=
  slotState l n == .valid && (slotOf l n).type == 3 && (slotOf l n).usage.getLsbD 5

/-- While ZEROISED only attestation by the identity key remains available (R589). -/
def attestCheck (l : Lane) (r : Request) : Status :=
  let b := body r
  let byIdentity := field b 0 1 == 1 && field b 1 1 == 0xFF
  need (inRange 1 2 (field b 0 1) && isZero b 3 1) .badParam <|
  need (!l.keys.engineFault) .faultLasting <|
  if l.keys.zeroised then (if byIdentity then .ok else .keyZeroised)
  else
    need (if field b 0 1 = 1 then signerOk l (field b 1 1) else secretOk l (field b 2 1)) .badParam <|
    need (slotState l (flowId r) != .empty) .noResource <|
    need (slotState l (flowId r) == .valid) .keyOrphaned .ok

/-- The 192-byte statement (R584). -/
def statement (r : Request) (l : Lane) : Bytes :=
  let k := slotOf l (flowId r)
  le 4 0x41564C53 ++ le 1 1 ++
    le 1 (b2n l.vault.debugUnlocked + 2 * b2n k.generated + 4 * b2n k.persistent) ++ le 1 l.id.code ++
    le 1 (flowId r) ++ le 1 k.type ++ le 1 k.usage.toNat ++ zeros 2 ++ le 4 k.generation ++ le 4 k.keyId ++
    le 4 (keyEpochNow l) ++ fit 16 (Config.serial l.id) ++ le 16 (nowFull l) ++ slice (body r) 4 32 ++
    (if 5 ≤ k.type then slotPublic k else fit 97 (kcv k)) ++ zeros 7

/-- The signature or tag with its kind and length (R584). -/
def attestSign (r : Request) (l : Lane) (st : Bytes) : Bytes :=
  let b := body r
  if field b 0 1 = 2 then le 1 3 ++ le 1 32 ++ zeros 2 ++ hmac (slotOf l (field b 2 1)).material st
  else if field b 1 1 = 0xFF then
    le 1 2 ++ le 1 96 ++ zeros 2 ++ ecdsaSign 384 (Config.identityPrivate l.id l.vault.debugUnlocked) st (Config.ecdsaSecret 384 l.fresh)
  else
    let k := slotOf l (field b 1 1)
    if k.type = 5 then le 1 1 ++ le 1 64 ++ zeros 2 ++ ecdsaSign 256 k.material st (Config.ecdsaSecret 256 l.fresh)
    else le 1 2 ++ le 1 96 ++ zeros 2 ++ ecdsaSign 384 k.material st (Config.ecdsaSecret 384 l.fresh)

def attestApply (r : Request) (l : Lane) : Lane × Bytes :=
  let st := statement r l
  ({ l with fresh := l.fresh + 1 }, st ++ attestSign r l st)

def laneKeyAttest (r : Request) (l : Lane) : Lane := serve 0x0C05 none attestCheck attestApply r l

/-! ### Privilege (R577 to R579) -/

def challengeCheck (l : Lane) (r : Request) : Status :=
  need (isZero (body r) 0 4) .badParam <|
  need (!isPeer r.src) .authFailed <|
  need (!l.keys.engineFault) .faultLasting .ok

/-- A 32-byte nonce that stays valid for 10 s and replaces the previous one (R577). -/
def challengeApply (_ : Request) (l : Lane) : Lane × Bytes :=
  let d := drawRandom 32 l
  ({ d.2 with keys := { d.2.keys with challenge := some (d.1, l.tc) } }, d.1)

def laneRoleChallenge (r : Request) (l : Lane) : Lane := serve 0x0C06 none challengeCheck challengeApply r l

def respondCurve (r : Request) : Nat := if field (body r) 1 1 = 1 then 256 else 384
def respondPublic (r : Request) : Bytes := slice (body r) 4 (if respondCurve r = 256 then 65 else 97)
def respondSig (r : Request) : Bytes := slice (body r) 104 (if respondCurve r = 256 then 64 else 96)

/-- The ranges of ROLE_RESPOND with op 0 or 2 (R577, R573), its source, and the lockout (R579). -/
def respondCheck (l : Lane) (r : Request) : Status :=
  let b := body r
  need (inRange 1 2 (field b 1 1) && isZero b 2 2 && isZero b 101 3 &&
    (respondCurve r == 384 || (isZero b 69 32 && isZero b 168 32)) &&
    field (respondPublic r) 0 1 == 4 && onCurve (respondCurve r) (respondPublic r)) .badParam <|
  need (!isPeer r.src && decide (l.keys.lockoutUntil ≤ l.tc)) .authFailed <|
  need (!l.keys.engineFault) .faultLasting .ok

/-- The signature over nonce ‖ serial ‖ lane verifies against a nonce that is still valid (R577). -/
def respondVerifies (l : Lane) (r : Request) : Bool :=
  match l.keys.challenge with
  | none => false
  | some (nonce, at_) =>
    decide (l.tc ≤ at_ + secTc 10) &&
      ecdsaVerify (respondCurve r) (respondPublic r) (nonce ++ fit 16 (Config.serial l.id) ++ le 1 l.id.code) (respondSig r)

/-- A failed response counts; five within 60 s lock responses out for the next 60 s (R579). -/
def failResponse (r : Request) (l : Lane) : Lane :=
  let recent := (l.keys.failedAt.filter (fun t => decide (l.tc ≤ t + secTc 60))) ++ [l.tc]
  let lock := 5 ≤ recent.length
  refuse r .authFailed { l with keys := { l.keys with
    failedAt := if lock then [] else recent
    lockoutUntil := if lock then l.tc + secTc 60 else l.keys.lockoutUntil } }

/-- Grants privilege and replies OK. -/
def grantPrivilege (r : Request) (l : Lane) : Lane :=
  postReply r .ok false [] { l with keys := { l.keys with privilege := true } }

/-- ROLE_RESPOND op 0: privilege when the signature verifies and the key's hash equals an owner entry (R577). -/
def takeStart (r : Request) (l : Lane) : Lane :=
  if respondVerifies l r && l.vault.owners.contains (sha256 (respondPublic r)) then grantPrivilege r l
  else failResponse r l

def laneRespondTake (r : Request) (l : Lane) : Lane := serveHeld 0x0C07 (some 0) respondCheck takeStart r l

/-- ROLE_RESPOND op 1 drops privilege; every field after op must be 0 (R577). -/
def dropCheck (l : Lane) (r : Request) : Status :=
  need (isZero (body r) 1 199) .badParam <|
  need (!isPeer r.src && decide (l.keys.lockoutUntil ≤ l.tc)) .authFailed .ok

/-- The effect and result of `laneRespondDrop`. -/
def respondDropApply (_ : Request) (s : Lane) : Lane × Bytes :=
  ({ s with keys := { s.keys with privilege := false } }, [])

def laneRespondDrop (r : Request) (l : Lane) : Lane :=
  serve 0x0C07 (some 1) dropCheck respondDropApply r l

/-- ROLE_RESPOND op 2 also writes the key's hash into the first empty owner entry: allowed with every entry empty or
while privilege is held; without an empty entry LIMIT_EXCEEDED (R578). -/
def bindStart (r : Request) (l : Lane) : Lane :=
  if !(l.vault.owners.isEmpty || l.keys.privilege) || !respondVerifies l r then failResponse r l
  else if 4 ≤ l.vault.owners.length then refuse r .limitExceeded l
  else grantPrivilege r { l with vault := { l.vault with owners := l.vault.owners ++ [sha256 (respondPublic r)] } }

def laneRespondBind (r : Request) (l : Lane) : Lane := serveHeld 0x0C07 (some 2) respondCheck bindStart r l

/-- 60 s after the lockout began, responses are accepted again (R579). -/
def laneLockoutExpiry (l : Lane) : Lane :=
  if l.keys.lockoutUntil ≤ l.tc then { l with keys := { l.keys with lockoutUntil := 0, failedAt := [] } } else l

/-! ### SLV_QUERY (R586) -/

/-- The sources enabled now: 6 to 9 always, 0 to 5 as in force (R585, R687). -/
def enabledSources (l : Lane) : BitVec 10 := l.vault.kaEnable.setWidth 10 ||| 0x3C0#10

/-- Slots that are not EMPTY. -/
def slotsUsed (l : Lane) : Nat := (l.keys.slots.filter (fun e => e.2.state != .empty)).length

/-- A tamper record is unacknowledged. -/
def tamperUnack (l : Lane) : Bool := l.vault.records.any (fun x => !x.acknowledged)

/-- last_tamper: the latest record, 32 bytes (R586). -/
def lastTamper (l : Lane) : Bytes :=
  match l.vault.records.getLast? with
  | none => zeros 32
  | some x => le 2 x.sources.toNat ++ le 1 x.mode.code ++ zeros 5 ++ le 16 x.time ++ le 1 (b2n x.sibling) ++ zeros 7

/-- The STATUS result, 264 bytes (R586). -/
def slvStatus (l : Lane) : Bytes :=
  le 1 (b2n l.keys.zeroised) ++
    le 1 (b2n l.keys.privilege + 2 * b2n l.vault.debugUnlocked + 4 * b2n (tamperUnack l) + 8 * b2n l.keys.engineFault) ++
    le 2 (enabledSources l).toNat ++ le 2 l.keys.inputs.toNat ++ le 2 (slotsUsed l) ++ le 4 (keyEpochNow l) ++
    le 4 l.vault.zeroisations ++ fit 16 (Config.serial l.id) ++
    fit 97 (ecPublic 384 (Config.identityPrivate l.id l.vault.debugUnlocked)) ++ zeros 3 ++
    (if l.vault.debugUnlocked then zeros 96 else fit 96 (Config.endorsement l.id)) ++
    le 4 (2 ^ l.vault.owners.length - 1) ++ lastTamper l

/-- The checks of `laneSlvStatus`. -/
def slvStatusCheck (_ : Lane) (q : Request) : Status :=
  need (isZero (body q) 3 1) .badParam .ok

/-- The effect and result of `laneSlvStatus`. -/
def slvStatusApply (_ : Request) (s : Lane) : Lane × Bytes :=
  (s, slvStatus s)

def laneSlvStatus (r : Request) (l : Lane) : Lane :=
  serve 0x0C08 (some 0) slvStatusCheck slvStatusApply r l

/-- A slot entry of SLV_QUERY (R586). -/
def slotEntry (l : Lane) (n : Nat) : Bytes :=
  let k := slotOf l n
  le 1 (slotState l n).code ++ le 1 k.type ++ le 1 k.usage.toNat ++
    le 1 (b2n k.persistent + 2 * b2n k.generated + 4 * b2n k.parent.isSome) ++ le 4 k.generation ++ le 4 k.keyId ++
    le 1 ((k.parent.map (·.1)).getD 0xFF) ++ zeros 3

def slvSlotsCheck (_ : Lane) (r : Request) : Status :=
  need (inRange 1 64 (field (body r) 2 1) && field (body r) 1 1 + field (body r) 2 1 ≤ 256 && isZero (body r) 3 1) .badParam .ok

/-- The effect and result of `laneSlvSlots`. -/
def slvSlotsApply (q : Request) (s : Lane) : Lane × Bytes :=
  (s, (List.range (field (body q) 2 1)).flatMap (fun i => slotEntry s (field (body q) 1 1 + i)))

def laneSlvSlots (r : Request) (l : Lane) : Lane :=
  serve 0x0C08 (some 1) slvSlotsCheck slvSlotsApply r l

/-- TAMPER_SET (R579, R586): privilege; a source that it would enable and that reads tamper fails with BAD_PARAM. -/
def tamperSetCheck (l : Lane) (r : Request) : Status :=
  let b := body r
  need (isZero b 3 1 && field b 4 2 < 64 && inRange 10 10000 (field b 6 2) &&
    (BitVec.ofNat 10 (field b 4 2) &&& l.keys.inputs == 0)) .badParam <|
  need (l.keys.privilege && !isPeer r.src) .authFailed .ok

def tamperSetApply (r : Request) (l : Lane) : Lane × Bytes :=
  let en : BitVec 6 := BitVec.ofNat 6 (field (body r) 4 2)
  ({ l with
    cfg := { l.cfg with tamperEnable := en, debounceUs := field (body r) 6 2 }
    keys := { l.keys with deferred := 0 }
    vault := { l.vault with kaEnable := en } }, [])

def laneSlvTamperSet (r : Request) (l : Lane) : Lane := serve 0x0C08 (some 2) tamperSetCheck tamperSetApply r l

def tamperAckCheck (l : Lane) (r : Request) : Status :=
  need (isZero (body r) 3 1) .badParam <|
  need (l.keys.privilege && !isPeer r.src) .authFailed .ok

/-- The effect and result of `laneSlvTamperAck`. -/
def slvTamperAckApply (_ : Request) (s : Lane) : Lane × Bytes :=
  ({ s with vault := { s.vault with records := s.vault.records.map (fun x => { x with acknowledged := true }) } }, [])

/-- TAMPER_ACK acknowledges the latched records (R586). -/
def laneSlvTamperAck (r : Request) (l : Lane) : Lane :=
  serve 0x0C08 (some 3) tamperAckCheck slvTamperAckApply r l

/-! ### Self-test (R571) and tamper (R585 to R588) -/

/-- Every 10 s the entropy and engine tests run; a failure is retried once, and a second one is lasting: unhealthy,
with Ochre alarm 355 (R571). `first` and `retry` tell whether each run passes. -/
def laneSelfTest (first retry : Bool) (l : Lane) : Lane :=
  if !dieRuns l || !decide (l.keys.lastTest + secTc 10 ≤ l.tc) then l
  else
    let l1 := { l with keys := { l.keys with lastTest := l.tc } }
    if first then l1
    else if retry then transientFault .keyEngine 0 l1
    else
      let l2 := lastingFault .keyEngine 0 { l1 with keys := { l1.keys with engineFault := true } }
      declareUnhealthy 5 (raiseCond 355 l2)

/-- Slots after zeroisation: every one EMPTY, with the generation of a cleared slot raised (R572, R587). -/
def clearedSlots (t : Table KeySlot) : Table KeySlot :=
  t.map (fun e => (e.1, { KeySlot.dflt with generation := if e.2.state == .empty then e.2.generation else bump e.2.generation }))

/-- The state of zeroisation (R587): slots and wrap key cleared, key epoch 0, a record latched among the last
eight. -/
def zeroiseState (sources : BitVec 10) (time : Nat) (l : Lane) : Lane :=
  let rec_ : TamperRecord := { sources := sources, mode := l.mode.mode, time := time, acknowledged := false, sibling := false }
  { l with
    keys := { l.keys with slots := clearedSlots l.keys.slots, zeroised := true, keyEpoch := 0 }
    vault := { l.vault with
      wrap := none, epoch := 0, zeroisations := bump l.vault.zeroisations
      records := (l.vault.records ++ [rec_]).drop (l.vault.records.length + 1 - 8) } }

/-- A running lane zeroises (R587): the record goes to the fault log, alarms 352 and 353 are raised, the other lane
is told, and a holder may hand over (R544). In START and SALVAGE the alarm pins stay low (R379). -/
def zeroise (sources : BitVec 10) (l : Lane) : Lane :=
  let l1 := logFault .event .tamper 0 sources.toNat none [] (zeroiseState sources (nowFull l) l)
  let l2 := raiseCond 353 (raiseEvent 352 l1)
  plySettle (tamperHandover (plySend 0xFF (.tamper sources.toNat (nowFull l)) l2))

/-- Sources that are watched in DORMANT or without VIN: 0 to 6 (R585). -/
def dormantSources : BitVec 10 := 0x07F

end Sys2Proof.Machine
end

