-- ==== Sys2Proof/Machine/Image.lean ====
section
/-!
DEFINITION. Pattern images (chapter 08): the header, the sections, the load checks of R306, the library's images of
R348, and the round time of R314.
-/
namespace Sys2Proof.Machine

/-! ### Header and sections (R296 to R303) -/

def imgFormat (b : Bytes) : Nat := field b 4 2
def imgLen (b : Bytes) : Nat := field b 8 4
def imgId (b : Bytes) : Nat := field b 12 4
def imgVersion (b : Bytes) : Nat := field b 16 4
/-- rect_row0, rect_col0, rect_rows, rect_cols. -/
def imgRect (b : Bytes) : Nat × Nat × Nat × Nat := (field b 24 1, field b 25 1, field b 26 1, field b 27 1)
def imgTiles (b : Bytes) : Nat := field b 26 1 * field b 27 1
def imgRows (b : Bytes) : Nat := field b 28 4
def imgWidth (b : Bytes) : Nat := field b 32 4
def imgRates (b : Bytes) : Nat := field b 36 4
def imgEntry (b : Bytes) : Nat := field b 40 2
def imgHeaderLine (b : Bytes) : Nat := field b 42 2
def imgStateful (b : Bytes) : Bool := bit (field b 44 2) 0
def imgParamBytes (b : Bytes) : Nat := field b 46 2
def imgParamOff (b : Bytes) : Nat := field b 48 4
def imgTilesOff (b : Bytes) : Nat := field b 52 4
def imgLayoutOff (b : Bytes) : Nat := field b 56 4
def imgLayoutCount (b : Bytes) : Nat := field b 60 2
def imgRegionCount (b : Bytes) : Nat := field b 62 2
def imgRegionOff (b : Bytes) : Nat := field b 64 4
def imgOutOff (b : Bytes) : Nat := field b 68 4
def imgOutCount (b : Bytes) : Nat := field b 72 2
def imgSigOff (b : Bytes) : Nat := field b 76 4

/-- A tile directory entry (R297): image offset of the code and its bundles. -/
def codeOff (b : Bytes) (t : Nat) : Nat := field b (imgTilesOff b + 8 * t) 4
def codeLen (b : Bytes) (t : Nat) : Nat := field b (imgTilesOff b + 8 * t + 4) 2

/-- The bundle at an address of a tile's code, least significant byte first (R276, R297). -/
def codeWord (b : Bytes) (t a : Nat) : BitVec 192 := BitVec.ofNat 192 (field b (codeOff b t + 24 * a) 24)

/-- A cast-on layout entry (R298). -/
structure LayoutEntry where
  off : Nat
  first : Nat
  lines : Nat
  tile : Nat
  valueLine : Nat
  validLine : Nat
deriving DecidableEq, Repr

def layoutEntry (b : Bytes) (i : Nat) : LayoutEntry :=
  let o := imgLayoutOff b + 16 * i
  { off := o, first := field b o 4, lines := field b (o + 4) 2, tile := field b (o + 6) 1,
    valueLine := field b (o + 8) 2, validLine := field b (o + 10) 2 }

def layoutOf (b : Bytes) : List LayoutEntry := (List.range (imgLayoutCount b)).map (layoutEntry b)

/-- A region entry (R300). -/
structure Region where
  off : Nat
  kind : Nat
  tile : Nat
  first : Nat
  lines : Nat
  init : Nat
deriving DecidableEq, Repr

def regionEntry (b : Bytes) (i : Nat) : Region :=
  let o := imgRegionOff b + 16 * i
  { off := o, kind := field b o 1, tile := field b (o + 1) 1, first := field b (o + 2) 2, lines := field b (o + 4) 2,
    init := field b (o + 8) 4 }

def regionsOf (b : Bytes) : List Region := (List.range (imgRegionCount b)).map (regionEntry b)

/-- An output table entry (R302). -/
structure OutEntry where
  off : Nat
  kind : Nat
  tile : Nat
  lines : Nat
  first : Nat
  target : Nat
deriving DecidableEq, Repr

def outEntry (b : Bytes) (i : Nat) : OutEntry :=
  let o := imgOutOff b + 16 * i
  { off := o, kind := field b o 1, tile := field b (o + 1) 1, lines := field b (o + 2) 2, first := field b (o + 4) 2,
    target := field b (o + 6) 2 }

def outputsOf (b : Bytes) : List OutEntry := (List.range (imgOutCount b)).map (outEntry b)

/-- b: the output lines of a round (R302). -/
def imgOutLines (b : Bytes) : Nat := ((outputsOf b).map (·.lines)).sum

/-! ### The library (R348) -/

/-- A row of R348's table: course_width, Q, b, rate_mask. -/
def libraryRow (id rows cols : Nat) : Option (Nat × Nat × Nat × Nat) :=
  match id, rows, cols with
  | 1, 8, 8 => some (16384, 1600000, 2114, 0x3FFF)
  | 1, 4, 8 => some (16384, 3200000, 2114, 0x0FFF)
  | 2, 8, 8 => some (4096, 2400000, 6162, 0x0550)
  | 2, 4, 8 => some (4096, 4200000, 6162, 0x0550)
  | 3, 2, 8 => some (1024, 1400, 19, 0x1FFC0)
  | 4, 1, 8 => some (1024, 2000, 64, 0x1FFFF)
  | _, _, _ => none

/-! ### Patterns as a bank holds them -/

/-- The library id and shape of a pattern from the library. -/
def patLib (p : Pattern) : Option (Nat × Nat × Nat × Nat) :=
  p.library.bind (fun id => libraryRow id (field p.image 26 1) (field p.image 27 1))

def patId (p : Pattern) : Nat := match p.library with | some id => 0x52420000 + id | none => imgId p.image
def patVersion (p : Pattern) : Nat := imgVersion p.image
def patRows (p : Pattern) : Nat := match patLib p with | some x => x.2.1 | none => imgRows p.image
def patWidth (p : Pattern) : Nat := match patLib p with | some x => x.1 | none => imgWidth p.image
def patRates (p : Pattern) : Nat := match patLib p with | some x => x.2.2.2 | none => imgRates p.image
def patOutLines (p : Pattern) : Nat := match patLib p with | some x => x.2.2.1 | none => imgOutLines p.image

/-- The image of a library id and shape: its bytes are the firmware's (R296), with the shape in its header. -/
def libraryImage (id rows cols : Nat) : Bytes :=
  let b := Config.libraryImage id rows cols
  b.take 24 ++ [0, 0, BitVec.ofNat 8 rows, BitVec.ofNat 8 cols] ++ b.drop 28

/-- The default parameters of the state estimator (R345): FP32 4.0 and 2^-20, then bytes. -/
def estimatorDefaults : Bytes :=
  le 4 0x40800000 ++ le 4 0x35800000 ++ [0, 1, 1, 1, 2, 0] ++ le 2 4 ++ le 4 65535 ++ le 2 0 ++ [16] ++ zeros 9

/-- The default band table of the oscillation monitor (R365): f_lo, f_hi, zeta_alarm 0.03, damp_hold_s 10, amp_floor 0,
amp_alarm 0, amp_hold_s 10. -/
def bandDefault (m : Nat) : Bytes :=
  let lo := if m = 0 then 0x3DCCCCCD else if m = 1 then 0x3F4CCCCD else if m = 2 then 0x40000000 else 0x3C23D70A
  let hi := if m = 0 then 0x3F4CCCCD else if m = 1 then 0x40000000 else if m = 2 then 0x40A00000 else 0x3DCCCCCD
  le 4 lo ++ le 4 hi ++ le 4 0x3CF5C28F ++ le 4 0x41200000 ++ zeros 8 ++ le 4 0x41200000 ++ zeros 4

/-- The default parameters of the oscillation monitor (R365): λ 0.9998, orders 12 and 2, detrend_s 60, shape_s 30,
fo_window_s 60, fo_ratio 20, fo_persist_s 20, def_s 30, clear_s 10; every channel off. -/
def oscillationDefaults : Bytes :=
  le 4 0x3F7FF2E5 ++ [12, 2] ++ zeros 6 ++ le 4 0x42700000 ++ le 4 0x41F00000 ++ le 4 0x42700000 ++ le 4 0x41A00000 ++
    le 4 0x41A00000 ++ le 4 0x41F00000 ++ le 4 0x41200000 ++ [32, 4, 4, 0] ++ zeros 84 ++
    (List.range 8).flatMap bandDefault ++ List.replicate 4096 3 ++ zeros 1024

/-- The default parameters of the islanding detector (R376): thresholds 0.10, 20, 1.0 and 8.0; each tie entry joins region
0 to region 1 and names no breaker. -/
def islandingDefaults : Bytes :=
  le 2 0 ++ le 2 0 ++ le 2 896 ++ [0, 0, 0, 1, 6, 8] ++ le 2 600 ++ [12, 6] ++ le 4 0x3DCCCCCD ++ le 4 0x41A00000 ++
    le 4 0x3F800000 ++ le 4 0x41000000 ++ [4, 50] ++ zeros 30 ++ zeros 896 ++
    (List.range 128).flatMap (fun _ => [0, 1, 0xFF, 0xFF, 0, 0, 0, 0])

/-- The default parameter block of an image (R296). -/
def defaultParams (b : Bytes) : Bytes := slice b (imgParamOff b) (imgParamBytes b)

/-- The pattern that an image makes. -/
def patternOf (image : Bytes) (library : Option Nat) : Pattern :=
  { image := image, library := library, hash := sha256 image, written := []
    params := match library with
      | some 1 => estimatorDefaults
      | some 2 => oscillationDefaults
      | some 3 => islandingDefaults
      | some _ => fit (imgParamBytes image) (defaultParams image)
      | none => defaultParams image }

/-! ### Rates and round times (R211, R314) -/

/-- The rates of R211. -/
def planeRates : List Nat := [10, 12, 15, 20, 25, 30, 50, 60, 100, 120, 200, 240, 400, 480, 600, 960, 1200]

/-- A rate lies in a rate mask (R296). -/
def rateAllowed (mask rate : Nat) : Bool := planeRates.zipIdx.any (fun (r, i) => r == rate && bit mask i)

/-- The highest rate of a mask. -/
def topRate (mask : Nat) : Nat := (planeRates.zipIdx.filter (fun (_, i) => bit mask i)).foldl (fun _ x => x.1) 0

/-- The array clock in Hz (R41). -/
def arrayHz (throttled : Bool) : Nat := if throttled then 900000000 else 1200000000

/-- T_r in seconds (R314). -/
def roundTime (width rows out hz : Nat) : Rat := mkRat ((width + 7) / 8 : Nat) 800000000 + mkRat (rows + out + 11 : Nat) hz

def patTime (p : Pattern) (throttled : Bool) : Rat := roundTime (patWidth p) (patRows p) (patOutLines p) (arrayHz throttled)

/-- A round fits a plane of rate r (R314). -/
def roundFits (t : Rat) (rate : Nat) : Bool := decide (t * (rate : Nat) ≤ 1)

/-! ### Load checks (R306) -/

/-- The outcome of a failed check: its status and the fields of the result. -/
structure LoadFail where
  status : Status
  check : Nat
  tile : Nat
  offset : Nat
deriving DecidableEq, Repr

/-- One item of a check: whether it holds, its tile, its image offset. -/
abbrev Item := Bool × Nat × Nat

/-- The first item that fails, as the failure of a check. -/
def firstFail (check : Nat) (items : List Item) : Option LoadFail :=
  (items.find? (fun x => !x.1)).map (fun x => ⟨.imageInvalid, check, x.2.1, x.2.2⟩)

/-- Check 1: magic, format, header_len and reserved fields, then image_len, in the order of the check's words. -/
def check1 (b : Bytes) (total : Nat) : Option LoadFail :=
  firstFail 1 [(field b 0 4 == 0x54504C42, 0xFF, 0), (imgFormat b == 4 || imgFormat b == 5, 0xFF, 4),
    (128 ≤ b.length && field b 6 2 == 128, 0xFF, 6), (field b 44 2 < 2, 0xFF, 44), (isZero b 74 2, 0xFF, 74),
    (isZero b 80 48, 0xFF, 80), (imgLen b == total && b.length == total, 0xFF, 8)]

/-- A section of `len` bytes obeys the section rule (R296). -/
def sectionOk (b : Bytes) (off len : Nat) : Bool := off % 8 == 0 && 128 ≤ off && off + len ≤ imgSigOff b

/-- The five tables: offset and length. -/
def tablesOf (b : Bytes) : List (Nat × Nat) :=
  [(imgParamOff b, imgParamBytes b), (imgTilesOff b, 8 * imgTiles b), (imgLayoutOff b, 16 * imgLayoutCount b),
   (imgRegionOff b, 16 * imgRegionCount b), (imgOutOff b, 16 * imgOutCount b)]

/-- Two stretches of bytes have none in common. -/
def apart (x y : Nat × Nat) : Bool := x.2 == 0 || y.2 == 0 || x.1 + x.2 ≤ y.1 || y.1 + y.2 ≤ x.1

/-- A code block or a block of initial contents obeys R296: the section rule, and no byte in common with a table. -/
def blockOk (b : Bytes) (off len : Nat) : Bool := sectionOk b off len && (tablesOf b).all (apart (off, len))

/-- The tile that the result names: the directory index, or 0xFF where the entry names none. -/
def tileField (b : Bytes) (t : Nat) : Nat := if t < imgTiles b then t else 0xFF

/-- Check 2: the counts and header fields are in range, and the five tables obey R296. An overlap of a table with a
code block or a block of initial contents is a failure of that block (checks 5 and 11). -/
def check2 (b : Bytes) : Option LoadFail :=
  let ts := tablesOf b
  let heads := [48, 52, 56, 64, 68]
  let ranges : List Item :=
    [(inRange 192 50331648 (imgLen b), 0xFF, 8), (1 ≤ imgId b, 0xFF, 12), (field b 24 1 ≤ 7, 0xFF, 24), (field b 25 1 ≤ 7, 0xFF, 25),
     (inRange 1 (8 - field b 24 1) (field b 26 1), 0xFF, 26), (inRange 1 (8 - field b 25 1) (field b 27 1), 0xFF, 27),
     (inRange 16 16777216 (imgRows b), 0xFF, 28), (inRange 1 65536 (imgWidth b), 0xFF, 32),
     (inRange 1 (2 ^ 17 - 1) (imgRates b), 0xFF, 36), (imgEntry b ≤ 8191, 0xFF, 40), (imgHeaderLine b ≤ 4095, 0xFF, 42),
     (imgParamBytes b ≤ 16384 && imgParamBytes b % 4 == 0, 0xFF, 46), (inRange 1 8192 (imgLayoutCount b), 0xFF, 60),
     (imgRegionCount b ≤ 1024, 0xFF, 62), (inRange 1 1024 (imgOutCount b), 0xFF, 72),
     (imgSigOff b % 8 == 0 && 128 ≤ imgSigOff b && imgSigOff b + 8 ≤ imgLen b, 0xFF, 76)]
  let sections : List Item := (ts.zip heads).zipIdx.map (fun (x, i) =>
    ((if x.1.2 = 0 then x.1.1 == 0
      else sectionOk b x.1.1 x.1.2 && ts.zipIdx.all (fun (y, j) => decide (i ≤ j) || apart x.1 y) : Bool), 0xFF, x.2))
  firstFail 2 (ranges ++ sections)

/-- The status of a signature section at `off` over the bytes before it (R303): `k2` tells that kind 2 is allowed. -/
def signatureStatus (l : Lane) (b : Bytes) (off : Nat) (k2 : Bool) : Status :=
  let kind := field b off 1
  let slot := field b (off + 1) 1
  let len := if kind = 2 then 96 else 64
  let curve := if kind = 2 then 384 else 256
  let want := if kind = 2 then 10 else 9
  let sig := slice b (off + 8) len
  let msg := b.take off
  if !(kind == 1 || (kind == 2 && k2)) || field b (off + 2) 2 != len || !isZero b (off + 4) 4 ||
      b.length != off + 8 + len then .authFailed
  else if l.keys.engineFault then .faultLasting
  else if slot = 0xFF then (if ecdsaVerify curve (Config.patternKey curve) msg sig then .ok else .authFailed)
  else if l.keys.zeroised then .keyZeroised
  else
    match slotState l slot with
    | .empty => .badParam
    | .valid =>
      if (slotOf l slot).type ≠ want then .badParam
      else if ecdsaVerify curve (slotOf l slot).material msg sig then .ok else .authFailed
    | _ => .keyOrphaned

/-- Check 3: the signature. -/
def check3 (l : Lane) (b : Bytes) : Option LoadFail :=
  match signatureStatus l b (imgSigOff b) (imgFormat b == 5) with
  | .ok => none
  | st => some ⟨st, 3, 0xFF, imgSigOff b⟩

/-- Two rectangles have a tile in common. -/
def rectsMeet (a b : Nat × Nat × Nat × Nat) : Bool :=
  a.1 < b.1 + b.2.2.1 && b.1 < a.1 + a.2.2.1 && a.2.1 < b.2.1 + b.2.2.2 && b.2.1 < a.2.1 + a.2.2.2

/-- Check 4: the rectangle. -/
def check4 (l : Lane) (n : Nat) (b : Bytes) : Option LoadFail :=
  let ok := match (partOf l n).rect with
    | some r => r == imgRect b
    | none => !l.array.parts.any (fun p => p.1 != n && p.2.rect.any (rectsMeet (imgRect b)))
  if ok then none else some ⟨.noResource, 4, 0xFF, 24⟩

/-- Check 5: the tile directory and the code blocks (R296, R297). -/
def check5 (b : Bytes) : Option LoadFail :=
  firstFail 5 ((List.range (imgTiles b)).map (fun t =>
    let o := imgTilesOff b + 8 * t
    (inRange 1 8192 (codeLen b t) && isZero b (o + 6) 2 && imgEntry b < codeLen b t &&
      blockOk b (codeOff b t) (24 * codeLen b t), t, o)))

/-- One item for every bundle of every tile. -/
def bundleItems (b : Bytes) (ok : Nat → Nat → BitVec 192 → Bool) : List Item :=
  (List.range (imgTiles b)).flatMap (fun t =>
    (List.range (codeLen b t)).map (fun a => (ok t a (codeWord b t a), t, codeOff b t + 24 * a)))

/-- Check 6: every bundle is well formed (R277). -/
def check6 (b : Bytes) : Option LoadFail := firstFail 6 (bundleItems b (fun _ _ w => bundleOk w))

/-- The loops open at each bundle of a tile's code, by the last bundle of their bodies, innermost first; each bundle
with whether it breaks a rule of R270: at most four loops, bodies nested, bodies within the code. -/
def loopItems (b : Bytes) (t len : Nat) : Nat → Nat → List Nat → List Item
  | 0, _, _ => []
  | k + 1, a, stack =>
    let open_ := stack.filter (fun last => decide (a ≤ last))
    let c := (decodeBundle (codeWord b t a)).c
    let last := a + cBodyLen c
    let isLoop := c.op.toNat == 1
    let ok := !isLoop || (last < len && open_.length < 4 && open_.all (fun x => decide (last ≤ x)))
    (ok, t, codeOff b t + 24 * a) :: loopItems b t len k (a + 1) (if isLoop then last :: open_ else open_)

/-- Check 7: the loop rules (R270). -/
def check7 (b : Bytes) : Option LoadFail :=
  firstFail 7 ((List.range (imgTiles b)).flatMap (fun t => loopItems b t (codeLen b t) (codeLen b t) 0 []))

/-- A SEND of `h` hops from (r, c) stays inside a rectangle of `rows` by `cols` (R266). -/
def hopsInside (rows cols r c : Nat) (d : Dir) (h : Nat) : Bool :=
  match d with
  | .n => h ≤ r
  | .s => r + h < rows
  | .w => h ≤ c
  | .e => c + h < cols

def nPathOk (b : Bytes) (t : Nat) (n : NSlot) : Bool :=
  let cols := field b 27 1
  n.op.toNat != 1 || hopsInside (field b 26 1) cols (t / cols) (t % cols) (nDir n) (nHops n)

/-- Check 8: the network paths (R266). -/
def check8 (b : Bytes) : Option LoadFail :=
  firstFail 8 (bundleItems b (fun t _ w => nPathOk b t (decodeBundle w).n0 && nPathOk b t (decodeBundle w).n1))

/-- The fetch sequence of a tile over `k` more rows from address `a` (R268, R269): END issues in the last row and in
no other. -/
def fetchEnds (b : Bytes) (t : Nat) : Nat → Nat → List LoopSt → Bool
  | 0, _, _ => true
  | k + 1, a, loops =>
    let c := (decodeBundle (codeWord b t a)).c
    let isEnd := c.op.toNat == 4
    if codeLen b t ≤ a || isEnd != (k == 0) then false
    else
      let nx := nextFetch a c loops
      fetchEnds b t k nx.1 nx.2

/-- Check 9: duty 3 of R292; the item is the tile's code. -/
def check9 (b : Bytes) : Option LoadFail :=
  firstFail 9 ((List.range (imgTiles b)).map (fun t => (fetchEnds b t (imgRows b) (imgEntry b) [], t, codeOff b t)))

/-- The units of eight positions of a plane of width w (R299). -/
def units (w : Nat) : Nat := (w + 7) / 8

/-- An item's place in a list ordered by a key, after the items of the same key. -/
def putByKey {α : Type} (key : α → Nat) (x : α) : List α → List α
  | [] => [x]
  | y :: ys => if key y ≤ key x then y :: putByKey key x ys else x :: y :: ys

/-- A list in the order of a key, items of one key as they stood. -/
def orderBy {α : Type} (key : α → Nat) (xs : List α) : List α := xs.foldl (fun acc x => putByKey key x acc) []

/-- The entries, in the order of their positions, each with whether it begins where the one before it ended. -/
def coverItems : Nat → List LayoutEntry → List Item
  | _, [] => []
  | pos, e :: es => (e.first / 8 == pos, e.tile, e.off) :: coverItems (pos + e.lines) es

/-- Check 10: the layout (R298, R299): the entries cover the units of the course exactly once. -/
def check10 (b : Bytes) : Option LoadFail :=
  let es := layoutOf b
  let total := (es.map (·.lines)).sum
  let one : List Item := es.map (fun e =>
    (e.first % 8 == 0 && e.first ≤ 65528 && inRange 1 4096 e.lines && e.tile < imgTiles b && isZero b (e.off + 7) 1 &&
      e.valueLine + e.lines ≤ 4096 && e.validLine + (e.lines + 31) / 32 ≤ 4096 && isZero b (e.off + 12) 4, tileField b e.tile,
      e.off))
  firstFail 10 (one ++ coverItems 0 (orderBy (fun e => e.first) es) ++ [(total == units (imgWidth b), 0xFF, imgLayoutOff b)])

/-- The lines of one tile that the layout, the header and the regions use: tile, first line, count, offset. -/
def usedLines (b : Bytes) : List (Nat × Nat × Nat × Nat) :=
  ((List.range (imgTiles b)).map (fun t => (t, imgHeaderLine b, 1, 42))) ++
    ((layoutOf b).flatMap (fun e =>
      [(e.tile, e.valueLine, e.lines, e.off), (e.tile, e.validLine, (e.lines + 31) / 32, e.off)])) ++
    ((regionsOf b).map (fun r => (r.tile, r.first, r.lines, r.off)))

/-- The stretches of one tile's lines in order, each pair of neighbours with whether they are apart; the item is the one
that stands later in the image. -/
def neighbourItems (t : Nat) : List (Nat × Nat × Nat × Nat) → List Item
  | x :: y :: rest =>
    (decide (x.2.1 + x.2.2.1 ≤ y.2.1), t, max x.2.2.2 y.2.2.2) :: neighbourItems t (y :: rest)
  | _ => []

/-- A region obeys R300 and R301. -/
def regionOk (b : Bytes) (r : Region) : Bool :=
  inRange 1 5 r.kind && r.tile < imgTiles b && inRange 1 4096 r.lines && r.first + r.lines ≤ 4096 &&
    isZero b (r.off + 6) 2 && isZero b (r.off + 12) 4 &&
    (if r.kind = 2 then r.init == 0 && r.lines == (imgParamBytes b + 63) / 64
     else if r.kind = 3 || r.kind = 4 then r.init == 0
     else r.init == 0 || blockOk b r.init (64 * r.lines))

/-- An output entry obeys R302. -/
def outOk (b : Bytes) (o : OutEntry) : Bool :=
  o.kind ≤ 3 && o.tile < imgTiles b && inRange 1 16384 o.lines && isZero b (o.off + 8) 8 &&
    (if o.kind = 0 then o.target ≤ 255 else if o.kind = 2 then o.target ≤ 63 else if o.kind = 1 then inRange 1 16383 o.target else o.target == 0) &&
    (regionsOf b).any (fun r => r.kind == 3 && r.tile == o.tile && r.first ≤ o.first && o.first + o.lines ≤ r.first + r.lines)

/-- Check 11: regions and outputs (R300 to R302). -/
def check11 (b : Bytes) : Option LoadFail :=
  let used := usedLines b
  let regions : List Item := (regionsOf b).map (fun r => (regionOk b r, tileField b r.tile, r.off))
  let disjoint : List Item := (List.range (imgTiles b)).flatMap (fun t =>
    neighbourItems t (orderBy (fun x => x.2.1) (used.filter (fun x => x.1 == t))))
  let outs : List Item := (outputsOf b).map (fun o => (outOk b o, tileField b o.tile, o.off))
  firstFail 11 (regions ++ disjoint ++ outs ++ [((decide (imgOutLines b ≤ 16384)), 0xFF, imgOutOff b)])

/-- Check 12: the round fits at 1.2 GHz at the highest rate of rate_mask (R314). -/
def check12 (b : Bytes) : Option LoadFail :=
  firstFail 12 [(roundFits (roundTime (imgWidth b) (imgRows b) (imgOutLines b) (arrayHz false)) (topRate (imgRates b)), 0xFF, 28)]

/-- The first failing check of R306, if any. -/
def verifyImage (l : Lane) (n : Nat) (b : Bytes) (total : Nat) : Option LoadFail :=
  (check1 b total).orElse fun _ => (check2 b).orElse fun _ => (check3 l b).orElse fun _ => (check4 l n b).orElse fun _ =>
    (check5 b).orElse fun _ => (check6 b).orElse fun _ => (check7 b).orElse fun _ => (check8 b).orElse fun _ =>
      (check9 b).orElse fun _ => (check10 b).orElse fun _ => (check11 b).orElse fun _ => check12 b

end Sys2Proof.Machine
end

