-- ==== Sys2Proof/Machine/Queues.lean ====
section
/-!
DEFINITION. The commands of the queues: QUEUE_SET, QUEUE_FLUSH, QUEUE_DROP_REST, a waiting producer's write, and the
pause frames that the ports send (R157 to R169).
-/
namespace Sys2Proof.Machine

/-- The consumer's and the producer's progress at the command: entries of the oldest item read, and entries of the
partial item written (R165 to R167). The fronts of a queue move on their own; the command carries where they stand. -/
def progress (n read written : Nat) (l : Lane) : Lane :=
  let q := queueOf l n
  let first := ((q.items.head?).map (·.entries)).getD written
  let q1 := { q with partialLen := written, read := min read first }
  setQueue n { q1 with maxDepth := max q1.maxDepth (queueHeld q1) } l

/-- Queue ids 0 to 57 (R156). -/
def queueIdOk (r : Request) : Bool := flowId r ≤ 57

/-- The settings a request of op 1 asks for (R157). -/
def queueAsked (r : Request) : QueueCfg :=
  { ring := field (body r) 4 4, spill := field (body r) 8 2, pauseEnable := bit (field (body r) 1 1) 0,
    pauseQuanta := field (body r) 10 2, highWm := field (body r) 12 4, lowWm := field (body r) 16 4 }

/-- Pending ring entries and spill MiB of all queues with one replaced (R158). -/
def pendingTotal (l : Lane) (n : Nat) (c : QueueCfg) : Nat × Nat :=
  let cs := (List.range 58).map (fun i => if i = n then c else queueCfg l i)
  ((cs.map (·.ring)).sum, (cs.map (·.spill)).sum)

/-- The checks of QUEUE_SET (R156 to R158). -/
def queueSetCheck (l : Lane) (r : Request) : Status :=
  let c := queueAsked r
  let d := queueDepth c.ring c.spill
  let t := pendingTotal l (flowId r) c
  need (queueIdOk r && field (body r) 0 1 ≤ 1 && isZero (body r) 2 2 && field (body r) 1 1 ≤ 1) .badParam <|
  if field (body r) 0 1 = 0 then need (isZero (body r) 1 19) .badParam .ok
  else
    need ((!c.pauseEnable || flowId r ≤ 11) && inRange 32 16384 c.ring && c.ring % 32 == 0 && c.spill ≤ 1024 &&
      1 ≤ c.pauseQuanta && inRange 1 d c.highWm && c.lowWm < c.highWm) .badParam <|
    need (t.1 ≤ 16384 && t.2 ≤ 1024) .limitExceeded .ok

/-- The result of both ops (R159); max_depth restarts from the present depth after the reply. -/
def queueReply (n : Nat) (l : Lane) : Lane × Bytes :=
  let q := queueOf l n
  let z := queueInForce l n
  let c := queueCfg l n
  (setQueue n { q with maxDepth := queueHeld q } l,
   le 4 z.1 ++ le 4 c.ring ++ le 2 z.2 ++ le 2 c.spill ++ le 4 (queueHeld q) ++ le 4 (max q.maxDepth (queueHeld q)) ++
     le 4 q.enqueued ++ le 4 q.droppedFull ++ le 4 q.droppedFlush ++ le 4 q.droppedRest ++ le 4 q.droppedError ++
     le 4 q.pauseSent ++ le 4 q.spillItems)

def queueReadApply (r : Request) (l : Lane) : Lane × Bytes := queueReply (flowId r) l

/-- Watermarks and pause now, sizes pending (R158). -/
def queueSetApply (r : Request) (l : Lane) : Lane × Bytes :=
  queueReply (flowId r)
    (noteDepth (flowId r)
      { l with
        cfg := { l.cfg with queues := tput l.cfg.queues (flowId r) (queueAsked r) }
        queueSizes := tput l.queueSizes (flowId r) (queueInForce l (flowId r)) })

def laneQueueRead (r : Request) (l : Lane) : Lane := serve 0x0905 (some 0) queueSetCheck queueReadApply r l
def laneQueueSet (r : Request) (l : Lane) : Lane := serve 0x0905 (some 1) queueSetCheck queueSetApply r l

/-- The four reserved bytes of QUEUE_FLUSH and QUEUE_DROP_REST. -/
def queueIdCheck (_ : Lane) (r : Request) : Status := need (queueIdOk r && isZero (body r) 0 4) .badParam .ok

/-- The queue after a flush (R165): the begun item stays unless it is the partial one, every other complete item and
the partial item go, and the producer's remaining entries are dropped. -/
def flushQueue (q : Queue) : Queue :=
  let keep := if q.read = 0 then [] else q.items.take 1
  let gone := (q.items.length - keep.length) + (if q.partialLen = 0 then 0 else 1)
  { q with
    items := keep
    read := if keep.isEmpty then 0 else q.read
    discarded := q.discarded || (q.items.isEmpty && q.read != 0)
    partialLen := 0
    dropping := q.dropping || q.partialLen != 0
    droppedFlush := (q.droppedFlush + gone) % 2 ^ 32 }

/-- The QUEUE_FLUSH result (R168). -/
def flushResult (q : Queue) : Bytes :=
  let gone := if q.read = 0 then q.items else q.items.drop 1
  le 4 gone.length ++ le 4 ((gone.map (·.entries)).sum + q.partialLen) ++ le 1 (b2n (q.partialLen != 0)) ++ zeros 3

def flushApply (r : Request) (l : Lane) : Lane × Bytes :=
  let n := flowId r
  (unblock n (noteDepth n (setQueue n (flushQueue (queueOf l n)) l)), flushResult (queueOf l n))

/-- QUEUE_FLUSH commits with the fronts at the given progress (R165). -/
def laneQueueFlush (read written : Nat) (r : Request) (l : Lane) : Lane :=
  serve 0x0906 none queueIdCheck flushApply r
    (if names 0x0906 none r then progress (flowId r) read written l else l)

/-- The queue after QUEUE_DROP_REST (R169). -/
def dropRest (q : Queue) : Queue :=
  if q.read = 0 then q
  else
    { q with
      items := q.items.tail
      read := 0
      discarded := true
      partialLen := if q.items.isEmpty then 0 else q.partialLen
      dropping := q.dropping || q.items.isEmpty
      droppedRest := bump q.droppedRest }

/-- The QUEUE_DROP_REST result (R169). -/
def dropRestResult (q : Queue) : Bytes :=
  let left := ((q.items.head?).map (·.entries)).getD q.partialLen - q.read
  le 4 (if q.read = 0 then 0 else left) ++ le 1 (b2n (q.read != 0)) ++ zeros 3

def dropRestApply (r : Request) (l : Lane) : Lane × Bytes :=
  let n := flowId r
  (unblock n (noteDepth n (setQueue n (dropRest (queueOf l n)) l)), dropRestResult (queueOf l n))

def laneQueueDropRest (read written : Nat) (r : Request) (l : Lane) : Lane :=
  serve 0x0907 none queueIdCheck dropRestApply r
    (if names 0x0907 none r then progress (flowId r) read written l else l)

/-- A waiting producer's write completes as soon as the queue has room (R160). -/
def laneWriteUnblock (n : Nat) (l : Lane) : Lane := if n ≤ 57 then unblock n l else l

/-- The time of one pause quantum in hundredths of a nanosecond (R486), by port mode. -/
def quantum (mode : Nat) : Nat :=
  if mode = 1 then 2048 else if mode = 2 then 5120 else if mode = 3 then 20480 else 51200

/-- The settings of an Ethernet port. -/
def ethCfg (l : Lane) (n : Nat) : EthCfg := tgetD l.cfg.eth n (.dflt n)

/-- One pause frame leaves the port (R163). -/
def sendPause (n quanta : Nat) (state : Option Nat) (l : Lane) : Lane :=
  let q := queueOf l n
  emit (.pause n quanta)
    (setQueue n { q with paused := state, highSeen := state.isSome, pauseSent := bump q.pauseSent } l)

/-- The depth has risen to high_wm, or has fallen to low_wm while the partner is paused (R163). -/
def lanePauseSend (n : Nat) (l : Lane) : Lane :=
  let q := queueOf l n
  let c := queueCfg l n
  if 11 < n || !c.pauseEnable || !dieRuns l then l
  else if c.highWm ≤ queueHeld q && !q.highSeen then sendPause n c.pauseQuanta (some l.tc) l
  else if queueHeld q ≤ c.lowWm && q.paused.isSome then sendPause n 0 none l
  else l

/-- Half the pause time has passed and the depth is still above low_wm (R163). -/
def lanePauseRepeat (n : Nat) (l : Lane) : Lane :=
  let q := queueOf l n
  let c := queueCfg l n
  match q.paused with
  | none => l
  | some at_ =>
    if c.pauseEnable && c.lowWm < queueHeld q && c.pauseQuanta * quantum (ethCfg l n).mode ≤ (l.tc - at_) * 800 &&
        dieRuns l then
      sendPause n c.pauseQuanta (some l.tc) l
    else l

end Sys2Proof.Machine
end

