-- ==== Sys2Proof/Machine/Match.lean ====
section
/-!
DEFINITION. Matching frames to stream contexts (R108) and learning unknown sources (R148).
-/
namespace Sys2Proof.Machine

/-- The context of a stream with its running part. -/
def streamCfg (l : Lane) (id : Nat) : Option StreamCfg := tget l.cfg.streams id
def streamRun (l : Lane) (id : Nat) : Option StreamRun := tget l.streams.run id

/-- Sets the running part of a stream. -/
def setRun (id : Nat) (s : StreamRun) (l : Lane) : Lane :=
  { l with streams := { l.streams with run := tput l.streams.run id s } }

/-- IDCODE of a C37.118.2 frame: bytes 4 and 5 (R108). -/
def frameIdcode (p : Bytes) : Nat := fieldBE p 4 2

/-- The name that a frame's content carries: svID or gocbRef. -/
def svidOf (f : SvFrame) : Bytes := ((f.asdus.head?).map (·.svid)).getD []

/-- Whether an Ethernet frame of port `n` has the identity of a context (R108). -/
def identityMatches (n : Nat) (f : EthFrame) (id : Nat) (c : StreamCfg) : Bool :=
  let vlan := f.vlan.getD 0
  match c.part, f.content with
  | .pmu p, .udp src sp dp payload =>
    c.transport == 0 && bit c.portMask n && p.srcAddr == src && p.dataDstPort == dp &&
      (p.dataSrcPort == 0 || p.dataSrcPort == sp) && p.idcode == frameIdcode payload && p.vlan == vlan
  | .pmu p, .pmuTcp stream payload =>
    c.transport == 1 && bit c.portMask n && stream == id && p.idcode == frameIdcode payload
  | .sv p, .sv s =>
    c.transport == 0 && bit c.portMask n && p.dstMac == f.dst && p.appid == s.appid && p.svid == svidOf s &&
      p.vlan == vlan
  | .sv p, .routedSv src dp _ s =>
    c.transport == 1 && bit c.portMask n && p.srcAddr == src && p.dstUdpPort == dp && p.svid == svidOf s
  | .legacy p, .goose g =>
    c.transport == 1 && bit c.portMask n && p.dstMac == f.dst && p.appid == g.appid && p.gocbref == g.gocbref
  | _, _ => false

/-- The stream context that a frame matches (R108). -/
def matchFrame (l : Lane) (n : Nat) (f : EthFrame) : Option Nat :=
  (l.cfg.streams.find? (fun e => identityMatches n f e.1 e.2)).map (·.1)

/-- Whether a context's VLAN or destination address is one that the port expects (step 2 and 3 of R491). -/
def contextVlan (l : Lane) (n v : Nat) : Bool :=
  l.cfg.streams.any (fun e => bit e.2.portMask n &&
    (match e.2.part with
     | .pmu p => p.vlan == v
     | .sv p => p.vlan == v
     | _ => false : Bool))
def contextMac (l : Lane) (n mac : Nat) : Bool :=
  l.cfg.streams.any (fun e => bit e.2.portMask n &&
    (match e.2.part with
     | .sv p => e.2.transport == 0 && p.dstMac == mac
     | .legacy p => e.2.transport == 1 && p.dstMac == mac
     | _ => false : Bool))

/-! ### Learning -/

/-- The address prefix of a template covers an address. -/
def prefixMatches (len : Nat) (pre a : Bytes) : Bool :=
  fieldBE pre 0 16 / 2 ^ (128 - len) == fieldBE a 0 16 / 2 ^ (128 - len)

/-- Whether an unknown data frame fits a template (R147, R148). A C37.118.2 data frame has frame type 0. -/
def templateMatches (n : Nat) (f : EthFrame) (t : LearnTemplate) : Bool :=
  t.enable && bit t.portMask n &&
  (match f.content with
   | .udp src _ dp payload =>
     t.kind == 1 && inRange t.matchLo t.matchHi dp && prefixMatches t.prefixLen t.addrPrefix src &&
       fieldBE payload 0 1 == 0xAA && bits (field payload 1 1) 6 4 == 0
   | .sv s => t.kind == 2 && inRange t.matchLo t.matchHi s.appid
   | .routedSv src dp _ _ => t.kind == 3 && inRange t.matchLo t.matchHi dp && prefixMatches t.prefixLen t.addrPrefix src
   | _ => false : Bool)

/-- The common fields of a parameter structure at an offset (R114). -/
def commonCfg (b : Bytes) (part : StreamPart) : StreamCfg :=
  let fl := field b 11 1
  { transport := field b 1 1, portMask := field b 4 4, rate := field b 8 2, freq := field b 10 1,
    acceptTest := bit fl 0, rejectUnsync := bit fl 1, acceptErr01 := bit fl 2, cmdEnable := bit fl 3,
    tqLimit := field b 12 1, unlockLimit := field b 13 1, historyMs := field b 16 4, part := part }

/-- The SV part that a frame teaches: channels from the seqData length, profile 1 (R148). -/
def learnedSv (s : SvFrame) (mac appid : Nat) (src : Bytes) (dp vlan : Nat) : StreamPart :=
  let a := s.asdus.head?
  let p : SvPart :=
    { dstMac := mac, appid := appid, profile := 1, channels := ((a.map (·.seqLen)).getD 8) / 8, minSmpSynch := 1,
      confRev := (a.map (·.confRev)).getD 0, svid := svidOf s, srcAddr := src, dstUdpPort := dp, vlan := vlan }
  .sv p

/-- The context that a frame teaches (R148). -/
def learnedCfg (f : EthFrame) (t : LearnTemplate) : Option StreamCfg :=
  let vlan := f.vlan.getD 0
  let make := fun (part : StreamPart) (transport : Nat) =>
    let c := commonCfg t.common part
    { c with transport := transport }
  match f.content with
  | .udp src sp dp payload =>
    let p : PmuPart :=
      { srcAddr := src, dataSrcPort := sp, dataDstPort := dp, pmuPort := 4712,
        idcode := frameIdcode payload, cfgSource := 0, cfgKind := 2, cfgRetryMs := 1000, vlan := vlan }
    some (make (.pmu p) 0)
  | .sv s => some (make (learnedSv s f.dst s.appid (zeros 16) 102 vlan) 0)
  | .routedSv src dp _ s => some (make (learnedSv s 0 0 src dp 0) 1)
  | _ => none

/-- The lowest FREE id of a template (R148). -/
def freeId (l : Lane) (t : LearnTemplate) : Option Nat :=
  ((List.range (t.idLast + 1 - t.idFirst)).map (· + t.idFirst)).find? (fun i => (tget l.cfg.streams i).isNone)

/-- Contexts that a template has created in the current second (R148). -/
def learnedNow (l : Lane) (k : Nat) : Nat :=
  match tget l.streams.learned k with
  | some (s, c) => if s = nowSec l then c else 0
  | none => 0

/-- Whether a context waits for its configuration: a PMU stream. -/
def isPmu (c : StreamCfg) : Bool :=
  match c.part with
  | .pmu _ => true
  | _ => false

/-- The PMU part of a context. -/
def pmuPart (c : StreamCfg) : Option PmuPart :=
  match c.part with
  | .pmu p => some p
  | _ => none

/-- The port from which a UDP stream's commands leave (R130): that of its last accepted frame, else the lowest of
its mask. -/
def commandPort (c : StreamCfg) (s : StreamRun) : Nat :=
  match s.lastPort with
  | some p => p
  | none => ((List.range 22).find? (fun i => bit c.portMask i)).getD 0

/-- A command frame to the PMU (R128, R130): a UDP command needs an address on its port; a TCP one the connection.
Only a running lane sends. -/
def pmuCommand (id cmd : Nat) (l : Lane) : Lane :=
  match streamCfg l id, streamRun l id with
  | some c, some s =>
    let ok := if c.transport = 1 then s.connected else (ethCfg l (commandPort c s)).ipAddr != zeros 16
    if isPmu c && ok && serving l then emit (.pmuCommand id cmd) l else l
  | _, _ => l

/-- The configuration request: CMD 0x0005 or 0x0006, as cfg_kind sets (R128). -/
def requestCfg (id : Nat) (l : Lane) : Lane :=
  match (streamCfg l id).bind pmuPart with
  | some p => pmuCommand id (if p.cfgKind = 3 then 6 else 5) l
  | none => l

/-- The configuration-change procedure starts, unless one is pending (R128): with cfg_source 0 the lane sends its
request. -/
def startProcedure (id : Nat) (l : Lane) : Lane :=
  match streamRun l id, (streamCfg l id).bind pmuPart with
  | some s, some p =>
    if s.procedure then l
    else
      let l1 := setRun id { s with procedure := true, requestAt := l.tc } l
      if p.cfgSource = 0 then requestCfg id l1 else l1
  | _, _ => l

/-- An unknown data frame matched against the templates in ascending number; the first match creates a LEARNED
context with a Slate alarm (R148, R149). The flag tells whether it did. -/
def learnFrame (n : Nat) (f : EthFrame) (l : Lane) : Lane × Bool :=
  match l.cfg.learn.find? (fun e => templateMatches n f e.2) with
  | none => (l, false)
  | some (k, t) =>
    match freeId l t, learnedCfg f t with
    | some id, some c =>
      if t.learnRate ≤ learnedNow l k then (l, false)
      else
        let conf := match c.part with
          | .sv p => p.confRev
          | _ => 0
        let run := { StreamRun.new .learned conf l.tc with learnedBy := some k }
        let l1 := { l with
          cfg := { l.cfg with streams := tput l.cfg.streams id c }
          streams := { l.streams with
            run := tput l.streams.run id run
            learned := tput l.streams.learned k (nowSec l, learnedNow l k + 1) } }
        (startProcedure id (raiseEvent 259 l1), true)
    | _, _ => (l, false)

end Sys2Proof.Machine
end

