-- ==== Sys2Proof/Machine/EthPorts.lean ====
section
/-!
DEFINITION. Ethernet ports (chapter 14): settings, limits, pause, PRP, the classifier, transmission, link and wake.
-/
namespace Sys2Proof.Machine

def ethRun (l : Lane) (n : Nat) : EthRun := tgetD l.ports.eth n (.reset (ethCfg l n).txStart)
def setEth (n : Nat) (p : EthRun) (l : Lane) : Lane := { l with ports := { l.ports with eth := tput l.ports.eth n p } }

/-- Counts at a port. -/
def countEth (n : Nat) (f : EthCounters → EthCounters) (l : Lane) : Lane :=
  let p := ethRun l n
  setEth n { p with counters := f p.counters } l

/-- `MAX_FRAME` in bytes (R482). -/
def maxFrame (code : Nat) : Nat :=
  if code = 0 then 1518 else if code = 1 then 1522 else if code = 2 then 2000 else 9216

/-- The largest param_len over UDP (R101): MAX_FRAME of the management port less 90 over IPv4 or 110 over IPv6, 4 less
with a VLAN tag and 6 less with a PRP trailer. -/
def udpLimit (l : Lane) (src : Nat) (vlan : Bool) : Nat :=
  let c := ethCfg l l.mgmtPort
  let v4 := (tget l.peers src).any (fun p => isV4 p.addr)
  maxFrame c.maxFrame - (if v4 then 90 else 110) - (if vlan then 4 else 0) - (if c.prp then 6 else 0)

/-! ### PORT_SET of an Ethernet port (R482) -/

/-- The modes a port allows (R479). -/
def modeAllowed (n m : Nat) : Bool :=
  m == 0 || m == 2 || (n ≤ 3 && m == 1) || (4 ≤ n && 3 ≤ m && m ≤ 5)

/-- The settings asked for. -/
def ethAsked (b : Bytes) : EthCfg :=
  let fl := field b 3 1
  { mode := field b 0 1, maxFrame := field b 1 1, fec := field b 2 1, pauseRx := bit fl 0, prp := bit fl 1,
    prpLan := bit fl 2, autoneg := bit fl 3, promiscuous := bit fl 4, acceptUntagged := bit fl 5,
    mac := fieldBE b 4 6, txStart := field b 10 2, ipAddr := slice b 12 16, prefixLen := field b 28 1,
    gateway := slice b 32 16 }

/-- The largest frame that the open sessions of a port form (R482). A GOOSE frame never exceeds the smallest
MAX_FRAME. -/
def neededFrame (l : Lane) (n : Nat) (prp : Bool) : Nat :=
  ((l.cfg.sessions.filter (fun e => e.2.port = n && !e.2.tcp)).map (fun e => sessionFrameLen e.2 prp)).foldl max 0

/-- The ranges of R482, and the lane's other MAC addresses. A unicast address has an even first byte. -/
def ethSetCheck (l : Lane) (n : Nat) (b : Bytes) : Status :=
  let c := ethAsked b
  let others := l.cfg.eth.any (fun e => e.1 != n && e.2.mac == c.mac)
  need (modeAllowed n c.mode && c.maxFrame ≤ 3 && (c.fec == 0 || (c.mode == 1 && c.fec ≤ 2)) &&
    field b 3 1 < 64 && field b 4 1 % 2 == 0 && inRange 64 9216 c.txStart && c.txStart % 64 == 0 &&
    c.prefixLen ≤ 128 && isZero b 29 3 && !others) .badParam <|
  need (c.maxFrame == (ethCfg l n).maxFrame || neededFrame l n c.prp ≤ maxFrame c.maxFrame) .noResource .ok

/-- The new settings; tx_start_now returns to tx_start (R488); a change of mode, fec or autoneg restarts the link. -/
def ethSetApply (n : Nat) (b : Bytes) (l : Lane) : Lane :=
  let c := ethAsked b
  let old := ethCfg l n
  let p := ethRun l n
  let restart := c.mode != old.mode || c.fec != old.fec || c.autoneg != old.autoneg
  let ctr := p.counters
  let downs := if restart && p.up then bump ctr.linkDowns else ctr.linkDowns
  let p1 : EthRun := { p with txStartNow := c.txStart, up := p.up && !restart }
  let l1 := { l with cfg := { l.cfg with eth := tput l.cfg.eth n c } }
  let l2 := setEth n { p1 with counters := { ctr with linkDowns := downs } } l1
  condAlarm (304 + n) (serving l2 && c.mode != 0 && !p1.up) l2

/-! ### CLASSIFIER_SET and WAKE_SET (R492, R493) -/

def mcastCount (b : Bytes) : Nat := field b 0 1
def vlanCount (b : Bytes) : Nat := field b 1 1
def ruleCount (b : Bytes) : Nat := field b 2 1

/-- One host rule at an offset. -/
def ruleAt (b : Bytes) (o : Nat) : HostRule :=
  { ethertype := field b o 2, ipProto := field b (o + 2) 1, divert := field b (o + 3) 1 == 2,
    dstPort := field b (o + 4) 2, dstMac := fieldBE b (o + 8) 6 }

def classAsked (b : Bytes) : ClassCfg :=
  let v := 16 + 8 * mcastCount b
  let r := v + 4 * vlanCount b
  { mcast := (List.range (mcastCount b)).map (fun i => (fieldBE b (16 + 8 * i) 6, field b (22 + 8 * i) 1)),
    vlans := (List.range (vlanCount b)).map (fun i => field b (v + 4 * i) 2),
    rules := (List.range (ruleCount b)).map (fun i => ruleAt b (r + 16 * i)), hostRate := field b 4 4 }

/-- The ranges of R492. -/
def classCheck (_ : Lane) (r : Request) : Status :=
  let b := body r
  let c := classAsked b
  let v := 16 + 8 * mcastCount b
  let ro := v + 4 * vlanCount b
  need (flowId r ≤ 11 && mcastCount b ≤ 32 && vlanCount b ≤ 32 && ruleCount b ≤ 8 && isZero b 3 1 &&
    c.hostRate ≤ 100000 && isZero b 8 8 &&
    c.mcast.all (fun e => inRange 1 48 e.2) &&
    (List.range (mcastCount b)).all (fun i => isZero b (23 + 8 * i) 1) &&
    c.vlans.all (fun x => inRange 1 4094 x) &&
    (List.range (vlanCount b)).all (fun i => isZero b (v + 4 * i + 2) 2) &&
    (List.range (ruleCount b)).all (fun i =>
      inRange 1 2 (field b (ro + 16 * i + 3) 1) && isZero b (ro + 16 * i + 6) 2 && isZero b (ro + 16 * i + 14) 2))
    .badParam .ok

/-- The effect and result of `laneClassifierSet`. -/
def classifierSetApply (q : Request) (s : Lane) : Lane × Bytes :=
  ({ s with cfg := { s.cfg with classes := tput s.cfg.classes (flowId q) (classAsked (body q)) } }, [])

def laneClassifierSet (r : Request) (l : Lane) : Lane :=
  serve 0x0901 none classCheck classifierSetApply r l

def filterAt (b : Bytes) (f : Nat) : WakeFilter :=
  { offset := field b (8 + 80 * f) 2, length := field b (10 + 80 * f) 1,
    mask := BitVec.ofNat 64 (field b (16 + 80 * f) 8), pattern := slice b (24 + 80 * f) 64 }

def wakeAsked (b : Bytes) : WakeCfg :=
  { magic := field b 0 1 == 1, filterMask := BitVec.ofNat 8 (field b 1 1),
    filters := (List.range 8).map (filterAt b) }

/-- The ranges of R493. -/
def wakeCheck (_ : Lane) (r : Request) : Status :=
  let b := body r
  need ((flowId r == 4 || flowId r == 5) && field b 0 1 ≤ 1 && isZero b 2 6 &&
    (List.range 8).all (fun f =>
      field b (8 + 80 * f) 2 ≤ 9152 && inRange 1 64 (field b (10 + 80 * f) 1) && isZero b (11 + 80 * f) 5))
    .badParam .ok

/-- The effect and result of `laneWakeSet`. -/
def wakeSetApply (q : Request) (s : Lane) : Lane × Bytes :=
  ({ s with cfg := { s.cfg with wake := tput s.cfg.wake (flowId q) (wakeAsked (body q)) } }, [])

def laneWakeSet (r : Request) (l : Lane) : Lane :=
  serve 0x0902 none wakeCheck wakeSetApply r l

/-! ### Receive (R484 to R491) -/

/-- A multicast entry covers an address: the leading bits compared (R492). -/
def mcastMatches (mac : Nat) (e : Nat × Nat) : Bool := mac / 2 ^ (48 - e.2) == e.1 / 2 ^ (48 - e.2)

/-- A group address: bit 0 of its first byte. -/
def isGroup (mac : Nat) : Bool := mac / 2 ^ 40 % 2 == 1

/-- The PTP multicast addresses 01-1B-19-00-00-00 and 01-80-C2-00-00-0E, and the solicited-node address of an
IPv6 address. -/
def ptpMac (mac : Nat) : Bool := mac == 0x011B19000000 || mac == 0x0180C200000E
def solicitedMac (a : Bytes) : Nat := 0x3333FF000000 + fieldBE a 13 3

/-- A PTP port is enabled (R457). -/
def ptpEnabled (l : Lane) (n : Nat) : Bool := (tget l.cfg.ptpPorts n).any (fun p => p.enable)

/-- Step 2 of R491. -/
def dstAccepted (l : Lane) (n : Nat) (f : EthFrame) : Bool :=
  let c := ethCfg l n
  c.promiscuous || f.dst == c.mac || f.dst == 2 ^ 48 - 1 ||
    (isGroup f.dst &&
      ((tgetD l.cfg.classes n .dflt).mcast.any (mcastMatches f.dst) || contextMac l n f.dst ||
        (ptpEnabled l n && ptpMac f.dst) || f.dst == solicitedMac c.ipAddr))

/-- Step 3 of R491. -/
def vlanAccepted (l : Lane) (n : Nat) (f : EthFrame) : Bool :=
  match f.vlan with
  | none => (ethCfg l n).acceptUntagged
  | some v => (tgetD l.cfg.classes n .dflt).vlans.contains v || contextVlan l n v

/-- The first host rule that matches a frame, with its number (R492). -/
def ruleOf (l : Lane) (n : Nat) (f : EthFrame) : Option (Nat × HostRule) :=
  ((tgetD l.cfg.classes n .dflt).rules.zipIdx.find? (fun e =>
    (e.1.ethertype == 0 || e.1.ethertype == f.ethertype) && (e.1.ipProto == 0 || e.1.ipProto == f.ipProto) &&
    (e.1.dstPort == 0 || e.1.dstPort == f.dstPort) && (e.1.dstMac == 0 || e.1.dstMac == f.dst))).map
    (fun e => (e.2, e.1))

/-- Frames that rules have sent to the host in this second (R492). -/
def hostCount (l : Lane) (n : Nat) : Nat := let p := ethRun l n; if p.hostSecond = nowSec l then p.hostCount else 0

/-- The receive ring's address (HFR registers). -/
def rxBase (l : Lane) : Nat := l.host.rx.baseLo.toNat / 32 * 32 + 2 ^ 32 * l.host.rx.baseHi.toNat

/-- The 16 bytes written back of a receive descriptor (R648): length, port, rule, DD and COPY, receive stamp. -/
def rxBack (len port rule : Nat) (copied : Bool) (stamp : Nat) : Bytes :=
  le 2 len ++ le 1 port ++ le 1 rule ++ le 1 (1 + 2 * b2n copied) ++ zeros 1 ++ le 10 stamp

/-- One frame for the host (R648): longer than HFR_RX_BUF it is counted and dropped; else its bytes are written to the
next free buffer, then its descriptor's write-back. -/
def rxToHost (frame : Bytes) (port rule : Nat) (copied : Bool) (stamp addr : Nat) (free : List Nat) (l : Lane) : Lane :=
  if l.host.rxBuf < frame.length then { l with host := { l.host with rxDrop := l.host.rxDrop + 1 } }
  else
    let head := l.host.rx.head
    let h := { l.host with
      rxFree := free, rx := { l.host.rx with head := (head + 1) % 2 ^ l.host.rx.sizeLog2 } }
    setCause causeHfrRx
      (emit (.hostWrite (rxBase l + 32 * head + 16) (rxBack frame.length port rule copied stamp))
        (emit (.hostWrite addr frame) { l with host := h }))

/-- Frames of queue 57 reach the host while receive descriptors are free (R648). -/
def drainRx : Nat → Lane → Lane
  | 0, l => l
  | fuel + 1, l =>
    if l.spi || !l.host.rx.enable || !l.mode.hubPresent then l
    else
      match l.host.rxFree, headItem l 57 with
      | a :: t, some ⟨_, _, .hostRx f p r c st⟩ => drainRx fuel (rxToHost f p r c st a t (popItem 57 l))
      | _, _ => l

/-- Items that queue 57 holds, and those that wait for it. -/
def rxQueued (l : Lane) : Nat := (queueOf l 57).items.length + (queueOf l 57).waiting.length

/-- A frame that a rule sends to the host enters queue 57 within the port's rate (R492, R161). -/
def toHost (n rule : Nat) (copied : Bool) (f : EthFrame) (l : Lane) : Lane :=
  if (tgetD l.cfg.classes n .dflt).hostRate ≤ hostCount l n then
    countEth n (fun c => { c with hostLimited := bump c.hostLimited }) l
  else
    let p := ethRun l n
    let l1 := enqueueOrDrop 57 (frameEntries f.bytes.length) (.hostRx f.bytes n rule copied (nowFull l))
      (setEth n { p with hostSecond := nowSec l, hostCount := hostCount l n + 1 } l)
    drainRx (rxQueued l1) l1

/-- Step 10 of R491: offered to learning, else counted and dropped. -/
def classifyUnknown (n : Nat) (f : EthFrame) (l : Lane) : Lane :=
  let w := learnFrame n f l
  if w.2 then w.1 else countEth n (fun c => { c with unknown := bump c.unknown }) l

/-- Whether a datagram goes to the management port (step 7 of R491). -/
def isManagement (l : Lane) (n : Nat) (f : EthFrame) : Bool :=
  match f.content with
  | .udp _ _ dp _ => n == l.mgmtPort && dp == l.mgmtUdp
  | _ => false

/-- A frame of a stream enters the ingest queue of its port, and the stream has been heard (R149, R491). -/
def ingest (n id : Nat) (f : EthFrame) (l : Lane) : Lane :=
  let l1 := match streamRun l id with
    | some s => setRun id { s with lastFrameAt := l.tc } l
    | none => l
  enqueueOrDrop n (frameEntries f.length) (.ingest id n (nowTag l) (nowFull l) f) l1

/-- Steps 4 to 10 of R491. What PTP, the management port and the control cores do with a frame is their own
command's. -/
def classifyRest (n : Nat) (f : EthFrame) (l : Lane) : Lane :=
  match f.content with
  | .hsr => countEth n (fun c => { c with hsr := bump c.hsr }) l
  | _ =>
    let c := ethCfg l n
    let wrong := c.prp && f.prpLan.isSome && f.prpLan != some (if c.prpLan then 0xB else 0xA)
    let l1 := if wrong then countEth n (fun k => { k with prpWrongLan := bump k.prpWrongLan }) l else l
    let taken := match f.content with
      | .ptp _ => ptpEnabled l n
      | _ => false
    if taken then l1
    else
      match matchFrame l n f with
      | some id => ingest n id f l1
      | none =>
        if isManagement l n f then l1
        else
          match f.content with
          | .control _ => l1
          | _ =>
            match ruleOf l n f with
            | some (k, rule) =>
              let l2 := toHost n k (!rule.divert) f l1
              if rule.divert then l2 else classifyUnknown n f l2
            | none => classifyUnknown n f l1

/-- The pause ends: fast-path frames that waited for it leave while the lane holds the lease, counted where the link is
down (R379, R483, R486). -/
def releaseFast (n : Nat) (l : Lane) : Lane :=
  let p := ethRun l n
  let l1 := setEth n { p with pausedUntil := none, fastHeld := [] } l
  if !(serving l && isLeaseholder l) then l1
  else
    p.fastHeld.foldl (fun acc f =>
      if p.up then emit (.goose f) acc else countEth n (fun k => { k with txLinkDown := bump k.txLinkDown }) acc) l1

/-- A received pause frame (R486): the timer is set, replaced or cleared where `pause_rx` is set. -/
def receivePause (n quanta : Nat) (l : Lane) : Lane :=
  let l1 := countEth n (fun c => { c with pauseRx := bump c.pauseRx }) l
  let c := ethCfg l n
  if c.pauseRx then
    let til := l.tc + (quanta * quantum c.mode + 399) / 400
    if quanta = 0 then releaseFast n l1 else setEth n { ethRun l1 n with pausedUntil := some til } l1
  else l1

/-- The classifier on a frame that passes R484 (R491). -/
def classify (n : Nat) (f : EthFrame) (l : Lane) : Lane :=
  match f.content with
  | .pause q => receivePause n q l
  | .macControl => countEth n (fun c => { c with macCtrl := bump c.macCtrl }) l
  | _ =>
    if !dstAccepted l n f then countEth n (fun c => { c with dstFiltered := bump c.dstFiltered }) l
    else if !vlanAccepted l n f then countEth n (fun c => { c with vlanFiltered := bump c.vlanFiltered }) l
    else classifyRest n f l

/-- The checks of R484 in their order: each failing frame counts once. -/
def frameError (l : Lane) (n : Nat) (f : EthFrame) : Option (EthCounters → EthCounters) :=
  if f.length < 64 then some (fun c => { c with runts := bump c.runts })
  else if maxFrame (ethCfg l n).maxFrame < f.length then some (fun c => { c with giants := bump c.giants })
  else if !f.codeOk then some (fun c => { c with codeErrors := bump c.codeErrors })
  else if !f.fcsOk then some (fun c => { c with fcsErrors := bump c.fcsErrors })
  else none

/-- A frame ends at an Ethernet port of a lane that serves its ports (R484, R491). Before SERVICE the port counts
frames and no stream is decoded (R688). -/
def laneFrameReceive (n : Nat) (f : EthFrame) (l : Lane) : Lane :=
  if 11 < n || !dieRuns l || !(ethRun l n).up || (ethCfg l n).mode == 0 || looped l n then l
  else
    match frameError l n f with
    | some g => countEth n g l
    | none =>
      classify n f (countEth n (fun c => { c with
        rxFrames := bump c.rxFrames, rxBytes := (c.rxBytes + f.length) % 2 ^ 64 }) l)

/-- The received pause time ends (R486). -/
def lanePauseExpiry (n : Nat) (l : Lane) : Lane :=
  match (ethRun l n).pausedUntil with
  | some t => if t ≤ l.tc then releaseFast n l else l
  | none => l

/-! ### Transmit (R483, R485, R488 to R490) -/

/-- The 16 bytes written back (R648): status, DD and TS_VALID, the transmit stamp. -/
def txBack (status : Nat) (ts : Bool) (stamp : Nat) : Bytes :=
  le 1 status ++ le 1 (1 + 2 * b2n (ts && status == 0)) ++ zeros 4 ++
    (if ts && status == 0 then le 10 stamp else zeros 10)

/-- The transmit ring's address and size. -/
def txBase (l : Lane) : Nat := l.host.tx.baseLo.toNat / 32 * 32 + 2 ^ 32 * l.host.tx.baseHi.toNat

/-- The write-backs that have come to their turn, in ring order (R648). -/
def flushTx : Nat → Lane → Lane
  | 0, l => l
  | fuel + 1, l =>
    match l.host.txDone.find? (fun e => e.1 == l.host.txNext) with
    | none => l
    | some (i, back) =>
      let h := { l.host with
        txDone := l.host.txDone.filter (fun e => e.1 != i), txNext := (i + 1) % 2 ^ l.host.tx.sizeLog2 }
      flushTx fuel (setCause causeHfrTx (emit (.hostWrite (txBase l + 32 * i + 16) back) { l with host := h }))

/-- The write-back of a transmit descriptor, in ring order (R648): index and TS_REQ. -/
def txWriteBack (desc : Option (Nat × Bool)) (status : Nat) (l : Lane) : Lane :=
  match desc with
  | none => l
  | some (i, ts) =>
    let done := l.host.txDone ++ [(i, txBack status ts (nowFull l))]
    flushTx done.length { l with host := { l.host with txDone := done } }

/-- A frame of `len` bytes without padding, with its FCS and the trailer the port adds (R485, R490). -/
def wireLength (c : EthCfg) (len : Nat) (ptp : Bool) : Nat :=
  max 64 (len + (if c.prp && !ptp then 6 else 0))

/-- The items that only the leaseholder transmits (R378). -/
def gatedItem : EgressItem → Bool
  | .frame _ => false
  | _ => true

/-- A frame of the host (R485). -/
def hostItem : EgressItem → Bool
  | .frame _ => true
  | _ => false

/-- What leaves the port. -/
def egressOutput (n : Nat) : EgressItem → Output
  | .frame b => .ethFrame n b
  | .goose g => .goose g
  | .session i f => .sessionData i f
  | .config i c => .sessionConfig i c
  | .header i t => .sessionHeader i t

/-- The publish latency of a session's frame is sampled at its first bit (R626, source 4). -/
def sampleEgress (what : EgressItem) (l : Lane) : Lane :=
  match what with
  | .session i f => gaugeSample 4 i (4 * (l.tc - f.formedAt) : Nat) l
  | _ => l

/-- Host frames at the head of queue 56 pass to the egress queue of their port while it has room (R161, R648). -/
def forwardHost : Nat → Lane → Lane
  | 0, l => l
  | fuel + 1, l =>
    match headItem l 56 with
    | some ⟨_, _, .hostTx port frame desc⟩ =>
      let len := frame.length + 4
      if canEnqueue (26 + port) (frameEntries frame.length) l then
        forwardHost fuel
          (enqueueOrWait (26 + port) (frameEntries frame.length) (.egress (.frame frame) len false desc)
            (popItem 56 l))
      else l
    | _ => l

/-- Items of queue 56, and those that wait for it. -/
def txQueued (l : Lane) : Nat := (queueOf l 56).items.length + (queueOf l 56).waiting.length

/-- The consumer takes the oldest item of a port's egress queue; frames that sessions hold back and host frames
follow (R394, R161). -/
def takeEgress (n : Nat) (l : Lane) : Lane :=
  let l1 := drainSessions n (popItem (26 + n) l)
  forwardHost (txQueued l1) l1

/-- The frame at the head of an egress queue starts (R483, R485, R488): discarded while the link is down, held while
the port is paused, not sent when a host frame would exceed MAX_FRAME, cut short by an underrun (`underrun`, a fact of
the transmitter). Gated frames do not start without the lease (R378, R379). -/
def laneEgress (n : Nat) (underrun : Bool) (l : Lane) : Lane :=
  if 11 < n || !dieRuns l then l
  else
    let p := ethRun l n
    let c := ethCfg l n
    match headItem l (26 + n) with
    | some ⟨_, _, .egress what len ptp desc⟩ =>
      let l1 := takeEgress n l
      if !p.up then
        txWriteBack desc 2 (countEth n (fun k => { k with txLinkDown := bump k.txLinkDown }) l1)
      else if p.pausedUntil.isSome then l
      else if gatedItem what && !isLeaseholder l then l1
      else if hostItem what && maxFrame c.maxFrame < len + (if c.prp && !ptp then 6 else 0) then
        txWriteBack desc 1 (countEth n (fun k => { k with txOversize := bump k.txOversize }) l1)
      else if underrun && p.txStartNow < len then
        let up := min (p.txStartNow + 64) (maxFrame c.maxFrame)
        let l2 := countEth n (fun k => { k with txUnderrun := bump k.txUnderrun }) l1
        txWriteBack desc 0 (setEth n { ethRun l2 n with txStartNow := up } l2)
      else
        let l2 := countEth n (fun k => { k with
          txFrames := bump k.txFrames, txBytes := (k.txBytes + wireLength c len ptp) % 2 ^ 64 }) l1
        let seq := if c.prp && !ptp then (p.prpSeq + 1) % 65536 else p.prpSeq
        txWriteBack desc 0
          (emit (egressOutput n what) (setEth n { ethRun l2 n with prpSeq := seq } (sampleEgress what l2)))
    | _ => l

/-! ### Link and wake -/

/-- The link comes up (R483). -/
def laneLinkUp (n : Nat) (l : Lane) : Lane :=
  if 11 < n || !dieRuns l || (ethCfg l n).mode == 0 then l
  else dropCond (304 + n) (setEth n { ethRun l n with up := true } l)

/-- The link goes down (R483, R495). -/
def laneLinkDown (n : Nat) (l : Lane) : Lane :=
  let p := ethRun l n
  if 11 < n || !dieRuns l || !p.up then l
  else
    let c := p.counters
    let l1 := setEth n { p with up := false, counters := { c with linkDowns := bump c.linkDowns } } l
    if (ethCfg l n).mode == 0 then l1 else raiseCond (304 + n) l1

/-- Six bytes of 0xFF followed at once by sixteen copies of the address (R494), anywhere in the frame. -/
def magicIn (mac : Nat) : Bytes → Bool
  | [] => false
  | b :: t =>
    (b :: t).take 102 == List.replicate 6 0xFF ++ (List.replicate 16 (be 6 mac)).flatten || magicIn mac t

/-- A filter finds every masked byte equal (R494). -/
def filterMatches (bytes : Bytes) (f : WakeFilter) : Bool :=
  (List.range f.length).all (fun i =>
    !f.mask.getLsbD i || bytes[f.offset + i]? == f.pattern[i]?)

/-- What wakes the lane: the filter, or 8 for the magic packet (R494). -/
def wakeFilterOf (l : Lane) (n : Nat) (bytes : Bytes) : Option Nat :=
  match tget l.cfg.wake n with
  | none => none
  | some w =>
    if w.magic && magicIn (ethCfg l n).mac bytes then some 8
    else (List.range 8).find? (fun f =>
      w.filterMask.getLsbD f && ((w.filters[f]?).any (filterMatches bytes)))

/-- The PORT_COUNTERS result of an Ethernet port (R495). -/
def ethResult (l : Lane) (n : Nat) : Bytes :=
  let p := ethRun l n
  let c := p.counters
  le 1 (b2n p.up) ++ le 1 (ethCfg l n).mode ++ le 2 p.txStartNow ++ le 4 c.rxFrames ++ le 8 c.rxBytes ++
    le 4 c.txFrames ++ zeros 4 ++ le 8 c.txBytes ++ le 4 c.runts ++ le 4 c.giants ++ le 4 c.codeErrors ++
    le 4 c.fcsErrors ++ le 4 c.pauseRx ++ le 4 c.macCtrl ++ le 4 c.dstFiltered ++ le 4 c.vlanFiltered ++
    le 4 c.hsr ++ le 4 c.prpWrongLan ++ le 4 c.unknown ++ le 4 c.hostLimited ++ le 4 c.txUnderrun ++
    le 4 c.txLinkDown ++ le 4 c.txOversize ++ le 4 c.linkDowns

end Sys2Proof.Machine
end

