-- ==== Sys2Proof/Machine/Serial.lean ====
section
/-!
DEFINITION. The polled serial ports and their pollers (R496 to R505), and the port commands that both kinds of port
share: PORT_SET, POLL_TABLE_SET, PORT_COUNTERS.
-/
namespace Sys2Proof.Machine

def serialCfg (l : Lane) (n : Nat) : SerialCfg := tgetD l.cfg.serial n .dflt
def serialRun (l : Lane) (n : Nat) : SerialRun := tgetD l.ports.serial n .reset
def setSerial (n : Nat) (p : SerialRun) (l : Lane) : Lane :=
  { l with ports := { l.ports with serial := tput l.ports.serial n p } }
def pollCfg (l : Lane) (n i : Nat) : PollEntry := tgetD l.cfg.poll (64 * n + i) .dflt
def station (l : Lane) (n i : Nat) : Station := tgetD (serialRun l n).stations i (.new (pollCfg l n i).enable)
def setStation (n i : Nat) (s : Station) (l : Lane) : Lane :=
  setSerial n { serialRun l n with stations := tput (serialRun l n).stations i s } l
def countSerial (n : Nat) (f : SerialCounters → SerialCounters) (l : Lane) : Lane :=
  setSerial n { serialRun l n with counters := f (serialRun l n).counters } l

/-! ### PORT_SET (R482, R496) -/

def serialAsked (b : Bytes) : SerialCfg :=
  { framing := field b 0 1, cotLen := field b 1 1, caLen := field b 2 1, ioaLen := field b 3 1, bitRate := field b 4 4,
    respTimeoutMs := field b 8 2, idleBits := field b 10 2, offlineRetryS := field b 12 2,
    giAfterReset := bit (field b 14 1) 0, class1Burst := field b 15 1 }

/-- The bit rates of FT1.2 (R496). -/
def ft12Rates : List Nat := [1200, 2400, 4800, 9600, 19200, 38400, 57600, 115200]

/-- The ranges of R496. With framing off either range of bit rates is taken. -/
def serialSetCheck (b : Bytes) : Status :=
  let c := serialAsked b
  let rateOk := if c.framing = 1 then ft12Rates.contains c.bitRate
    else if c.framing = 2 then inRange 9600 2000000 c.bitRate
    else ft12Rates.contains c.bitRate || inRange 9600 2000000 c.bitRate
  need (c.framing ≤ 2 && inRange 1 2 c.cotLen && inRange 1 2 c.caLen && inRange 1 3 c.ioaLen && rateOk &&
    inRange 5 10000 c.respTimeoutMs && inRange 11 1000 c.idleBits && inRange 1 3600 c.offlineRetryS &&
    field b 14 1 ≤ 1 && inRange 1 64 c.class1Burst) .badParam .ok

/-- PORT_SET's check by port (R482, R496); ids 20 and 21 fail. -/
def portSetCheck (l : Lane) (r : Request) : Status :=
  if flowId r ≤ 11 then ethSetCheck l (flowId r) (body r)
  else if flowId r ≤ 19 then serialSetCheck (body r)
  else .badParam

def portSetApply (r : Request) (l : Lane) : Lane × Bytes :=
  if flowId r ≤ 11 then (ethSetApply (flowId r) (body r) l, [])
  else ({ l with cfg := { l.cfg with serial := tput l.cfg.serial (flowId r - 12) (serialAsked (body r)) } }, [])

def lanePortSet (r : Request) (l : Lane) : Lane := serve 0x0900 none portSetCheck portSetApply r l

/-! ### POLL_TABLE_SET (R499) -/

def pollFirst (r : Request) : Nat := field (body r) 1 1
def pollCount (r : Request) : Nat := field (body r) 2 1
def pollAsked (b : Bytes) (j : Nat) : PollEntry :=
  { linkAddr := field b (4 + 8 * j) 1, enable := field b (5 + 8 * j) 1 == 1, class2Ms := field b (6 + 8 * j) 2 }

/-- The table with the written entries in place. -/
def pollTable (l : Lane) (n : Nat) (r : Request) (i : Nat) : PollEntry :=
  if pollFirst r ≤ i && i < pollFirst r + pollCount r then pollAsked (body r) (i - pollFirst r) else pollCfg l n i

/-- Two enabled entries with one link address (R499). -/
def pollClash (t : Nat → PollEntry) : Bool :=
  (List.range 64).any (fun i => (List.range i).any (fun j =>
    (t i).enable && (t j).enable && (t i).linkAddr == (t j).linkAddr))

/-- The ranges of R499. -/
def pollCheck (l : Lane) (r : Request) : Status :=
  let b := body r
  need (inRange 12 19 (flowId r) && pollFirst r ≤ 63 && inRange 1 (64 - pollFirst r) (pollCount r) && isZero b 3 1)
    .badParam <|
  if field b 0 1 = 0 then .ok
  else
    need ((List.range (pollCount r)).all (fun j =>
      field b (4 + 8 * j) 1 ≤ 254 && field b (5 + 8 * j) 1 ≤ 1 && field b (6 + 8 * j) 2 ≤ 60000 &&
        isZero b (8 + 8 * j) 4) && !pollClash (pollTable l (flowId r - 12) r)) .badParam .ok

/-- The 16 bytes of one entry (R499). -/
def stationBytes (s : Station) : Bytes :=
  le 1 s.state.code ++ le 1 (b2n s.fcb) ++ zeros 2 ++ le 4 s.polls ++ le 4 s.transient ++ le 4 s.repeats

def pollResult (r : Request) (l : Lane) : Bytes :=
  ((List.range (pollCount r)).map (fun j => stationBytes (station l (flowId r - 12) (pollFirst r + j)))).flatten

/-- Some station of the port is OFFLINE (R501). -/
def anyOffline (l : Lane) (n : Nat) : Bool := (List.range 64).any (fun i => (station l n i).state == .offline)

/-- The alarm of the port follows its OFFLINE stations (R501). -/
def offlineAlarm (n : Nat) (l : Lane) : Lane := condAlarm (316 + n) (anyOffline l n) l

/-- Writing an entry restarts its station (R499); a repeat that it owes is not sent. -/
def pollWrite (r : Request) (l : Lane) : Lane × Bytes :=
  let n := flowId r - 12
  let l1 := (List.range (pollCount r)).foldl (fun (acc : Lane) j =>
    let i := pollFirst r + j
    let e := pollAsked (body r) j
    setStation n i (.new e.enable) { acc with cfg := { acc.cfg with poll := tput acc.cfg.poll (64 * n + i) e } }) l
  let run := serialRun l1 n
  let stale := run.again.any (fun q => pollFirst r ≤ q.entry && q.entry < pollFirst r + pollCount r)
  let l2 := if stale then setSerial n { run with again := none } l1 else l1
  (offlineAlarm n l2, pollResult r l2)

/-- The effect and result of `lanePollRead`. -/
def pollReadApply (q : Request) (s : Lane) : Lane × Bytes :=
  (s, pollResult q s)

def lanePollRead (r : Request) (l : Lane) : Lane :=
  serve 0x0903 (some 0) pollCheck pollReadApply r l

def lanePollWrite (r : Request) (l : Lane) : Lane := serve 0x0903 (some 1) pollCheck pollWrite r l

/-! ### PORT_COUNTERS (R495, R505) -/

/-- The generated bit rate, rounded down (R496, R505). -/
def bitTc (rate : Nat) : Nat := 250000000 / rate
def genRate (rate : Nat) : Nat := 250000000 / bitTc rate

def serialResult (l : Lane) (n : Nat) : Bytes :=
  let p := serialCfg l n
  let c := (serialRun l n).counters
  le 1 p.framing ++ le 1 (if serving l && isLeaseholder l then 0 else 1) ++ zeros 2 ++ le 4 (genRate p.bitRate) ++
    le 4 c.framesTx ++ le 4 c.framesRx ++ le 4 c.charErrors ++ le 4 c.checkErrors ++ le 4 c.lengthErrors ++
    le 4 c.timeouts ++ le 4 c.transient ++ le 4 c.lasting ++ le 4 c.repeats ++ le 4 c.unsolicited ++
    le 4 c.wrongAddress ++ zeros 4

def countersCheck (_ : Lane) (r : Request) : Status := need (flowId r ≤ 19 && isZero (body r) 0 4) .badParam .ok

/-- The effect and result of `lanePortCounters`. -/
def portCountersApply (q : Request) (s : Lane) : Lane × Bytes :=
  (s, if flowId q ≤ 11 then ethResult s (flowId q) else serialResult s (flowId q - 12))

def lanePortCounters (r : Request) (l : Lane) : Lane :=
  serve 0x0904 none countersCheck portCountersApply r l

/-! ### Line frames (R497, R498) -/

/-- The control field of a request: PRM, FCB, FCV, function code (R500). -/
def controlByte (fc : Nat) (fcb : Bool) : Nat :=
  if fc = 0 || fc = 9 then 0x40 + fc else 0x50 + (if fcb then 0x20 else 0) + fc

/-- The FCS of synchronous framing, reflected 0x1021 (R498). -/
def fcsByte : Nat → Nat → Nat
  | 0, c => c
  | k + 1, c => fcsByte k (if c % 2 = 1 then (c / 2) ^^^ 0x8408 else c / 2)
def fcs16 (b : Bytes) : Nat := (b.foldl (fun c x => fcsByte 8 (c ^^^ x.toNat)) 0xFFFF) ^^^ 0xFFFF

/-- The sum of octets modulo 256 (R497). -/
def sum8 (b : Bytes) : Nat := (b.map (·.toNat)).sum % 256

/-- A fixed or variable frame by framing (R497, R498): content C, A and ASDU. -/
def lineFrame (framing : Nat) (content : Bytes) (fixed : Bool) : Bytes :=
  if framing = 2 then content ++ le 2 (fcs16 content)
  else if fixed then le 1 0x10 ++ content ++ le 1 (sum8 content) ++ le 1 0x16
  else
    le 1 0x68 ++ le 1 content.length ++ le 1 content.length ++ le 1 0x68 ++ content ++ le 1 (sum8 content) ++ le 1 0x16

/-- General interrogation: type 100, qualifier 20, activation, broadcast common address (R500). -/
def giAsdu (c : SerialCfg) : Bytes :=
  le 1 100 ++ le 1 1 ++ le c.cotLen 6 ++ le c.caLen 0xFFFF ++ le c.ioaLen 0 ++ le 1 20

/-- The octets of a request. -/
def requestFrame (c : SerialCfg) (addr : Nat) (q : PollRequest) : Bytes :=
  let head := le 1 (controlByte q.fc q.fcb) ++ le 1 addr
  lineFrame c.framing (if q.fc = 3 then head ++ giAsdu c else head) (q.fc != 3)

/-! ### Polling (R500, R504) -/

/-- Suspension by the ingest queue (R161, R500). -/
def pollHeld (l : Lane) (n : Nat) : Bool :=
  let d := queueHeld (queueOf l (12 + n))
  let c := queueCfg l (12 + n)
  c.highWm ≤ d || ((serialRun l n).held && c.lowWm < d)

/-- The function code of a station's next request (R500): none where it is not to be polled now. -/
def nextFc (l : Lane) (n i : Nat) : Option Nat :=
  let s := station l n i
  let e := pollCfg l n i
  if !e.enable then none
  else
    match s.state with
    | .resetting => some (if s.step = 0 then 9 else if s.step = 1 then 0 else 3)
    | .polling =>
      if s.acd && s.burst < (serialCfg l n).class1Burst && (serialRun l n).lastEntry == some i then some 10
      else
        match s.lastClass2 with
        | none => some 11
        | some t => if t + msTc e.class2Ms ≤ l.tc then some 11 else none
    | _ => none

/-- The epochs under which the lane holds the lease. -/
def leaseEpochs (l : Lane) : Nat × Nat := (l.ply.laneLease.epoch, l.ply.deviceLease.epoch)

/-- The entries in the order in which they are considered: the one under way where its exchange goes on, then table
order after the one last requested (R500), with which a new holder begins (R504). -/
def pollOrder (l : Lane) (n : Nat) : List Nat :=
  match (serialRun l n).lastEntry with
  | none => List.range 64
  | some i =>
    let s := station l n i
    let goesOn := (serialRun l n).polledUnder == some (leaseEpochs l) &&
      ((s.state == .resetting && s.step != 0) ||
        (s.state == .polling && s.acd && s.burst < (serialCfg l n).class1Burst))
    (if goesOn then [i] else []) ++ (List.range 64).map (fun k => (i + 1 + k) % 64)

/-- The next request of the poller: the repeat of a failed one, or the next station's (R500, R501). -/
def nextRequest (l : Lane) (n : Nat) : Option PollRequest :=
  match (serialRun l n).again with
  | some q => some { q with isRepeat := true }
  | none =>
    ((pollOrder l n).find? (fun i => (nextFc l n i).isSome)).bind (fun i =>
      (nextFc l n i).map (fun fc =>
        { entry := i, fc := fc, fcb := (station l n i).fcb, isRepeat := false, sentAt := l.tc }))

/-- The idle time that the line must show before a transmission (R500), the first under a newly acquired lease
(R504). -/
def idleNeeded (l : Lane) (n : Nat) : Nat :=
  let c := serialCfg l n
  max (c.idleBits * bitTc c.bitRate)
    (if (serialRun l n).polledUnder = some (leaseEpochs l) then 0 else msTc c.respTimeoutMs)

/-- The station after a request of it has been sent or observed: its next FCB, its polls, class 2 time and burst. -/
def afterRequest (now : Nat) (q : PollRequest) (s : Station) : Station :=
  if q.isRepeat then s
  else
    { s with
      polls := bump s.polls
      fcb := if q.fc = 0 || q.fc = 9 then s.fcb else !q.fcb
      lastClass2 := if q.fc = 11 then some now else s.lastClass2
      burst := if q.fc = 10 then s.burst + 1 else 0
      acd := false }

/-- The poller of a port as it stands before a transmission: what the last holder left open is not taken up by a new
one, which waits for resp_timeout_ms of idle line (R504). -/
def pollView (l : Lane) (n : Nat) : SerialRun :=
  let r := serialRun l n
  let own := r.polledUnder == some (leaseEpochs l)
  { r with
    held := pollHeld l n, outstanding := if own then r.outstanding else none, again := if own then r.again else none }

/-- The poller sends the next request (R500): only as leaseholder (R33, R504). -/
def lanePollSend (n : Nat) (l : Lane) : Lane :=
  let c := serialCfg l n
  let p := pollView l n
  let l0 := setSerial n p l
  if 7 < n || !serving l || !isLeaseholder l || c.framing == 0 || p.outstanding.isSome then l
  else if p.held || l.tc < p.lineAt + idleNeeded l n then l0
  else
    match nextRequest l0 n with
    | none => l0
    | some q =>
      let q1 := { q with sentAt := l.tc }
      let p1 := { p with
        outstanding := some q1, again := none, lastEntry := some q.entry, lineAt := l.tc
        polledUnder := some (leaseEpochs l) }
      let ctr := p1.counters
      let l1 := setSerial n { p1 with counters := { ctr with framesTx := bump ctr.framesTx } } l0
      emit (.serial n (requestFrame c (pollCfg l n q.entry).linkAddr q1))
        (setStation n q.entry (afterRequest l.tc q1 (station l1 n q.entry)) l1)

/-! ### Responses (R501, R502) -/

/-- What a received frame is (R497, R498): a rejection that one counter takes, or the response. -/
inductive LineFrame where
  | badChar | badCheck | badLength
  | single
  | fixed (c a : Nat)
  | variable_ (c a : Nat) (asdu : Bytes)
deriving DecidableEq, Repr

/-- The frame of FT1.2 octets (R497). -/
def parseFt12 (b : Bytes) : LineFrame :=
  if b = [0xE5] then .single
  else if field b 0 1 = 0x10 then
    if b.length != 5 || field b 4 1 != 0x16 then .badLength
    else if sum8 (slice b 1 2) != field b 3 1 then .badCheck
    else .fixed (field b 1 1) (field b 2 1)
  else if field b 0 1 = 0x68 then
    let n := field b 1 1
    if n < 3 || field b 2 1 != n || field b 3 1 != 0x68 || b.length != n + 6 || field b (n + 5) 1 != 0x16 then .badLength
    else if sum8 (slice b 4 n) != field b (n + 4) 1 then .badCheck
    else .variable_ (field b 4 1) (field b 5 1) (slice b 6 (n - 2))
  else .badLength

/-- The frame of synchronous octets between flags, FCS last (R498). -/
def parseSync (b : Bytes) : LineFrame :=
  let content := b.take (b.length - 2)
  if content.isEmpty || 255 < content.length then .badLength
  else if fcs16 content != field b content.length 2 then .badCheck
  else if content = [0xE5] then .single
  else if content.length = 1 then .badLength
  else if content.length = 2 then .fixed (field content 0 1) (field content 1 1)
  else .variable_ (field content 0 1) (field content 1 1) (content.drop 2)

def parseLine (framing : Nat) (b : Bytes) : LineFrame := if framing = 2 then parseSync b else parseFt12 b

/-- The Legacy streams of a station, by serial port, link address and, for one ASDU, common address (R108). -/
def legacyStreams (l : Lane) (n addr : Nat) (ca : Option Nat) : List (Nat × LegacyPart) :=
  l.cfg.streams.filterMap (fun e =>
    match e.2.part with
    | .legacy p =>
      if e.2.transport == 0 && bit e.2.portMask (12 + n) && p.linkAddr == addr && (ca.all (p.commonAddr == ·))
      then some (e.1, p) else none
    | _ => none)

/-- Puts values on their way to the Skein (R109 step 8): only those of a context that supplies values or, LEARNED,
its wale (R106). -/
def deliverValues (id : Nat) (tag : FineTag) (arrived : FineTag) (vs : List Value) (l : Lane) : Lane :=
  { l with streams := { l.streams with
      arrivals := l.streams.arrivals ++ [{ stream := id, tag := tag, arrived := arrived, values := vs }] } }

/-- Every point of a stream graded INVALID from this instant (R140, R501); the field of a value that was not received
is 0 (R112, log 22). -/
def invalidatePoints (id points : Nat) (l : Lane) : Lane :=
  deliverValues id (nowTag l) (nowTag l)
    ((List.range points).map (fun i =>
      { channel := i, w0 := 0, w1 := 0, grade := .invalid, test := false, auth := false, chain := 0 })) l

/-- A lasting failure: the station is OFFLINE (R501, R622). -/
def stationOffline (n i : Nat) (l : Lane) : Lane :=
  let s := station l n i
  let l1 := setStation n i { s with state := .offline, step := 0, offlineAt := l.tc, acd := false, burst := 0 } l
  let l2 := countSerial n (fun c => { c with lasting := bump c.lasting }) l1
  let l3 := (legacyStreams l n (pollCfg l n i).linkAddr none).foldl
    (fun acc e => invalidatePoints e.1 e.2.points.length acc) l2
  offlineAlarm n (lastingFault .polledStation (64 * n + i) l3)

/-- The outstanding request fails: repeated once, then OFFLINE (R501). -/
def requestFails (n : Nat) (q : PollRequest) (l : Lane) : Lane :=
  let p := serialRun l n
  let l1 := setSerial n { p with outstanding := none, again := if q.isRepeat then none else some q, lineAt := l.tc } l
  if q.isRepeat then stationOffline n q.entry l1 else l1

/-- A repeat has succeeded: its failure was transient (R501, R621). -/
def noteTransient (n : Nat) (q : PollRequest) (l : Lane) : Lane :=
  if q.isRepeat then
    let s := station l n q.entry
    transientFault .polledStation (64 * n + q.entry)
      (countSerial n (fun c => { c with transient := bump c.transient })
        (setStation n q.entry { s with transient := bump s.transient } l))
  else l

/-- The station's course after a good response (R500): the steps of RESETTING, ACD, and its first FCB. -/
def afterResponse (gi : Bool) (q : PollRequest) (acd : Bool) (s : Station) : Station :=
  match s.state with
  | .resetting =>
    if q.fc = 9 then { s with step := 1 }
    else if q.fc = 0 then
      { s with step := 2, fcb := true, state := if gi then .resetting else .polling, lastClass2 := none }
    else if q.fc = 3 then { s with step := 0, state := .polling, lastClass2 := none }
    else s
  | _ => { s with acd := acd }

/-- The user data of a response go to the ingest queue of the port, unless they repeat the last octet for octet
(R500, R502, log 14). -/
def deliverResponse (n : Nat) (q : PollRequest) (octets asdu : Bytes) (l : Lane) : Lane :=
  let s := station l n q.entry
  let c := serialCfg l n
  if s.lastResponse = some octets then
    countSerial n (fun k => { k with repeats := bump k.repeats })
      (setStation n q.entry { s with repeats := bump s.repeats } l)
  else
    let ca := field asdu (2 + c.cotLen) c.caLen
    (legacyStreams l n (pollCfg l n q.entry).linkAddr (some ca)).foldl
      (fun acc e => enqueueOrDrop (12 + n) (frameEntries octets.length) (.serial e.1 (nowTag l) (nowFull l) asdu) acc)
      (setStation n q.entry { s with lastResponse := some octets } l)

/-- A good response (R500 to R502). -/
def goodResponse (n : Nat) (q : PollRequest) (octets : Bytes) (f : LineFrame) (l : Lane) : Lane :=
  let p := serialRun l n
  let acd := match f with
    | .fixed c _ => bit c 5
    | .variable_ c _ _ => bit c 5
    | _ => false
  let l1 := setSerial n { p with outstanding := none, lineAt := l.tc } l
  let l2 := noteTransient n q (countSerial n (fun c => { c with framesRx := bump c.framesRx }) l1)
  let l3 := setStation n q.entry
    (afterResponse (serialCfg l n).giAfterReset q acd (station l2 n q.entry)) l2
  match f with
  | .variable_ _ _ asdu => deliverResponse n q octets asdu l3
  | _ => l3

/-- The link address a response carries, where its form has one. -/
def responseAddr : LineFrame → Option Nat
  | .fixed _ a => some a
  | .variable_ _ a _ => some a
  | _ => none

/-- A response on the line (R497 to R502); octets with no request outstanding are unsolicited (R503). `charError`
tells a parity, framing or gap error. -/
def laneSerialResponse (n : Nat) (octets : Bytes) (charError : Bool) (l : Lane) : Lane :=
  let c := serialCfg l n
  if 7 < n || !serving l || c.framing == 0 || looped l (12 + n) then l
  else
    match (serialRun l n).outstanding with
    | none => countSerial n (fun k => { k with unsolicited := (k.unsolicited + octets.length) % 2 ^ 32 }) l
    | some q =>
      let f := if charError then .badChar else parseLine c.framing octets
      match f with
      | .badChar => requestFails n q (countSerial n (fun k => { k with charErrors := bump k.charErrors }) l)
      | .badCheck => requestFails n q (countSerial n (fun k => { k with checkErrors := bump k.checkErrors }) l)
      | .badLength => requestFails n q (countSerial n (fun k => { k with lengthErrors := bump k.lengthErrors }) l)
      | _ =>
        if (responseAddr f).all (· == (pollCfg l n q.entry).linkAddr) then goodResponse n q octets f l
        else requestFails n q (countSerial n (fun k => { k with wrongAddress := bump k.wrongAddress }) l)

/-- No character of a response has begun within resp_timeout_ms (R501). -/
def laneResponseTimeout (n : Nat) (l : Lane) : Lane :=
  match (serialRun l n).outstanding with
  | some q =>
    if serving l && q.sentAt + msTc (serialCfg l n).respTimeoutMs ≤ l.tc then
      requestFails n q (countSerial n (fun k => { k with timeouts := bump k.timeouts }) l)
    else l
  | none => l

/-- An OFFLINE station returns to RESETTING (R501). -/
def laneOfflineRetry (n i : Nat) (l : Lane) : Lane :=
  let s := station l n i
  if serving l && s.state == .offline && s.offlineAt + secTc (serialCfg l n).offlineRetryS ≤ l.tc then
    offlineAlarm n (setStation n i { s with state := .resetting, step := 0 } l)
  else l

/-- Characters while no request is outstanding (R503). -/
def laneUnsolicited (n count : Nat) (l : Lane) : Lane :=
  if 7 < n || !serving l || (serialRun l n).outstanding.isSome then l
  else countSerial n (fun k => { k with unsolicited := (k.unsolicited + count) % 2 ^ 32 }) l

/-- The enabled entry of a link address. -/
def entryAt (l : Lane) (n addr : Nat) : Option Nat :=
  (List.range 64).find? (fun i => (pollCfg l n i).enable && (pollCfg l n i).linkAddr == addr)

/-- The request that the holder's poller sent, as this lane would have sent it (R504): a request that does not toggle
FCB is a repeat. -/
def observedRequest (l : Lane) (n : Nat) (f : LineFrame) : Option PollRequest :=
  let make := fun (c a : Nat) =>
    (entryAt l n a).map (fun i =>
      let fc := c % 16
      let fcb := bit c 5
      let again := (fc == 3 || fc == 10 || fc == 11) && fcb != (station l n i).fcb
      { entry := i, fc := fc, fcb := fcb, isRepeat := again, sentAt := l.tc : PollRequest })
  match f with
  | .fixed c a => if bit c 6 then make c a else none
  | .variable_ c a _ => if bit c 6 then make c a else none
  | _ => none

/-- The standby decodes a request on a shared bus and keeps the station's state and next FCB (R504). -/
def laneObservedPoll (n : Nat) (octets : Bytes) (l : Lane) : Lane :=
  let c := serialCfg l n
  if 7 < n || !serving l || isLeaseholder l || c.framing == 0 then l
  else
    match observedRequest l n (parseLine c.framing octets) with
    | none => l
    | some q =>
      let s := station l n q.entry
      let s1 : Station :=
        if q.fc = 10 || q.fc = 11 then { s with state := .polling } else { s with state := .resetting }
      let p := { serialRun l n with outstanding := some q, again := none, lastEntry := some q.entry, lineAt := l.tc }
      setStation n q.entry (afterRequest l.tc q s1) (setSerial n p l)

end Sys2Proof.Machine
end

