-- ==== Sys2Proof/Machine/Streams.lean ====
section
/-!
DEFINITION. The commands of stream contexts (R114 to R118, R143, R147) and C37.118.2 configurations (R119 to R122,
R128, R129).
-/
namespace Sys2Proof.Machine

/-! ### STREAM_ADD (R114, R115) -/

/-- The PMU part at offset 32. -/
def pmuAsked (b : Bytes) : PmuPart :=
  { srcAddr := slice b 32 16, dataSrcPort := field b 48 2, dataDstPort := field b 50 2, pmuPort := field b 52 2,
    idcode := field b 54 2, cfgSource := field b 56 1, cfgKind := field b 57 1, cfgRetryMs := field b 58 2,
    vlan := field b 60 2 }

/-- The SV part. -/
def svAsked (b : Bytes) : SvPart :=
  { dstMac := fieldBE b 32 6, appid := field b 38 2, profile := field b 40 1, channels := field b 41 1,
    minSmpSynch := field b 42 1, confRev := field b 44 4, svid := slice b 48 (field b 43 1),
    srcAddr := slice b 112 16, dstUdpPort := field b 128 2, vlan := field b 130 2 }

/-- The Legacy part. -/
def legacyAsked (b : Bytes) : LegacyPart :=
  { serialPort := field b 32 1, linkAddr := field b 34 2, commonAddr := field b 36 2, arrivalDelayUs := field b 38 2,
    dstMac := fieldBE b 40 6, appid := field b 46 2, confRev := field b 48 4, gocbref := slice b 56 (field b 52 1),
    points := (List.range (field b 33 1)).map (fun i =>
      { address := field b (120 + 8 * i) 4, kind := field b (124 + 8 * i) 1 }) }

/-- The context that the common and type parts describe. -/
def streamAsked (b : Bytes) : StreamCfg :=
  match field b 0 1 with
  | 1 => commonCfg b (.pmu (pmuAsked b))
  | 2 => commonCfg b (.sv (svAsked b))
  | 3 => commonCfg b (.mesh (field b 32 1) (field b 34 2))
  | _ => commonCfg b (.legacy (legacyAsked b))

/-- A mask with exactly one bit set. -/
def oneBit (m : Nat) : Bool := ((List.range 22).filter (bit m)).length == 1

/-- The ports of a transport's medium: E0 to E11, L0 to L7 or M0 and M1 (R114). -/
def maskOk (type transport mask : Nat) : Bool :=
  let eth := mask != 0 && mask < 2 ^ 12
  if type = 3 then oneBit mask && mask / 2 ^ 20 != 0
  else if type = 4 && transport = 0 then oneBit mask && mask / 2 ^ 20 == 0 && 2 ^ 12 ≤ mask
  else if type = 1 && transport = 1 then oneBit mask && eth
  else eth

/-- Visible characters padded with zero bytes (R114). -/
def nameOk (b : Bytes) (off len used : Nat) : Bool :=
  inRange 1 len used && (slice b off used).all (fun x => inRange 0x21 0x7E x.toNat) && isZero b (off + used) (len - used)

/-- The ranges of the common part (R114). -/
def commonOk (b : Bytes) : Bool :=
  let t := field b 0 1
  let tr := field b 1 1
  inRange 1 4 t && tr ≤ (if t = 3 then 0 else 1) && isZero b 2 2 && field b 4 4 < 2 ^ 22 && maskOk t tr (field b 4 4) &&
    (if t = 1 then inRange 1 240 (field b 8 2) else if t = 2 then inRange 4000 14400 (field b 8 2)
     else field b 8 2 == 0) &&
    (field b 10 1 == 50 || field b 10 1 == 60) && field b 11 1 < 16 && inRange 1 7 (field b 12 1) &&
    field b 13 1 ≤ 3 && isZero b 14 2 && inRange 100 3600000 (field b 16 4) && isZero b 20 12

/-- The ranges of the type parts (R114): fields marked for the other transport are 0. -/
def partOk (b : Bytes) : Bool :=
  let tr := field b 1 1
  match field b 0 1 with
  | 1 =>
    1024 ≤ field b 50 2 && 1 ≤ field b 52 2 && inRange 1 65534 (field b 54 2) && field b 56 1 ≤ 2 &&
      inRange 2 3 (field b 57 1) && inRange 100 60000 (field b 58 2) && field b 60 2 ≤ 4094 && isZero b 62 2
  | 2 =>
    field b 40 1 ≤ 1 && inRange 1 8 (field b 41 1) && field b 42 1 ≤ 2 && nameOk b 48 64 (field b 43 1) &&
      (if tr = 0 then isZero b 112 16 && field b 130 2 ≤ 4094
       else isZero b 32 8 && 1 ≤ field b 128 2 && isZero b 130 2)
  | 3 => field b 32 1 ≤ 1 && isZero b 33 1 && inRange 1 0xFFFD (field b 34 2) && isZero b 36 4
  | 4 =>
    inRange 1 64 (field b 33 1) && isZero b 53 3 &&
      (if tr = 0 then field b 32 1 ≤ 7 && field b 34 2 ≤ 65534 && field b 36 2 ≤ 65534 && isZero b 40 13 && isZero b 56 64
       else isZero b 32 1 && isZero b 34 6 && nameOk b 56 64 (field b 52 1)) &&
      (List.range (field b 33 1)).all (fun i =>
        let o := 120 + 8 * i
        inRange 1 3 (field b (o + 4) 1) && isZero b (o + 5) 3 && field b o 4 < (if tr = 0 then 2 ^ 24 else 256))
  | _ => false

/-- The histories of the contexts as the pool holds them (R114, R178). -/
def histories (t : Table StreamCfg) : List (Nat × Nat × Nat) := t.map (fun e => (e.2.type, e.2.rate, e.2.historyMs))
def peAreas (l : Lane) : Nat := (l.cfg.pe.filter (fun e => e.2.enable)).length

/-- Bytes that no history record exceeds: 256 channels of 8 bytes and a quality byte, two tags and a mask (R105, R237). -/
def recordCeiling : Nat := 4096

/-- Whether the wale history pool, 13 GiB less the Swatch pool (R45), holds the histories and the chain-state areas of 16 KiB
(R114, R178). It does where even records of the ceiling fit; the spec gives no size of a record, so that beyond that the answer
is open (log 15). -/
def poolFits (mib : Nat) (hist : List (Nat × Nat × Nat)) (areas : Nat) : Bool :=
  let records := (hist.map (fun h => h.2.1 * h.2.2 / 1000 + 2)).sum
  (hist.all (fun h => h.2.1 != 0) && decide (recordCeiling * records + 16384 * areas ≤ (13 * 1024 - mib) * 2 ^ 20)) ||
    Config.historyFits mib hist areas

/-- A node is known to Picot (R114). -/
def nodeKnown (l : Lane) (c : StreamCfg) : Bool :=
  match c.part with
  | .mesh radio node => (tget l.cfg.nodes (65536 * radio + node)).isSome
  | _ => true

/-- STREAM_ADD's checks (R114): ranges, then the id, the node, the TCP streams of R130 and the history pool. -/
def streamAddCheck (l : Lane) (r : Request) : Status :=
  let b := body r
  let c := streamAsked b
  need (commonOk b && partOk b) .badParam <|
  need ((streamCfg l (flowId r)).isNone && nodeKnown l c) .noResource <|
  need (!(c.type == 1 && c.transport == 1) ||
    (l.cfg.streams.filter (fun e => e.2.type == 1 && e.2.transport == 1)).length < 256) .limitExceeded <|
  need (poolFits l.cfg.swatchMib (histories (tput l.cfg.streams (flowId r) c)) (peAreas l)) .limitExceeded .ok

/-- The confRev a context expects. -/
def confRevOf (c : StreamCfg) : Nat :=
  match c.part with
  | .sv p => p.confRev
  | .legacy p => p.confRev
  | _ => 0

/-- The new context: PENDING_CFG for a PMU, which starts its procedure, ACTIVE for every other type (R115, R128). -/
def streamAddApply (r : Request) (l : Lane) : Lane × Bytes :=
  let id := flowId r
  let c := streamAsked (body r)
  let st := if isPmu c then .pendingCfg else .active
  let l1 := setRun id (.new st (confRevOf c) l.tc) { l with cfg := { l.cfg with streams := tput l.cfg.streams id c } }
  (startProcedure id l1, [])

def laneStreamAdd (r : Request) (l : Lane) : Lane := serve 0x0200 none streamAddCheck streamAddApply r l

/-! ### State changes -/

/-- The enabled PE channels of a stream are marked for a synchronising reset (R204). -/
def markResets (id : Nat) (l : Lane) : Lane :=
  { l with pe := { l.pe with channels := l.pe.channels.map (fun e =>
      if e.1 / 8 = id then (e.1, { e.2 with resetMarked := true }) else e) } }

/-- Absent streams leave the required sets of open courses that they have not reached (R107, R223). -/
def dropRequired (id : Nat) (l : Lane) : Lane :=
  { l with skein := { l.skein with planes := l.skein.planes.map (fun e =>
      (e.1, { e.2 with courses := e.2.courses.map (fun c =>
        if c.arrived.contains id then c else { c with required := c.required.filter (· != id) }) })) } }

/-- A context enters a state: ACTIVE from another state resets its PE channels (R204), an absent state takes it out
of the required sets (R107). -/
def enterState (id : Nat) (st : StreamState) (l : Lane) : Lane :=
  match streamRun l id with
  | none => l
  | some s =>
    let l1 := setRun id { s with state := st } l
    if s.state = st then l1
    else if st = .active then markResets id l1
    else if st = .learned then l1
    else dropRequired id l1

/-! ### Configurations (R120 to R122, R128, R129) -/

/-- CRC-CCITT of R120 over bytes. -/
def crcBit : Nat → Nat → Nat
  | 0, c => c
  | k + 1, c => crcBit k (if 0x8000 ≤ c then ((c * 2) % 65536) ^^^ 0x1021 else c * 2)
def crcCcitt (b : Bytes) : Nat := b.foldl (fun c x => crcBit 8 (c ^^^ (x.toNat * 256))) 0xFFFF

/-- CHK covers every byte before it (R120). -/
def chkOk (f : Bytes) : Bool := 2 ≤ f.length && crcCcitt (f.take (f.length - 2)) == fieldBE f (f.length - 2) 2

/-- A PMU block of CFG-2 at an offset, and the offset after it. -/
def cfg2Block (f : Bytes) (o : Nat) : PmuBlock × Nat :=
  let ph := fieldBE f (o + 20) 2
  let an := fieldBE f (o + 22) 2
  let dg := fieldBE f (o + 24) 2
  let u := o + 26 + 16 * (ph + an + 16 * dg)
  ({ format := fieldBE f (o + 18) 2, phasors := (List.range ph).map (fun i => fieldBE f (u + 4 * i) 4),
     analogs := (List.range an).map (fun i => fieldBE f (u + 4 * ph + 4 * i) 4), digitals := dg,
     fnom := fieldBE f (u + 4 * (ph + an + dg)) 2, cfgcnt := fieldBE f (u + 4 * (ph + an + dg) + 2) 2 },
   u + 4 * (ph + an + dg) + 4)

/-- A run of CFG-3 names, each a length byte and its characters: the offset after `n` of them. -/
def skipNames (f : Bytes) : Nat → Nat → Nat
  | 0, o => o
  | k + 1, o => skipNames f k (o + 1 + fieldBE f o 1)

/-- A PMU block of CFG-3 at an offset, and the offset after it. Scale words keep their 12 and 8 bytes. -/
def cfg3Block (f : Bytes) (o : Nat) : PmuBlock × Nat :=
  let o1 := skipNames f 1 o
  let ph := fieldBE f (o1 + 20) 2
  let an := fieldBE f (o1 + 22) 2
  let dg := fieldBE f (o1 + 24) 2
  let u := skipNames f (ph + an + 16 * dg) (o1 + 26)
  let e := u + 12 * ph + 8 * an + 4 * dg
  ({ format := fieldBE f (o1 + 18) 2, phasors := (List.range ph).map (fun i => fieldBE f (u + 12 * i) 12),
     analogs := (List.range an).map (fun i => fieldBE f (u + 12 * ph + 8 * i) 8), digitals := dg,
     fnom := fieldBE f (e + 21) 2, cfgcnt := fieldBE f (e + 23) 2 }, e + 25)

/-- `n` PMU blocks from an offset. -/
def cfgBlocks (kind : Nat) (f : Bytes) : Nat → Nat → List PmuBlock × Nat
  | 0, o => ([], o)
  | k + 1, o =>
    let b := if kind = 3 then cfg3Block f o else cfg2Block f o
    let t := cfgBlocks kind f k b.2
    (b.1 :: t.1, t.2)

/-- The configuration of a whole frame (header 14 bytes; CFG-3 carries CONT_IDX before TIME_BASE). -/
def parseCfg (f : Bytes) (kind : Nat) : PmuConfig × Nat :=
  let o := if kind = 3 then 16 else 14
  let n := fieldBE f (o + 4) 2
  let bs := cfgBlocks kind f (min n 8) (o + 6)
  ({ version := field f 1 1 % 16, kind := kind, timeBase := fieldBE f (o + 1) 3, blocks := bs.1,
     dataRate := fieldBE f bs.2 2, raw := (f.drop 14).take (f.length - 16) }, bs.2 + 4)

/-- A usable configuration (R122). -/
def usableCfg (f : Bytes) (kind idcode : Nat) : Option PmuConfig :=
  let c := parseCfg f kind
  let n := fieldBE f ((if kind = 3 then 16 else 14) + 4) 2
  let total := fun (g : PmuBlock → Nat) => (c.1.blocks.map g).sum
  if inRange 1 8 n && c.2 == f.length && total (·.phasors.length) ≤ 64 && total (·.analogs.length) ≤ 32 &&
      total (·.digitals) ≤ 8 && inRange 1 240 c.1.dataRate && inRange 1 16777215 c.1.timeBase &&
      frameIdcode f == idcode then some c.1 else none

/-- Identical configurations (R128). -/
def cfgIdentical (a b : PmuConfig) : Bool := a.version == b.version && a.raw == b.raw

/-- Compatible: NUM_PMU, the numbers and order of phasors, analogs and digital words, and DATA_RATE are kept
(R128). -/
def cfgCompatible (a b : PmuConfig) : Bool :=
  a.dataRate == b.dataRate &&
    a.blocks.map (fun x => (x.phasors.length, x.analogs.length, x.digitals)) ==
      b.blocks.map (fun x => (x.phasors.length, x.analogs.length, x.digitals))

/-- A configuration comes into use (R118, R128): the procedure ends. -/
def applyCfg (c : PmuConfig) (s : StreamRun) : StreamRun :=
  { s with
    cfg := some c, newCfg := none, heldCfg := none, procedure := false, version := c.version
    counters := { s.counters with cfg := bump s.counters.cfg } }

/-- Turn-on transmission after a configuration is applied to a UDP stream (R130). -/
def turnOn (id : Nat) (l : Lane) : Lane :=
  match streamCfg l id with
  | some c => if c.cmdEnable then pmuCommand id 2 l else l
  | none => l

/-- A usable configuration arrives (R128, R129). -/
def takeCfg (id : Nat) (c : PmuConfig) (l : Lane) : Lane :=
  match streamRun l id, streamCfg l id with
  | some s, some sc =>
    let udp := sc.transport == 0
    match s.state with
    | .pendingCfg =>
      let l1 := enterState id .active (setRun id (applyCfg c s) l)
      if udp then turnOn id l1 else l1
    | .cfgHold => setRun id { s with heldCfg := some c, procedure := false } l
    | _ =>
      match s.cfg with
      | none =>
        let l1 := setRun id (applyCfg c s) l
        if udp then turnOn id l1 else l1
      | some old =>
        if cfgIdentical old c then setRun id { s with procedure := false, newCfg := none } l
        else if cfgCompatible old c then setRun id { s with newCfg := some c, procedure := true } l
        else
          raiseEvent 258 (enterState id .cfgHold
            (setRun id { s with heldCfg := some c, newCfg := none, procedure := false } l))
  | _, _ => l

/-- Counts at a stream. -/
def countStream (id : Nat) (f : StreamCounters → StreamCounters) (l : Lane) : Lane :=
  match streamRun l id with
  | some s => setRun id { s with counters := f s.counters } l
  | none => l

/-- A C37.118.2 frame that is not a data frame reaches the control cores (R119 to R122): the stream's kind of
configuration is taken, other kinds, headers and commands are counted and ignored, the rest rejected. -/
def receiveCfg (id : Nat) (f : Bytes) (l : Lane) : Lane :=
  match (streamCfg l id).bind pmuPart with
  | none => l
  | some p =>
    let type := bits (field f 1 1) 6 4
    let ver := field f 1 1 % 16
    let want := if p.cfgKind = 3 then type = 5 && ver = 2 else type = 3
    if f.length < 16 || fieldBE f 2 2 != f.length || 65535 < f.length then
      countStream id (fun c => { c with size := bump c.size }) l
    else if (ver != 1 && ver != 2) || 6 ≤ type || !chkOk f then
      countStream id (fun c => { c with decode := bump c.decode }) l
    else if !want then countStream id (fun c => { c with ignored := bump c.ignored }) l
    else
      match usableCfg f p.cfgKind p.idcode with
      | none => countStream id (fun c => { c with decode := bump c.decode }) l
      | some c => takeCfg id c l

/-- A configuration frame handed to the control cores takes effect (R110, R128). A frame that arrives unasked starts
a procedure; in SUSPENDED it is dropped (R106). -/
def laneCfgReceive (id : Nat) (f : Bytes) (l : Lane) : Lane :=
  match streamRun l id with
  | none => l
  | some s =>
    if !serving l then l
    else if s.state = .suspended || s.state = .keyLost then
      countStream id (fun c => { c with state := bump c.state }) l
    else receiveCfg id f l

/-- Every cfg_retry_ms without a usable configuration the request is sent again (R128). -/
def laneCfgRetry (id : Nat) (l : Lane) : Lane :=
  match streamRun l id, (streamCfg l id).bind pmuPart with
  | some s, some p =>
    if s.procedure && s.newCfg.isNone && p.cfgSource == 0 && serving l && s.requestAt + msTc p.cfgRetryMs ≤ l.tc then
      requestCfg id (setRun id { s with requestAt := l.tc } l)
    else l
  | _, _ => l

/-! ### TCP connections to PMUs (R130) -/

/-- Whether a stream connects over TCP. -/
def isTcpPmu (l : Lane) (id : Nat) : Bool := (streamCfg l id).any (fun c => isPmu c && c.transport == 1)

/-- Every cfg_retry_ms while disconnected the lane opens the connection (R130). -/
def laneTcpAttempt (id : Nat) (l : Lane) : Lane :=
  match streamRun l id, (streamCfg l id).bind pmuPart with
  | some s, some p =>
    if isTcpPmu l id && !s.connected && serving l && s.attemptAt + msTc p.cfgRetryMs ≤ l.tc then
      emit (.tcpConnect id) (setRun id { s with attemptAt := l.tc } l)
    else l
  | _, _ => l

/-- The connection opens: the pending configuration request, then turn-on with cmd_enable (R128, R130). -/
def laneTcpOpen (id : Nat) (l : Lane) : Lane :=
  match streamRun l id with
  | some s =>
    if isTcpPmu l id && !s.connected && serving l then
      let l1 := setRun id { s with connected := true, requestAt := l.tc } l
      let l2 := if s.procedure && ((streamCfg l id).bind pmuPart).any (fun p => p.cfgSource == 0) then requestCfg id l1
        else l1
      turnOn id l2
    else l
  | none => l

/-- The connection fails or closes; the stream keeps its state (R130). -/
def laneTcpClose (id : Nat) (l : Lane) : Lane :=
  match streamRun l id with
  | some s => if s.connected then setRun id { s with connected := false, attemptAt := l.tc } l else l
  | none => l

/-! ### STREAM_MODIFY (R116) -/

/-- The FREE rule, which comes before the state rules (R116). -/
def modifyCheck (more : Lane → Request → Status) (l : Lane) (r : Request) : Status :=
  need (isZero (body r) 1 3) .badParam <| need (streamCfg l (flowId r)).isSome .noResource (more l r)

/-- The state of a context; FREE has none. -/
def stateIs (l : Lane) (id : Nat) (st : StreamState) : Bool := (streamRun l id).any (fun s => s.state == st)

/-- The body of STREAM_MODIFY. -/
def modBody (r : Request) : Bytes := (body r).drop 4

/-- SET: the ranges, the type and transport unchanged, the history. -/
def modifySetCheck (l : Lane) (r : Request) : Status :=
  let c := streamAsked (modBody r)
  match streamCfg l (flowId r) with
  | none => .noResource
  | some old =>
    need (commonOk (modBody r) && partOk (modBody r) && c.type == old.type && c.transport == old.transport) .badParam <|
    need (nodeKnown l c) .noResource <|
    need (poolFits l.cfg.swatchMib (histories (tput l.cfg.streams (flowId r) c)) (peAreas l)) .limitExceeded .ok

/-- A PMU whose idcode or src_addr changes returns to PENDING_CFG (R116). -/
def modifySetApply (r : Request) (l : Lane) : Lane × Bytes :=
  let id := flowId r
  let c := streamAsked (modBody r)
  let key := fun (x : StreamCfg) => (pmuPart x).map (fun p => (p.idcode, p.srcAddr))
  let changed := (streamCfg l id).any (fun old => key old != key c)
  let l1 := { l with cfg := { l.cfg with streams := tput l.cfg.streams id c } }
  if changed then
    match streamRun l id with
    | some s =>
      let s1 := { s with cfg := none, newCfg := none, heldCfg := none, procedure := false, resume := .pendingCfg }
      let l2 := setRun id s1 l1
      (startProcedure id (if s.state = .suspended then l2 else enterState id .pendingCfg l2), [])
    | none => (l1, [])
  else (l1, [])

def laneModifySet (r : Request) (l : Lane) : Lane :=
  serve 0x0201 (some 0) (modifyCheck modifySetCheck) modifySetApply r l

/-- The state a context would hold: ACTIVE, or PENDING_CFG for a PMU without a usable configuration (R116). -/
def servingState (c : StreamCfg) (s : StreamRun) : StreamState :=
  if isPmu c && s.cfg.isNone then .pendingCfg else .active

/-- ADOPT (R116): an adopted PMU without a configuration starts its procedure (R128). -/
def adoptApply (r : Request) (l : Lane) : Lane × Bytes :=
  let id := flowId r
  match streamCfg l id, streamRun l id with
  | some c, some s =>
    let st := servingState c s
    let l1 := enterState id st (setRun id { s with learnedBy := none } l)
    (if st = .pendingCfg then startProcedure id l1 else l1, [])
  | _, _ => (l, [])

def laneModifyAdopt (r : Request) (l : Lane) : Lane :=
  serve 0x0201 (some 1)
    (modifyCheck (fun s q => need (stateIs s (flowId q) .learned) .wrongMode .ok)) adoptApply r l

/-- The fields of a chunk (R116), at the offsets of CFG_CHUNK. -/
def chunkTotal (b : Bytes) : Nat := field b 4 4
def chunkOffset (b : Bytes) : Nat := field b 8 4
def chunkLen (b : Bytes) : Nat := field b 12 4

/-- The chunk rule (R116, R305, R338): the next byte, the total of the delivery, and no byte beyond it. -/
def chunkFits (have_ : Option (Nat × Bytes)) (total off len : Nat) : Bool :=
  off + len ≤ total &&
    (off == 0 || (match have_ with
      | some (t, d) => t == total && d.length == off
      | none => false : Bool))

/-- The bytes delivered after a chunk: one at offset 0 begins anew. -/
def chunkData (have_ : Option (Nat × Bytes)) (off : Nat) (data : Bytes) : Bytes :=
  if off = 0 then data else ((have_.map (·.2)).getD []) ++ data

/-- CFG_CHUNK requires a PMU stream with cfg_source 1 (R116). -/
def cfgChunkCheck (l : Lane) (r : Request) : Status :=
  let b := body r
  need (inRange 1 65535 (chunkTotal b) && inRange 1 65492 (chunkLen b) &&
    ((streamCfg l (flowId r)).bind pmuPart).any (fun p => p.cfgSource == 1) &&
    chunkFits ((streamRun l (flowId r)).bind (·.chunk)) (chunkTotal b) (chunkOffset b) (chunkLen b)) .badParam .ok

/-- The last byte makes the whole a configuration frame received from the PMU (R116); a usable one is the stream's
stored configuration (R687). -/
def cfgChunkApply (r : Request) (l : Lane) : Lane × Bytes :=
  let b := body r
  let id := flowId r
  match streamRun l id, (streamCfg l id).bind pmuPart with
  | some s, some p =>
    let d := chunkData s.chunk (chunkOffset b) (b.drop 16)
    if d.length = chunkTotal b then
      let l1 := setRun id { s with chunk := none } l
      let stored := match usableCfg d p.cfgKind p.idcode with
        | some c => tput l.cfg.hostCfg id c
        | none => l.cfg.hostCfg
      (receiveCfg id d (startProcedure id { l1 with cfg := { l1.cfg with hostCfg := stored } }), [])
    else (setRun id { s with chunk := some (chunkTotal b, d) } l, [])
  | _, _ => (l, [])

def laneModifyChunk (r : Request) (l : Lane) : Lane :=
  serve 0x0201 (some 2) (modifyCheck cfgChunkCheck) cfgChunkApply r l

/-- ACCEPT_CFG: ACTIVE under the held configuration (R116, R128). -/
def acceptApply (r : Request) (l : Lane) : Lane × Bytes :=
  let id := flowId r
  match streamRun l id with
  | some s =>
    let s1 := match s.heldCfg with
      | some c => applyCfg c s
      | none => { s with procedure := false, confRev := s.heldConfRev.getD s.confRev, heldConfRev := none }
    (turnOn id (enterState id .active (setRun id s1 l)), [])
  | none => (l, [])

def laneModifyAccept (r : Request) (l : Lane) : Lane :=
  serve 0x0201 (some 3)
    (modifyCheck (fun s q => need (stateIs s (flowId q) .cfgHold) .wrongMode .ok)) acceptApply r l

/-- SUSPEND keeps the state that RESUME returns to (R116). -/
def suspendApply (r : Request) (l : Lane) : Lane × Bytes :=
  let id := flowId r
  match streamRun l id with
  | some s =>
    if s.state = .suspended then (l, [])
    else (enterState id .suspended (setRun id { s with resume := s.state } l), [])
  | none => (l, [])

def laneModifySuspend (r : Request) (l : Lane) : Lane :=
  serve 0x0201 (some 4) (modifyCheck (fun _ _ => .ok)) suspendApply r l

/-- RESUME (R116). -/
def resumeApply (r : Request) (l : Lane) : Lane × Bytes :=
  let id := flowId r
  match streamRun l id with
  | some s => (enterState id s.resume l, [])
  | none => (l, [])

def laneModifyResume (r : Request) (l : Lane) : Lane :=
  serve 0x0201 (some 5)
    (modifyCheck (fun s q => need (stateIs s (flowId q) .suspended) .wrongMode .ok)) resumeApply r l

/-! ### STREAM_REMOVE and STREAM_QUERY (R117, R118) -/

/-- The stream that a trigger names (R415): types 0 to 3 with a stream source, types 4 and 5. -/
def triggerStream (t : TriggerCfg) : Option Nat :=
  if (t.type ≤ 3 && t.source ≤ 1) || t.type == 4 || t.type == 5 then some t.object else none

/-- A position map, active or shadow, or a Swatch trigger names the stream (R117). -/
def streamNamed (l : Lane) (id : Nat) : Bool :=
  l.cfg.planes.any (fun p => p.2.map.any (fun e => e.2.stream == id)) ||
  l.skein.planes.any (fun p => p.2.shadow.any (fun e => e.2.stream == id)) ||
  l.cfg.triggers.any (fun t => triggerStream t.2 == some id)

/-- The context becomes FREE and its wale is released; its values on the way are discarded (R117). -/
def freeStream (id : Nat) (l : Lane) : Lane :=
  let l0 := dropRequired id l
  let keep := fun {α : Type} (t : Table α) (w : Nat) => t.filter (fun e => e.1 / w != id)
  { l0 with
    cfg := { l0.cfg with
      streams := tdel l0.cfg.streams id, auth := tdel l0.cfg.auth id, hostCfg := tdel l0.cfg.hostCfg id
      pe := keep l0.cfg.pe 8, banks := keep l0.cfg.banks 4 }
    streams := { l0.streams with
      run := tdel l0.streams.run id, arrivals := l0.streams.arrivals.filter (fun a => a.stream != id) }
    pe := { l0.pe with channels := keep l0.pe.channels 8, streams := tdel l0.pe.streams id }
    skein := { l0.skein with
      wales := tdel l0.skein.wales id, recent := keep l0.skein.recent 256
      toHistory := l0.skein.toHistory.filter (fun a => a.1.stream != id) }
    swatch := { l0.swatch with marks := keep l0.swatch.marks 4 } }

def streamRemoveCheck (l : Lane) (r : Request) : Status :=
  need (isZero (body r) 0 4) .badParam <|
  need ((streamCfg l (flowId r)).isSome && !streamNamed l (flowId r)) .noResource .ok

/-- The effect and result of `laneStreamRemove`. -/
def streamRemoveApply (q : Request) (s : Lane) : Lane × Bytes :=
  (freeStream (flowId q) s, [])

def laneStreamRemove (r : Request) (l : Lane) : Lane :=
  serve 0x0202 none streamRemoveCheck streamRemoveApply r l

/-- The STREAM_QUERY result (R118). -/
def streamResult (l : Lane) (id : Nat) : Bytes :=
  match streamCfg l id, streamRun l id with
  | some c, some s =>
    let k := s.counters
    let ver := match c.part with
      | .pmu _ => s.version
      | .sv p => p.profile
      | _ => 0
    let cnt := ((s.cfg.bind (·.blocks.head?)).map (·.cfgcnt)).getD 0
    le 1 s.state.code ++ le 1 c.type ++ le 1 ver ++ zeros 1 ++ le 4 k.accepted ++ le 4 k.size ++ le 4 k.decode ++
      le 4 k.auth ++ le 4 k.dup ++ le 4 k.state ++ le 4 k.missing ++ le 4 k.cfg ++ le 4 s.lastStatus ++
      le 8 s.lastTag.toNat ++ le 2 cnt ++ le 2 ((s.cfg.map (·.dataRate)).getD 0) ++ le 4 s.confRev ++ le 4 k.ignored
  | _, _ => zeros 60

/-- The checks of `laneStreamQuery`. -/
def streamQueryCheck (_ : Lane) (q : Request) : Status :=
  need (isZero (body q) 0 4) .badParam .ok

/-- The effect and result of `laneStreamQuery`. -/
def streamQueryApply (q : Request) (s : Lane) : Lane × Bytes :=
  (s, streamResult s (flowId q))

def laneStreamQuery (r : Request) (l : Lane) : Lane :=
  serve 0x0203 none streamQueryCheck streamQueryApply r l

/-! ### STREAM_LEARN_SET and STREAM_AUTH_SET (R143, R147) -/

def learnAsked (b : Bytes) : LearnTemplate :=
  { enable := field b 1 1 == 1, kind := field b 2 1, prefixLen := field b 3 1, portMask := field b 4 4,
    addrPrefix := slice b 8 16, matchLo := field b 24 2, matchHi := field b 26 2, idFirst := field b 28 2,
    idLast := field b 30 2, learnRate := field b 32 2, idleS := field b 34 2, common := slice b 36 32 }

/-- The common part of a template with the type and transport that its kind sets, and the template's ports. -/
def templateCommon (b : Bytes) : Bytes :=
  let kind := field b 2 1
  le 1 (if kind = 1 then 1 else 2) ++ le 1 (if kind = 3 then 1 else 0) ++ slice b 38 2 ++ slice b 40 28

/-- The ranges of R147. -/
def learnCheck (_ : Lane) (r : Request) : Status :=
  let b := body r
  need (field b 0 1 ≤ 15 && field b 1 1 ≤ 1 && inRange 1 3 (field b 2 1) && field b 3 1 ≤ 128 &&
    field b 4 4 < 4096 && field b 24 2 ≤ field b 26 2 && inRange 1 16383 (field b 28 2) &&
    inRange (field b 28 2) 16383 (field b 30 2) && inRange 1 100 (field b 32 2) && inRange 10 3600 (field b 34 2) &&
    commonOk (templateCommon b)) .badParam .ok

/-- The effect and result of `laneLearnSet`. -/
def learnSetApply (q : Request) (s : Lane) : Lane × Bytes :=
  ({ s with cfg := { s.cfg with learn := tput s.cfg.learn (field (body q) 0 1) (learnAsked (body q)) } }, [])

def laneLearnSet (r : Request) (l : Lane) : Lane :=
  serve 0x0204 none learnCheck learnSetApply r l

def authAsked (b : Bytes) : AuthPolicy :=
  { mode := field b 0 1, algorithm := field b 1 1, keySlot := field b 2 1, acceptOnLoss := bit (field b 3 1) 0,
    keyId := field b 4 4 }

/-- The key type of an algorithm: HMAC, AES-128, AES-256 (R143; slot types of R572). -/
def algorithmType (a : Nat) : Nat := if a = 0 then 3 else if a = 1 then 1 else 2

/-- The streams that can authenticate: PMU over UDP, SV, GOOSE (R143). -/
def canAuth (c : StreamCfg) : Bool :=
  match c.part with
  | .pmu _ => c.transport == 0
  | .sv _ => true
  | .legacy _ => c.transport == 1
  | _ => false

/-- R143: the ranges, the stream's type, and a key of the algorithm's type in the slot. -/
def authSetCheck (l : Lane) (r : Request) : Status :=
  let b := body r
  let p := authAsked b
  let k := tgetD l.keys.slots p.keySlot .dflt
  match streamCfg l (flowId r) with
  | none => .noResource
  | some c =>
    need (p.mode ≤ 2 && p.algorithm ≤ 2 && field b 3 1 ≤ 1 && isZero b 8 4 && (p.mode == 0 || canAuth c) &&
      (p.mode == 0 || (k.state != .empty && k.type == algorithmType p.algorithm))) .badParam .ok

/-- A KEY_LOST stream returns to ACTIVE with a valid key or mode 0 (R146). -/
def authSetApply (r : Request) (l : Lane) : Lane × Bytes :=
  let id := flowId r
  let p := authAsked (body r)
  let l1 := { l with cfg := { l.cfg with auth := tput l.cfg.auth id p } }
  let back := stateIs l id .keyLost && (p.mode == 0 || (usableKey l p.keySlot).isSome)
  (if back then enterState id .active l1 else l1, [])

def laneAuthSet (r : Request) (l : Lane) : Lane := serve 0x0205 none authSetCheck authSetApply r l

/-- A LEARNED context that receives no frame for idle_s becomes FREE (R149). -/
def laneLearnedIdle (id : Nat) (l : Lane) : Lane :=
  match streamRun l id with
  | some s =>
    let idle := ((s.learnedBy.bind (tget l.cfg.learn)).map (·.idleS)).getD 600
    if s.state = .learned && s.lastFrameAt + secTc idle ≤ l.tc then freeStream id l else l
  | none => l

end Sys2Proof.Machine
end

