-- ==== Sys2Proof/Machine/Mesh.lean ====
section
/-!
DEFINITION. The Picot field mesh (chapter 15, R506 to R531): its commands, slots, frames, relaying, joining and
links.
-/
namespace Sys2Proof.Machine

def meshCfg (l : Lane) (m : Nat) : MeshCfg := tgetD l.cfg.mesh m .dflt
def meshRun (l : Lane) (m : Nat) : MeshRun := tgetD l.mesh m .reset
def setMesh (m : Nat) (r : MeshRun) (l : Lane) : Lane := { l with mesh := tput l.mesh m r }
def countMesh (m : Nat) (f : MeshCounters → MeshCounters) (l : Lane) : Lane :=
  setMesh m { meshRun l m with counters := f (meshRun l m).counters } l

/-- The radio that an id of the class names: 20 for M0, 21 for M1. -/
def radioOf (r : Request) : Nat := flowId r - 20
def radioIdOk (r : Request) : Bool := flowId r == 20 || flowId r == 21

/-! ### Superframes, slots and channels (R508 to R511) -/

/-- S, the slots of a superframe, and the length of a slot in tc (R508). -/
def slotsPer (c : MeshCfg) : Nat := 2 ^ c.k
def slotTc (c : MeshCfg) : Nat := msTc c.slotMs

/-- P_max (R510). -/
def pMax (c : MeshCfg) : Nat := (1000 * c.slotMs - 2500) * (1000 * c.bitRateK) / 8000000 - (2 * c.pre + 20)

/-- The time of one octet on the air, and of the preamble and SFD, in tc (R510, R516). -/
def octetTc (c : MeshCfg) : Rat := mkRat 2000000 c.bitRateK
def sfdTc (c : MeshCfg) : Rat := octetTc c * (c.pre + 2 : Nat)

/-- Slots from anchor_s to now by Tension (R508), and tc since the present one began. -/
def rootSlot (l : Lane) (c : MeshCfg) : Nat × Rat :=
  let t := (l.time.time - c.anchorS * 2 ^ 64) * 1000
  let n := t / (2 ^ 64 * c.slotMs)
  (n, mkRat ((t % (2 ^ 64 * c.slotMs) : Nat) : Int) (2 ^ 64) * 250000)

/-- Slots by a member's slot timer (R523). -/
def memberSlot (l : Lane) (c : MeshCfg) (m : MemberSt) : Option (Nat × Rat) :=
  match m.timer with
  | none => none
  | some (at_, n) =>
    let d : Rat := (l.tc : Rat) - at_
    let k := (d / (slotTc c : Nat)).floor.toNat
    some (n + k, d - (k * slotTc c : Nat))

/-- The present slot, counted from the anchor, and the tc since it began: by Tension at the root, by the slot timer
at a member. -/
def slotNow (l : Lane) (m : Nat) : Option (Nat × Rat) :=
  let c := meshCfg l m
  if c.role = 2 then memberSlot l c (meshRun l m).member else some (rootSlot l c)

/-- The event counter of a slot count (R508). -/
def eventOf (c : MeshCfg) (n : Nat) : Nat := n / slotsPer c % 65536

/-- e now; 0 before a member has a slot timer. -/
def eventNow (l : Lane) (m : Nat) : Nat := ((slotNow l m).map (fun s => eventOf (meshCfg l m) s.1)).getD 0

/-- The signed 16-bit difference of event counters and report numbers (R508, R526). -/
def diff16 (a b : Nat) : Int := signed 16 (unsigned 16 ((a : Int) - (b : Int)))

/-- The channels of a map in ascending order. -/
def mapChannels (map : BitVec 64) : List Nat := (List.range 64).filter (map.getLsbD ·)

/-- The channel of slot s in superframe e (R511). -/
def channelOf (map : BitVec 64) (seed s e : Nat) : Nat :=
  let c0 := (seed + 7 * s + 37 * e) % 64
  if map.getLsbD c0 then c0 else (mapChannels map).getD (c0 % (mapChannels map).length) 0

/-- A grant holds in superframe e (R509). -/
def grantHolds (g : Grant) (e : Nat) : Bool := e % 2 ^ g.periodExp == g.phase

/-- Two grants hold one slot in some superframe (R509). -/
def grantsOverlap (a b : Grant) : Bool :=
  a.slot == b.slot && a.phase % 2 ^ (min a.periodExp b.periodExp) == b.phase % 2 ^ (min a.periodExp b.periodExp)

/-! ### Alarms and keys -/

/-- The network key cannot be used although MICs are required (R528). -/
def meshKeyLost (l : Lane) (m : Nat) : Bool :=
  (meshCfg l m).requireMic && (meshCfg l m).role != 0 && (usableKey l (meshCfg l m).keySlot).isNone

/-- A member without a parent (R525). -/
def parentless (l : Lane) (m : Nat) : Bool :=
  (meshCfg l m).role == 2 && (meshRun l m).member.parent.isNone && (meshRun l m).state != .off

/-- Alarms 324 + m and 326 + m (R507, R525, R528). -/
def meshAlarms (m : Nat) (l : Lane) : Lane :=
  let r := meshRun l m
  let lost := (meshCfg l m).role == 1 && r.nodes.any (fun e => e.2.lost)
  condAlarm (326 + m) lost
    (condAlarm (324 + m) (serving l && (r.state == .faulted || meshKeyLost l m || parentless l m)) l)

/-- Whether the lane transmits on a radio: a running root only with the lease (R527), a member always; nothing while
the key is lost (R528) or before the radio runs. -/
def mayTransmit (l : Lane) (m : Nat) : Bool :=
  serving l && !meshKeyLost l m &&
    (match (meshRun l m).state with
     | .root => isLeaseholder l
     | .scanning => true
     | .joined => true
     | _ => false : Bool)

/-! ### Frames (R512 to R514) -/

/-- One bit step and the FCS of IEEE 802.15.4 (R512): polynomial x^16 + x^12 + x^5 + 1, least significant bit
first, from 0. -/
def crc15Bits : Nat → Nat → Nat
  | 0, c => c
  | k + 1, c => crc15Bits k (if c % 2 = 1 then (c / 2) ^^^ 0x8408 else c / 2)
def crc15 (b : Bytes) : Nat := b.foldl (fun c x => crc15Bits 8 (c ^^^ x.toNat)) 0

/-- Whether a type is relayed: it carries a flood header (R513). -/
def isRelayed (t : Nat) : Bool := t == 1 || t == 3 || t == 4 || t == 5

/-- The lane's own address on a radio (R512). -/
def meshAddr (l : Lane) (m : Nat) : Nat :=
  if (meshCfg l m).role = 2 then ((meshRun l m).member.addr).getD 0xFFFE else 0

/-- The octets from the frame control to the end of the body. -/
def picotHead (c : MeshCfg) (src seq : Nat) (mic : Bool) (f : PicotTx) : Bytes :=
  le 2 (if f.ackReq then 0xA861 else 0xA841) ++ le 1 seq ++ le 2 c.panId ++ le 2 f.dest ++ le 2 src ++
    le 1 (f.type + 16 * f.version + 64 * b2n mic) ++
    (if isRelayed f.type then le 2 f.origin ++ le 2 f.oseq ++ le 1 f.ttl else []) ++ f.body

/-- The MIC (R514). -/
def picotMic (key : Bytes) (e : Nat) (head : Bytes) : Bytes := (cmac key (le 2 e ++ head)).take 4

/-- Whether a frame carries a MIC: with require_mic every frame but acknowledgements, and never version 1 (R514). -/
def carriesMic (c : MeshCfg) (f : PicotTx) : Bool := c.requireMic && f.type != 2 && f.version != 1

/-- The PSDU of a frame. -/
def picotPsdu (l : Lane) (m seq : Nat) (f : PicotTx) : Bytes :=
  let c := meshCfg l m
  let head := picotHead c (meshAddr l m) seq (carriesMic c f) f
  let mic := if carriesMic c f then picotMic (((usableKey l c.keySlot).map (·.material)).getD []) (eventNow l m) head
    else []
  head ++ mic ++ le 2 (crc15 (head ++ mic))

/-- Sends a frame: the radio's output, the sequence number of its link, and its count. -/
def radioSend (m seq : Nat) (f : PicotTx) (l : Lane) : Lane :=
  countMesh m (fun c => { c with txFrames := bump c.txFrames }) (emit (.radio m (picotPsdu l m seq f)) l)

/-- The next sequence number of a link. -/
def linkSeq (r : MeshRun) (dest : Nat) : Nat := tgetD r.txSeq dest 0

/-- A frame that the radio originates: ttl 7 and the next origin_seq (R513, R519). -/
def originate (m dest version type : Nat) (ackReq : Bool) (body : Bytes) (stamp : Bool) (l : Lane) : Lane × PicotTx :=
  let r := meshRun l m
  ({ l with mesh := tput l.mesh m { r with oseq := (r.oseq + 1) % 65536 } },
   { dest := dest, ackReq := ackReq, version := version, type := type, origin := meshAddr l m, oseq := r.oseq,
     ttl := 7, body := body, stamp := stamp })

/-- The length of a frame's PSDU. -/
def psduLen (c : MeshCfg) (f : PicotTx) : Nat :=
  12 + (if isRelayed f.type then 5 else 0) + f.body.length + (if carriesMic c f then 4 else 0)

/-- A frame waits in the radio's egress queue (R519). -/
def radioQueue (m : Nat) (f : PicotTx) (l : Lane) : Lane :=
  enqueueOrWait (46 + m) (frameEntries (psduLen (meshCfg l m) f)) (.radio f) l

/-! ### Grants and joining at the root (R520 to R522) -/

/-- The grants that a node holds, without those suspended. -/
def grantsOf (l : Lane) (m node : Nat) : List Grant :=
  l.cfg.grants.filter (fun g => g.radio == m && g.node == node && !(meshRun l m).suspended.contains g)

/-- The slot grant frame of a node (R513): its first eight grants; the instant is set as it is first sent. -/
def grantBody (node : Nat) (instant : Nat) (gs : List Grant) : Bytes :=
  le 2 node ++ le 2 instant ++ le 1 (gs.take 8).length ++
    ((gs.take 8).map (fun g => le 1 g.slot ++ le 1 (b2n g.beacon) ++ le 1 g.periodExp ++ le 1 g.phase)).flatten

/-- The version of a node's link; the root's highest before it has joined. -/
def nodeVersion (l : Lane) (m node : Nat) : Nat :=
  ((tget (meshRun l m).nodes node).map (·.version)).getD (meshCfg l m).maxVersion

/-- The root sends a node its grants (R521, R530); the standby only records them (R527). -/
def sendGrants (m node : Nat) (l : Lane) : Lane :=
  if (meshRun l m).state == .root && isLeaseholder l && ((tget (meshRun l m).nodes node).any (·.joined)) then
    let o := originate m 0xFFFF (nodeVersion l m node) 5 false (grantBody node 0 (grantsOf l m node)) true l
    radioQueue m o.2 o.1
  else l

/-- The last beacon slot of a node's parent: slot 0 at the root, the highest of its beacon grants at a router
(R520). -/
def beaconSlotOf (l : Lane) (m node : Nat) : Nat :=
  if node = 0 then 0
  else (((grantsOf l m node).filter (·.beacon)).map (·.slot)).foldl max 0
def parentBeaconSlot (l : Lane) (m node : Nat) : Nat :=
  match tget (meshRun l m).nodes node with
  | some n => beaconSlotOf l m n.parent
  | none => 0

/-- The status of a join response (R521). -/
def joinStatus (l : Lane) (m eui maxVersion : Nat) : Nat × Option MeshNode :=
  match l.cfg.nodes.find? (fun e => e.1 / 65536 == m && e.2.eui64 == eui) with
  | none => (1, none)
  | some (_, n) =>
    if (meshCfg l m).requireMic && maxVersion == 1 then (2, some n)
    else if (tget (meshRun l m).nodes n.shortAddr).any (fun x => x.joined && !x.lost) then (3, some n)
    else (0, some n)

/-- A node joins (R521): version, depth and parent, its report check restarts, and beacon grants that its new parent
makes unlawful are suspended (R530). -/
def nodeJoins (m : Nat) (n : MeshNode) (parent version : Nat) (l : Lane) : Lane :=
  let r := meshRun l m
  let depth := if parent = 0 then 1 else ((tget r.nodes parent).map (·.depth + 1)).getD 1
  let run : NodeRun :=
    { joined := true, lost := false, lastHeard := l.tc, version := version, depth := depth, parent := parent }
  let limit := beaconSlotOf l m parent
  let bad := l.cfg.grants.filter (fun g => g.radio == m && g.node == n.shortAddr && g.beacon && g.slot ≤ limit)
  let r1 := { r with
    nodes := tput r.nodes n.shortAddr run
    reports := tdel r.reports n.shortAddr
    suspended := r.suspended ++ bad.filter (fun g => !r.suspended.contains g) }
  setMesh m r1 l

/-- A join request reaches the root (R521). The parent is the last relay, or the root itself (log 20). The standby hears
it too and keeps the node, but answers nothing (R527). -/
def joinRequest (m src : Nat) (body : Bytes) (l : Lane) : Lane :=
  let c := meshCfg l m
  let eui := field body 0 8
  let maxV := field body 8 1
  let st := joinStatus l m eui maxV
  let parent := if src = 0xFFFE || st.2.any (fun n => n.shortAddr == src) then 0 else src
  let version := min maxV c.maxVersion
  if !(isLeaseholder l) then
    match st.1, st.2 with
    | 0, some n => meshAlarms m (nodeJoins m n parent version l)
    | _, _ => l
  else
    let addr := (st.2.map (·.shortAddr)).getD 0xFFFE
    let l1 := match st.1, st.2 with
      | 0, some n => countMesh m (fun c => { c with joins := bump c.joins }) (nodeJoins m n parent version l)
      | 3, some n => logFault .event .radio 0 n.shortAddr none (le 8 eui) l
      | _, _ => l
    let depth := ((tget (meshRun l1 m).nodes addr).map (·.depth)).getD 0
    let body1 := le 8 eui ++ le 1 st.1 ++ le 2 addr ++ le 2 parent ++ le 1 version ++ le 1 depth
    let o := originate m 0xFFFF version 4 false body1 false l1
    let l2 := radioQueue m o.2 o.1
    meshAlarms m (if st.1 = 0 then sendGrants m addr l2 else l2)

/-! ### MESH_SET (R528) -/

/-- A radio starts: the root at once, a member scanning. -/
def meshBegin (m : Nat) (l : Lane) : Lane :=
  let c := meshCfg l m
  let r := meshRun l m
  let st : RadioState := if c.role = 0 then .off else if c.role = 1 then .root else .scanning
  let r1 : MeshRun :=
    { r with state := st, map := c.map, pending := none, unacked := none, ack := none, slot := none,
             transmitting := false, seen := [], nodes := [], suspended := [], instants := [], reports := [],
             member := .new l.tc }
  meshAlarms m (setMesh m r1 l)

/-- The initialisation script's compares (R507): one that fails is retried once; failing again, the radio is FAULTED
until the next MESH_SET. `first` and `retry`: whether the compares match. -/
def meshInit (m : Nat) (first retry : Bool) (l : Lane) : Lane :=
  let compares := (meshCfg l m).script.any (fun e => e.event == 0 && e.op == 1)
  if first || !compares || (meshCfg l m).role = 0 then l
  else if retry then transientFault .radio m l
  else
    meshAlarms m (lastingFault .radio m (setMesh m { meshRun l m with state := .faulted } l))

/-- The script of MESH_SET. -/
def scriptAsked (b : Bytes) : List ScriptEntry :=
  (List.range (field b 46 1)).map (fun i =>
    { event := field b (48 + 8 * i) 1, op := field b (49 + 8 * i) 1, len := field b (50 + 8 * i) 1,
      data := slice b (52 + 8 * i) 4 })

def meshAsked (b : Bytes) : MeshCfg :=
  { role := field b 0 1, fsk := field b 1 1, bitRateK := field b 2 2, pre := field b 4 1, k := field b 5 1,
    slotMs := field b 6 1, hopSeed := field b 7 1, map := BitVec.ofNat 64 (field b 8 8), anchorS := field b 16 8,
    panId := field b 24 2, rxWindowUs := field b 26 2, supervisionSf := field b 28 1, maxVersion := field b 29 1,
    joinOpen := bit (field b 30 1) 0, requireMic := bit (field b 30 1) 1, keySlot := field b 31 1,
    eui64 := field b 32 8, spiKhz := field b 40 2, txLatencyNs := field b 42 2, rxLatencyNs := field b 44 2,
    script := scriptAsked b }

/-- The ranges of R507 and R528, and P_max of at least 48 octets. -/
def meshSetCheck (l : Lane) (r : Request) : Status :=
  let b := body r
  let c := meshAsked b
  need (radioIdOk r && c.role ≤ 2 && c.fsk ≤ 1 && [50, 100, 150, 200, 300, 400].contains c.bitRateK &&
    inRange 4 32 c.pre && inRange 4 8 c.k && inRange 4 64 c.slotMs && c.hopSeed ≤ 63 &&
    2 ≤ (mapChannels c.map).length && c.anchorS ≤ nowSec l && c.panId ≤ 0xFFFE && inRange 50 200 c.rxWindowUs &&
    inRange 2 64 c.supervisionSf && inRange 1 2 c.maxVersion && field b 30 1 < 4 &&
    (!c.requireMic || (usableKey l c.keySlot).any (fun k => k.type == 1)) && inRange 1000 20000 c.spiKhz &&
    inRange 1 64 (field b 46 1) && isZero b 47 1 &&
    c.script.all (fun e => e.event ≤ 4 && e.op ≤ 5 && e.len ≤ 4) &&
    (List.range (field b 46 1)).all (fun i => isZero b (51 + 8 * i) 1) &&
    48 ≤ pMax c) .badParam .ok

/-- The radio runs: neither off nor FAULTED. -/
def radioRuns (r : MeshRun) : Bool := r.state != .off && r.state != .faulted

/-- A change of the map alone on a running root is announced eight superframes ahead; any other change stops a
running radio until the next superframe boundary and starts a radio that is off (R528). -/
def meshSetApply (first retry : Bool) (r : Request) (l : Lane) : Lane × Bytes :=
  let m := radioOf r
  let old := meshCfg l m
  let c := meshAsked (body r)
  let run := meshRun l m
  let l1 := { l with cfg := { l.cfg with mesh := tput l.cfg.mesh m c } }
  if run.state == .root && { old with map := c.map } == c && old.map != c.map then
    (setMesh m { run with pending := some (c.map, (eventNow l m + 8) % 65536) } l1, [])
  else if old == c && radioRuns run then (l1, [])
  else if radioRuns run && c.role != 0 then
    (meshInit m first retry (setMesh m { run with state := .stopped } l1), [])
  else (meshInit m first retry (meshBegin m l1), [])

def laneMeshSet (first retry : Bool) (r : Request) (l : Lane) : Lane :=
  serve 0x0A00 none meshSetCheck (meshSetApply first retry) r l

/-! ### Nodes and grants (R529, R530) -/

def nodeAsked (b : Bytes) : MeshNode :=
  { eui64 := field b 0 8, shortAddr := field b 8 2, router := bit (field b 10 1) 0 }

def nodesOf (l : Lane) (m : Nat) : Table MeshNode := l.cfg.nodes.filter (fun e => e.1 / 65536 == m)

def nodeAddCheck (l : Lane) (r : Request) : Status :=
  let b := body r
  let n := nodeAsked b
  let t := nodesOf l (radioOf r)
  need (radioIdOk r && inRange 1 0xFFFD n.shortAddr && field b 10 1 ≤ 1 && isZero b 11 5 &&
    !t.any (fun e => e.2.eui64 == n.eui64 || e.2.shortAddr == n.shortAddr)) .badParam <|
  need (t.length < 512) .limitExceeded .ok

def nodeAddApply (r : Request) (l : Lane) : Lane × Bytes :=
  let n := nodeAsked (body r)
  ({ l with cfg := { l.cfg with nodes := tput l.cfg.nodes (65536 * radioOf r + n.shortAddr) n } }, [])

def laneNodeAdd (r : Request) (l : Lane) : Lane := serve 0x0A01 none nodeAddCheck nodeAddApply r l

/-- A stream context names the node (R114, R529). -/
def nodeNamed (l : Lane) (m addr : Nat) : Bool :=
  l.cfg.streams.any (fun e => match e.2.part with
    | .mesh radio node => radio == m && node == addr
    | _ => false)

def nodeRemoveCheck (l : Lane) (r : Request) : Status :=
  let b := body r
  need (radioIdOk r && isZero b 2 6) .badParam <|
  need ((tget l.cfg.nodes (65536 * radioOf r + field b 0 2)).isSome && !nodeNamed l (radioOf r) (field b 0 2))
    .noResource .ok

/-- The node leaves the table with its grants (R529). -/
def nodeRemoveApply (r : Request) (l : Lane) : Lane × Bytes :=
  let m := radioOf r
  let a := field (body r) 0 2
  let run := meshRun l m
  let gone := fun (g : Grant) => g.radio == m && g.node == a
  let l1 := { l with cfg := { l.cfg with
    nodes := tdel l.cfg.nodes (65536 * m + a), grants := l.cfg.grants.filter (fun g => !gone g) } }
  (meshAlarms m (setMesh m { run with
    nodes := tdel run.nodes a, reports := tdel run.reports a, instants := tdel run.instants a
    suspended := run.suspended.filter (fun g => !gone g) } l1), [])

def laneNodeRemove (r : Request) (l : Lane) : Lane := serve 0x0A02 none nodeRemoveCheck nodeRemoveApply r l

def grantAsked (r : Request) : Grant :=
  let b := body r
  { radio := radioOf r, node := field b 0 2, slot := field b 2 1, beacon := field b 3 1 == 1,
    periodExp := field b 4 1, phase := field b 5 1 }

/-- The ranges of R530; role root only. -/
def grantFieldsOk (l : Lane) (r : Request) : Bool :=
  let b := body r
  let g := grantAsked r
  radioIdOk r && (meshCfg l (radioOf r)).role == 1 &&
    inRange 1 (slotsPer (meshCfg l (radioOf r)) - 2) g.slot && field b 3 1 ≤ 1 && g.periodExp ≤ 3 &&
    g.phase < 2 ^ g.periodExp && isZero b 7 1

/-- ASSIGN (R530): a suspended grant is assigned again. -/
def assignCheck (l : Lane) (r : Request) : Status :=
  let g := grantAsked r
  let m := radioOf r
  let again := (meshRun l m).suspended.contains g
  let node := tget l.cfg.nodes (65536 * m + g.node)
  need (grantFieldsOk l r &&
    (!g.beacon || (node.all (·.router) && decide (parentBeaconSlot l m g.node < g.slot)))) .badParam <|
  need (node.isSome && (again ||
    !l.cfg.grants.any (fun x => x.radio == m && grantsOverlap x g))) .noResource .ok

/-- The root's grant table (R530); the node hears of it. -/
def assignApply (r : Request) (l : Lane) : Lane × Bytes :=
  let g := grantAsked r
  let m := radioOf r
  let run := meshRun l m
  let gs := if l.cfg.grants.contains g then l.cfg.grants else l.cfg.grants ++ [g]
  let l1 := { l with cfg := { l.cfg with grants := gs } }
  (sendGrants m g.node (setMesh m { run with suspended := run.suspended.filter (· != g) } l1), [])

def laneSlotAssign (r : Request) (l : Lane) : Lane := serve 0x0A03 (some 0) assignCheck assignApply r l

def releaseCheck (l : Lane) (r : Request) : Status :=
  need (grantFieldsOk l r) .badParam <| need (l.cfg.grants.contains (grantAsked r)) .noResource .ok

def releaseApply (r : Request) (l : Lane) : Lane × Bytes :=
  let g := grantAsked r
  let m := radioOf r
  let run := meshRun l m
  let l1 := { l with cfg := { l.cfg with grants := l.cfg.grants.filter (· != g) } }
  (sendGrants m g.node (setMesh m { run with suspended := run.suspended.filter (· != g) } l1), [])

def laneSlotRelease (r : Request) (l : Lane) : Lane := serve 0x0A03 (some 1) releaseCheck releaseApply r l

/-- MESH_QUERY's state (R531). -/
def radioStateCode (l : Lane) (m : Nat) : Nat :=
  match (meshRun l m).state with
  | .off => 0
  | .stopped => if (meshCfg l m).role = 2 then 4 else if isLeaseholder l then 1 else 2
  | .root => if isLeaseholder l then 1 else 2
  | .joined => 3
  | .scanning => 4
  | .faulted => 5

/-- The result of R531. -/
def meshResult (l : Lane) (m : Nat) : Bytes :=
  let r := meshRun l m
  let k := r.counters
  let member := (meshCfg l m).role == 2
  le 1 (radioStateCode l m) ++ le 1 (if member then r.member.depth else 0) ++ le 2 (eventNow l m) ++
    le 2 (if member then r.member.parent.getD 0xFFFF else 0xFFFF) ++
    le 2 (r.nodes.filter (fun e => e.2.joined && !e.2.lost)).length ++ le 2 (r.nodes.filter (·.2.lost)).length ++
    le 2 (pMax (meshCfg l m)) ++ le 4 k.crc ++ le 4 k.length ++ le 4 k.foreign ++ le 4 k.bad ++ le 4 k.auth ++
    le 4 k.dup ++ le 4 k.txFrames ++ le 4 k.txFailed ++ le 4 k.retrans ++ le 4 k.missed ++ le 4 k.joins

/-- The checks of `laneMeshQuery`. -/
def meshQueryCheck (_ : Lane) (q : Request) : Status :=
  need (radioIdOk q && isZero (body q) 0 4) .badParam .ok

/-- The effect and result of `laneMeshQuery`. -/
def meshQueryApply (q : Request) (s : Lane) : Lane × Bytes :=
  (s, meshResult s (radioOf q))

def laneMeshQuery (r : Request) (l : Lane) : Lane :=
  serve 0x0A04 none meshQueryCheck meshQueryApply r l

/-! ### Slots (R508 to R511, R517, R519 to R524) -/

/-- The fine tag of the `SFD` of a frame sent in a slot that began `into` tc ago (R513): by Tension at the root, by
the tag clock at a member. -/
def sfdTag (l : Lane) (m : Nat) (into : Rat) : FineTag :=
  let c := meshCfg l m
  let ahead : Rat := (usTc 1000 : Nat) + sfdTc c - into
  if c.role = 2 then
    match (meshRun l m).member.tag with
    | some (t, at_) => t + BitVec.ofInt 40 (((l.tc : Rat) + ahead - at_) * 2 ^ 24 / 250000000).floor
    | none => 0
  else nowTag l + BitVec.ofInt 40 (((l.time.time % 2 ^ 40 : Nat) : Rat) / 2 ^ 40 + ahead * 2 ^ 24 / 250000000).floor

/-- The beacon (R513). -/
def beaconFrame (l : Lane) (m : Nat) (e : Nat) (into : Rat) : PicotTx :=
  let c := meshCfg l m
  let r := meshRun l m
  let member := c.role == 2
  let locked := if member then bit r.member.parentFlags 1 else l.time.state == .locked
  let flags := b2n c.joinOpen + 2 * b2n locked + 4 * b2n c.requireMic + 8 * b2n r.pending.isSome
  let quality := if member then r.member.parentQuality else fracQuality l
  let pm := (r.pending.map (·.1.toNat)).getD 0
  let pi := (r.pending.map (·.2)).getD 0
  { dest := 0xFFFF, ackReq := false, version := c.maxVersion, type := 0, origin := 0, oseq := 0, ttl := 0,
    body := le 2 e ++ le 5 (sfdTag l m into).toNat ++ le 1 c.k ++ le 1 c.slotMs ++
      le 1 (if member then r.member.depth else 0) ++ le 1 flags ++ le 1 c.hopSeed ++ le 8 r.map.toNat ++ le 8 pm ++
      le 2 pi ++ (if c.maxVersion = 2 then le 1 quality else []), stamp := false }

/-- Sends a frame of the queue or a repeat: frames that ask for an acknowledgement wait for it (R516, R517). -/
def sendData (m seq sent : Nat) (f : PicotTx) (into : Rat) (l : Lane) : Lane :=
  let c := meshCfg l m
  let e := eventNow l m
  let f1 := if f.stamp then { f with body := f.body.take 2 ++ le 2 ((e + 4) % 65536) ++ f.body.drop 4, stamp := false }
    else f
  let l1 := radioSend m seq f1 l
  let r := meshRun l1 m
  let endAt : Rat := (l.tc : Rat) - into + (usTc 1000 : Nat) + sfdTc c + octetTc c * (psduLen c f1 + 2 : Nat)
  let inst := if f.stamp then tput r.instants (field f1.body 0 2) ((e + 4) % 65536) else r.instants
  let wait : Option Unacked :=
    if f1.ackReq then some { frame := f1, sent := sent, seq := seq, ackAt := endAt + (usTc 1000 : Nat) + sfdTc c }
    else none
  setMesh m { r with instants := inst, unacked := wait } l1

/-- A data slot (R517, R519): a frame without its acknowledgement is sent again, four times in all, and comes before
any new frame; otherwise the oldest frame of the egress queue. A frame above P_max is never transmitted (R510). The time without an
acknowledgement runs from the first frame that has had none (R525). -/
def dataSlot (m : Nat) (into : Rat) (l : Lane) : Lane :=
  let r := meshRun l m
  let drop : Bool := match r.unacked with
    | some u => 4 ≤ u.sent
    | none => false
  let l1 :=
    if drop then
      setMesh m { r with unacked := none, counters := { r.counters with txFailed := bump r.counters.txFailed } } l
    else l
  match (meshRun l1 m).unacked with
  | some u =>
    sendData m u.seq (u.sent + 1) u.frame into
      (countMesh m (fun c => { c with retrans := bump c.retrans }) l1)
  | none =>
    match headItem l1 (46 + m) with
    | some { payload := .radio f, .. } =>
      let l2 := popItem (46 + m) l1
      if pMax (meshCfg l2 m) < psduLen (meshCfg l2 m) f then
        countMesh m (fun c => { c with txFailed := bump c.txFailed }) l2
      else
        let r2 := meshRun l2 m
        let seq := linkSeq r2 f.dest
        let x := if drop then r2.member else { r2.member with lastAck := l.tc }
        sendData m seq 1 f into (setMesh m { r2 with txSeq := tput r2.txSeq f.dest ((seq + 1) % 256), member := x } l2)
    | _ => l1

/-- Sends a beacon in the present slot. -/
def sendBeacon (m : Nat) (into : Rat) (l : Lane) : Lane :=
  let r := meshRun l m
  let seq := linkSeq r 0xFFFF
  radioSend m seq (beaconFrame l m (eventNow l m) into)
    (setMesh m { r with txSeq := tput r.txSeq 0xFFFF ((seq + 1) % 256) } l)

/-- A lane that begins to transmit as root sends again the grants whose instants have not passed (R527). -/
def resendGrants (m : Nat) (l : Lane) : Lane :=
  (meshRun l m).nodes.foldl
    (fun acc n =>
      let ahead := match tget (meshRun acc m).instants n.1 with
        | some i => decide (0 < diff16 i (eventNow acc m))
        | none => !(grantsOf acc m n.1).isEmpty
      if ahead then sendGrants m n.1 acc else acc) l

/-- A root that has lost the lease loses the frames that it had queued (R527). -/
def dropQueued (m : Nat) (l : Lane) : Lane :=
  setMesh m { meshRun l m with unacked := none, ack := none }
    (setQueue (46 + m) { queueOf l (46 + m) with items := [], waiting := [] } l)

/-- The root's slot (R509, R519, R527): the beacon in slot 0; waiting frames in a slot that no grant holds (log 21). -/
def rootSlotStart (m s e : Nat) (into : Rat) (l : Lane) : Lane :=
  let r := meshRun l m
  let tx := mayTransmit l m
  let l1 := setMesh m { r with transmitting := tx } l
  let l2 := if tx && !r.transmitting then resendGrants m l1 else l1
  let free := !l2.cfg.grants.any (fun g => g.radio == m && g.slot == s && grantHolds g e)
  if !tx then (if r.transmitting then dropQueued m l2 else l2)
  else if s = 0 then sendBeacon m into l2
  else if s + 1 < slotsPer (meshCfg l m) && free then dataSlot m into l2
  else l2

/-- Grants whose instant has come apply (R522). -/
def applyComing (e : Nat) (x : MemberSt) : MemberSt :=
  { x with
    grants := ((x.coming.filter (fun g => decide (0 ≤ diff16 e g.1))).getLast?.map (·.2)).getD x.grants
    coming := x.coming.filter (fun g => !decide (0 ≤ diff16 e g.1)) }

/-- A member's slot (R519 to R521, R524): its own beacon and data slots once joined, the join request in the join
slot with probability 1/4 (`coin`) while it has chosen a beacon; nothing while its parent is lost. -/
def memberSlotStart (m s e : Nat) (into : Rat) (coin : Bool) (l : Lane) : Lane :=
  let r := meshRun l m
  let x := applyComing e r.member
  let l1 := setMesh m { r with member := x } l
  let mine := fun (b : Bool) => x.grants.any (fun g => g.slot == s && g.beacon == b && grantHolds g e)
  let c := meshCfg l m
  if !mayTransmit l1 m then l1
  else if r.state == .joined then
    if mine true then sendBeacon m into l1 else if mine false then dataSlot m into l1 else l1
  else
    match x.candidate with
    | some (parent, _) =>
      if s + 1 = slotsPer c && coin && x.request.isNone then
        let o := originate m parent c.maxVersion 3 true (le 8 c.eui64 ++ le 1 c.maxVersion ++ le 1 1) false l1
        let r2 := meshRun o.1 m
        let seq := linkSeq r2 parent
        let l2 := setMesh m { r2 with
          txSeq := tput r2.txSeq parent ((seq + 1) % 256), member := { r2.member with request := some l.tc } } o.1
        sendData m seq 1 o.2 into l2
      else l1
    | none => l1

/-- A slot starts (R508 to R511): a stopped radio starts at the superframe boundary (R528), an announced map applies
at its instant, and the slot's transmission leaves. -/
def laneSlotStart (m : Nat) (coin : Bool) (l : Lane) : Lane :=
  if !serving l || !radioRuns (meshRun l m) then l
  else
    let c := meshCfg l m
    let start := (meshRun l m).state == .stopped && (slotNow l m).all (fun s => s.1 % slotsPer c == 0)
    let l0 := if start then meshBegin m l else meshAlarms m l
    match slotNow l0 m with
    | none => l0
    | some (n, into) =>
      let r := meshRun l0 m
      if r.slot == some n || r.state == .stopped then l0
      else
        let e := eventOf c n
        let due := r.pending.any (fun p => decide (0 ≤ diff16 e p.2))
        let r1 := { r with
          slot := some n
          map := if due then (r.pending.map (·.1)).getD r.map else r.map
          pending := if due then none else r.pending }
        let l1 := setMesh m r1 l0
        if r.state == .root then rootSlotStart m (n % slotsPer c) e into l1
        else memberSlotStart m (n % slotsPer c) e into coin l1

/-- 1,000 µs after the end of a data frame its acknowledgement leaves (R516). -/
def laneAckSend (m : Nat) (l : Lane) : Lane :=
  match (meshRun l m).ack with
  | none => l
  | some (dest, seq, version, at_) =>
    if (l.tc : Rat) < at_ then l
    else
      let l1 := setMesh m { meshRun l m with ack := none } l
      let f : PicotTx :=
        { dest := dest, ackReq := false, version := version, type := 2, origin := 0, oseq := 0, ttl := 0, body := [],
          stamp := false }
      if mayTransmit l m then radioSend m seq f l1 else l1

/-! ### Receiving (R515, R516, R518, R519) -/

/-- A received frame, taken apart (R512, R513). -/
structure PicotRx where
  control : Nat
  seq : Nat
  pan : Nat
  dest : Nat
  src : Nat
  type : Nat
  version : Nat
  hasMic : Bool
  origin : Nat
  oseq : Nat
  ttl : Nat
  body : Bytes
  mic : Bytes
  head : Bytes
deriving DecidableEq, Repr

def parsePicot (p : Bytes) : PicotRx :=
  let t := field p 9 1
  let type := t % 16
  let mic := bit t 6
  let start := if isRelayed type then 15 else 10
  let stop := p.length - 2 - (if mic then 4 else 0)
  { control := field p 0 2, seq := field p 2 1, pan := field p 3 2, dest := field p 5 2, src := field p 7 2,
    type := type, version := bits t 5 4, hasMic := mic, origin := field p 10 2, oseq := field p 12 2,
    ttl := field p 14 1 % 8, body := slice p start (stop - start), mic := slice p stop (if mic then 4 else 0),
    head := p.take stop }

/-- The exact body length of a type (check 4 of R515). -/
def bodyExact (f : PicotRx) : Bool :=
  let n := f.body.length
  match f.type with
  | 0 => n == (if f.version = 2 then 31 else 30)
  | 1 => inRange 1 16 (field f.body 8 1) && n == 9 + 6 * field f.body 8 1
  | 2 => n == 0
  | 3 => n == 10
  | 4 => n == 15
  | 5 => field f.body 4 1 ≤ 8 && n == 5 + 4 * field f.body 4 1
  | _ => false

/-- The length left for a body is not negative. -/
def picotRoom (p : Bytes) (f : PicotRx) : Bool :=
  (if isRelayed f.type then 17 else 12) + (if f.hasMic then 4 else 0) ≤ p.length

/-- Check 6 of R515: the MIC against e and then e − 1, or absent and not required; nothing passes while the key is
lost (R528). -/
def micOk (l : Lane) (m : Nat) (f : PicotRx) : Bool :=
  let c := meshCfg l m
  if meshKeyLost l m then false
  else if f.hasMic then
    match usableKey l c.keySlot with
    | some k =>
      let e := eventNow l m
      f.version != 1 && (picotMic k.material e f.head == f.mic || picotMic k.material ((e + 65535) % 65536) f.head == f.mic)
    | none => false
  else !c.requireMic || f.type == 2

/-- Check 5 of R515. -/
def picotForUs (l : Lane) (m : Nat) (f : PicotRx) : Bool := f.dest == meshAddr l m || f.dest == 0xFFFF

/-- The root acknowledges the nodes of its table, and the nodes without an address that ask to join (R521, R529). -/
def acksSender (l : Lane) (m : Nat) (f : PicotRx) : Bool :=
  if (meshCfg l m).role = 1 then
    (f.src == 0xFFFE && f.type == 3) || (tget l.cfg.nodes (65536 * m + f.src)).isSome
  else true

/-- An acknowledgement is due 1,000 µs after the frame's end (R516). A lane acknowledges from its next slot on after
it acquires the lease (R527). -/
def ackDue (m : Nat) (f : PicotRx) (fallAgo : Nat) (l : Lane) : Lane :=
  let r := meshRun l m
  let runs := r.state != .root || r.transmitting
  if f.control == 0xA861 && f.dest == meshAddr l m && mayTransmit l m && runs && acksSender l m f then
    setMesh m { r with ack := some (f.src, f.seq, f.version, (l.tc : Rat) - (fallAgo : Nat) + (usTc 1000 : Nat)) } l
  else l

/-- The lane is a router: it holds a beacon grant (R519, R520). -/
def isRouter (l : Lane) (m : Nat) : Bool :=
  (meshRun l m).state == .joined && (meshRun l m).member.grants.any (·.beacon)

/-- A member delivers the reports whose origin has a Mesh context; the root delivers all (R526). -/
def meshStream (l : Lane) (m origin : Nat) : Option Nat :=
  (l.cfg.streams.find? (fun e => match e.2.part with
    | .mesh radio node => radio == m && node == origin
    | _ => false)).map (·.1)
def deliversReport (l : Lane) (m : Nat) (f : PicotRx) : Bool :=
  f.type == 1 && ((meshCfg l m).role == 1 || (meshStream l m f.origin).isSome)

/-- The frame is forwarded (R519): an upstream frame by a router it is addressed to, a downstream one by every
router, while ttl is above 0. -/
def forwards (l : Lane) (m : Nat) (f : PicotRx) : Bool :=
  isRouter l m && 0 < f.ttl &&
    (((f.type == 1 || f.type == 3) && f.dest == meshAddr l m) || f.type == 4 || f.type == 5)

/-- The forwarded frame: upstream to the parent with an acknowledgement request, downstream to all. -/
def forwarded (l : Lane) (m : Nat) (f : PicotRx) : PicotTx :=
  let up := f.type == 1 || f.type == 3
  { dest := if up then (meshRun l m).member.parent.getD 0 else 0xFFFF, ackReq := up, version := f.version,
    type := f.type, origin := f.origin, oseq := f.oseq, ttl := f.ttl - 1, body := f.body, stamp := false }

/-- Check 8 of R515: room for what the frame enters. -/
def picotRoomOk (l : Lane) (m : Nat) (f : PicotRx) : Bool :=
  (!deliversReport l m f ||
    queueHeld (queueOf l (20 + m)) + frameEntries f.body.length ≤ depthLimit l (20 + m)) &&
  (!forwards l m f ||
    queueHeld (queueOf l (46 + m)) + frameEntries (psduLen (meshCfg l m) (forwarded l m f)) ≤ depthLimit l (46 + m))

/-- A full queue drops the frame and counts it (R161). -/
def countFull (m : Nat) (f : PicotRx) (l : Lane) : Lane :=
  let n := if deliversReport l m f then 20 + m else 46 + m
  let q := queueOf l n
  setQueue n { q with droppedFull := bump q.droppedFull } l

/-- The seen cache takes a frame; the oldest of 1,024 is replaced (R518). -/
def noteSeen (m : Nat) (f : PicotRx) (l : Lane) : Lane :=
  let r := meshRun l m
  let s := r.seen ++ [(f.origin, f.oseq, l.tc)]
  setMesh m { r with seen := s.drop (s.length - 1024) } l

/-- A frame from a node has been heard: a LOST node is JOINED again (R525). -/
def heardNode (m addr : Nat) (l : Lane) : Lane :=
  let r := meshRun l m
  setMesh m { r with nodes := tmod r.nodes addr (fun n => { n with lost := false, lastHeard := l.tc }) } l

/-- A member resynchronises its slot timer (R523): by the difference between the measured `SFD` rise, `riseAgo` tc
ago, and the predicted one. -/
def resync (m : Nat) (riseAgo : Nat) (l : Lane) : Lane :=
  let c := meshCfg l m
  let r := meshRun l m
  match r.member.timer, memberSlot l c r.member with
  | some (at_, n), some (_, into) =>
    let measured : Rat := (l.tc : Rat) - (riseAgo : Nat) - mkRat (c.rxLatencyNs : Int) 4
    let predicted : Rat := (l.tc : Rat) - into + (usTc 1000 : Nat) + sfdTc c
    setMesh m { r with member := { r.member with timer := some (at_ + (measured - predicted), n) } } l
  | _, _ => l

/-- The slot timer and tag clock that a beacon sets at a member (R521, R523): the slot is that in which its tx_tag
falls. -/
def beaconClock (l : Lane) (m : Nat) (riseAgo : Nat) (body : Bytes) : (Rat × Nat) × (FineTag × Rat) :=
  let c := meshCfg l m
  let tag := BitVec.ofNat 40 (field body 2 5)
  let rise : Rat := (l.tc : Rat) - (riseAgo : Nat) - mkRat (c.rxLatencyNs : Int) 4
  let full := joinTag l tag - ((c.anchorS * 2 ^ 24 : Nat) : Int)
  let sf : Int := ((2 ^ 24 * slotsPer c * c.slotMs : Nat) : Int)
  let s := (full * 1000 % sf / ((2 ^ 24 * c.slotMs : Nat) : Int)).toNat
  ((rise - (usTc 1000 : Nat) - sfdTc c, field body 0 2 * slotsPer c + s), (tag, rise))

/-- A member hears a beacon (R521, R523, R524): its parent's resynchronises, restores the window, and tells the map in
force and the one announced; while scanning, one with join open and depth below 7 is chosen. -/
def hearBeacon (m : Nat) (f : PicotRx) (riseAgo : Nat) (l : Lane) : Lane :=
  let c := meshCfg l m
  let r := meshRun l m
  let x := r.member
  let k := beaconClock l m riseAgo f.body
  let flags := field f.body 10 1
  let depth := field f.body 9 1
  let quality := if f.version = 2 then field f.body 30 1 else 0xF
  let pend := if bit flags 3 then some (BitVec.ofNat 64 (field f.body 20 8), field f.body 28 2) else none
  if r.state == .joined && x.parent == some f.src then
    let x1 := { x with
      timer := some k.1, tag := some k.2, misses := 0, beaconSf := some (k.1.2 / slotsPer c)
      parentSlot := k.1.2 % slotsPer c, parentFlags := flags, parentQuality := quality }
    setMesh m { r with member := x1, pending := pend, map := BitVec.ofNat 64 (field f.body 12 8) } l
  else if r.state == .scanning && x.candidate.isNone && bit flags 0 && depth < 7 then
    let x1 := { x with
      timer := some k.1, tag := some k.2, candidate := some (f.src, depth), misses := 0
      beaconSf := some (k.1.2 / slotsPer c), parentSlot := k.1.2 % slotsPer c, parentFlags := flags
      parentQuality := quality }
    setMesh m { r with member := x1, map := BitVec.ofNat 64 (field f.body 12 8) } l
  else l

/-- A join response for this radio (R521). -/
def hearJoinResponse (m : Nat) (body : Bytes) (l : Lane) : Lane :=
  let c := meshCfg l m
  let r := meshRun l m
  match r.member.candidate with
  | some (parent, _) =>
    if r.state == .scanning && field body 0 8 == c.eui64 && field body 8 1 == 0 then
      let x1 := { r.member with
        addr := some (field body 9 2), version := field body 13 1, depth := field body 14 1, parent := some parent
        candidate := none, request := none, lastAck := l.tc }
      meshAlarms m (setMesh m { r with state := .joined, member := x1, unacked := none } l)
    else l
  | none => l

/-- The grants of a slot grant frame. -/
def grantsIn (m : Nat) (b : Bytes) : List Grant :=
  (List.range (field b 4 1)).map (fun i =>
    { radio := m, node := field b 0 2, slot := field b (5 + 4 * i) 1, beacon := field b (6 + 4 * i) 1 == 1,
      periodExp := field b (7 + 4 * i) 1, phase := field b (8 + 4 * i) 1 })

/-- A slot grant (R522, R527): a member takes its own from the instant on; the standby root keeps the instant. -/
def hearGrant (m : Nat) (body : Bytes) (l : Lane) : Lane :=
  let r := meshRun l m
  if (meshCfg l m).role = 1 then
    setMesh m { r with instants := tput r.instants (field body 0 2) (field body 2 2) } l
  else if some (field body 0 2) == r.member.addr then
    setMesh m { r with member := { r.member with
      coming := r.member.coming ++ [(field body 2 2, grantsIn m body)] } } l
  else l

/-- An acknowledgement within ±60 µs of the expected instant (R516). -/
def hearAck (m : Nat) (f : PicotRx) (riseAgo : Nat) (l : Lane) : Lane :=
  let r := meshRun l m
  match r.unacked with
  | some u =>
    let rise : Rat := (l.tc : Rat) - (riseAgo : Nat) - mkRat ((meshCfg l m).rxLatencyNs : Int) 4
    if f.seq == u.seq && decide (ratAbs (rise - u.ackAt) ≤ (usTc 60 : Nat)) then
      setMesh m { r with unacked := none, member := { r.member with lastAck := l.tc } } l
    else l
  | none => l

/-- What a frame that passed every check does. -/
def picotEffect (m : Nat) (f : PicotRx) (riseAgo : Nat) (l : Lane) : Lane :=
  let member := (meshCfg l m).role == 2
  let l1 := if isRelayed f.type then noteSeen m f l else l
  let l2 := if deliversReport l m f then
      enqueueOrDrop (20 + m) (frameEntries f.body.length)
        (.mesh f.origin (nowTag l) (nowFull l) f.body) l1
    else l1
  let l3 := if forwards l m f then radioQueue m (forwarded l m f) l2 else l2
  match f.type with
  | 0 => if member then hearBeacon m f riseAgo l3 else l3
  | 2 => hearAck m f riseAgo l3
  | 3 => if member then l3 else joinRequest m f.src f.body l3
  | 4 => if member then hearJoinResponse m f.body l3 else l3
  | 5 => hearGrant m f.body l3
  | _ => l3

/-- A received radio frame is checked in order and delivered, relayed, acknowledged or dropped (R515, R516). `ok`:
PHR valid and FCS correct; `riseAgo` and `fallAgo`: tc since the edges of `SFD`. -/
def lanePicotReceive (m : Nat) (ok : Bool) (psdu : Bytes) (riseAgo fallAgo : Nat) (l : Lane) : Lane :=
  let st := (meshRun l m).state
  if !serving l || !(st == .root || st == .scanning || st == .joined) then l
  else
    let c := meshCfg l m
    let f := parsePicot psdu
    let dup := isRelayed f.type && (meshRun l m).seen.any (fun e => e.1 == f.origin && e.2.1 == f.oseq)
    if !ok then countMesh m (fun k => { k with crc := bump k.crc }) l
    else if !inRange 12 1023 psdu.length then countMesh m (fun k => { k with length := bump k.length }) l
    else if !(f.control == 0xA841 || f.control == 0xA861) || f.pan != c.panId then
      countMesh m (fun k => { k with foreign := bump k.foreign }) l
    else if !inRange 1 c.maxVersion f.version || !picotRoom psdu f || !bodyExact f then
      countMesh m (fun k => { k with bad := bump k.bad }) l
    else if !picotForUs l m f then l
    else if !micOk l m f then countMesh m (fun k => { k with auth := bump k.auth }) l
    else
      let l1 := if c.role = 2 && f.type != 2 then resync m riseAgo l else heardNode m f.src l
      let l2 := meshAlarms m (if c.role = 1 && isRelayed f.type then heardNode m f.origin l1 else l1)
      if dup then ackDue m f fallAgo (countMesh m (fun k => { k with dup := bump k.dup }) l2)
      else if !picotRoomOk l2 m f then countFull m f l2
      else ackDue m f fallAgo (picotEffect m f riseAgo l2)

/-- Seen-cache entries older than 30 s are removed (R518). -/
def laneSeenExpiry (m : Nat) (l : Lane) : Lane :=
  let r := meshRun l m
  setMesh m { r with seen := r.seen.filter (fun e => decide (l.tc ≤ e.2.2 + secTc 30)) } l

/-! ### Links (R521, R524, R525) -/

/-- The parent is lost: the member stops its slots and scans (R524). -/
def loseParent (m : Nat) (l : Lane) : Lane :=
  let r := meshRun l m
  let x := { r.member with
    addr := none, parent := none, candidate := none, request := none, misses := 0, scanIndex := 0, scanAt := l.tc }
  meshAlarms m (setMesh m { r with state := .scanning, unacked := none, member := x } l)

/-- The tc at which the window of the parent's beacon closes in the present superframe (R524): ±rx_window_us, doubled
by each miss. -/
def windowClose (l : Lane) (m : Nat) (x : MemberSt) (into : Rat) (s : Nat) : Rat :=
  let c := meshCfg l m
  (l.tc : Rat) - into - (s * slotTc c : Nat) + (x.parentSlot * slotTc c : Nat) + (usTc 1000 : Nat) + sfdTc c +
    (usTc (c.rxWindowUs * 2 ^ x.misses) : Nat)

/-- A parent beacon window closes without a beacon (R524). -/
def laneBeaconMiss (m : Nat) (l : Lane) : Lane :=
  let r := meshRun l m
  let c := meshCfg l m
  match slotNow l m with
  | some (n, into) =>
    let sf := n / slotsPer c
    if serving l && r.state == .joined && r.member.beaconSf != some sf &&
        decide (windowClose l m r.member into (n % slotsPer c) ≤ (l.tc : Rat)) then
      let x := { r.member with beaconSf := some sf, misses := r.member.misses + 1 }
      let l1 := setMesh m { r with member := x, counters := { r.counters with missed := bump r.counters.missed } } l
      if x.misses = 3 then loseParent m l1 else l1
    else l
  | none => l

/-- The listen of L + slot_us on one channel ends (R524); the channels of the map follow in ascending order. -/
def laneScanExpiry (m : Nat) (l : Lane) : Lane :=
  let r := meshRun l m
  let c := meshCfg l m
  if serving l && r.state == .scanning && r.member.candidate.isNone &&
      r.member.scanAt + (slotsPer c + 1) * slotTc c ≤ l.tc then
    setMesh m { r with member := { r.member with
      scanIndex := (r.member.scanIndex + 1) % (mapChannels r.map).length, scanAt := l.tc } } l
  else l

/-- The supervision timeout (R525): of the parent, when upstream frames have had no acknowledgement for so long, or, at
the root, of a node from which no frame has come. -/
def laneSupervision (m : Nat) (child : Option Nat) (l : Lane) : Lane :=
  let r := meshRun l m
  let c := meshCfg l m
  let timeout := c.supervisionSf * slotsPer c * slotTc c
  if !serving l then l
  else
    match child with
    | none =>
      let waits := r.unacked.isSome || !(queueOf l (46 + m)).items.isEmpty
      if r.state == .joined && waits && r.member.lastAck + timeout ≤ l.tc then loseParent m l else l
    | some a =>
      match tget r.nodes a with
      | some n =>
        if r.state == .root && n.joined && !n.lost && n.lastHeard + timeout ≤ l.tc then
          meshAlarms m (setMesh m { r with nodes := tput r.nodes a { n with lost := true } } l)
        else l
      | none => l

/-- No join response within four superframes: the join starts again (R521). -/
def laneJoinExpiry (m : Nat) (l : Lane) : Lane :=
  let r := meshRun l m
  let c := meshCfg l m
  match r.member.request with
  | some t =>
    if serving l && r.state == .scanning && t + 4 * slotsPer c * slotTc c ≤ l.tc then
      setMesh m { r with unacked := none, member := { r.member with
        candidate := none, request := none, scanIndex := 0, scanAt := l.tc } } l
    else l
  | none => l

end Sys2Proof.Machine
end

