-- ==== Sys2Proof/Machine/PeChain.lean ====
section
/-!
DEFINITION. What the phasor estimation chain computes (R179 to R183, R191, R193, R197, R207). R184 has it computed in
FP32 "in a fixed order of operations" that the spec does not give: each expression whose rounding depends on that order
is an opaque function of exactly the values that its rule names (log 17).
-/
namespace Sys2Proof.Machine

/-- A complex value: real and imaginary words. -/
abbrev Cplx := Word × Word

/-! ### Library banks (R191) -/

/-- The sum of two lists of numbers, the longer one's tail kept. -/
def addLists : List Nat → List Nat → List Nat
  | [], ys => ys
  | xs, [] => xs
  | x :: xs, y :: ys => (x + y) :: addLists xs ys

/-- The convolution of two lists. -/
def convolve : List Nat → List Nat → List Nat
  | [], _ => []
  | x :: xs, ys => addLists (ys.map (x * ·)) (if xs.isEmpty then [] else 0 :: convolve xs ys)

/-- A boxcar of `n` equal taps. -/
def boxcar (n : Nat) : List Nat := List.replicate n 1

/-- The taps of a library bank before scaling: 1 P2, 2 M6, 3 Q2. -/
def libraryShape (lib m : Nat) : List Nat :=
  if lib = 1 then convolve (boxcar m) (boxcar m)
  else if lib = 2 then convolve (boxcar (2 * m)) (convolve (boxcar (2 * m)) (boxcar (2 * m)))
  else convolve (boxcar m) ((List.range m).map (fun k => (m - k) * (m - k)))

/-- The coefficients of a library bank in units of 2^-22, scaled so that the largest is just below 2.0. -/
def libraryCoef (lib m : Nat) : List Int :=
  let shape := libraryShape lib m
  let top := shape.foldl max 1
  shape.map (fun s =>
    let x : Rat := mkRat ((s * (2 ^ 23 - 1) : Nat) : Int) top
    if Config.bankRoundUp x then x.ceil else x.floor)

/-- The droop table of a library bank: 1.0 at 0 Hz (R188), and the firmware's values. -/
def libraryDroop (lib m : Nat) : List Word :=
  0x3F800000 :: (List.range 20).map (fun i => Config.libraryDroop lib m (i + 1))

/-! ### Scale and mix (R179) -/

/-- scale × sample: one rounding where the sample is an FP32 value. -/
def peScale (scale : Word) (i : Int) : Word :=
  if i.natAbs ≤ 2 ^ 24 then fpMul scale (fpRoundInt i 0) else Config.peScaleWide scale i

/-- f0·(t_n − τ) modulo 1, from the fine fraction of the sample's tag (R135) and from τ in exact integers, rounded to
2^-32 of a turn. -/
def mixPhase (rate freq : Nat) (muDelayNs : Int) (n : Nat) : Word :=
  let frac := (n % rate * 2 ^ 24 + rate / 2) / rate
  let a : Int := ((freq * frac * 1000000000 : Nat) - muDelayNs * (freq * 2 ^ 24 : Nat)) * 256
  BitVec.ofInt 32 ((2 * a + 1000000000) / 2000000000)

/-- u[n]: the sample with an index, mixed; 0 where the history holds none. -/
def peMixed (j : PeJob) (n : Nat) : Cplx :=
  match j.span.find? (fun s => s.index == n) with
  | some s => Config.peMix s.x (mixPhase j.rate j.freq j.cfg.muDelayNs n)
  | none => (0, 0)

/-! ### Decimator, main filter, interpolation (R180 to R182) -/

/-- The sum of products of real coefficients and complex values, in the chain's order. -/
def firCplx (terms : List (Word × Cplx)) : Cplx :=
  (Config.firSum (terms.map (fun t => (t.1, t.2.1))), Config.firSum (terms.map (fun t => (t.1, t.2.2))))

/-- v at grid point `m` of the intermediate grid, counted from the top of the second (R173, R180). -/
def peDecimated (d1 : Nat) (j : PeJob) (m : Nat) : Cplx :=
  if d1 = 1 then peMixed j m
  else firCplx ((List.range (8 * d1 + 1)).map (fun k =>
    (Config.decimTap d1 k, if k ≤ m * d1 then peMixed j (m * d1 - k) else (0, 0))))

/-- z at grid point `m` (R181). -/
def peFiltered (d1 : Nat) (j : PeJob) (m : Nat) : Cplx :=
  firCplx (j.bank.coef.zipIdx.map (fun h =>
    (fpRoundInt h.1 (-22), if h.2 ≤ m then peDecimated d1 j (m - h.2) else (0, 0))))

/-- z at an instant in seconds: the four-point Lagrange interpolation over m − 1 to m + 2 (R181). -/
def peAt (d1 : Nat) (j : PeJob) (t : Rat) : Cplx :=
  let g := t * (j.rate / d1 : Nat)
  let m := g.floor.toNat
  let zs := [m - 1, m, m + 1, m + 2].map (peFiltered d1 j)
  (Config.lagrange (zs.map (·.1)) (g - m), Config.lagrange (zs.map (·.2)) (g - m))

/-- The droop table at |Δf|, interpolated linearly; above 10 Hz its last entry (R182). -/
def peDroopAt (droop : List Word) (df : Word) : Word :=
  let a := fpAbs df
  if fpLt 0x41200000 a then droop.getD 20 0
  else
    let i := (((fp32ToRat a).getD 0) * 2).floor.toNat
    Config.peLerp (droop.getD i 0) (droop.getD (i + 1) (droop.getD i 0)) a

/-! ### Frequency, ROCOF, phasor (R182, R183) -/

/-- Δf at an instant: G in seconds, δ = 1 / (2·f0) (R183). -/
def peDeviation (d1 : Nat) (j : PeJob) (group t : Rat) : Word :=
  let δ : Rat := mkRat 1 (2 * j.freq)
  if j.cfg.causal then Config.peAngleRate j.freq (peAt d1 j (t + group)) (peAt d1 j (t + group - 2 * δ))
  else Config.peAngleRate j.freq (peAt d1 j (t + group + δ)) (peAt d1 j (t + group - δ))

/-- f0 as an FP32 value. -/
def peNominal (j : PeJob) : Word := fpOfRat (j.freq : Nat)

/-- The values of one output of the main chain: the phasor of R182, the frequency f0 + Δf and the ROCOF of R183. -/
def peOutput (d1 : Nat) (group : Rat) (j : PeJob) : PeVals :=
  let t : Rat := mkRat (j.instant : Int) j.cfg.outRate
  let δ : Rat := mkRat 1 (2 * j.freq)
  let df := peDeviation d1 j group t
  let pair := if j.cfg.causal then (df, peDeviation d1 j group (t - 2 * δ))
    else (peDeviation d1 j group (t + δ), peDeviation d1 j group (t - δ))
  let x := Config.peCorrect (peAt d1 j (t + group)) df group (j.bank.coef.foldl (· + ·) 0) (peDroopAt j.bank.droop df)
  { re := x.1, im := x.2, df := df, freq := fpAdd (peNominal j) df
    rocof := fpMul (fpSub pair.1 pair.2) (peNominal j) }

/-! ### The single-cycle path (R207) -/

/-- The values of a SETTLING output, with the two SETTLING outputs before it. Where they are missing its Δf or ROCOF is
graded INVALID and has no stated value. -/
def peSingle (j : PeJob) (last prior : Option (Nat × PeVals)) : PeVals :=
  let us := j.span.map (fun s => peMixed j s.index)
  let x : Cplx := (Config.peMean (us.map (·.1)), Config.peMean (us.map (·.2)))
  let apart (i : Nat) : Rat := mkRat ((j.instant : Int) - i) j.cfg.outRate
  let df := match last with
    | some (i, v) => Config.peSingleRate x (v.re, v.im) (apart i)
    | none => Config.peUnstated j.instant 0
  let rocof := match last, prior with
    | some (i, v), some _ => Config.peSingleRocof df v.df (apart i)
    | _, _ => Config.peUnstated j.instant 1
  { re := x.1, im := x.2, df := df, freq := fpAdd (peNominal j) df, rocof := rocof }

end Sys2Proof.Machine
end

