-- ==== Sys2Proof/Machine/Pe.lean ====
section
/-!
DEFINITION. The phasor estimation chain (chapter 05, R171 to R210).
-/
namespace Sys2Proof.Machine

/-! ### Rates, delays and lengths (R172, R173, R185, R187) -/

/-- N, the samples of a nominal cycle (R172). -/
def perCycle (c : StreamCfg) : Nat := c.rate / c.freq

/-- D1 (R173). -/
def decimation (c : StreamCfg) : Nat :=
  (([6, 5, 4, 3, 2, 1].find? (fun d => c.rate % d == 0 && 2400 * d ≤ c.rate))).getD 1

/-- f_i (R173). -/
def midRate (c : StreamCfg) : Nat := c.rate / decimation c

/-- G in seconds (R180, R182). -/
def peGroup (c : StreamCfg) (b : PeBank) : Rat :=
  (if decimation c = 1 then 0 else mkRat ((4 * decimation c : Nat) : Int) c.rate) +
    mkRat (b.groupDelay : Int) (256 * midRate c)

/-- The disclosed delay A in seconds (R185). -/
def peDelay (c : StreamCfg) (causal : Bool) (b : PeBank) : Rat :=
  peGroup c b + mkRat 2 (midRate c) + (if causal then 0 else mkRat 1 c.freq)

/-- The settling length S in samples (R187). -/
def peSettle (c : StreamCfg) (b : PeBank) : Nat :=
  (if decimation c = 1 then 0 else 8 * decimation c) + decimation c * (b.settleLen + 3) + 2 * perCycle c

/-- Kinds and keys: a channel's settings and a stream's banks. -/
def peCfg (l : Lane) (id c : Nat) : Option PeCfg := tget l.cfg.pe (8 * id + c)
def peRun (l : Lane) (id c : Nat) : Option PeRun := tget l.pe.channels (8 * id + c)
def setPeRun (id c : Nat) (x : PeRun) (l : Lane) : Lane :=
  { l with pe := { l.pe with channels := tput l.pe.channels (8 * id + c) x } }
def peBank (l : Lane) (id slot : Nat) : Option PeBank := tget l.cfg.banks (4 * id + slot)
def peStream (l : Lane) (id : Nat) : PeStream :=
  tgetD l.pe.streams id { fade := none, held := none, superseded := 0 }
def setPeStream (id : Nat) (p : PeStream) (l : Lane) : Lane :=
  { l with pe := { l.pe with streams := tput l.pe.streams id p } }

/-- The sampling stream of an id. -/
def svStream (l : Lane) (id : Nat) : Option (StreamCfg × SvPart) :=
  match streamCfg l id with
  | some c =>
    match c.part with
    | .sv p => some (c, p)
    | _ => none
  | none => none

/-- A channel is enabled. -/
def peEnabled (l : Lane) (id c : Nat) : Bool := (peCfg l id c).any (·.enable)

/-- The taps of a bank. -/
def bankTaps (l : Lane) (id slot : Nat) : Nat := ((peBank l id slot).map (·.taps)).getD 0

/-- The load of the channels of a mask on a bank (R177). -/
def maskLoad (l : Lane) (id mask slot : Nat) : Nat :=
  ((List.range 8).map (fun c =>
    if bit mask c then 16 * bankTaps l id slot * ((peCfg l id c).map (·.outRate)).getD 0 else 0)).sum

/-- The lane's load with the reservations of swaps (R177, R202). -/
def laneLoad (l : Lane) : Nat :=
  (l.cfg.pe.map (fun e =>
    if e.2.enable then 16 * bankTaps l (e.1 / 8) (((tget l.pe.channels e.1).map (·.activeSlot)).getD e.2.bankSlot) * e.2.outRate
    else 0)).sum +
  (l.pe.streams.map (fun e =>
    ((e.2.fade.map (fun s => maskLoad l e.1 s.mask s.slot)).getD 0) +
    ((e.2.held.map (fun s => maskLoad l e.1 s.mask s.slot)).getD 0))).sum

def maxLoad : Nat := 40000000000

/-! ### PE_CHANNEL_SET (R175, R176) -/

def peAsked (b : Bytes) : PeCfg :=
  { enable := field b 1 1 == 1, kind := field b 2 1, settleGated := bit (field b 3 1) 0, causal := bit (field b 3 1) 1,
    scale := BitVec.ofNat 32 (field b 4 4), muDelayNs := signed 32 (field b 8 4), outRate := field b 12 2,
    bankSlot := field b 14 1 }

def outRates : List Nat := [10, 12, 15, 20, 25, 30, 50, 60, 100, 120, 200, 240, 400, 480, 600, 960, 1200]

/-- The streams with an enabled channel (R171). -/
def peStreams (t : Table PeCfg) : List Nat := ((t.filter (·.2.enable)).map (·.1 / 8)).eraseDups

/-- The lane as it would be with the settings of a channel. -/
def withPeCfg (k : Nat) (p : PeCfg) (l : Lane) : Lane := { l with cfg := { l.cfg with pe := tput l.cfg.pe k p } }

/-- A channel as it stands when enabled: its first accepted sample is its synchronising reset (R204). -/
def peStart (slot : Nat) : PeRun :=
  { activeSlot := slot, samples := [], resetMarked := true, resetAt := none, settling := true, last := none,
    prior := none, cursor := none, fadeDone := 0, delayStep := none, resets := 0, substituted := 0, outSettling := 0,
    outInvalid := 0, fades := 0, delaySteps := 0 }

/-- A mask without a channel. -/
def dropBit (mask c : Nat) : Nat := if bit mask c then mask - 2 ^ c else mask

/-- The end of a stream's fade: the held swap starts (R200). -/
def promoteHeld (id : Nat) (l : Lane) : Lane :=
  let p := peStream l id
  match p.fade with
  | some s =>
    if s.mask = 0 then
      let l1 := setPeStream id { p with fade := p.held, held := none } l
      { l1 with pe := { l1.pe with channels := l1.pe.channels.map (fun e =>
          if e.1 / 8 = id then (e.1, { e.2 with fadeDone := 0 }) else e) } }
    else l
  | none => setPeStream id { p with fade := p.held, held := none } l

/-- Replies OK to a swap that has reached its commit point (R197, R205). -/
def replySwap (s : PeSwap) (l : Lane) : Lane :=
  match s.req with
  | some q => postReply q .ok false [] l
  | none => l

/-- A reset of a channel settles its swaps (R205): the incoming bank of its last swap becomes active, and each such
swap replies OK. -/
def settleSwaps (id c : Nat) (l : Lane) : Lane :=
  let p := peStream l id
  let inMask := fun (s : Option PeSwap) => s.any (fun x => bit x.mask c)
  let out := fun (s : PeSwap) => { s with mask := dropBit s.mask c, req := none }
  let slot := if inMask p.held then (p.held.map (·.slot)) else if inMask p.fade then (p.fade.map (·.slot)) else none
  let l1 := match peRun l id c, slot with
    | some x, some s => setPeRun id c { x with activeSlot := s, fadeDone := 0 } l
    | _, _ => l
  let l2 := match inMask p.fade, p.fade with
    | true, some s => replySwap s l1
    | _, _ => l1
  let l3 := match inMask p.held, p.held with
    | true, some s => replySwap s l2
    | _, _ => l2
  let fade := if inMask p.fade then p.fade.map out else p.fade
  let held := if inMask p.held then (p.held.map out).filter (fun s => s.mask != 0) else p.held
  if inMask p.fade || inMask p.held then
    promoteHeld id (setPeStream id { peStream l3 id with fade := fade.filter (fun s => s.mask != 0), held := held } l3)
  else l

/-- The effect of PE_CHANNEL_SET (R175, R176, R178). -/
def peSetApply (r : Request) (l : Lane) : Lane × Bytes :=
  let b := body r
  let p := peAsked b
  let id := flowId r
  let ch := field b 0 1
  let old := peCfg l id ch
  let l1 := withPeCfg (8 * id + ch) p l
  let was := old.any (·.enable)
  if !p.enable then
    let l2 := settleSwaps id ch l1
    ({ l2 with pe := { l2.pe with channels := tdel l2.pe.channels (8 * id + ch) } }, [])
  else if !was then (setPeRun id ch (peStart p.bankSlot) l1, [])
  else if old.any (fun o => { o with settleGated := p.settleGated } == p) then (l1, [])
  else
    match peRun l1 id ch with
    | some x => (setPeRun id ch { x with
        resetMarked := true, activeSlot := if old.any (·.bankSlot == p.bankSlot) then x.activeSlot else p.bankSlot } l1, [])
    | none => (setPeRun id ch (peStart p.bankSlot) l1, [])

/-- PE_CHANNEL_SET's checks (R171, R172, R175 to R178). -/
def peSetCheck (l : Lane) (r : Request) : Status :=
  let b := body r
  let p := peAsked b
  let id := flowId r
  let ch := field b 0 1
  match streamCfg l id, svStream l id with
  | none, _ => .noResource
  | _, none => .badParam
  | _, some (c, s) =>
    let l1 := withPeCfg (8 * id + ch) p l
    need (ch < s.channels && field b 1 1 ≤ 1 && p.kind ≤ 2 && field b 3 1 < 4 &&
      fp32In (mkRat 1 (2 ^ 30)) (2 ^ 20) p.scale && inRangeI (-500000) 3000000 p.muDelayNs &&
      outRates.contains p.outRate && 2 * p.outRate ≤ midRate c && p.bankSlot ≤ 3 && isZero b 15 1 &&
      (!p.enable || c.rate % c.freq == 0)) .badParam <|
    need (peBank l id p.bankSlot).isSome .noResource <|
    need ((peStreams l1.cfg.pe).length ≤ 2048 &&
      (l1.cfg.pe.filter (fun e => e.2.enable && e.2.settleGated)).length ≤ 256 &&
      laneLoad (peSetApply r l).1 ≤ maxLoad &&
      poolFits l1.cfg.swatchMib (histories l1.cfg.streams) (peAreas l1)) .limitExceeded .ok

def lanePeChannelSet (r : Request) (l : Lane) : Lane := serve 0x0300 none peSetCheck peSetApply r l

/-! ### PE_BANK_LOAD (R188 to R191) -/

/-- Coefficient k of the request: two's complement of bits [23:0], in units of 2^-22. -/
def coefWord (b : Bytes) (k : Nat) : Nat := field b (100 + 4 * k) 4
def coefOk (w : Nat) : Bool := unsigned 32 (signed 24 w) == w

/-- A bank of the request. -/
def bankAsked (b : Bytes) : PeBank :=
  { library := 0, minPhase := field b 3 1 == 1, taps := field b 4 2, delayTolUs := field b 6 2,
    groupDelay := field b 8 4, settleLen := field b 12 2,
    droop := (List.range 21).map (fun i => BitVec.ofNat 32 (field b (16 + 4 * i) 4)),
    coef := (List.range (field b 4 2)).map (fun k => signed 24 (coefWord b k)) }

/-- A library bank for M = f_i / f0 (R191). -/
def bankLibrary (lib m tol : Nat) : PeBank :=
  let q2 : Rat := mkRat ((m : Int) - 1) 2 + (m : Nat) - mkRat ((3 * m * (m + 1) : Nat) : Int) (2 * (2 * m + 1))
  let taps := if lib = 2 then 6 * m - 2 else 2 * m - 1
  { library := lib, minPhase := lib == 3, taps := taps, delayTolUs := tol,
    groupDelay := if lib = 1 then 256 * (m - 1) else if lib = 2 then 768 * m - 384
      else (q2 * 256 + mkRat 1 2).floor.toNat,
    settleLen := taps, droop := libraryDroop lib m, coef := libraryCoef lib m }

/-- A slot in use: active on an enabled channel, or the incoming bank of a swap (R190). -/
def slotBusy (l : Lane) (id slot : Nat) : Bool :=
  l.pe.channels.any (fun e => e.1 / 8 == id && e.2.activeSlot == slot) ||
  (peStream l id).fade.any (·.slot == slot) || (peStream l id).held.any (·.slot == slot)

/-- The ranges of R188 and the conditions of R189 and R190. -/
def bankCheck (l : Lane) (r : Request) : Status :=
  let b := body r
  let k := bankAsked b
  let id := flowId r
  let one : Word := 0x3F800000
  match streamCfg l id, svStream l id with
  | none, _ => .noResource
  | _, none => .badParam
  | _, some (c, _) =>
    let common := field b 0 1 ≤ 3 && field b 1 1 ≤ 1 && k.delayTolUs ≤ 10000 && isZero b 14 2
    let given := field b 2 1 == 0 && field b 3 1 ≤ 1 && inRange 8 512 k.taps && k.groupDelay ≤ 256 * (k.taps - 1) &&
      inRange k.taps 4096 k.settleLen && k.droop.head? == some one &&
      k.droop.all (fp32In (mkRat 1 2) (mkRat 3 2)) && (List.range k.taps).all (fun i => coefOk (coefWord b i)) &&
      decide (2 ^ 14 ≤ (k.coef.foldl (· + ·) 0).natAbs) &&
      (k.minPhase || (k.coef == k.coef.reverse && k.groupDelay == 128 * (k.taps - 1)))
    let lib := inRange 1 3 (field b 2 1) && isZero b 3 3 && isZero b 8 92 && midRate c % c.freq == 0
    need (common && (if field b 1 1 = 0 then given else lib)) .badParam <|
    need (!slotBusy l id (field b 0 1)) .noResource .ok

def bankApply (r : Request) (l : Lane) : Lane × Bytes :=
  let b := body r
  let id := flowId r
  let m := ((svStream l id).map (fun c => midRate c.1 / c.1.freq)).getD 1
  let k := if field b 1 1 = 0 then bankAsked b else bankLibrary (field b 2 1) m (field b 6 2)
  ({ l with cfg := { l.cfg with banks := tput l.cfg.banks (4 * id + field b 0 1) k } }, [])

def lanePeBankLoad (r : Request) (l : Lane) : Lane := serve 0x0301 none bankCheck bankApply r l

/-! ### PE_BANK_SWAP (R196 to R203) -/

/-- The bank that will be outgoing when a channel's next fade starts (R199). -/
def outgoingSlot (l : Lane) (id c : Nat) : Nat :=
  match (peStream l id).fade with
  | some s => if bit s.mask c then s.slot else ((peRun l id c).map (·.activeSlot)).getD 0
  | none => ((peRun l id c).map (·.activeSlot)).getD 0

/-- The difference of the group delays of two banks exceeds the incoming bank's tolerance (R199). -/
def delayDiffers (c : StreamCfg) (old new : PeBank) : Bool :=
  decide (mkRat (new.delayTolUs : Int) 1000000 <
    ratAbs (mkRat (new.groupDelay : Int) (256 * midRate c) - mkRat (old.groupDelay : Int) (256 * midRate c)))

/-- The channels of a mask. -/
def maskList (mask : Nat) : List Nat := (List.range 8).filter (bit mask)

def swapAsked (r : Request) : PeSwap :=
  let b := body r
  { mask := field b 0 1, slot := field b 1 1, outputs := field b 2 1, stepOk := bit (field b 3 1) 0, req := some r }

/-- R196, R199, R202. -/
def swapCheck (l : Lane) (r : Request) : Status :=
  let b := body r
  let s := swapAsked r
  let id := flowId r
  match streamCfg l id, svStream l id with
  | none, _ => .noResource
  | _, none => .badParam
  | _, some (c, _) =>
    let fits := fun (ch : Nat) =>
      peEnabled l id ch && outgoingSlot l id ch != s.slot &&
        (s.stepOk || (match peBank l id (outgoingSlot l id ch), peBank l id s.slot with
          | some old, some new => !delayDiffers c old new
          | _, _ => false : Bool))
    need (1 ≤ s.mask && s.slot ≤ 3 && inRange 1 64 s.outputs && field b 3 1 ≤ 1 && isZero b 4 4 &&
      (peBank l id s.slot).isSome && (maskList s.mask).all fits) .badParam <|
    need (laneLoad l + maskLoad l id s.mask s.slot ≤ maxLoad) .limitExceeded .ok

/-- A masked channel is settling after a synchronising reset (R203). -/
def maskSettles (l : Lane) (id mask : Nat) : Bool :=
  (maskList mask).any (fun c => (peRun l id c).any (fun x => x.settling))

/-- A swap starts (R197), is held behind the fade in progress (R200), or applies at once while a channel settles
(R203). -/
def swapStart (r : Request) (l : Lane) : Lane :=
  let id := flowId r
  let s := swapAsked r
  let p := peStream l id
  if p.fade.isSome then setPeStream id { p with held := some s } l
  else if maskSettles l id s.mask then
    postReply r .ok false []
      ((maskList s.mask).foldl (fun acc c =>
        match peRun acc id c with
        | some x => setPeRun id c { x with activeSlot := s.slot } acc
        | none => acc) l)
  else
    setPeStream id { p with fade := some s }
      { l with pe := { l.pe with channels := l.pe.channels.map (fun e =>
          if e.1 / 8 = id then (e.1, { e.2 with fadeDone := 0 }) else e) } }

def lanePeBankSwap (r : Request) (l : Lane) : Lane := serveHeld 0x0302 none swapCheck swapStart r l

/-! ### PE_RESET and PE_QUERY (R209, R210) -/

def peResetCheck (l : Lane) (r : Request) : Status :=
  let b := body r
  match streamCfg l (flowId r) with
  | none => .noResource
  | some _ =>
    need (1 ≤ field b 0 1 && isZero b 1 3 && (maskList (field b 0 1)).all (peEnabled l (flowId r))) .badParam .ok

def peResetApply (r : Request) (l : Lane) : Lane × Bytes :=
  ((maskList (field (body r) 0 1)).foldl (fun acc c =>
    match peRun acc (flowId r) c with
    | some x => setPeRun (flowId r) c { x with resetMarked := true } acc
    | none => acc) l, [])

def lanePeReset (r : Request) (l : Lane) : Lane := serve 0x0303 none peResetCheck peResetApply r l

/-- The incoming bank of a channel that fades now. -/
def fadingTo (l : Lane) (id c : Nat) : Option PeSwap := (peStream l id).fade.filter (fun s => bit s.mask c)

/-- The larger of the delays in force for a channel (R198), seconds. -/
def delayNow (l : Lane) (id ch : Nat) (c : StreamCfg) (x : PeRun) (causal : Bool) : Rat :=
  let d := fun (slot : Nat) => ((peBank l id slot).map (peDelay c causal)).getD 0
  match fadingTo l id ch with
  | some s => max (d x.activeSlot) (d s.slot)
  | none => d x.activeSlot

/-- The result of R210. -/
def peResult (l : Lane) (id ch : Nat) : Bytes :=
  match svStream l id with
  | none => zeros 64
  | some (c, _) =>
    let p := (peCfg l id ch).getD { enable := false, kind := 0, settleGated := false, causal := false, scale := 0, muDelayNs := 0, outRate := c.freq, bankSlot := 0 }
    let x := (peRun l id ch).getD (peStart p.bankSlot)
    let st := peStream l id
    let fading := st.fade.any (fun s => bit s.mask ch && s.req.isNone)
    let state := if !p.enable then 0 else if x.settling then (if p.settleGated then 2 else 1) else if fading then 4 else 3
    let bank := peBank l id x.activeSlot
    let slotOr := fun (s : Option PeSwap) => ((s.filter (fun k => bit k.mask ch)).map (·.slot)).getD 0xFF
    let inc := if fading then slotOr st.fade else 0xFF
    le 1 state ++ le 1 x.activeSlot ++ le 1 inc ++ le 1 (slotOr st.held) ++ le 1 (decimation c) ++
      le 1 (b2n p.settleGated + 2 * b2n p.causal) ++ le 2 (perCycle c) ++ le 2 (midRate c) ++ le 2 p.outRate ++
      le 4 (delayNow l id ch c x p.causal * 1000000000).ceil.toNat ++ le 4 ((bank.map (peSettle c)).getD 0) ++
      le 4 x.resets ++ le 4 x.substituted ++ le 4 x.outSettling ++ le 4 x.outInvalid ++ le 4 x.fades ++
      le 4 st.superseded ++ le 4 x.delaySteps ++
      le 8 (match x.resetAt with
        | some i => (i / c.rate % 2 ^ 16) * 2 ^ 24 + (i % c.rate * 2 ^ 24 + c.rate / 2) / c.rate
        | none => 0) ++
      le 4 (laneLoad l / 1000000) ++ zeros 4

/-- The checks of `lanePeQuery`. -/
def peQueryCheck (s : Lane) (q : Request) : Status :=
  need (streamCfg s (flowId q)).isSome .noResource <|
  need ((svStream s (flowId q)).isSome && field (body q) 0 1 ≤ 7 && isZero (body q) 1 3) .badParam .ok

/-- The effect and result of `lanePeQuery`. -/
def peQueryApply (q : Request) (s : Lane) : Lane × Bytes :=
  (s, peResult s (flowId q) (field (body q) 0 1))

def lanePeQuery (r : Request) (l : Lane) : Lane :=
  serve 0x0304 none peQueryCheck peQueryApply r l

/-! ### Samples (R179, R193, R204, R205) -/

/-- A channel's history keeps its newest samples, more than any span needs (R178, R187). -/
def keptSamples : Nat := 32768

/-- A synchronising reset at a sample (R204, R205). -/
def resetAtSample (id ch index : Nat) (l : Lane) : Lane :=
  let l1 := settleSwaps id ch l
  match peRun l1 id ch with
  | some x => setPeRun id ch { x with
      samples := [], resetMarked := false, resetAt := some index, settling := true, last := none, prior := none
      cursor := none, fadeDone := 0, delayStep := none, resets := bump x.resets } l1
  | none => l1

/-- The substitute of a sample (R193). -/
def substituteOf (c : StreamCfg) (p : PeCfg) (x : PeRun) (index : Nat) : Word :=
  match x.last with
  | some (j, v, _) =>
    Config.peSubstitute (mixPhase c.rate c.freq p.muDelayNs index) (v.re, v.im) v.df
      (mkRat (index : Int) c.rate - mkRat (j : Int) p.outRate)
  | none => 0

/-- One sample of one channel enters the chain: `v` its value unless it is missing or INVALID (R193). -/
def pushSample (id ch : Nat) (c : StreamCfg) (index : Nat) (v : Option Int) (grade : Grade) (test auth : Bool) (l : Lane) : Lane :=
  match peCfg l id ch, peRun l id ch with
  | some p, some x0 =>
    if !p.enable then l
    else
      let l1 := if x0.resetMarked then resetAtSample id ch index l else l
      match peRun l1 id ch with
      | none => l1
      | some x =>
        let s : PeSample := match v with
          | some i => { index := index, x := peScale p.scale i, grade := grade, test := test, auth := auth, substituted := false }
          | none => { index := index, x := substituteOf c p x index, grade := .suspect, test := test, auth := auth, substituted := true }
        let all := x.samples ++ [s]
        setPeRun id ch { x with
          samples := all.drop (all.length - keptSamples)
          substituted := if s.substituted then bump x.substituted else x.substituted } l1
  | _, _ => l

/-- The missing samples of a gap enter every enabled channel (R136) but one that waits for a reset, which falls on the
next accepted sample (R204). -/
def pushMissing (id : Nat) (c : StreamCfg) (channels : Nat) (indices : List Nat) (l : Lane) : Lane :=
  indices.foldl (fun acc i =>
    (List.range channels).foldl (fun a ch =>
      if (peRun a id ch).any (·.resetMarked) then a else pushSample id ch c i none .suspect false false a) acc) l

/-- Every enabled channel of a stream is marked for a reset by the next sample (R136, R204). -/
def markGap (id : Nat) (l : Lane) : Lane := markResets id l

/-! ### Outputs (R174, R185 to R187, R194, R195, R197 to R199, R206 to R208) -/

/-- The fine tag of instant k of a rate (R135, R212). -/
def instantTag (rate j : Nat) : FineTag :=
  BitVec.ofNat 40 (j / rate * 2 ^ 24 + (j % rate * 2 ^ 24 + rate / 2) / rate)

/-- The next output of a channel: whether it is a single-cycle one, and its instant index (R174, R206, R208). -/
def nextOutput (c : StreamCfg) (p : PeCfg) (delay : Rat) (settle : Nat) (x : PeRun) : Option (Bool × Nat) :=
  match x.resetAt with
  | none => none
  | some t =>
    if !x.settling then x.cursor.map (fun j => (false, j + 1))
    else
      let tr : Rat := mkRat (t : Int) c.rate
      let next := (x.cursor.map (· + 1)).getD 0
      let main := max ((tr + mkRat (settle : Int) c.rate - delay) * (p.outRate : Nat)).ceil.toNat next
      let from_ : Rat := tr + mkRat 1 (2 * c.freq)
      let after : Rat := match x.last with
        | some (j, _, true) => max from_ (mkRat (j : Int) p.outRate + mkRat 1 c.freq)
        | _ => from_
      let single := max (after * (p.outRate : Nat)).ceil.toNat next
      if !p.settleGated && single < main then some (true, single) else some (false, main)

/-- The samples of a span (R187). -/
def spanOf (x : PeRun) (lo hi : Rat) : List PeSample :=
  x.samples.filter (fun s => decide (lo ≤ (s.index : Rat)) && decide ((s.index : Rat) ≤ hi))

/-- The longest run of substitutes. -/
def longestRun : List PeSample → Nat → Nat → Nat
  | [], _, best => best
  | s :: t, cur, best =>
    let c := if s.substituted then cur + 1 else 0
    longestRun t c (max best c)

/-- The grade of an output (R194, R195). -/
def outputGrade (c : StreamCfg) (span : List PeSample) (df : Word) (settling : Bool) : Grade :=
  let subs := (span.filter (·.substituted)).length
  let worst := span.foldl (fun g s => g.worse s.grade) .good
  let g1 : Grade := if subs = 0 then worst
    else if subs ≤ perCycle c / 16 && longestRun span 0 0 ≤ 2 then worst.worse .suspect
    else .invalid
  let g2 := if fpLt 0x41200000 (fpAbs df) then g1.worse .suspect else g1
  if settling then g2.worse .suspect else g2

/-- The three values of an output (R105, R195): INVALID when flagged TEST without accept_test (R113). -/
def outputValues (c : StreamCfg) (ch : Nat) (v : PeVals) (gp gf gr : Grade) (test auth : Bool) (chain : BitVec 4) : List Value :=
  let fin := fun (g : Grade) => if test && !c.acceptTest then Grade.invalid else g
  let mk := fun (k : Nat) (a b : Word) (g : Grade) =>
    ({ channel := k, w0 := a, w1 := b, grade := fin g, test := test, auth := auth, chain := chain } : Value)
  [mk ch v.re v.im gp, mk (8 + ch) v.freq 0 gf, mk (16 + ch) v.rocof 0 gr]

/-- The chain status (R195). -/
def chainStatus (settling step fading subst : Bool) : BitVec 4 :=
  BitVec.ofNat 4 (b2n settling + 2 * b2n step + 4 * b2n fading + 8 * b2n subst)

/-- The blend of two outputs of a fade (R197). -/
def fadeVals (big k : Nat) (a b : PeVals) : PeVals :=
  let f := Config.peFade big k
  { re := f a.re b.re, im := f a.im b.im, df := f a.df b.df, freq := f a.freq b.freq, rocof := f a.rocof b.rocof }

/-- Counts an output. -/
def countOutput (x : PeRun) (settling step invalid : Bool) : PeRun :=
  { x with
    outSettling := if settling then bump x.outSettling else x.outSettling
    delaySteps := if step then bump x.delaySteps else x.delaySteps
    outInvalid := if invalid then bump x.outInvalid else x.outInvalid }

/-- A single-cycle output (R207). -/
def singleOutput (id ch : Nat) (c : StreamCfg) (p : PeCfg) (b : PeBank) (x : PeRun) (j : Nat) (l : Lane) : Lane :=
  let t : Rat := mkRat (j : Int) p.outRate
  let first := ((t - mkRat 1 (2 * c.freq)) * (c.rate : Nat)).ceil.toNat
  let last := first + perCycle c - 1
  if !x.samples.any (fun s => decide (last ≤ s.index)) then l
  else
    let span := x.samples.filter (fun s => decide (first ≤ s.index) && decide (s.index ≤ last))
    let strip := fun (e : Option (Nat × PeVals × Bool)) =>
      match e with
      | some (i, v, true) => some (i, v)
      | _ => none
    let v := peSingle { rate := c.rate, freq := c.freq, cfg := p, bank := b, instant := j, span := span }
      (strip x.last) (strip x.prior)
    let g := outputGrade c span v.df true
    let gf := if (strip x.last).isNone then .invalid else g
    let gr := if (strip x.prior).isNone then .invalid else g
    let test := span.any (·.test)
    let auth := span.all (·.auth)
    let vals := outputValues c ch v g gf gr test auth (chainStatus true false false (span.any (·.substituted)))
    let x1 := countOutput { x with last := some (j, v, true), prior := x.last, cursor := some j } true false
      (vals.any (fun k => k.grade == .invalid && k.channel == ch))
    deliverValues id (instantTag p.outRate j) (nowTag l) vals (setPeRun id ch x1 l)

/-- A channel finishes its fade: the incoming bank alone is used, and a fade with `delay_step_ok` marks the next
output and raises its alarm (R197, R199). -/
def endFade (id ch : Nat) (c : StreamCfg) (p : PeCfg) (s : PeSwap) (l : Lane) : Lane :=
  match peRun l id ch with
  | none => l
  | some x =>
    let d := fun (slot : Nat) => (((peBank l id slot).map (peDelay c p.causal)).getD 0 * 1000000000).ceil.toNat
    let x1 := { x with
      activeSlot := s.slot, fadeDone := 0, fades := bump x.fades
      delayStep := if s.stepOk then some (d x.activeSlot, d s.slot) else none }
    let l1 := setPeRun id ch x1 l
    let q := peStream l1 id
    let l2 := setPeStream id { q with fade := q.fade.map (fun k => { k with mask := dropBit k.mask ch }) } l1
    promoteHeld id l2

/-- The fault-log record of a delay step names the stream and the two delays (R199). -/
def noteDelayStep (id old new : Nat) (l : Lane) : Lane :=
  raiseEvent 260 (logFault .event .none 0 id (some 260) (le 4 old ++ le 4 new) l)

/-- An output of the main chain (R182, R183, R194 to R199). -/
def mainOutput (id ch : Nat) (c : StreamCfg) (p : PeCfg) (b : PeBank) (x : PeRun) (j : Nat) (l : Lane) : Lane :=
  let t : Rat := mkRat (j : Int) p.outRate
  let sw := fadingTo l id ch
  let delay := delayNow l id ch c x p.causal
  let hiOf := fun (k : PeBank) => (t + peDelay c p.causal k) * (c.rate : Nat)
  let spanBy := fun (k : PeBank) => spanOf x (hiOf k - (peSettle c k : Nat)) (hiOf k)
  let job := fun (k : PeBank) =>
    ({ rate := c.rate, freq := c.freq, cfg := p, bank := k, instant := j, span := spanBy k } : PeJob)
  if !x.samples.any (fun s => decide ((t + delay) * (c.rate : Nat) ≤ (s.index : Rat))) then l
  else
    let out := fun (k : PeBank) => peOutput (decimation c) (peGroup c k) (job k)
    let old := out b
    let inc := sw.bind (fun s => peBank l id s.slot)
    let k := x.fadeDone + 1
    let v := match sw, inc with
      | some s, some nb => fadeVals s.outputs k old (out nb)
      | _, _ => old
    let spans := match inc with
      | some nb => [spanBy b, spanBy nb]
      | none => [spanBy b]
    let g := spans.foldl (fun g sp => g.worse (outputGrade c sp v.df false)) .good
    let test := spans.any (·.any (·.test))
    let auth := spans.all (·.all (·.auth))
    let subst := spans.any (·.any (·.substituted))
    let vals := outputValues c ch v g g g test auth (chainStatus false x.delayStep.isSome inc.isSome subst)
    let x1 := countOutput
      { x with last := some (j, v, false), prior := x.last, cursor := some j, settling := false, delayStep := none
               fadeDone := if sw.isSome then k else 0 }
      false x.delayStep.isSome (vals.any (fun q => q.grade == .invalid && q.channel == ch))
    let l1 := setPeRun id ch x1 l
    let l2 := match x.delayStep with
      | some (a, n) => noteDelayStep id a n l1
      | none => l1
    let l3 := deliverValues id (instantTag p.outRate j) (nowTag l) vals l2
    match sw with
    | none => l3
    | some s =>
      let q := peStream l3 id
      let l4 := replySwap s (setPeStream id { q with fade := q.fade.map (fun f => { f with req := none }) } l3)
      if k = s.outputs then endFade id ch c p s l4 else l4

/-- The sample that completes an output's span has arrived: the output is computed and enters the Skein (R185); with
none due nothing happens. -/
def lanePhasorOutput (id ch : Nat) (l : Lane) : Lane :=
  if !serving l then l
  else
    match svStream l id, peCfg l id ch, peRun l id ch with
    | some (c, _), some p, some x =>
      match peBank l id x.activeSlot with
      | none => l
      | some b =>
        match nextOutput c p (delayNow l id ch c x p.causal) (peSettle c b) x with
        | none => l
        | some (true, j) => singleOutput id ch c p b x j l
        | some (false, j) => mainOutput id ch c p b x j l
    | _, _, _ => l

end Sys2Proof.Machine
end

