-- ==== Sys2Proof/Machine/Frames.lean ====
section
/-!
DEFINITION. Decoding the frames that the decoders take from the ingest queues (chapter 03, R109 to R146): C37.118.2
data frames, sampled values, GOOSE, polled ASDUs and mesh reports.
-/
namespace Sys2Proof.Machine

/-! ### Shared steps of R109 -/

/-- Frames dropped by the context's state (step 2). -/
def dropState (id : Nat) (l : Lane) : Lane := countStream id (fun c => { c with state := bump c.state }) l
def rejectSize (id : Nat) (l : Lane) : Lane := countStream id (fun c => { c with size := bump c.size }) l
def rejectDecode (id : Nat) (l : Lane) : Lane := countStream id (fun c => { c with decode := bump c.decode }) l
def rejectAuth (id : Nat) (l : Lane) : Lane := countStream id (fun c => { c with auth := bump c.auth }) l
def countDuplicate (id : Nat) (l : Lane) : Lane := countStream id (fun c => { c with dup := bump c.dup }) l

/-- The state allows data frames: ACTIVE, or LEARNED into the wale history (R106). -/
def dataAllowed (s : StreamRun) : Bool := s.state == .active || s.state == .learned

/-- What authentication decides of a frame (R144, R146). -/
inductive AuthOutcome where
  | accept (flag : Bool)
  | fail
  | keyLost
deriving DecidableEq, Repr

/-- R144 and R146: `carried` tells that the frame carries authentication, `passes` that it verifies under a key. -/
def authOutcome (l : Lane) (id : Nat) (carried : Bool) (passes : KeySlot → Bool) : AuthOutcome :=
  let p := tgetD l.cfg.auth id .dflt
  if p.mode = 0 then .accept false
  else
    match usableKey l p.keySlot with
    | none => if p.mode = 1 || p.acceptOnLoss then .accept false else .keyLost
    | some k =>
      if !carried then (if p.mode = 1 then .accept false else .fail)
      else if passes k then .accept true else .fail

/-- A required key is lost: the stream enters KEY_LOST and the frame is dropped (R144, R146). -/
def enterKeyLost (id : Nat) (l : Lane) : Lane := dropState id (enterState id .keyLost l)

/-- The tag of an algorithm under a key (R145): HMAC-SHA-256 cut to 16 bytes, or GMAC under an IV. -/
def frameTag (alg : Nat) (k : KeySlot) (iv msg : Bytes) : Bytes :=
  if alg = 0 then (hmac k.material msg).take 16 else gmac k.material iv msg

/-- The authentication extension of an SV or GOOSE frame verifies (R144). -/
def extensionOk (l : Lane) (id : Nat) (a : FrameAuth) (k : KeySlot) : Bool :=
  let p := tgetD l.cfg.auth id .dflt
  a.algorithm == p.algorithm && (p.keyId == 0 || p.keyId == a.keyId) && frameTag p.algorithm k a.iv a.covered == a.tag

/-- The grade of a value after R113. -/
def finalGrade (acceptTest : Bool) (test : Bool) (g : Grade) : Grade := if test && !acceptTest then .invalid else g

/-- A frame passes step 7: its counters, status and tag (R118). -/
def acceptFrame (id : Nat) (status : Nat) (tag : FineTag) (port : Option Nat) (l : Lane) : Lane :=
  match streamRun l id with
  | some s => setRun id { s with
      counters := { s.counters with accepted := bump s.counters.accepted }, lastStatus := status, lastTag := tag
      lastPort := port.orElse (fun _ => s.lastPort) } l
  | none => l

/-! ### UTC to TAI (R124, R472) -/

/-- The offset for a C37.118 SOC (R472): during an insertion FRACSEC bit 5 decides at SOC = L. -/
def socOffset (t : TimeSt) (soc : Nat) (occurred : Bool) : Nat :=
  match t.leap with
  | none => t.utcOffset
  | some lp =>
    let o' := leapNewOffset t.utcOffset lp
    if soc = lp.soc && !lp.deletion then (if occurred then o' else t.utcOffset)
    else if lp.soc ≤ soc then o' else t.utcOffset

/-- The offset for a UTC tag without a leap flag (R472): whichever of o and o′ places it within 0.5 s of its arrival.
`arrived` and the tag in 2^-24 s. -/
def utcTagOffset (t : TimeSt) (sec frac : Nat) (arrived : Int) : Nat :=
  let near := fun (o : Nat) => decide (((((sec + o) * 2 ^ 24 + frac : Nat) : Int) - arrived).natAbs ≤ 2 ^ 23)
  match t.leap with
  | none => t.utcOffset
  | some lp =>
    let o' := leapNewOffset t.utcOffset lp
    if near t.utcOffset then t.utcOffset else if near o' then o' else socOffset t sec false

/-- A frame's TAI second lies within 32,767 s of Tension's current second (R219). -/
def secNear (l : Lane) (sec : Nat) : Bool := decide (((sec : Int) - (nowSec l : Int)).natAbs ≤ 32767)

/-- The fine tag of a TAI second and a 24-bit fraction (R10). -/
def fineTag (sec frac : Nat) : FineTag := BitVec.ofNat 40 (sec * 2 ^ 24 + frac)

/-! ### C37.118.2 data frames (R119 to R128) -/

/-- The sizes that FORMAT gives (R121, R123): bit 0 polar, bit 1 float phasors, bit 2 float analogs, bit 3 float
frequency. -/
def phasorSize (b : PmuBlock) : Nat := if bit b.format 1 then 8 else 4
def analogSize (b : PmuBlock) : Nat := if bit b.format 2 then 4 else 2
def freqSize (b : PmuBlock) : Nat := if bit b.format 3 then 4 else 2

/-- The length of a block in a data frame. -/
def blockLen (b : PmuBlock) : Nat :=
  2 + phasorSize b * b.phasors.length + 2 * freqSize b + analogSize b * b.analogs.length + 2 * b.digitals

/-- The FRAMESIZE that a configuration implies (R121). -/
def dataFrameLen (c : PmuConfig) : Nat := 16 + (c.blocks.map blockLen).sum

/-- A signed 16-bit field. -/
def int16 (f : Bytes) (o : Nat) : Int := signed 16 (fieldBE f o 2)
def word32 (f : Bytes) (o : Nat) : Word := BitVec.ofNat 32 (fieldBE f o 4)

/-- A polar phasor as rectangular words (R123). -/
def fromPolar (mag ang : Option Rat) (w0 w1 : Word) : Word × Word :=
  match mag, ang with
  | some m, some a => (Config.polarRe m a, Config.polarIm m a)
  | _, _ => (Config.polarBadRe w0 w1, Config.polarBadIm w0 w1)

/-- A phasor at an offset (R123): `unit` is PHUNIT, or the scale factors of CFG-3. -/
def phasorOf (kind : Nat) (b : PmuBlock) (f : Bytes) (o unit : Nat) : Word × Word :=
  let polar := bit b.format 0
  if bit b.format 1 then
    let w0 := word32 f o
    let w1 := word32 f (o + 4)
    if polar then fromPolar (fp32ToRat w0) (fp32ToRat w1) w0 w1 else (w0, w1)
  else
    let first : Rat := if polar then (fieldBE f o 2 : Nat) else (int16 f o : Int)
    let second : Rat := if polar then mkRat (int16 f (o + 2)) 10000 else (int16 f (o + 2) : Int)
    if kind = 3 then
      let y := BitVec.ofNat 32 (unit / 2 ^ 32)
      let th := BitVec.ofNat 32 unit
      (Config.phasor3Re polar first second y th, Config.phasor3Im polar first second y th)
    else
      let scale : Rat := mkRat ((unit % 2 ^ 24 : Nat) : Int) 100000
      if polar then fromPolar (some (first * scale)) (some second) 0 0
      else (fpOfRat (first * scale), fpOfRat (second * scale))

/-- An analog at an offset (R123): ANUNIT's signed factor, or scale and offset of CFG-3. -/
def analogOf (kind : Nat) (b : PmuBlock) (f : Bytes) (o unit : Nat) : Word :=
  if bit b.format 2 then word32 f o
  else if kind = 3 then
    match fp32ToRat (BitVec.ofNat 32 (unit / 2 ^ 32)), fp32ToRat (BitVec.ofNat 32 unit) with
    | some m, some k => fpOfRat (m * (int16 f o : Int) + k)
    | _, _ => fpAdd (fpMul (BitVec.ofNat 32 (unit / 2 ^ 32)) (fpOfRat (int16 f o : Int))) (BitVec.ofNat 32 unit)
  else fpOfRat ((signed 24 unit * int16 f o : Int))

/-- FREQ and DFREQ (R123): FNOM bit 0 names 50 Hz. -/
def pmuFreqOf (b : PmuBlock) (f : Bytes) (o : Nat) : Word :=
  if bit b.format 3 then word32 f o
  else fpOfRat ((if bit b.fnom 0 then 50 else 60) + mkRat (int16 f o) 1000)
def pmuDfreqOf (b : PmuBlock) (f : Bytes) (o : Nat) : Word :=
  if bit b.format 3 then word32 f o else fpOfRat (mkRat (int16 f o) 100)

/-- The grade of the message time quality (R125). -/
def fracGrade (tqLimit code : Nat) : Grade :=
  if code = 0 then .good
  else if code ≤ 0xB then (if tqLimit ≠ 7 && tqLimit + 1 < code - 1 then .suspect else .good)
  else if code ≤ 0xE then .suspect
  else .invalid

/-- The grade and TEST flag that a version 2 STAT word gives its block (R126). -/
def statGrade2 (c : StreamCfg) (st : Nat) : Grade × Bool :=
  let err := bits st 15 14
  let g0 : Grade := if err = 1 then (if c.acceptErr01 then .suspect else .invalid) else if err = 3 then .invalid else .good
  let g1 : Grade := if bit st 13 then
      (if c.rejectUnsync || c.unlockLimit ≤ bits st 5 4 then .invalid else .suspect)
    else .good
  let g2 : Grade := if bit st 12 then .invalid else .good
  let g3 : Grade := if bit st 9 then .suspect else .good
  let g4 : Grade := if c.tqLimit < bits st 8 6 then .suspect else .good
  (((g0.worse g1).worse (g2.worse g3)).worse g4, err == 2)

/-- The same of a version 1 STAT word (R127). -/
def statGrade1 (c : StreamCfg) (st : Nat) : Grade × Bool :=
  let g0 : Grade := if bit st 15 || bit st 14 then .invalid else .good
  let g1 : Grade := if bit st 13 then
      (if c.rejectUnsync || c.unlockLimit ≤ bits st 5 4 then .invalid else .suspect)
    else .good
  let g2 : Grade := if bit st 12 then .invalid else .good
  ((g0.worse g1).worse g2, false)

/-- A block's values as they stand in the frame: channel, words; with the counts of the blocks before it (R105). -/
def blockValues (kind : Nat) (b : PmuBlock) (f : Bytes) (o i ph an dg : Nat) : List (Nat × Word × Word) :=
  let ps := phasorSize b
  let fo := o + 2 + ps * b.phasors.length
  let ao := fo + 2 * freqSize b
  let d := ao + analogSize b * b.analogs.length
  (b.phasors.zipIdx.map (fun (u, k) =>
    let w := phasorOf kind b f (o + 2 + ps * k) u
    (ph + k, w.1, w.2))) ++
  [(64 + i, pmuFreqOf b f fo, 0), (72 + i, pmuDfreqOf b f (fo + freqSize b), 0)] ++
  (b.analogs.zipIdx.map (fun (u, k) => (80 + an + k, analogOf kind b f (ao + analogSize b * k) u, (0 : Word)))) ++
  ((List.range b.digitals).map (fun k => (112 + dg + k, BitVec.ofNat 32 (fieldBE f (d + 2 * k) 2), (0 : Word)))) ++
  [(120 + i, BitVec.ofNat 32 (fieldBE f o 2), 0)]

/-- All blocks of a data frame: its STAT word and graded values (R123, R125 to R127). -/
def frameBlocks (c : StreamCfg) (kind version : Nat) (fg : Grade) (auth : Bool) (f : Bytes) :
    List PmuBlock → Nat → Nat → Nat → Nat → Nat → List (Nat × List Value)
  | [], _, _, _, _, _ => []
  | b :: t, o, i, ph, an, dg =>
    let st := fieldBE f o 2
    let g := if version = 1 then statGrade1 c st else statGrade2 c st
    let grade := finalGrade c.acceptTest g.2 (g.1.worse fg)
    let vals := (blockValues kind b f o i ph an dg).map (fun (ch, w0, w1) =>
      ({ channel := ch, w0 := w0, w1 := w1, grade := grade, test := g.2, auth := auth, chain := 0 } : Value))
    (st, vals) :: frameBlocks c kind version fg auth f t (o + blockLen b) (i + 1) (ph + b.phasors.length)
      (an + b.analogs.length) (dg + b.digitals)

/-- The trailer of R145 verifies under a key. -/
def trailerOk (l : Lane) (id : Nat) (frame t : Bytes) (k : KeySlot) : Bool :=
  let p := tgetD l.cfg.auth id .dflt
  field t 0 2 == 0x5054 && field t 2 1 == 1 && field t 3 1 == p.algorithm &&
    (p.keyId == 0 || p.keyId == field t 4 4) && field t 8 8 != 0 &&
    frameTag p.algorithm k (slice t 8 8 ++ slice t 4 4) (frame ++ t.take 16) == slice t 16 16

/-- A data frame that has passed the steps before it is decoded under a configuration (R123 to R128). -/
def decodeData (id port : Nat) (c : StreamCfg) (k : PmuConfig) (f : Bytes) (auth : Bool) (arrived : FineTag)
    (l : Lane) : Lane :=
  let frac := fieldBE f 10 4
  let soc := fieldBE f 6 4
  let n := frac % 2 ^ 24
  let sec := soc + socOffset l.time soc (bit frac 29)
  if k.timeBase ≤ n || !secNear l sec then rejectDecode id l
  else
    let tag := fineTag sec ((n * 2 ^ 24 + k.timeBase / 2) / k.timeBase)
    let fg := fracGrade c.tqLimit (bits frac 27 24)
    let version := field f 1 1 % 16
    let bs := frameBlocks c k.kind version fg auth f k.blocks 14 0 0 0 0
    let stats := bs.map (·.1)
    let l1 := acceptFrame id (stats.headD 0) tag (some port) l
    let l2 := if stats.any (bit · 12) then rejectDecode id l1 else l1
    let change := stats.any (bit · 10)
    let seen := (streamRun l2 id).any (·.cfgBit)
    let l3 := match streamRun l2 id with
      | some s => setRun id { s with cfgBit := change } l2
      | none => l2
    let l4 := if change && !seen then startProcedure id l3 else l3
    deliverValues id tag arrived (bs.map (·.2)).flatten l4

/-- Steps 5 to 8 for a data frame of FRAMESIZE bytes under the configuration `k` (R109). `fresh`: `k` is the
compatible configuration that waits for its first frame (step 4 of R128). -/
def checkData (id port : Nat) (c : StreamCfg) (k : PmuConfig) (fresh : Bool) (f : Bytes) (trailer : Option Bytes)
    (arrived : FineTag) (l : Lane) : Lane :=
  let seq := (trailer.map (fun t => field t 8 8)).getD 0
  match streamRun l id with
  | none => l
  | some s =>
    if !chkOk f then rejectDecode id l
    else
      match authOutcome l id trailer.isSome (fun key => trailer.any (fun t => trailerOk l id f t key)) with
      | .keyLost => enterKeyLost id l
      | .fail => rejectAuth id l
      | .accept auth =>
        if auth && isDuplicate s.highest s.seen seq then countDuplicate id l
        else
          let w := if auth then acceptSeq s.highest s.seen seq else (s.highest, s.seen)
          let frac := fieldBE f 10 4
          let soc := fieldBE f 6 4
          let bad := decide (k.timeBase ≤ frac % 2 ^ 24) || !secNear l (soc + socOffset l.time soc (bit frac 29))
          let s1 := { s with highest := w.1, seen := w.2 }
          let s2 := if fresh && !bad then applyCfg k s1 else s1
          let l1 := setRun id s2 l
          let l2 := if fresh && !bad && c.transport = 0 then turnOn id l1 else l1
          decodeData id port c k f auth arrived l2

/-- A frame of a PMU stream from the ingest queue: configuration, header and command frames go to the control cores
(R110); a data frame passes R109 in order (R119 to R121, R128). -/
def pmuFrame (id port : Nat) (p : Bytes) (udp : Bool) (arrived : FineTag) (l : Lane) : Lane :=
  match streamCfg l id, streamRun l id with
  | some c, some s =>
    let size := fieldBE p 2 2
    if bits (field p 1 1) 6 4 ≠ 0 then emit (.control id p) l
    else if !dataAllowed s then dropState id l
    else
      match s.cfg with
      | none => dropState id l
      | some k =>
        let trailer := if udp && p.length = size + 32 then some (p.drop size) else none
        let fits := fun (x : PmuConfig) => decide (dataFrameLen x = size)
        let f := p.take size
        if size < 16 || 4096 < size || (p.length ≠ size && trailer.isNone) then rejectSize id l
        else if s.newCfg.any fits then
          if field p 1 1 % 16 ≠ 1 && field p 1 1 % 16 ≠ 2 then rejectDecode id l
          else checkData id port c (s.newCfg.getD k) true f trailer arrived l
        else if !fits k then rejectSize id l
        else if field p 1 1 % 16 ≠ 1 && field p 1 1 % 16 ≠ 2 then rejectDecode id l
        else checkData id port c k false f trailer arrived l
  | _, _ => l

/-- The oldest item of ingest queue `n` is a frame of a PMU stream: the decoder takes it. -/
def lanePmuDecode (n : Nat) (l : Lane) : Lane :=
  if !serving l then l
  else
    match headItem l n with
    | some { payload := .ingest id port arrived _ { content := .udp _ _ _ p, .. }, .. } =>
      pmuFrame id port p true arrived (popItem n l)
    | some { payload := .ingest id port arrived _ { content := .pmuTcp _ p, .. }, .. } =>
      pmuFrame id port p false arrived (popItem n l)
    | _ => l

/-! ### Sampled values (R131 to R137) -/

/-- The grade and TEST flag of a quality word (R134). -/
def svGrade (q : Nat) : Grade × Bool :=
  let v := bits q 1 0
  let g : Grade := if v = 1 || v = 2 || bit q 2 || bit q 4 || bit q 6 || bit q 12 then .invalid
    else if v = 3 || bit q 3 || bit q 5 || bit q 7 || bit q 8 || bit q 9 || bit q 10 then .suspect
    else .good
  (g, bit q 11)

/-- smpSynch as read under the profile (R131). -/
def synchOf (profile x : Nat) : Nat := if profile = 0 then min x 1 else if 2 < x then 1 else x

/-- The TAI second of a sample (R135): its instant lies in (A − 0.5 s, A + 0.5 s]. `at_` is A in 2^-32 s. -/
def sampleSecond (at_ rate cnt : Nat) : Nat :=
  ((((2 * at_ + 2 ^ 32) * rate : Nat) : Int) - ((cnt * 2 ^ 33 : Nat) : Int)).toNat / (2 ^ 33 * rate)

/-- The samples of one ASDU enter the chain and the recorder (R134, R136). -/
def svSamples (id : Nat) (c : StreamCfg) (p : SvPart) (a : SvAsdu) (sim auth : Bool) (sec : Nat) (l : Lane) : Lane :=
  let index := sec * c.rate + a.smpCnt
  let late := synchOf p.profile a.smpSynch < p.minSmpSynch
  let at_ : Int := ((sec * 2 ^ 24 + (a.smpCnt * 2 ^ 24 + c.rate / 2) / c.rate : Nat) : Int)
  (a.samples.zipIdx).foldl (fun acc (x, ch) =>
    let g := svGrade x.2.toNat
    let grade := if late then g.1.worse .suspect else g.1
    let test := g.2 || sim
    let v := if g.1 == .invalid then none else some x.1
    let acc1 := pushSample id ch c index v grade test auth acc
    let feed : Feed := .raw id ch at_ x.1 (finalGrade c.acceptTest test grade)
    { acc1 with swatch := { acc1.swatch with
        trigFeed := acc1.swatch.trigFeed ++ [feed], rowFeed := acc1.swatch.rowFeed ++ [feed] } }) l

/-- One ASDU (R133, R135, R136): its own checks, the step from the last sample, and its samples. The flag tells that
it was accepted. -/
def svAsdu (id : Nat) (c : StreamCfg) (p : SvPart) (sim auth : Bool) (at_ : Nat) (a : SvAsdu) (l : Lane) : Lane × Bool :=
  match streamRun l id with
  | none => (l, false)
  | some s =>
    if a.confRev ≠ s.confRev then
      let l1 := rejectDecode id (setRun id { s with heldConfRev := some a.confRev } l)
      (if s.state == .cfgHold then l1 else raiseEvent 258 (enterState id .cfgHold l1), false)
    else if c.rate ≤ a.smpCnt || a.smpRate.any (· != c.rate) then (rejectDecode id l, false)
    else
      let sec := sampleSecond at_ c.rate a.smpCnt
      let now := sec * c.rate + a.smpCnt
      let g : Int := match s.lastSample with
        | some (ls, lc) => (now : Int) - ((ls * c.rate + lc : Nat) : Int)
        | none => 1
      if g ≤ 0 then (countDuplicate id l, false)
      else
        let missed := g.toNat - 1
        let k := s.counters
        let s1 := { s with
          lastSample := some (sec, a.smpCnt)
          counters := { k with missing := (k.missing + missed) % 2 ^ 32 }
          lastStatus := ((a.samples.head?).map (·.2.toNat)).getD 0
          lastTag := fineTag sec ((a.smpCnt * 2 ^ 24 + c.rate / 2) / c.rate) }
        let l1 := setRun id s1 l
        let l2 := if missed = 0 then l1
          else if g.toNat ≤ perCycle c then
            pushMissing id c p.channels ((List.range missed).map (fun i => now - missed + i)) l1
          else markGap id l1
        (svSamples id c p a sim auth sec l2, true)

/-- The frame-level steps of R109 for sampled values (R131, R132, R144), then its ASDUs. -/
def svFrame (id : Nat) (f : SvFrame) (auth : Bool) (c : StreamCfg) (p : SvPart) (at_ port : Nat) (l : Lane) : Lane :=
  let r := f.asdus.foldl (fun (acc : Lane × Bool) a =>
    let x := svAsdu id c p f.simulation auth at_ a acc.1
    (x.1, acc.2 || x.2)) (l, false)
  if r.2 then
    match streamRun r.1 id with
    | some s => setRun id { s with
        counters := { s.counters with accepted := bump s.counters.accepted }, lastPort := some port } r.1
    | none => r.1
  else r.1

/-- The lengths of an SV frame (R132). -/
def svLengthsOk (p : SvPart) (f : SvFrame) : Bool :=
  inRange 1 8 f.noAsdu && f.asdus.length == f.noAsdu && f.lengthsOk &&
    f.asdus.all (fun a => a.seqLen == 8 * p.channels && a.samples.length == p.channels)

/-- Steps 2 to 5 of R109 and the rest of a sampled-value frame. `window`: the SPDU number of a routed one (R137). -/
def svChecked (id port at_ : Nat) (f : SvFrame) (window : Option Nat) (l : Lane) : Lane :=
  match svStream l id, streamRun l id with
  | some (c, p), some s =>
    if !dataAllowed s then dropState id l
    else if !svLengthsOk p f then rejectSize id l
    else
      match authOutcome l id f.auth.isSome (fun k => f.auth.any (fun a => extensionOk l id a k)) with
      | .keyLost => enterKeyLost id l
      | .fail => rejectAuth id l
      | .accept auth =>
        match window with
        | none => svFrame id f auth c p at_ port l
        | some n =>
          if isDuplicate s.highest s.seen n then countDuplicate id l
          else
            let w := acceptSeq s.highest s.seen n
            svFrame id f auth c p at_ port (setRun id { s with highest := w.1, seen := w.2 } l)
  | _, _ => l

/-- The oldest item of ingest queue `n` is a layer-2 sampled-value frame (R131). -/
def laneSvDecode (n : Nat) (l : Lane) : Lane :=
  if !serving l then l
  else
    match headItem l n with
    | some { payload := .ingest id port _ at_ { content := .sv f, .. }, .. } => svChecked id port at_ f none (popItem n l)
    | _ => l

/-- The oldest item is a routed one (R137): only the SV session, without encryption, under a MAC that is accepted. -/
def laneRoutedSvDecode (n : Nat) (l : Lane) : Lane :=
  if !serving l then l
  else
    match headItem l n with
    | some { payload := .ingest id port _ at_ { content := .routedSv _ _ h f, .. }, .. } =>
      let l1 := popItem n l
      if (streamRun l1 id).any dataAllowed && (!h.svSession || h.encrypted || !h.macSupported) then rejectDecode id l1
      else svChecked id port at_ f (some h.number) l1
    | _ => l

/-! ### GOOSE subscriptions (R140) -/

/-- The quality that follows an entry of allData grades it (R140). -/
def gooseQuality (d : List GooseData) (i : Nat) : Grade × Bool :=
  match d[i + 1]? with
  | some (.quality q) => svGrade q.toNat
  | _ => (.good, false)

/-- The word of an entry for a point's kind (R140). -/
def gooseWord (kind : Nat) : GooseData → Option Word
  | .boolean b => if kind = 1 then some (BitVec.ofNat 32 (b2n b)) else none
  | .bits2 n => if kind = 2 then some (BitVec.ofNat 32 (n % 4)) else none
  | .integer i => if kind = 3 then some (fpRoundInt i 0) else none
  | .float w => if kind = 3 then some w else none
  | _ => none

/-- The values of a message, in point-map order (R140, R141). -/
def gooseValues (c : StreamCfg) (p : LegacyPart) (g : GooseMsg) (auth : Bool) : List Value :=
  p.points.zipIdx.filterMap (fun (pt, i) =>
    (g.allData[pt.address]?).bind (fun d =>
      (gooseWord pt.kind d).map (fun w =>
        let q := gooseQuality g.allData pt.address
        let test := q.2 || g.test
        { channel := i, w0 := w, w1 := 0, grade := finalGrade c.acceptTest test q.1, test := test, auth := auth,
          chain := 0 : Value })))

/-- A GOOSE message that has passed authentication (R140). -/
def gooseMessage (id port : Nat) (c : StreamCfg) (p : LegacyPart) (s : StreamRun) (g : GooseMsg) (auth : Bool)
    (arrived : FineTag) (l : Lane) : Lane :=
  let expiry := l.tc + msTc g.talMs
  if g.confRev ≠ s.confRev then
    let l1 := rejectDecode id (setRun id { s with heldConfRev := some g.confRev } l)
    raiseEvent 258 (enterState id .cfgHold l1)
  else
    let same := s.goose.any (fun k => k.1 == g.stNum)
    let sec := g.tSec + utcTagOffset l.time g.tSec g.tFrac (joinTag l arrived)
    if same && s.goose.any (fun k => g.sqNum ≤ k.2.1) then countDuplicate id l
    else if !same && !secNear l sec then rejectDecode id l
    else
      let l1 := setRun id { s with goose := some (g.stNum, g.sqNum, expiry) } l
      let tag := fineTag sec g.tFrac
      let q := gooseQuality g.allData (((p.points.head?).map (·.address)).getD 0)
      let l2 := acceptFrame id (match g.allData[((p.points.head?).map (·.address)).getD 0 + 1]? with
        | some (.quality w) => w.toNat
        | _ => q.1.code) tag (some port) l1
      if same then l2 else deliverValues id tag arrived (gooseValues c p g auth) l2

/-- The oldest item of ingest queue `n` is a GOOSE message of a subscription. -/
def laneGooseDecode (n : Nat) (l : Lane) : Lane :=
  if !serving l then l
  else
    match headItem l n with
    | some { payload := .ingest id port arrived _ { content := .goose g, .. }, .. } =>
      let l1 := popItem n l
      match streamCfg l1 id, streamRun l1 id with
      | some c, some s =>
        match c.part with
        | .legacy p =>
          if !dataAllowed s then dropState id l1
          else if !g.lengthsOk then rejectSize id l1
          else
            match authOutcome l1 id g.auth.isSome (fun k => g.auth.any (fun a => extensionOk l1 id a k)) with
            | .keyLost => enterKeyLost id l1
            | .fail => rejectAuth id l1
            | .accept auth => gooseMessage id port c p s g auth arrived l1
        | _ => l1
      | _, _ => l1
    | _ => l

/-- timeAllowedtoLive expires without a message: every point is INVALID from then on (R140). -/
def laneTalExpiry (id : Nat) (l : Lane) : Lane :=
  match streamCfg l id, streamRun l id with
  | some c, some s =>
    match c.part, s.goose with
    | .legacy p, some (st, sq, til) =>
      if serving l && til ≠ 0 && til ≤ l.tc then
        invalidatePoints id p.points.length (setRun id { s with goose := some (st, sq, 0) } l)
      else l
    | _, _ => l
  | _, _ => l

/-! ### Polled ASDUs (R138, R139) -/

/-- A quality descriptor (R139): IV, BL and OV INVALID, NT and SB SUSPECT. `ov` tells that bit 0 is OV. -/
def qdsGrade (q : Nat) (ov : Bool) : Grade :=
  if bit q 7 || bit q 4 || (ov && bit q 0) then .invalid else if bit q 6 || bit q 5 then .suspect else .good

/-- The types of R138: kind of point, bytes of the element, and whether a CP56Time2a follows. -/
def asduType (t : Nat) : Option (Nat × Nat × Bool) :=
  match t with
  | 1 => some (1, 1, false)
  | 3 => some (2, 1, false)
  | 9 => some (3, 3, false)
  | 11 => some (3, 3, false)
  | 13 => some (3, 5, false)
  | 30 => some (1, 1, true)
  | 31 => some (2, 1, true)
  | 34 => some (3, 3, true)
  | 35 => some (3, 3, true)
  | 36 => some (3, 5, true)
  | _ => none

/-- The value, grade and quality of an element (R138, R139). -/
def asduElement (t : Nat) (b : Bytes) (o : Nat) : Word × Grade × Nat :=
  let q := field b o 1
  if t = 1 || t = 30 then (BitVec.ofNat 32 (q % 2), qdsGrade q false, q)
  else if t = 3 || t = 31 then (BitVec.ofNat 32 (q % 4), qdsGrade q false, q)
  else if t = 9 || t = 34 then
    let d := field b (o + 2) 1
    (fpOfRat (mkRat (signed 16 (field b o 2)) 32768), qdsGrade d true, d)
  else if t = 11 || t = 35 then
    let d := field b (o + 2) 1
    (fpRoundInt (signed 16 (field b o 2)) 0, qdsGrade d true, d)
  else
    let d := field b (o + 4) 1
    (BitVec.ofNat 32 (field b o 4), qdsGrade d true, d)

/-- Days from 1970-01-01 of a date of the years 2000 to 2099. -/
def dayNumber (y m d : Nat) : Nat :=
  let yy := if m ≤ 2 then y - 1 else y
  let mm := if m ≤ 2 then m + 9 else m - 3
  365 * yy + yy / 4 - yy / 100 + yy / 400 + (153 * mm + 2) / 5 + d - 1 - 719468

/-- UTC second and fine fraction of a CP56Time2a. -/
def cp56 (b : Bytes) (o : Nat) : Nat × Nat :=
  let ms := field b o 2
  let day := dayNumber (2000 + field b (o + 6) 1 % 128) (field b (o + 5) 1 % 16) (field b (o + 4) 1 % 32)
  (day * 86400 + field b (o + 3) 1 % 32 * 3600 + field b (o + 2) 1 % 64 * 60 + ms / 1000,
   (ms % 1000 * 2 ^ 24 + 500) / 1000)

/-- The objects of an ASDU: address and offset of each element (R138), or none where the length does not fit. -/
def asduObjects (c : SerialCfg) (b : Bytes) (size : Nat) : Option (List (Nat × Nat)) :=
  let n := field b 1 1 % 128
  let start := 2 + c.cotLen + c.caLen
  if bit (field b 1 1) 7 then
    if b.length = start + c.ioaLen + n * size then
      some ((List.range n).map (fun i => (field b start c.ioaLen + i, start + c.ioaLen + size * i)))
    else none
  else if b.length = start + n * (c.ioaLen + size) then
    some ((List.range n).map (fun i =>
      (field b (start + (c.ioaLen + size) * i) c.ioaLen, start + (c.ioaLen + size) * i + c.ioaLen)))
  else none

/-- Fine units of a time in ns, rounded as R421 rounds a skew (log 18). -/
def nsUnits (k : Int) : Int := (k * 2 ^ 24 + 500000000) / 1000000000

/-- The values of an ASDU with their tags (R138): a time tag's own, else the arrival less arrival_delay_us. -/
def asduValues (l : Lane) (p : LegacyPart) (t : Nat) (k : Nat × Nat × Bool) (b : Bytes) (objs : List (Nat × Nat))
    (arrived : FineTag) : List (FineTag × Value × Nat) :=
  let plain := arrived - BitVec.ofInt 40 (nsUnits (1000 * p.arrivalDelayUs : Nat))
  objs.filterMap (fun (addr, o) =>
    ((p.points.zipIdx).find? (fun (pt, _) => pt.address == addr && pt.kind == k.1)).map (fun (_, i) =>
      let e := asduElement t b o
      let u := cp56 b (o + k.2.1)
      let tag := if k.2.2 then fineTag (u.1 + utcTagOffset l.time u.1 u.2 (joinTag l arrived)) u.2 else plain
      (tag, { channel := i, w0 := e.1, w1 := 0, grade := e.2.1, test := false, auth := false, chain := 0 }, e.2.2)))

/-- Every time tag of an ASDU lies within the range of R219. -/
def asduTagsNear (l : Lane) (b : Bytes) (size : Nat) (arrived : FineTag) (objs : List (Nat × Nat)) : Bool :=
  objs.all (fun x =>
    let u := cp56 b (x.2 + size)
    secNear l (u.1 + utcTagOffset l.time u.1 u.2 (joinTag l arrived)))

/-- The ASDU of a response is decoded into the point map (R138, R139). -/
def polledAsdu (n id : Nat) (b : Bytes) (arrived : FineTag) (l : Lane) : Lane :=
  match streamCfg l id, streamRun l id with
  | some c, some s =>
    match c.part with
    | .legacy p =>
      let t := field b 0 1
      if !dataAllowed s then dropState id l
      else
        match asduType t with
        | none => countStream id (fun k => { k with ignored := bump k.ignored }) l
        | some k =>
          match asduObjects (serialCfg l n) b (k.2.1 + (if k.2.2 then 7 else 0)) with
          | none => rejectSize id l
          | some objs =>
           if k.2.2 && !asduTagsNear l b k.2.1 arrived objs then rejectDecode id l
           else
            let vals := asduValues l p t k b objs arrived
            let missed := objs.length - vals.length
            let q0 := (vals.find? (fun v => v.2.1.channel == 0)).map (·.2.2)
            let l1 := countStream id (fun x => { x with ignored := (x.ignored + missed) % 2 ^ 32 }) l
            let l2 := acceptFrame id (q0.getD s.lastStatus) (((vals.getLast?).map (·.1)).getD s.lastTag) none l1
            vals.foldl (fun acc v => deliverValues id v.1 arrived [v.2.1] acc) l2
    | _ => l
  | _, _ => l

/-- The oldest item of the ingest queue of serial port `n` (queue 12 + n). -/
def lanePolledAsdu (n : Nat) (l : Lane) : Lane :=
  if !serving l then l
  else
    match headItem l (12 + n) with
    | some { payload := .serial id arrived _ b, .. } => polledAsdu n id b arrived (popItem (12 + n) l)
    | _ => l

/-! ### Mesh reports (R142, R526) -/

/-- The values of a report (R526). -/
def reportValues (c : StreamCfg) (b : Bytes) : List Value :=
  let unsync := bit (field b 7 1) 0
  let tst := bit (field b 7 1) 1
  (List.range (field b 8 1)).map (fun i =>
    let o := 9 + 6 * i
    let q := field b (o + 5) 1
    let g : Grade := if q % 4 = 0 then .good else if q % 4 = 1 then .suspect else .invalid
    let test := tst || bit q 2
    { channel := field b o 1, w0 := BitVec.ofNat 32 (field b (o + 1) 4), w1 := 0,
      grade := finalGrade c.acceptTest test (if unsync then g.worse .suspect else g), test := test, auth := false,
      chain := 0 })

/-- A report from the ingest queue of radio `m` (queue 20 + m): matched, sequence checked, graded and delivered
(R108, R526). -/
def laneReportDelivery (m : Nat) (l : Lane) : Lane :=
  if !serving l then l
  else
    match headItem l (20 + m) with
    | some { payload := .mesh origin arrived _ b, .. } =>
      let l1 := popItem (20 + m) l
      match meshStream l1 m origin with
      | none => l1
      | some id =>
        match streamCfg l1 id, streamRun l1 id with
        | some c, some s =>
          let seq := field b 0 2
          let r := meshRun l1 m
          let g : Int := match tget r.reports origin with
            | some q => diff16 seq q
            | none => 1
          if !dataAllowed s then dropState id l1
          else if g ≤ 0 then countDuplicate id l1
          else
            let l2 := setMesh m { r with reports := tput r.reports origin seq } l1
            let l3 := countStream id (fun k => { k with missing := (k.missing + (g.toNat - 1)) % 2 ^ 32 }) l2
            let tag := BitVec.ofNat 40 (field b 2 5)
            deliverValues id tag arrived (reportValues c b) (acceptFrame id 0 tag none l3)
        | _, _ => l1
    | _ => l

end Sys2Proof.Machine
end

