-- ==== Sys2Proof/Machine/Publish.lean ====
section
/-!
DEFINITION. The publishing engine and the commands of the alarm unit (chapter 11): alarm routing, GOOSE publications,
output sessions, their data and configuration frames, and derived streams.
-/
namespace Sys2Proof.Machine

/-! ### Alarms (R383, R384) -/

/-- The hold of an id passes and nothing holds it raised (R383). -/
def laneAlarmHold (id : Nat) (l : Lane) : Lane := if dieRuns l then settleAlarm id l else l

/-- The i-th entry of ALARM_ROUTE_SET. -/
def routeEntry (b : Bytes) (i : Nat) : AlarmRoute :=
  let o := 4 + 4 * i
  { cls := match field b o 1 with
      | 0 => .off
      | 1 => .slate
      | 2 => .ochre
      | _ => .madder
    pins := BitVec.ofNat 8 (field b (o + 1) 1)
    holdMs := field b (o + 2) 2 }

/-- One entry obeys R384: its ranges, pins for Madder only, and the fixed class of a system alarm. -/
def routeEntryOk (b : Bytes) (first i : Nat) : Bool :=
  let e := routeEntry b i
  field b (4 + 4 * i) 1 ≤ 3 && e.holdMs ≤ 60000 && (e.cls == .madder || e.pins == 0) &&
    (match sysClass (first + i) with
     | some c => e.cls == c
     | none => true : Bool)

def routeCheck (_ : Lane) (r : Request) : Status :=
  let b := body r
  let first := field b 0 2
  let count := field b 2 2
  need (first ≤ 511 && inRange 1 (512 - first) count && (List.range count).all (routeEntryOk b first)) .badParam .ok

/-- The whole table applies at once, and the pins follow it (R384, R385). -/
def routeApply (r : Request) (l : Lane) : Lane × Bytes :=
  let b := body r
  let routes := (List.range (field b 2 2)).foldl (fun t i => tput t (field b 0 2 + i) (routeEntry b i)) l.cfg.routes
  (refreshPins { l with cfg := { l.cfg with routes := routes } }, [])

def laneAlarmRoute (r : Request) (l : Lane) : Lane := serve 0x0604 none routeCheck routeApply r l

/-! ### GOOSE publications (R387, R389) -/

def gooseAsked (b : Bytes) : GoosePub :=
  { enable := bit (field b 0 1) 0, port := field b 1 1, simulation := bit (field b 3 1) 0, dstMac := slice b 4 6,
    appid := field b 10 2, vlanTci := field b 12 2, tMinMs := field b 14 2, tMaxMs := field b 16 2,
    confRev := field b 20 4, gocbref := slice b 32 (field b 18 1), datset := slice b 96 (field b 19 1),
    goid := slice b 160 (field b 24 1),
    members := (List.range (field b 2 1)).map (fun i => field b (224 + 2 * i) 2) }

/-- The ranges of R387. -/
def gooseCheck (_ : Lane) (r : Request) : Status :=
  let b := body r
  let n := field b 2 1
  let tci := field b 12 2
  need (flowId r ≤ 31 && field b 0 1 ≤ 1 && field b 1 1 ≤ 11 && inRange 1 32 n && field b 3 1 ≤ 1 &&
    inRange 0x010CCD010000 0x010CCD0101FF (fieldBE b 4 6) && field b 10 2 ≤ 0x3FFF && tci % 4096 ≤ 4094 && !bit tci 12 &&
    inRange 1 100 (field b 14 2) && inRange (field b 14 2) 60000 (field b 16 2) && isZero b 25 7 &&
    nameOk b 32 64 (field b 18 1) && nameOk b 96 64 (field b 19 1) && nameOk b 160 64 (field b 24 1) &&
    (List.range n).all (fun i => field b (224 + 2 * i) 2 ≤ 511) && isZero b (224 + 2 * n) (64 - 2 * n)) .badParam .ok

/-- Enabling a publication, or changing an enabled one, is an event; disabling stops it and keeps stNum (R387). -/
def gooseApply (r : Request) (l : Lane) : Lane × Bytes :=
  let n := flowId r
  let p := gooseAsked (body r)
  let changed := tget l.cfg.goose n != some p
  let l1 := { l with cfg := { l.cfg with goose := tput l.cfg.goose n p } }
  let l2 := if p.enable && changed then gooseStart n p false l1 else l1
  let g := gooseRun l2 n
  (l2, le 4 g.stNum ++ le 4 g.sqNum ++ le 4 g.framesSent ++ zeros 4)

def laneGoosePub (r : Request) (l : Lane) : Lane := serve 0x0603 none gooseCheck gooseApply r l

/-- A repeat: sqNum rises, and the interval that follows doubles up to t_max_ms (R389). -/
def laneGooseRepeat (n : Nat) (l : Lane) : Lane :=
  match tget l.cfg.goose n with
  | some p =>
    let g := gooseRun l n
    if p.enable && serving l && isLeaseholder l && g.intervalMs ≠ 0 && g.nextAt ≤ l.tc then
      gooseTransmit n p { g with sqNum := gooseNext g.sqNum } (min (2 * g.intervalMs) p.tMaxMs) false l
    else l
  | none => l

/-! ### Sessions: configuration (R391, R398) -/

/-- The running state of a session is set. -/
def setSession (n : Nat) (s : SessionRun) (l : Lane) : Lane :=
  { l with publish := { l.publish with sessions := tput l.publish.sessions n s } }

def sessionPmu (b : Bytes) (i : Nat) : SessionPmu :=
  let o := 64 + 32 * i
  { stn := slice b o 16, idcode := field b (o + 16) 2, fnom := field b (o + 18) 1 }

def sessionChannel (b : Bytes) (pmus i : Nat) : SessionChannel :=
  let o := 64 + 32 * pmus + 24 * i
  { pmu := field b o 1, kind := field b (o + 1) 1, block := field b (o + 2) 1, word := field b (o + 4) 2,
    name := slice b (o + 8) 16 }

def sessionAsked (b : Bytes) : SessionCfg :=
  let f := field b 3 1
  let pmus := field b 50 1
  let chans := field b 52 2
  { tcp := field b 0 1 == 1, plane := field b 1 1, port := field b 2 1, cmdAccept := bit f 0, autoStart := bit f 1,
    gapPolicy := bits f 3 2, outDiv := field b 4 2, idcode := field b 6 2, timeBase := field b 8 4,
    srcAddr := slice b 12 16, dstAddr := slice b 28 16, srcPort := field b 44 2, dstPort := field b 46 2,
    vlan := field b 48 2, polar := bit (field b 51 1) 0, pmus := (List.range pmus).map (sessionPmu b),
    channels := (List.range chans).map (sessionChannel b pmus),
    header := slice b (64 + 32 * pmus + 24 * chans) (field b 54 2) }

/-- The channels of one PMU entry of the given kinds, in entry order. -/
def channelsOf (c : SessionCfg) (pmu : Nat) (kinds : List Nat) : List SessionChannel :=
  c.channels.filter (fun k => k.pmu == pmu && kinds.contains k.kind)

/-- The limits of one PMU entry (R391). -/
def pmuEntryOk (c : SessionCfg) (i : Nat) : Bool :=
  let n := fun (ks : List Nat) => (channelsOf c i ks).length
  n [2] ≤ 1 && n [3] ≤ 1 && n [6] ≤ 1 && n [0, 1] ≤ 64 && n [4] ≤ 32 && n [5, 7] ≤ 8

/-- The ranges of the session parameters; out_div divides the plane's rate (R391). -/
def sessionRanges (l : Lane) (b : Bytes) : Bool :=
  let c := sessionAsked b
  let pmus := c.pmus.length
  let rateOk := match tget l.cfg.planes c.plane with
    | some p => inRange 1 p.rate c.outDiv && p.rate % c.outDiv == 0
    | none => 1 ≤ c.outDiv
  field b 0 1 ≤ 1 && c.plane ≤ 3 && c.port ≤ 11 && field b 3 1 < 16 && c.gapPolicy ≤ 2 && rateOk &&
    inRange 1 65534 c.idcode && inRange 1 16777215 c.timeBase && 1024 ≤ c.srcPort &&
    (if c.tcp then isZero b 28 16 && c.dstPort == 0 else 1 ≤ c.dstPort) && c.vlan ≤ 4094 && inRange 1 32 pmus &&
    field b 51 1 ≤ 1 && inRange 1 1024 c.channels.length && field b 54 2 ≤ 256 && isZero b 56 8 &&
    (List.range pmus).all (fun i =>
      let o := 64 + 32 * i
      inRange 1 65534 (field b (o + 16) 2) && (field b (o + 18) 1 == 50 || field b (o + 18) 1 == 60) &&
        isZero b (o + 19) 13 && pmuEntryOk c i) &&
    (List.range c.channels.length).all (fun i =>
      let o := 64 + 32 * pmus + 24 * i
      let k := sessionChannel b pmus i
      k.pmu < pmus && k.kind ≤ 7 && isZero b (o + 3) 1 && isZero b (o + 6) 2 &&
        (k.kind != 7 || (k.word ≤ 496 && k.word % 16 == 0)) && nameOk b (o + 8) 16 16)

/-- The limits of R391: 16 TCP sessions besides this one, 4,096 bytes, and MAX_FRAME of the port for UDP. -/
def sessionLimits (l : Lane) (n : Nat) (c : SessionCfg) : Bool :=
  (!c.tcp || (l.cfg.sessions.filter (fun e => e.2.tcp && e.1 != n)).length < 16) && sessionDataLen c ≤ 4096 &&
    (c.tcp || sessionFrameLen c (ethCfg l c.port).prp ≤ maxFrame (ethCfg l c.port).maxFrame)

/-- SESSION_OPEN's checks (R391). -/
def openCheck (l : Lane) (r : Request) : Status :=
  let b := body r
  let c := sessionAsked b
  need (sessionRanges l b) .badParam <|
  need ((tget l.cfg.sessions (flowId r)).isNone && (tget l.cfg.planes c.plane).isSome) .noResource <|
  need (sessionLimits l (flowId r) c) .limitExceeded .ok

/-- The session opens: a UDP session transmits from here (R397), a TCP session listens (R398). -/
def openApply (r : Request) (l : Lane) : Lane × Bytes :=
  let c := sessionAsked (body r)
  ({ l with
     cfg := { l.cfg with sessions := tput l.cfg.sessions (flowId r) c }
     publish := { l.publish with sessions := tput l.publish.sessions (flowId r) (.opened (!c.tcp)) } }, [])

def laneSessionOpen (r : Request) (l : Lane) : Lane := serve 0x0600 none openCheck openApply r l

/-- SESSION_MODIFY's checks (R398): op 0, announce_s, an open session, the fields that stay, the limits. -/
def sessionModifyCheck (l : Lane) (r : Request) : Status :=
  let b := body r
  let c := sessionAsked (b.drop 4)
  need (field b 0 1 == 0 && field b 1 1 ≤ 60 && isZero b 2 2 && sessionRanges l (b.drop 4)) .badParam <|
  match tget l.cfg.sessions (flowId r) with
  | none => .noResource
  | some old =>
    need (c.tcp == old.tcp && c.srcAddr == old.srcAddr && c.srcPort == old.srcPort) .badParam <|
    need (tget l.cfg.planes c.plane).isSome .noResource <|
    need (sessionLimits l (flowId r) c) .limitExceeded .ok

/-- The announcement begins at dispatch (R398). -/
def announceStart (r : Request) (l : Lane) : Lane :=
  let b := body r
  { l with publish := { l.publish with sessions := tmod l.publish.sessions (flowId r) (fun s =>
      { s with announce := some (sessionAsked (b.drop 4), l.tc + secTc (field b 1 1), r) }) } }

def laneSessionModify (r : Request) (l : Lane) : Lane := serveHeld 0x0601 none sessionModifyCheck announceStart r l

/-- announce_s has passed: the new configuration applies and CFGCNT rises by one (R398). -/
def laneAnnounceCommit (n : Nat) (l : Lane) : Lane :=
  match tget l.publish.sessions n with
  | some s =>
    match s.announce with
    | some (c, at_, r) =>
      if at_ ≤ l.tc then
        let s' := { s with
          announce := none, cfgcnt := (s.cfgcnt + 1) % 65536
          sending := s.sending || (!c.tcp && !c.cmdAccept) }
        postReply r .ok false []
          { l with
            cfg := { l.cfg with sessions := tput l.cfg.sessions n c }
            publish := { l.publish with sessions := tput l.publish.sessions n s' } }
      else l
    | none => l
  | none => l

def closeCheck (l : Lane) (r : Request) : Status :=
  need (isZero (body r) 0 4) .badParam <| need (tget l.cfg.sessions (flowId r)).isSome .noResource .ok

/-- SESSION_CLOSE ends a TCP connection with FIN and frees the session (R398). -/
def closeApply (r : Request) (l : Lane) : Lane × Bytes :=
  let n := flowId r
  let connected := (tget l.publish.sessions n).any (·.client.isSome)
  let l1 := if connected then emit (.tcpFin n) l else l
  ({ l1 with
     cfg := { l1.cfg with sessions := tdel l1.cfg.sessions n }
     publish := { l1.publish with sessions := tdel l1.publish.sessions n } }, [])

def laneSessionClose (r : Request) (l : Lane) : Lane := serve 0x0602 none closeCheck closeApply r l

/-- PUBLISH_QUERY.state (R399). -/
def sessionState (c : SessionCfg) (s : SessionRun) : Nat :=
  if s.announce.isSome then 6
  else if c.tcp then (if s.client.isNone then 3 else if s.sending then 5 else 4)
  else if s.sending then 1 else 2

/-- The PUBLISH_QUERY result (R399); a closed session reads zeros. -/
def publishResult (l : Lane) (n : Nat) : Bytes :=
  match tget l.cfg.sessions n, tget l.publish.sessions n with
  | some c, some s =>
    le 1 (sessionState c s) ++ le 1 c.plane ++ le 2 s.cfgcnt ++ le 4 s.framesSent ++ le 4 s.framesDropped ++
      le 4 s.gapFrames ++ le 4 s.catchupSent ++ le 4 s.catchupLost ++ le 4 s.cfgSent ++ le 4 s.commands ++
      le 4 s.connections ++ le 4 s.missingWords ++ le 4 s.cfgTooLarge ++ zeros 4 ++ le 8 s.lastCourse ++
      fit 16 (s.client.getD [])
  | _, _ => zeros 72

/-- The checks of `lanePublishQuery`. -/
def publishQueryCheck (_ : Lane) (q : Request) : Status :=
  need (isZero (body q) 0 4) .badParam .ok

/-- The effect and result of `lanePublishQuery`. -/
def publishQueryApply (q : Request) (s : Lane) : Lane × Bytes :=
  (s, publishResult s (flowId q))

def lanePublishQuery (r : Request) (l : Lane) : Lane :=
  serve 0x0606 none publishQueryCheck publishQueryApply r l

/-! ### Data frames (R380, R392, R393, R395) -/

/-- Word j of a publishing block; none beyond its length (R380). -/
def blockWord (blocks : Table Bytes) (block j : Nat) : Option Word :=
  let b := tgetD blocks block []
  if 4 * j + 4 ≤ b.length then some (BitVec.ofNat 32 (field b (4 * j) 4)) else none

/-- The words that a channel names: two for a phasor, none for an alarm word (R391). -/
def channelWords (blocks : Table Bytes) (k : SessionChannel) : List (Option Word) :=
  if k.kind ≤ 1 then [blockWord blocks k.block k.word, blockWord blocks k.block (k.word + 1)]
  else if k.kind = 7 then []
  else [blockWord blocks k.block k.word]

/-- The absent words of a frame (R380). -/
def absentWords (c : SessionCfg) (blocks : Table Bytes) : Nat :=
  ((c.channels.map (fun k => ((channelWords blocks k).filter Option.isNone).length))).sum

/-- The two words of a phasor in the frame (R392). -/
def phasorWords (polar : Bool) (blocks : Table Bytes) (k : SessionChannel) : List Word :=
  let re := (blockWord blocks k.block k.word).getD fpNan
  let im := (blockWord blocks k.block (k.word + 1)).getD fpNan
  if polar then [Config.polarMag re im, Config.polarAng re im] else [re, im]

/-- The first channel of a kind of a PMU entry as a word. -/
def singleWord (c : SessionCfg) (blocks : Table Bytes) (pmu kind : Nat) : Option Word :=
  ((channelsOf c pmu [kind]).head?).map (fun k => (blockWord blocks k.block k.word).getD fpNan)

/-- An alarm word: bit b is true while id word + b is active (R391). -/
def alarmWord (l : Lane) (first : Nat) : BitVec 16 :=
  (List.range 16).foldl (fun acc b => if alarmActive l (first + b) then acc ||| BitVec.ofNat 16 (2 ^ b) else acc) 0

/-- The FP32 fields of a PMU entry: phasors, FREQ, DFREQ, analogs (R392). -/
def pmuFloats (c : SessionCfg) (blocks : Table Bytes) (i : Nat) : List Word :=
  ((channelsOf c i [0, 1]).flatMap (phasorWords c.polar blocks)) ++
    [(singleWord c blocks i 2).getD fpNan, (singleWord c blocks i 3).getD fpNan] ++
    ((channelsOf c i [4]).map (fun k => (blockWord blocks k.block k.word).getD fpNan))

/-- The digital and alarm words of a PMU entry. -/
def pmuDigitals (l : Lane) (c : SessionCfg) (blocks : Table Bytes) (i : Nat) : List (BitVec 16) :=
  (channelsOf c i [5, 7]).map (fun k =>
    if k.kind = 7 then alarmWord l k.word else ((blockWord blocks k.block k.word).getD fpNan).setWidth 16)

/-- The STAT bits that the engine sets (R393): [13] UNLOCKED, [10] announcement, [8:6] and [5:4] time quality. -/
def engineStat (l : Lane) (s : SessionRun) (status : Word) : Nat :=
  (if status.getLsbD 6 then 0x2000 else 0) + (if s.announce.isSome then 0x0400 else 0) +
    64 * statQuality l + 16 * statUnlockedTime l

/-- SOC and FRACSEC of a course instant (R393), in 2^-24 s. -/
def frameTime (l : Lane) (c : SessionCfg) (instant : Nat) : Nat × Word :=
  let sec := instant / 2 ^ 24
  let f := (instant % 2 ^ 24 * c.timeBase + 2 ^ 23) / 2 ^ 24
  let soc := sec - offsetAt l.time sec
  let q := timeQualityByte l sec * 2 ^ 24
  if f = c.timeBase then (soc + 1, BitVec.ofNat 32 q) else (soc, BitVec.ofNat 32 (q + f))

/-- The frame of a course with a clean round. -/
def cleanFrame (l : Lane) (c : SessionCfg) (s : SessionRun) (k instant : Nat) (status : Word) (blocks : Table Bytes) :
    DataFrame :=
  let t := frameTime l c instant
  { course := k, idcode := c.idcode, soc := t.1, fracsec := t.2, formedAt := l.tc
    blocks := (List.range c.pmus.length).map (fun i =>
      let own := ((singleWord c blocks i 6).getD 0).toNat % 65536
      (BitVec.ofNat 16 (own &&& 0xDA0F ||| engineStat l s status), pmuFloats c blocks i, pmuDigitals l c blocks i)) }

/-- The frame of a course without one under gap_policy (R395); none where nothing is sent. -/
def gapFrame (l : Lane) (c : SessionCfg) (s : SessionRun) (k instant : Nat) (status : Word) : Option DataFrame :=
  let t := frameTime l c instant
  match c.gapPolicy with
  | 0 => none
  | 1 => s.lastFrame.map (fun f =>
      { f with
        course := k, soc := t.1, fracsec := t.2, formedAt := l.tc
        blocks := f.blocks.map (fun b => (b.1 ||| 0x0200, b.2.1, b.2.2)) })
  | _ =>
    some { course := k, idcode := c.idcode, soc := t.1, fracsec := t.2, formedAt := l.tc
           blocks := (List.range c.pmus.length).map (fun i =>
             (BitVec.ofNat 16 (0xC000 + engineStat l s status), (pmuFloats c [] i).map (fun _ => fpNan),
              (channelsOf c i [5, 7]).map (fun _ => 0))) }

/-- A frame that the engine has formed: the leaseholder sends it, the standby keeps it among the last 256 of a UDP
session (R378, R401). -/
def placeFrame (n : Nat) (c : SessionCfg) (f : DataFrame) (gap : Bool) (l : Lane) : Lane :=
  let note := fun (s : SessionRun) => { s with
    lastFrame := if gap then s.lastFrame else some f
    gapFrames := if gap && isLeaseholder l then bump s.gapFrames else s.gapFrames }
  let l1 := { l with publish := { l.publish with sessions := tmod l.publish.sessions n note } }
  if isLeaseholder l then sendSession n c f l1
  else if c.tcp then l1
  else { l1 with publish := { l1.publish with sessions := tmod l1.publish.sessions n (fun s =>
           let ring := s.catchup ++ [f]
           { s with catchup := ring.drop (ring.length - 256) }) } }

/-- Whether a session publishes now: its data frames run and, over TCP, a client is connected (R397, R398). -/
def sessionLive (c : SessionCfg) (s : SessionRun) : Bool := s.sending && (!c.tcp || s.client.isSome)

/-- One session takes a course of its plane (R391, R392, R395): `blocks` none for a course without a clean round. -/
def publishSession (plane k instant rate : Nat) (status : Word) (blocks : Option (Table Bytes)) (n : Nat) (l : Lane) :
    Lane :=
  match tget l.cfg.sessions n, tget l.publish.sessions n with
  | some c, some s =>
    if c.plane ≠ plane || (k % rate) % c.outDiv ≠ 0 || !sessionLive c s then l
    else
      match blocks with
      | some bl =>
        let miss := { s with missingWords := (s.missingWords + absentWords c bl) % 2 ^ 32 }
        placeFrame n c (cleanFrame l c s k instant status bl) false (setSession n miss l)
      | none =>
        match gapFrame l c s k instant status with
        | some f => placeFrame n c f true l
        | none => l
  | _, _ => l

/-- Every session takes a course, in ascending session number. -/
def publishCourse (plane k instant rate : Nat) (status : Word) (blocks : Option (Table Bytes)) (l : Lane) : Lane :=
  l.cfg.sessions.foldl (fun acc e => publishSession plane k instant rate status blocks e.1 acc) l

/-! ### Configuration and header frames, commands (R396 to R398) -/

/-- The 16 bit names of a digital or alarm word (R396). -/
def bitNames (name : Bytes) : List Bytes :=
  (List.range 16).map (fun b =>
    name.take (name.length - 2) ++ [BitVec.ofNat 8 (0x30 + b / 10), BitVec.ofNat 8 (0x30 + b % 10)])

/-- One PMU entry of a configuration frame (R392, R396). -/
def pubPmu (c : SessionCfg) (i : Nat) (p : SessionPmu) : PubPmu :=
  let ph := channelsOf c i [0, 1]
  let an := channelsOf c i [4]
  let dg := channelsOf c i [5, 7]
  { stn := p.stn, idcode := p.idcode, format := 0x000E + b2n c.polar, phasors := ph.map (·.name),
    analogs := an.map (·.name), bits := dg.flatMap (fun k => bitNames k.name),
    phunit := ph.map (fun k => BitVec.ofNat 32 (k.kind * 2 ^ 24)), anunit := an.map (fun _ => 0),
    digunit := dg.map (fun _ => 0), fnom50 := p.fnom == 50 }

/-- A configuration frame of a session (R396). CFG-1 equals CFG-2. -/
def pubConfig (l : Lane) (c : SessionCfg) (s : SessionRun) (kind : Nat) : PubConfig :=
  { kind := kind, idcode := c.idcode, timeBase := c.timeBase,
    dataRate := ((tget l.cfg.planes c.plane).map (·.rate)).getD 0 / c.outDiv, cfgcnt := s.cfgcnt,
    pmus := c.pmus.zipIdx.map (fun (p, i) => pubPmu c i p) }

/-- The length of a configuration frame (C37.118.2): CFG-1 and CFG-2 with 16-byte names, CFG-3 with counted names. -/
def configLen (k : PubConfig) : Nat :=
  (k.pmus.map (fun p =>
    let ph := p.phasors.length
    let an := p.analogs.length
    let dg := p.digunit.length
    if k.kind = 3 then 68 + 17 * (ph + an + 16 * dg) + 12 * ph + 8 * an + 4 * dg
    else 30 + 16 * (ph + an + 16 * dg) + 4 * (ph + an + dg))).sum + (if k.kind = 3 then 26 else 24)

/-- The Ethernet frame around `n` bytes of a UDP session. -/
def udpFrameLen (l : Lane) (c : SessionCfg) (n : Nat) : Nat :=
  n + (if isV4 c.srcAddr then 46 else 66) + (if c.vlan = 0 then 0 else 4) + (if (ethCfg l c.port).prp then 6 else 0)

/-- Only the leaseholder sends session frames (R378); a configuration frame above MAX_FRAME is not sent (R397). -/
def sendConfig (n kind : Nat) (l : Lane) : Lane :=
  match tget l.cfg.sessions n, tget l.publish.sessions n with
  | some c, some s =>
    let k := pubConfig l c s kind
    let len := udpFrameLen l c (configLen k)
    if !isLeaseholder l then l
    else if !c.tcp && maxFrame (ethCfg l c.port).maxFrame < len then
      setSession n { s with cfgTooLarge := bump s.cfgTooLarge } l
    else
      enqueueOrWait (26 + c.port) (frameEntries len) (.egress (.config n k) len false none)
        (setSession n { s with cfgSent := bump s.cfgSent } l)
  | _, _ => l

def sendHeader (n : Nat) (l : Lane) : Lane :=
  match tget l.cfg.sessions n with
  | some c =>
    let len := udpFrameLen l c (16 + c.header.length)
    if isLeaseholder l then
      enqueueOrWait (26 + c.port) (frameEntries len) (.egress (.header n c.header) len false none) l
    else l
  | none => l

/-- Data frames of a session stop or start (R397). -/
def setSending (n : Nat) (on : Bool) (l : Lane) : Lane :=
  { l with publish := { l.publish with sessions := tmod l.publish.sessions n (fun s => { s with sending := on }) } }

/-- A command frame reaches a session (R397): acted on when its IDCODE is the session's and its CHK passes; to a UDP
session without cmd_accept it is counted and ignored. Over TCP it comes from the connected client. -/
def sessionCommand (act : Nat → Lane → Lane) (n idcode : Nat) (chk : Bool) (l : Lane) : Lane :=
  match tget l.cfg.sessions n, tget l.publish.sessions n with
  | some c, some s =>
    if !serving l || !chk || idcode ≠ c.idcode || (c.tcp && s.client.isNone) then l
    else if !c.tcp && !c.cmdAccept then
      setSession n { s with commands := bump s.commands } l
    else act n l
  | _, _ => l

def laneDataOff (n idcode : Nat) (chk : Bool) (l : Lane) : Lane := sessionCommand (fun i => setSending i false) n idcode chk l
def laneDataOn (n idcode : Nat) (chk : Bool) (l : Lane) : Lane := sessionCommand (fun i => setSending i true) n idcode chk l
def laneSendHeader (n idcode : Nat) (chk : Bool) (l : Lane) : Lane := sessionCommand sendHeader n idcode chk l
def laneSendCfg1 (n idcode : Nat) (chk : Bool) (l : Lane) : Lane := sessionCommand (fun i => sendConfig i 1) n idcode chk l
def laneSendCfg2 (n idcode : Nat) (chk : Bool) (l : Lane) : Lane := sessionCommand (fun i => sendConfig i 2) n idcode chk l
def laneSendCfg3 (n idcode : Nat) (chk : Bool) (l : Lane) : Lane := sessionCommand (fun i => sendConfig i 3) n idcode chk l

/-- A client connects (R398): one client, on the leaseholder only; a further attempt is reset. -/
def laneTcpConnect (n : Nat) (addr : Bytes) (l : Lane) : Lane :=
  match tget l.cfg.sessions n, tget l.publish.sessions n with
  | some c, some s =>
    if !c.tcp || !serving l || !isLeaseholder l then l
    else if s.client.isSome then emit (.tcpReset n) l
    else
      let s' := { s with client := some (fit 16 addr), sending := c.autoStart, connections := bump s.connections }
      setSession n s' l
  | _, _ => l

/-- The client closes or loses its connection: the session listens again (R398). -/
def laneTcpDisconnect (n : Nat) (l : Lane) : Lane :=
  match tget l.publish.sessions n with
  | some s =>
    if s.client.isSome then setSession n { s with client := none, sending := false, waiting := [] } l
    else l
  | none => l

/-! ### Derived streams (R404 to R406) -/

def derivedKinds (b : Bytes) : List Nat := (List.range (field b 2 2)).map (fun i => field b (8 + i) 1)

/-- The ranges of R404. -/
def derivedRanges (b : Bytes) : Bool :=
  field b 1 1 ≤ 3 && inRange 1 256 (field b 2 2) && isZero b 4 4 && (derivedKinds b).all (inRange 1 3)

def derivedCreateCheck (l : Lane) (r : Request) : Status :=
  let b := body r
  need (derivedRanges b) .badParam <|
  need ((streamCfg l (flowId r)).isNone && (tget l.cfg.planes (field b 1 1)).isSome) .noResource .ok

/-- An ACTIVE context of type 5 with a history of 2,000 ms (R404). -/
def derivedCreateApply (r : Request) (l : Lane) : Lane × Bytes :=
  let b := body r
  let p := field b 1 1
  let c : StreamCfg :=
    { transport := 0, portMask := 0, rate := ((tget l.cfg.planes p).map (·.rate)).getD 0, freq := 0,
      acceptTest := false, rejectUnsync := false, acceptErr01 := false, cmdEnable := false, tqLimit := 0,
      unlockLimit := 0, historyMs := 2000, part := .derived p (derivedKinds b) }
  (setRun (flowId r) (.new .active 0 l.tc) { l with cfg := { l.cfg with streams := tput l.cfg.streams (flowId r) c } }, [])

def laneDerivedCreate (r : Request) (l : Lane) : Lane :=
  serve 0x0605 (some 0) derivedCreateCheck derivedCreateApply r l

def derivedRemoveCheck (l : Lane) (r : Request) : Status :=
  need (derivedRanges (body r)) .badParam <|
  need ((streamCfg l (flowId r)).isSome && !streamNamed l (flowId r)) .noResource .ok

/-- The effect and result of `laneDerivedRemove`. -/
def derivedRemoveApply (q : Request) (s : Lane) : Lane × Bytes :=
  (freeStream (flowId q) s, [])

def laneDerivedRemove (r : Request) (l : Lane) : Lane :=
  serve 0x0605 (some 1) derivedRemoveCheck derivedRemoveApply r l

/-- An FP32 NaN. -/
def wordNan (w : Word) : Bool := w.toNat / 2 ^ 23 % 256 == 255 && w.toNat % 2 ^ 23 != 0

/-- The values of a derived stream from its lines (R405): consecutive bytes, 8 for a complex channel and 4 for each
other; bytes beyond the lines leave their channel INVALID. -/
def derivedValues (b : Bytes) : List Nat → Nat → Nat → List Value
  | [], _, _ => []
  | kind :: t, ch, o =>
    let size := if kind = 1 then 8 else 4
    let w0 := BitVec.ofNat 32 (field b o 4)
    let w1 := if kind = 1 then BitVec.ofNat 32 (field b (o + 4) 4) else (0 : Word)
    let v : Value :=
      if b.length < o + size then
        { channel := ch, w0 := 0, w1 := 0, grade := .invalid, test := false, auth := false, chain := 0 }
      else
        { channel := ch, w0 := w0, w1 := w1, test := false, auth := false, chain := 0,
          grade := if kind ≠ 3 && (wordNan w0 || wordNan w1) then .invalid else .good }
    v :: derivedValues b t (ch + 1) (o + size)

/-- The derived streams of a plane take the outputs of a clean round, tagged with the course instant (R405). -/
def deliverDerived (plane instant : Nat) (streams : Table Bytes) (l : Lane) : Lane :=
  l.cfg.streams.foldl (fun acc e =>
    match e.2.part with
    | .derived p kinds =>
      if p = plane && stateIs acc e.1 .active then
        let vals := derivedValues (tgetD streams e.1 []) kinds 0 0
        deliverValues e.1 (BitVec.ofNat 40 instant) (nowTag acc) vals acc
      else acc
    | _ => acc) l

end Sys2Proof.Machine
end

