-- ==== Sys2Proof/Machine/ArrayOps.lean ====
section
/-!
DEFINITION. Partitions and the cast-on queue (R278, R313 to R315): banks, the one-in-N rule, closed courses on
their way to a partition, and skipped courses.
-/
namespace Sys2Proof.Machine

def activeBank (p : Part) : Option Pattern := if p.activeBank = 0 then p.bank0 else p.bank1
def inactiveBank (p : Part) : Option Pattern := if p.activeBank = 0 then p.bank1 else p.bank0

def setActive (x : Option Pattern) (p : Part) : Part := if p.activeBank = 0 then { p with bank0 := x } else { p with bank1 := x }
def setInactive (x : Option Pattern) (p : Part) : Part := if p.activeBank = 0 then { p with bank1 := x } else { p with bank0 := x }

/-- The plane bound to a partition (R239). -/
def planeOf (l : Lane) (n : Nat) : Option (Nat × PlaneCfg) := l.cfg.planes.find? (fun e => e.2.partition_ == n)

/-- N of R315; 0 when the plane skips no course by that rule. -/
def throttleN (l : Lane) (n : Nat) : Nat :=
  match activeBank (partOf l n), planeOf l n with
  | some pat, some (_, c) =>
    let slow := patTime pat true
    if roundFits (patTime pat false) c.rate && l.health.throttled && !roundFits slow c.rate then
      (slow / (slow - mkRat 1 c.rate)).floor.toNat
    else 0
  | _, _ => 0

/-- A course status word with the bits that Cast-on sets (R316). -/
def withStatus (mask : Nat) (w : Word) : Word := w ||| BitVec.ofNat 32 mask

/-- A course has no clean round (R317): publishing and Ply receive its absence. -/
def absentCourse (c : ClosedCourse) (l : Lane) : Lane :=
  produceDigest c.plane c.number none none (publishCourse c.plane c.number c.instant c.rate c.status none l)

/-- Counts a skip by its reason (R323). -/
def countSkip (reason : Nat) (k : PartCounters) : PartCounters :=
  match reason with
  | 0 => { k with skQueue := bump k.skQueue }
  | 1 => { k with skThrottle := bump k.skThrottle }
  | 2 => { k with skMismatch := bump k.skMismatch }
  | _ => { k with skNotServing := bump k.skNotServing }

/-- A course is skipped (R313, R316): counted, the first of its kind since a course that was not skipped raises its
alarm, and its absence is delivered. -/
def skipCourse (n : Nat) (c : ClosedCourse) (reason : Nat) (l : Lane) : Lane :=
  let p := partOf l n
  let first := !p.skipped.contains reason
  let p' := { p with
    counters := countSkip reason p.counters, skipped := if first then p.skipped ++ [reason] else p.skipped }
  let l1 := setPart n p' l
  let l2 := if first then raiseEvent (264 + reason) l1 else l1
  absentCourse { c with status := withStatus (0x100 + 0x200 * reason) c.status } l2

/-- Places held in a partition's cast-on queue: closed courses until their round's row 0 (R313). -/
def placesHeld (p : Part) : Nat := p.queue.length + (if p.phase == .casting then 1 else 0)

/-- A drill replays a scenario: the courses of the lane's own planes are skipped meanwhile (R633). -/
def replaying (l : Lane) : Bool := l.health.drill.any (fun d => bit d.tests 3)

/-- A course closes for a bound partition (R230, R313, R315, R316): skipped when four courses hold places, by the
one-in-N rule, or when the partition does not serve; otherwise it waits for its cast, QUEUED unless the partition is
IDLE. -/
def castOffer (n : Nat) (c : ClosedCourse) (l : Lane) : Lane :=
  let p := partOf l n
  let nn := throttleN l n
  if 4 ≤ placesHeld p then skipCourse n c 0 l
  else if nn ≠ 0 && c.number % nn = nn - 1 then skipCourse n c 1 l
  else if (activeBank p).isNone || p.faulted || replaying l then skipCourse n c 3 l
  else
    let c' := { c with status := if p.phase == .idle then c.status else withStatus 0x1000 c.status }
    let p' := { p with queue := p.queue ++ [c'] }
    setPart n { p' with queueMax := max p.queueMax (placesHeld p') } l

/-- Courses of a plane that wait for their casts, whichever partition they were offered to: each holds a slot of the
plane's hot ring (R224, R225). -/
def queuedOf (l : Lane) (plane : Nat) : Nat :=
  ((l.array.parts.map (fun e => (e.2.queue.filter (fun c => c.plane == plane)).length))).sum

end Sys2Proof.Machine
end

