-- ==== Sys2Proof/Machine/LibCommon.lean ====
section
/-!
DEFINITION. What the reference patterns of the library share (chapters 09 and 10): how they read a course, and the form
of what they deliver.
-/
namespace Sys2Proof.Machine

/-- What a round of a library pattern reads: the course, the number of its last clean course, the parameter block, the
selector, the variant in force, and the stored variant that a signature matches. -/
structure LibIn where
  course : ClosedCourse
  lastClean : Option Nat
  params : Bytes
  selector : Nat
  variant : Bytes
  active : Option Nat
  matching : Bytes → Option Nat

/-- What it delivers: its output lines in order, each with the kinds and targets it goes to; its alarms; its buffers. -/
structure LibOut where
  lines : List (List (Nat × Nat) × Bytes)
  alarms : List Nat
  bufs : List LibBuf

/-- The words and validity code of a position of a course. -/
def positionOf (c : ClosedCourse) (p : Nat) : Word × Word × Nat :=
  match c.positions.find? (fun x => x.1 == p) with
  | some x => x.2
  | none => (0, 0, 0)

/-- A position as a complex value. -/
def complexAt (c : ClosedCourse) (p : Nat) : Word × Word := let x := positionOf c p; (x.1, x.2.1)

/-- A position is GOOD or SUSPECT (R231). -/
def usableAt (c : ClosedCourse) (p : Nat) : Bool := let k := (positionOf c p).2.2; k == 1 || k == 2

/-- A breaker position (R341): closed or open, none for any other value and for a position that is not GOOD or SUSPECT. -/
def breakerAt (c : ClosedCourse) (single : Bool) (p : Nat) : Option Bool :=
  let v := (positionOf c p).1.toNat
  if !usableAt c p then none
  else if v = (if single then 1 else 2) then some true
  else if v = (if single then 0 else 1) then some false
  else none

/-- The word that marks what is not there. -/
def noValue : Word := 0x7FC00000

def wordBytes (w : Word) : Bytes := le 4 w.toNat
def cplxBytes (x : Word × Word) : Bytes := wordBytes x.1 ++ wordBytes x.2

/-- Bytes cut into lines of 64, `n` of them. -/
def linesOf (n : Nat) (b : Bytes) : List Bytes := (List.range n).map (fun i => fit 64 (slice b (64 * i) 64))

/-- An FP32 parameter. -/
def parWord (p : Bytes) (off : Nat) : Word := BitVec.ofNat 32 (field p off 4)

/-- The exact value of an FP32 parameter. -/
def parRat (p : Bytes) (off : Nat) : Rat := (fp32ToRat (parWord p off)).getD 0

/-- A fixed-length list of words, 0 where the list ends (the opaque functions give lists of no stated length). -/
def words (n : Nat) (xs : List Word) : List Word := (List.range n).map (fun i => xs.getD i 0)
def cplxs (n : Nat) (xs : List (Word × Word)) : List (Word × Word) := (List.range n).map (fun i => xs.getD i (0, 0))

/-- Bit i of a field of bytes set for each number of a list. -/
def bitField (len : Nat) (xs : List Nat) : Bytes :=
  (List.range len).map (fun b => BitVec.ofNat 8 (((List.range 8).map (fun i => if xs.contains (8 * b + i) then 2 ^ i else 0)).sum))

end Sys2Proof.Machine
end

