-- ==== Sys2Proof/Machine/LibEstimate.lean ====
section
/-!
DEFINITION. The state estimator, library pattern 1 (R325 to R334, R341, R343, R346, R347).
-/
namespace Sys2Proof.Machine

abbrev Estimate := List (Word × Word)

/-! ### The variant and the parameters (R336, R345) -/

def varBuses (v : Bytes) : Nat := field v 24 4
def varMeas (v : Bytes) : Nat := field v 28 4

/-- The buffer of the prior course (R328): the one tagged last_clean_course, where that is k − 1 or k − 2. -/
def estPrior (i : LibIn) (bufs : List LibBuf) : Option EstimateBuf :=
  match i.lastClean with
  | none => none
  | some k =>
    if i.course.number = k + 1 || i.course.number = k + 2 then
      bufs.findSome? (fun b => match b with
        | .estimate x => if x.course = k then some x else none
        | _ => none)
    else none

/-! ### Reading a course (R327) -/

/-- A measurement position is used. -/
def measUsed (i : LibIn) (p : Nat) : Bool :=
  match (positionOf i.course p).2.2 with
  | 1 => true
  | 2 => field i.params 8 1 == 0
  | 3 => field i.params 9 1 == 0
  | _ => false

/-- The dropped channels, in ascending position. -/
def droppedChannels (i : LibIn) : List Nat := (List.range (varMeas i.variant)).filter (fun p => !measUsed i p)

/-! ### One solve (R325, R329, R330) -/

/-- What one solve leaves: the estimate, the corrected channels, those made critical, and all pseudo-measurements with
their values. -/
structure Solve where
  x : Estimate
  kept : List Nat
  critical : List Nat
  pseudo : Table (Word × Word)

/-- The pseudo-measurement of a channel: h_i x_prior, 0 without a prior (R329). -/
def pseudoValue (i : LibIn) (pr : Option EstimateBuf) (j : Nat) : Word × Word :=
  match pr with
  | some q => Config.estProject i.variant j q.x
  | none => (0, 0)

/-- The factorisation of M in ascending position (R330). -/
def factorSet (i : LibIn) (pr : Option EstimateBuf) : List Nat → Solve → Solve
  | [], s => s
  | j :: js, s =>
    let limit := fpMul (parWord i.params 4) (Config.estSigma2 i.variant j)
    if fpLe (Config.estPivot i.variant s.kept j) limit then
      let z := pseudoValue i pr j
      factorSet i pr js { s with
        x := Config.estAddPseudo i.variant s.x j z, critical := s.critical ++ [j], pseudo := s.pseudo ++ [(j, z)] }
    else factorSet i pr js { s with kept := s.kept ++ [j] }

/-- A solve with a correction set and the channels that take pseudo-measurements in its place. -/
def solveWith (i : LibIn) (pr : Option EstimateBuf) (set beyond : List Nat) : Solve :=
  let pseudo := beyond.map (fun j => (j, pseudoValue i pr j))
  let z := (List.range (varMeas i.variant)).map (fun j =>
    match tget pseudo j with
    | some v => v
    | none => if set.contains j then (0, 0) else complexAt i.course j)
  let s := factorSet i pr set { x := Config.estSolve i.variant z, kept := [], critical := [], pseudo := pseudo }
  { s with x := cplxs (varBuses i.variant) (Config.estCorrect i.variant s.kept s.x) }

/-! ### Bad data (R332 to R334) -/

/-- The used channels after a solve: neither dropped nor rejected. -/
def usedChannels (i : LibIn) (out : List Nat) : List Nat := (List.range (varMeas i.variant)).filter (fun j => !out.contains j)

/-- The normalised residual of a channel, none where it is not tested (R332). -/
def testedResidual (i : LibIn) (x : Estimate) (j : Nat) : Option Word :=
  if fpLe (Config.estOmega i.variant j) (fpMul (parWord i.params 4) (Config.estSigma2 i.variant j)) then none
  else some (Config.estNormalised i.variant j (complexAt i.course j) x)

/-- The tested channel with the largest normalised residual; of equal values the lower position. -/
def worstResidual (i : LibIn) (x : Estimate) (used : List Nat) : Option (Nat × Word) :=
  used.foldl (fun best j =>
    match testedResidual i x j, best with
    | some r, some b => if fpLt b.2 r then some (j, r) else some b
    | some r, none => some (j, r)
    | none, b => b) none

/-- What the estimator decides in a course. -/
structure EstimateCourse where
  solve : Solve
  out : List Nat
  rejected : Option Nat
  /-- channels beyond the eighth, and a rejected channel without a place in S -/
  degraded : Bool
  worst : Option (Nat × Word)
  noPrior : Bool
  uncertain : List Nat
  signature : BitVec 256

/-- The topology signature and the breakers whose bit was kept (R341). -/
def topologyOf (i : LibIn) (pr : Option EstimateBuf) : BitVec 256 × List Nat :=
  let states := (List.range (field i.params 20 2)).map (fun b =>
    (b, breakerAt i.course (field i.params 13 1 == 1) (field i.params 16 4 + b)))
  let old := (pr.map (·.breakers)).getD 0
  let bits := states.map (fun s => match s.2 with
    | some v => if v then 2 ^ s.1 else 0
    | none => if old.getLsbD s.1 then 2 ^ s.1 else 0)
  (BitVec.ofNat 256 bits.sum, (states.filter (fun s => s.2.isNone)).map (·.1))

def estimateCourse (i : LibIn) (bufs : List LibBuf) : EstimateCourse :=
  let pr := estPrior i bufs
  let dropped := droppedChannels i
  let set := dropped.take 8
  let beyond := dropped.drop 8
  let first := solveWith i pr set beyond
  let above := (worstResidual i first.x (usedChannels i dropped)).filter (fun c => fpLt (parWord i.params 0) c.2)
  let rejected := if field i.params 10 1 = 1 then above.map (·.1) else none
  let room := decide (set.length < 8)
  let set2 := match rejected with
    | some j => if room then (set.filter (· < j)) ++ [j] ++ (set.filter (j < ·)) else set
    | none => set
  let beyond2 := match rejected with
    | some j => if room then beyond else beyond ++ [j]
    | none => beyond
  let second := solveWith i pr set2 beyond2
  let out := dropped ++ rejected.toList
  let topo := topologyOf i pr
  { solve := second, out := out, rejected := rejected, degraded := !beyond2.isEmpty
    worst := worstResidual i second.x (usedChannels i out), noPrior := pr.isNone, uncertain := topo.2, signature := topo.1 }

/-! ### Outputs (R343, R346, R347) -/

def signatureBytes (x : EstimateCourse) : Bytes := le 32 x.signature.toNat

/-- The buses of the pseudo-measurements. -/
def pseudoBuses (i : LibIn) (x : EstimateCourse) : List Nat :=
  (x.solve.pseudo.flatMap (fun e => Config.estBuses i.variant e.1)).filter (· < varBuses i.variant)

/-- BAD_DATA_REMAINS: after the second solve the largest normalised residual still exceeds the threshold (R333). -/
def remains (i : LibIn) (x : EstimateCourse) : Bool :=
  x.worst.any (fun c => fpLt (parWord i.params 0) c.2)

def estimateSummary (i : LibIn) (x : EstimateCourse) : Bytes :=
  let matched := i.matching (signatureBytes x)
  let used := usedChannels i x.out
  let pseudo := pseudoBuses i x
  let flags := b2n x.degraded + 2 * b2n (!x.solve.pseudo.isEmpty) + 4 * b2n x.noPrior + 8 * b2n x.rejected.isSome +
    16 * b2n (remains i x) + 32 * b2n (matched.isSome && matched != i.active) + 64 * b2n matched.isNone +
    128 * b2n (!x.uncertain.isEmpty) + 256 * b2n (bit i.selector 5) + 512 * b2n (!pseudo.isEmpty)
  let j := Config.estObjective i.variant (used.map (fun k => (k, complexAt i.course k))) x.solve.x
  le 8 i.course.number ++ le 4 flags ++ le 2 i.selector ++ le 2 x.out.length ++ le 1 x.solve.kept.length ++
    le 1 x.solve.critical.length ++ le 2 x.solve.pseudo.length ++ wordBytes j ++
    le 4 (unsigned 32 (2 * ((used.length : Int) - varBuses i.variant))) ++
    wordBytes ((x.worst.map (·.2)).getD (Config.libraryUnstated 0 i.course.number)) ++ le 4 ((x.worst.map (·.1)).getD 0xFFFFFFFF) ++
    le 4 (x.rejected.getD 0xFFFFFFFF) ++ le 1 (matched.getD 0xFF) ++ zeros 23

/-- The bus voltages, then noValue up to the limit of the library image. -/
def voltageLines (i : LibIn) (x : EstimateCourse) : List Bytes :=
  let n := varBuses i.variant
  linesOf 1024 ((List.range 8192).flatMap (fun b => cplxBytes (if b < n then x.solve.x.getD b (0, 0) else (noValue, noValue))))

/-- The flags of the buses, four bits each; whole lines beyond the grid read noValue. -/
def flagLines (i : LibIn) (x : EstimateCourse) : List Bytes :=
  let n := varBuses i.variant
  let pseudo := pseudoBuses i x
  let nibble (b : Nat) : Nat := if b < n then (if pseudo.contains b then 2 + 4 * b2n x.noPrior else 1) else 0
  (List.range 64).map (fun l =>
    if l < (n + 127) / 128 then (List.range 64).map (fun y => BitVec.ofNat 8 (nibble (128 * l + 2 * y) + 16 * nibble (128 * l + 2 * y + 1)))
    else (List.range 16).flatMap (fun _ => wordBytes noValue))

/-- The normalised residuals. -/
def residualLines (i : LibIn) (x : EstimateCourse) : List Bytes :=
  linesOf 1024 ((List.range 16384).flatMap (fun j =>
    wordBytes (if j < varMeas i.variant && !x.out.contains j then (testedResidual i x.solve.x j).getD noValue else noValue)))

/-- The alarms of a course (R347). -/
def estimateAlarms (i : LibIn) (x : EstimateCourse) : List Nat :=
  ([x.degraded, x.rejected.isSome, (i.matching (signatureBytes x)).isNone, remains i x].zipIdx.filter (·.1)).map
    (fun y => field i.params 22 1 + y.2)

/-- A round of the state estimator. Course k writes buffer k mod 3 (R328). -/
def estimateRound (i : LibIn) (bufs : List LibBuf) : LibOut :=
  let x := estimateCourse i bufs
  let block (piece : Nat) : Nat × Nat := (0, Config.libraryTarget 1 0 piece)
  let others := bufs.filter (fun b => match b with
    | .estimate q => q.course % 3 != i.course.number % 3
    | _ => false)
  { lines :=
      [([block 0, (3, 0)], estimateSummary i x), ([(3, 0)], signatureBytes x ++ bitField 32 x.uncertain)] ++
      (voltageLines i x).zipIdx.map (fun v =>
        ([if Config.libraryDerived then (1, Config.libraryTarget 1 1 (v.2 / 32)) else block 1], v.1)) ++
      (flagLines i x).map (fun v => ([block 2], v)) ++ (residualLines i x).map (fun v => ([block 3], v))
    alarms := estimateAlarms i x
    bufs := others ++ [.estimate { course := i.course.number, x := x.solve.x, breakers := x.signature }] }

end Sys2Proof.Machine
end

