-- ==== Sys2Proof/Machine/LibIsland.lean ====
section
/-!
DEFINITION. The islanding detector, library pattern 3 (R349, R350, R367 to R377).
-/
namespace Sys2Proof.Machine

/-! ### Parameters (R376) -/

def islSources (p : Bytes) : Nat := field p 0 2
def islTies (p : Bytes) : Nat := field p 2 2
def islSourceByte (p : Bytes) (j : Nat) : Nat := field p (64 + 2 * j) 1
def islRegion (p : Bytes) (j : Nat) : Nat := islSourceByte p j % 64
def islLocal (p : Bytes) (j : Nat) : Bool := bit (islSourceByte p j) 6
def islMaxGap (p : Bytes) : Nat := field p 32 1

/-- The table fields of R371. -/
def islTables (p : Bytes) : Bytes := slice p 4 5 ++ slice p 64 896 ++ slice p 960 1024

/-- A tie: its regions and its breakers. -/
structure Tie where
  a : Nat
  b : Nat
  breakers : List Nat

def tieEntry (p : Bytes) (t : Nat) : Tie :=
  let o := 960 + 8 * t
  { a := field p o 1, b := field p (o + 1) 1
    breakers := [field p (o + 2) 1, field p (o + 3) 1].filter (fun x => x != 255) }

/-- The listed ties. -/
def listedTies (p : Bytes) : List Tie := (List.range (islTies p)).map (tieEntry p)

/-- The declared regions: those that a source or a listed tie names (R367). -/
def declaredRegions (p : Bytes) : List Nat :=
  (List.range 64).filter (fun r =>
    (List.range (islSources p)).any (fun j => islRegion p j == r) || (listedTies p).any (fun t => t.a == r || t.b == r))

/-- The ties: those listed, or every pair of declared regions, without a breaker (R369). -/
def tiesOf (p : Bytes) : List Tie :=
  if islTies p = 0 then
    let d := declaredRegions p
    d.flatMap (fun a => (d.filter (fun b => decide (a < b))).map (fun b => { a := a, b := b, breakers := [] }))
  else listedTies p

/-! ### Sources and regions (R367, R368) -/

/-- A source is valid: both of its positions are GOOD or SUSPECT. -/
def sourceValid (c : ClosedCourse) (j : Nat) : Bool := usableAt c (2 * j) && usableAt c (2 * j + 1)

/-- The valid sources: number, voltage and frequency. -/
def validSources (c : ClosedCourse) (p : Bytes) : Table (Word × Word × Word) :=
  ((List.range (islSources p)).filter (sourceValid c)).map (fun j =>
    (j, (positionOf c (2 * j)).1, (positionOf c (2 * j)).2.1, (positionOf c (2 * j + 1)).1))

/-- The valid sources of a region. -/
def regionSources (c : ClosedCourse) (p : Bytes) (r : Nat) : List (Word × Word × Word) :=
  ((validSources c p).filter (fun s => islRegion p s.1 == r)).map (·.2)

/-- A live region: f_R and U_R. -/
def liveRegion (c : ClosedCourse) (p : Bytes) (r : Nat) : Option (Word × (Word × Word)) :=
  let s := regionSources c p r
  if field p 9 1 ≤ s.length then
    some (Config.libMean (s.map (fun x => x.2.2)), Config.islandVector (s.map (fun x => (x.1, x.2.1))))
  else none

/-- The live regions among those declared. -/
def liveRegions (c : ClosedCourse) (p : Bytes) : Table (Word × (Word × Word)) :=
  (declaredRegions p).filterMap (fun r => (liveRegion c p r).map (fun x => (r, x)))

/-- ω of two regions against the prior (R368): none where it does not exist. -/
def angleRate (c : ClosedCourse) (live : Table (Word × (Word × Word))) (pr : Option IslandBuf) (a b : Nat) : Option Word :=
  match pr, tget live a, tget live b with
  | some q, some x, some y =>
    match tget q.vectors a, tget q.vectors b with
    | some u, some v => some (Config.islandRate (Config.libAngle x.2 y.2) (Config.libAngle u v) (c.number - q.course) c.rate)
    | _, _ => none
  | _, _, _ => none

/-! ### Ties (R369 to R371) -/

/-- A tie's state by topology, with whether it had to keep its prior state: open or closed. -/
def tieOpen (c : ClosedCourse) (p : Bytes) (pr : Option IslandBuf) (i : Nat) (t : Tie) : Bool × Bool :=
  let states := t.breakers.map (fun x => breakerAt c (field p 7 1 == 1) (field p 4 2 + x))
  if states.all (·.isSome) then (states.contains (some false), false)
  else (pr.any (fun q => q.opened.contains i), true)

/-- The divergence test (R370): none is unknown. -/
def divergenceTest (c : ClosedCourse) (p : Bytes) (live : Table (Word × (Word × Word))) (pr : Option IslandBuf) (t : Tie) :
    Option Bool :=
  match tget live t.a, tget live t.b, angleRate c live pr t.a t.b with
  | some x, some y, some w =>
    some (fpLt (parWord p 16) (fpAbs (fpSub x.1 y.1)) && fpLt (parWord p 20) (fpAbs w))
  | _, _, _ => none

/-- A tie's divergence count, restore count and state by measurement after the test; `reset` clears all (R371). -/
def tieCounts (p : Bytes) (pr : Option IslandBuf) (reset : Bool) (test : Option Bool) (i : Nat) : Nat × Nat × Bool :=
  if reset then (0, 0, false)
  else
    let d := (pr.map (fun q => tgetD q.divergence i 0)).getD 0
    let r := (pr.map (fun q => tgetD q.restore i 0)).getD 0
    let sep := pr.any (fun q => q.separated.contains i)
    let (d', r') := match test with
      | some true => (d + 1, 0)
      | some false => (0, r + 1)
      | none => (d, r)
    (d', r', if sep then decide (r' < field p 12 2) else decide (field p 10 1 ≤ d'))

/-! ### The map (R372) -/

/-- One pass of label spreading over the edges: each end takes the lower label. -/
def spreadLabels (edges : List (Nat × Nat)) (labels : Table Nat) : Table Nat :=
  edges.foldl (fun acc e =>
    let m := min (tgetD acc e.1 255) (tgetD acc e.2 255)
    acc.map (fun x => if x.1 == e.1 || x.1 == e.2 then (x.1, m) else x)) labels

/-- The labels of the declared regions: the lowest region number of each component. -/
def componentLabels (declared : List Nat) (edges : List (Nat × Nat)) : Table Nat :=
  (List.range 64).foldl (fun acc _ => spreadLabels edges acc) (declared.map (fun r => (r, r)))

/-- The reference region, with whether it is a fallback. -/
def referenceRegion (p : Bytes) (live : Table (Word × (Word × Word))) : Nat × Bool :=
  let r := field p 8 1
  if (tget live r).isSome then (r, false)
  else
    match live with
    | [] => (r, false)
    | x :: _ => (x.1, true)

/-! ### Loss of mains (R374) -/

/-- The ROCOF test of a source: none is unknown. -/
def rocofTest (c : ClosedCourse) (p : Bytes) (valid : Table (Word × Word × Word)) (pr : Option IslandBuf) (j : Nat) : Option Bool :=
  let span := field p 14 1
  match tget valid j, pr with
  | some x, some q =>
    (q.history.find? (fun h => h.1 + span == c.number && h.2.1 == j)).map (fun h =>
      fpLt (parWord p 24) (fpAbs (Config.islandRocof x.2.2 h.2.2 span c.rate)))
  | _, _ => none

/-- The vector-shift test of a source. -/
def shiftTrips (c : ClosedCourse) (p : Bytes) (valid : Table (Word × Word × Word)) (pr : Option IslandBuf) (j : Nat) : Bool :=
  match pr with
  | none => false
  | some q =>
    match tget valid j, tget q.sources j with
    | some x, some y =>
      fpLt (parWord p 28) (fpAbs (Config.islandShift (x.1, x.2.1) (y.1, y.2.1) y.2.2 (field p 33 1) (c.number - q.course) c.rate))
    | _, _ => false

/-- The local sources. -/
def localSources (p : Bytes) : List Nat := (List.range (islSources p)).filter (islLocal p)

/-! ### A course (R370 to R377) -/

/-- The buffer of the prior course, if the course has a prior (R349, R350). -/
def islPrior (i : LibIn) (bufs : List LibBuf) : Option IslandBuf :=
  match i.lastClean with
  | none => none
  | some k =>
    if i.course.number - k ≤ islMaxGap i.params then
      bufs.findSome? (fun b => match b with
        | .island x => if x.course = k then some x else none
        | _ => none)
    else none

/-- What the detector decides in a course. -/
structure IslandCourse where
  reset : Bool
  noPrior : Bool
  uncertain : Bool
  buf : IslandBuf
  live : Table (Word × (Word × Word))
  reference : Nat × Bool
  lom : List Nat
  changed : Bool

def islandCourse (i : LibIn) (bufs : List LibBuf) : IslandCourse :=
  let c := i.course
  let p := i.params
  let pr := islPrior i bufs
  let reset := pr.isNone || c.status.getLsbD 3 || pr.any (fun q => q.tables != islTables p)
  let valid := validSources c p
  let live := liveRegions c p
  let ties := (tiesOf p).zipIdx
  let topo := ties.map (fun t => (t.2, tieOpen c p pr t.2 t.1))
  let counts := ties.map (fun t => (t.2, tieCounts p pr reset (divergenceTest c p live pr t.1) t.2))
  let opened := (topo.filter (fun x => x.2.1)).map (·.1)
  let separated := (counts.filter (fun x => x.2.2.2)).map (·.1)
  let edges := (ties.filter (fun t => !opened.contains t.2 && !separated.contains t.2)).map (fun t => (t.1.a, t.1.b))
  let labels := componentLabels (declaredRegions p) edges
  let map := (List.range 64).map (fun r => tgetD labels r 255)
  let rocof := (localSources p).map (fun j =>
    let n := (pr.map (fun q => tgetD q.rocof j 0)).getD 0
    (j, if reset then 0
        else match rocofTest c p valid pr j with
          | some true => n + 1
          | some false => 0
          | none => n))
  let lom := (localSources p).filter (fun j =>
    decide (field p 15 1 ≤ tgetD rocof j 0) || shiftTrips c p valid pr j)
  let fresh := (localSources p).filterMap (fun j => (tget valid j).map (fun x => (c.number, j, x.2.2)))
  let kept := ((pr.map (·.history)).getD []).filter (fun h => decide (c.number < h.1 + 64))
  let buf : IslandBuf :=
    { course := c.number, tables := islTables p, vectors := live.map (fun x => (x.1, x.2.2)), sources := valid
      divergence := counts.map (fun x => (x.1, x.2.1)), restore := counts.map (fun x => (x.1, x.2.2.1))
      separated := separated, opened := opened, map := map, history := kept ++ fresh, rocof := rocof }
  { reset := reset, noPrior := pr.isNone, uncertain := topo.any (fun x => x.2.2), buf := buf, live := live
    reference := referenceRegion p live, lom := lom, changed := pr.any (fun q => q.map != map) }

/-- The declared regions form more than one component. -/
def islComponents (p : Bytes) (x : IslandCourse) : Nat := (((declaredRegions p).map (fun r => x.buf.map.getD r 255)).eraseDups).length

/-- A declared region outside the reference's component (R372). -/
def regionIslanded (p : Bytes) (x : IslandCourse) (r : Nat) : Bool :=
  (declaredRegions p).contains r && x.buf.map.getD r 255 != x.buf.map.getD x.reference.1 255

/-- The alarms of a course (R375). -/
def islandAlarms (p : Bytes) (x : IslandCourse) : List Nat :=
  let base := field p 11 1
  ([decide (1 < islComponents p x), x.changed, !x.lom.isEmpty, x.reference.2].zipIdx.filter (·.1)).map (fun y => base + y.2)

/-- The summary line (R377). -/
def islandSummary (i : LibIn) (x : IslandCourse) : Bytes :=
  let p := i.params
  let flags := b2n (decide (1 < islComponents p x)) + 2 * b2n x.changed + 4 * b2n (!x.lom.isEmpty) + 8 * b2n x.reference.2 +
    16 * b2n x.uncertain + 32 * b2n x.reset + 64 * b2n x.noPrior
  le 8 i.course.number ++ le 4 flags ++ le 1 x.reference.1 ++ le 1 (islComponents p x) ++ le 1 x.live.length ++ zeros 1 ++
    bitField 16 x.buf.opened ++ bitField 16 x.buf.separated ++ zeros 16

/-- A region record (R377). -/
def regionRecord (i : LibIn) (pr : Option IslandBuf) (x : IslandCourse) (r : Nat) : Bytes :=
  let c := i.course
  let p := i.params
  let me := tget x.live r
  let angle := match me, tget x.live x.reference.1 with
    | some a, some b => Config.libAngle a.2 b.2
    | _, _ => Config.libraryUnstated (300 + r) c.number
  let rate := (angleRate c x.live pr r x.reference.1).getD noValue
  let flags := b2n me.isSome + 2 * b2n ((declaredRegions p).contains r) + 4 * b2n (x.lom.any (fun j => islRegion p j == r)) +
    8 * b2n (regionIslanded p x r)
  wordBytes ((me.map (·.1)).getD noValue) ++ wordBytes angle ++ wordBytes rate ++ le 1 (regionSources c p r).length ++
    le 1 flags ++ zeros 2

/-- A round of the islanding detector. -/
def islandRound (i : LibIn) (bufs : List LibBuf) : LibOut :=
  let pr := islPrior i bufs
  let x := islandCourse i bufs
  let block := (0, Config.libraryTarget 3 0 0)
  let host := (3, 0)
  let records := linesOf 16 ((List.range 64).flatMap (regionRecord i pr x))
  { lines := [([block, host], islandSummary i x), ([block, host], x.buf.map.map (fun m => BitVec.ofNat 8 m))] ++
      records.map (fun r => ([block, (1, Config.libraryTarget 3 1 0)], r)) ++ [([host], bitField 64 x.lom)]
    alarms := islandAlarms i.params x
    bufs := (pr.toList.map LibBuf.island) ++ [.island x.buf] }

end Sys2Proof.Machine
end

