-- ==== Sys2Proof/Machine/LibOscillate.lean ====
section
/-!
DEFINITION. The oscillation monitor, library pattern 2 (R349 to R366).
-/
namespace Sys2Proof.Machine

/-! ### Parameters (R365) -/

def oscOrderP (p : Bytes) : Nat := field p 4 1
def oscOrderQ (p : Bytes) : Nat := field p 5 1
def oscCount (p : Bytes) : Nat := field p 6 2
def oscRef (p : Bytes) : Nat := field p 8 2
def oscAngleRef (p : Bytes) : Nat := field p 10 2
def oscBandCount (p : Bytes) : Nat := field p 41 1
def oscBranchCount (p : Bytes) : Nat := field p 43 1
def oscKind (p : Bytes) (c : Nat) : Nat := field p (384 + c) 1 % 4
def oscMember (p : Bytes) (c : Nat) : Bool := bit (field p (384 + c) 1) 2

/-- The structural fields (R365). -/
def oscStructural (p : Bytes) : Bytes :=
  slice p 0 24 ++ slice p 32 4 ++ slice p 41 1 ++ slice p 43 1 ++ (List.range 8).flatMap (fun m => slice p (128 + 32 * m) 8) ++
    slice p 384 4096 ++ slice p 4480 1024

/-- Analysis steps of a time in seconds: the least number that covers it at 25 steps a second. -/
def oscSteps (p : Bytes) (off : Nat) : Nat := (parRat p off * 25).ceil.toNat

/-- ⌈1 / (1 − λ)⌉, the steps of a warm-up (R358). -/
def oscWarmSteps (p : Bytes) : Nat := (1 / (1 - parRat p 0)).ceil.toNat

/-- D_a (R353). -/
def oscDecimation (rate : Nat) : Nat := rate / 25

/-! ### Signals (R352, R353, R363) -/

/-- The signal of a channel in a course: none is a gap. -/
def oscSignal (i : LibIn) (c : Nat) : Option Word :=
  let p := i.params
  if !usableAt i.course c then none
  else
    match oscKind p c with
    | 0 => some (Config.oscMagnitude (complexAt i.course c))
    | 1 => if usableAt i.course (oscAngleRef p) then
        some (Config.libAngle (complexAt i.course c) (complexAt i.course (oscAngleRef p))) else none
    | 2 => some (positionOf i.course c).1
    | _ => none

/-- The signals of a branch in a course: none where a position it names is not GOOD or SUSPECT. -/
def oscBranchSignal (i : LibIn) (b : Nat) : Option (List Word) :=
  let p := i.params
  let v := field p (4480 + 8 * b) 2
  let k := field p (4482 + 8 * b) 2
  if usableAt i.course v && usableAt i.course k && usableAt i.course (oscAngleRef p) then
    some (words 4 (Config.oscBranch (complexAt i.course v) (complexAt i.course k) (complexAt i.course (oscAngleRef p))))
  else none

/-- The channels that are on. -/
def oscChannels (p : Bytes) : List Nat := (List.range (oscCount p)).filter (fun c => oscKind p c != 3)

/-- The course samples of this course. -/
def oscSamples (i : LibIn) : Nat × Table Word × Table (List Word) :=
  (i.course.number, (oscChannels i.params).filterMap (fun c => (oscSignal i c).map (fun w => (c, w))),
    (List.range (oscBranchCount i.params)).filterMap (fun b => (oscBranchSignal i b).map (fun w => (b, w))))

/-- The courses of a filter's span, oldest first; none where a course of it is missing (R353). -/
def oscSpan (i : LibIn) (fir : List (Nat × Table Word × Table (List Word))) : Option (List (Table Word × Table (List Word))) :=
  let d := oscDecimation i.course.rate
  let n := if d ≤ 1 then 1 else 8 * d + 1
  (List.range n).mapM (fun x => (fir.find? (fun e => e.1 + (n - 1 - x) == i.course.number)).map (·.2))

/-- The analysis sample of a signal from its course samples: none is a gap. -/
def oscAnalysis (rate : Nat) (xs : Option (List (Option Word))) : Option Word :=
  (xs.bind (fun l => l.mapM id)).map (fun l =>
    if oscDecimation rate ≤ 1 then l.getD 0 0 else Config.oscFir (oscDecimation rate) l)

/-! ### The estimator (R355 to R358) -/

/-- A channel after its analysis sample: detrended and normalised (R355); a channel whose variance is 0 gives a gap. -/
def oscDetrend (p : Bytes) (n : Nat) (ch : OscChannel) (y : Option Word) : OscChannel :=
  let s := match y with
    | none => none
    | some v =>
      let m := Config.oscMean (parWord p 12) ch.mean v
      if fpEq ch.var 0 then none else some (Config.oscNormal m ch.var v)
  let (m, v) := match y with
    | none => (ch.mean, ch.var)
    | some w => let m := Config.oscMean (parWord p 12) ch.mean w; (m, Config.oscVariance (parWord p 12) ch.var m w)
  { ch with mean := m, var := v, samples := (s :: ch.samples).take n }

def oscChannelNew : OscChannel := { mean := 0, var := 0, samples := [], errors := [] }

/-- The regression row of a channel, whose newest sample heads its list: none unless ỹ[t] to ỹ[t − p] are present. -/
def oscRow (p : Bytes) (ch : OscChannel) : Option (List Word × Word) :=
  let n := oscOrderP p
  match (ch.samples.take (n + 1)).mapM id with
  | some (y :: past) =>
    if past.length = n then some (past.map fpNeg ++ words (oscOrderQ p) ch.errors, y) else none
  | _ => none

/-- The prediction error of a step: 0 where the step is a gap or has no row. -/
def oscError (theta : List Word) (row : Option (List Word × Word)) : Word :=
  match row with
  | some (phi, y) => fpSub y (Config.oscPredict phi theta)
  | none => 0

/-! ### Bands (R357, R359, R360) -/

/-- A mode: frequency, damping ratio, UNSTABLE. -/
def oscMode (z : Word × Word) : Word × Word × Bool :=
  (Config.oscFrequency z, Config.oscDamping z, fpLe 0x3F800000 (Config.oscMagnitude z))

/-- The mode of a band: of the roots with Im z > 0 in its range the one with the lowest ζ, of equal ones the lowest f. -/
def bandMode (p : Bytes) (m : Nat) (roots : List (Word × Word)) : Option (Word × Word × Bool) :=
  let o := 128 + 32 * m
  let found := ((roots.filter (fun z => fpLt 0 z.2)).map oscMode).filter (fun x =>
    fpLe (parWord p o) x.1 && fpLt x.1 (parWord p (o + 4)))
  found.foldl (fun best x =>
    match best with
    | none => some x
    | some b => if fpLt x.2.1 b.2.1 || (fpEq x.2.1 b.2.1 && fpLt x.1 b.1) then some x else some b) none

/-- An alarm's timers after a step (R364). -/
def stepTimer (cond : Bool) (hold clear : Nat) (t : AlarmTimer) : AlarmTimer :=
  let held := if cond then t.held + 1 else 0
  let idle := if cond then 0 else t.clear + 1
  { on := if t.on then decide (idle < clear) else decide (1 ≤ held ∧ hold ≤ held), held := held, clear := idle }

/-- The amplitude of a band: of the reference channel (R360). -/
def bandAmplitude (p : Bytes) (chans : Table OscChannel) (b : OscBand) : Word :=
  Config.oscAmplitude (tgetD b.y (oscRef p) (0, 0)) ((tgetD chans (oscRef p) oscChannelNew).var)

/-- A band after an analysis step (R359, R360, R364). -/
def stepBand (p : Bytes) (warm : Bool) (roots : List (Word × Word)) (chans : Table OscChannel) (m : Nat) (b : OscBand) : OscBand :=
  let o := 128 + 32 * m
  let mode := bandMode p m roots
  let phase := match mode with
    | some x => Config.oscPhase b.phase x.1
    | none => b.phase
  let now : Table Word := chans.filterMap (fun e => (e.2.samples.head?.bind id).map (fun w => (e.1, w)))
  let y := now.foldl (fun t e => tput t e.1 (Config.oscDemod (parWord p 16) (tgetD t e.1 (0, 0)) e.2 phase)) b.y
  let yr := tgetD y (oscRef p) (0, 0)
  let c := now.foldl (fun t e =>
    tput t e.1 (Config.oscCross (parWord p 16) (tgetD t e.1 (0, 0)) (tgetD y e.1 (0, 0)) yr)) b.c
  let pw := now.foldl (fun t e => tput t e.1 (Config.oscPower (parWord p 16) (tgetD t e.1 0) (tgetD y e.1 (0, 0)))) b.p
  let b1 := { b with mode := mode, phase := phase, y := y, c := c, p := pw }
  let amp := bandAmplitude p chans b1
  let live := mode.isSome && !warm
  let clear := oscSteps p 36
  { b1 with
    damping := stepTimer (live && mode.any (fun x => fpLt x.2.1 (parWord p (o + 8))) && fpLe (parWord p (o + 16)) amp)
      (oscSteps p (o + 12)) clear b.damping
    amplitude := stepTimer (live && fpLt 0 (parWord p (o + 20)) && fpLt (parWord p (o + 20)) amp) (oscSteps p (o + 24)) clear
      b.amplitude }

/-! ### Forced oscillations (R361 to R363) -/

/-- The peak of a spectrum: the largest bin that is a peak, with its ratio to the neighbour mean (R362). -/
def spectrumPeak (p : Bytes) (power : List Word) : Option (Nat × Word) :=
  let at_ (k : Nat) : Word := power.getD k 0
  let mean (k : Nat) : Word := Config.libMean (((List.range 128).filter (fun x =>
    k ≤ x + 8 && x ≤ k + 8 && !(k ≤ x + 1 && x ≤ k + 1))).map at_)
  let isPeak (k : Nat) : Bool :=
    (k = 0 || fpLe (at_ (k - 1)) (at_ k)) && (k = 127 || fpLe (at_ (k + 1)) (at_ k)) &&
      fpLt (fpMul (parWord p 24) (mean k)) (at_ k)
  let best := ((List.range 128).filter isPeak).foldl (fun (b : Option Nat) k =>
    match b with
    | none => some k
    | some x => if fpLt (at_ x) (at_ k) then some k else some x) none
  best.map (fun k => (k, Config.libQuotient (at_ k) (mean k)))

/-- Two bins are within one of each other. -/
def nearBin (a b : Nat) : Bool := a ≤ b + 1 && b ≤ a + 1

/-- The forced oscillation after an analysis step: its resonators, its peak, its activity and the energies of the
branches. -/
def stepForced (p : Bytes) (step : Nat) (chans : Table OscChannel) (branch : Nat → Option (List Word)) (f : OscForced) :
    OscForced :=
  let members := (oscChannels p).filter (oscMember p)
  let bins := members.foldl (fun t c =>
    match (tgetD chans c oscChannelNew).samples.head?.bind id with
    | none => t
    | some y =>
      let old := cplxs 128 (tgetD t c [])
      tput t c (old.zipIdx.map (fun x => Config.oscBin (parWord p 20) x.2 step x.1 y))) f.bins
  let power := (List.range 128).map (fun k => Config.oscBinPower (members.map (fun c => (tgetD bins c []).getD k (0, 0))))
  let peak := spectrumPeak p power
  let stood := match peak, f.peak with
    | some a, some b => if nearBin a.1 b.1 then f.stood + 1 else 1
    | some _, none => 1
    | none, _ => 0
  let clear := oscSteps p 36
  let active := match f.active with
    | some (k, gone) =>
      match peak with
      | some a => if nearBin a.1 k then some (a.1, 0) else if clear ≤ gone + 1 then none else some (k, gone + 1)
      | none => if clear ≤ gone + 1 then none else some (k, gone + 1)
    | none =>
      match peak with
      | some a => if oscSteps p 28 ≤ stood then some (a.1, 0) else none
      | none => none
  let freq := match active with
    | some (k, _) => Config.oscVertex k (power.getD (k - 1) 0) (power.getD k 0) (power.getD (k + 1) 0)
    | none => 0
  let started := active.isSome && f.active.isNone
  let zero : Table (List Word × Word) := f.branches.map (fun e => (e.1, e.2.1, 0))
  let base := if started then zero else f.branches
  let branches := match active with
    | none => base
    | some _ => (List.range (oscBranchCount p)).foldl (fun t b =>
        match branch b with
        | none => t
        | some s =>
          let r := Config.oscEnergy (parWord p 32) freq step (tgetD t b ([], 0)) s
          tput t b (words 10 r.1, r.2)) base
  { bins := bins, peak := peak, stood := stood, active := active, freq := freq, branches := branches
    alarm := stepTimer active.isSome 1 clear f.alarm }

/-- The score of an area (R363). -/
def areaScore (p : Bytes) (f : OscForced) (a : Nat) : Word :=
  let of_ (off : Nat) : List Word := ((List.range (oscBranchCount p)).filter (fun b => field p (4480 + 8 * b + off) 1 == a)).map
    (fun b => (tgetD f.branches b ([], 0)).2)
  Config.oscScore (of_ 4) (of_ 5)

/-- The source area: the largest positive score, of equal ones the lower area. -/
def sourceArea (p : Bytes) (f : OscForced) : Option Nat :=
  if f.active.isNone then none
  else ((List.range 64).foldl (fun (best : Option (Nat × Word)) a =>
    let s := areaScore p f a
    match best with
    | none => if fpLt 0 s then some (a, s) else none
    | some b => if fpLt b.2 s then some (a, s) else some b) none).map (·.1)

/-! ### A course (R350, R351, R354, R358) -/

/-- The buffer of the prior course (R349, R350). -/
def oscPrior (i : LibIn) (bufs : List LibBuf) : Option OscBuf :=
  match i.lastClean with
  | none => none
  | some k =>
    if i.course.number - k ≤ field i.params 42 1 then
      bufs.findSome? (fun b => match b with
        | .oscillation x => if x.course = k then some x else none
        | _ => none)
    else none

/-- The state after a restart (R358). -/
def oscFresh (p : Bytes) (course : Nat) : OscBuf :=
  { course := course, structural := oscStructural p, steps := 0, rowsUsed := 0, usable := 0, fir := [], channels := []
    normal := List.replicate ((oscOrderP p + oscOrderQ p) * (oscOrderP p + oscOrderQ p)) 0
    rhs := List.replicate (oscOrderP p + oscOrderQ p) 0, theta := List.replicate (oscOrderP p + oscOrderQ p) 0
    roots := cplxs (oscOrderP p) (Config.oscStart (oscOrderP p))
    bands := List.replicate (oscBandCount p) .reset, forced := .reset }

/-- An analysis step (R354 to R363). -/
def oscStep (i : LibIn) (b : OscBuf) : OscBuf :=
  let p := i.params
  let n := oscOrderP p + oscOrderQ p
  let span := oscSpan i b.fir
  let sample (c : Nat) : Option Word := oscAnalysis i.course.rate (span.map (fun l => l.map (fun e => tget e.1 c)))
  let branch (k : Nat) : Option (List Word) :=
    (List.range 4).mapM (fun x => oscAnalysis i.course.rate (span.map (fun l => l.map (fun e => (tget e.2 k).map (fun w => w.getD x 0)))))
  let chans := (oscChannels p).map (fun c =>
    (c, oscDetrend p (oscOrderP p + 1) (tgetD b.channels c oscChannelNew) (sample c)))
  let rows := chans.map (fun e => (e.1, oscRow p e.2))
  let used := rows.filterMap (·.2)
  let chans2 := chans.map (fun e =>
    (e.1, { e.2 with errors := (oscError b.theta ((tget rows e.1).bind id) :: e.2.errors).take (oscOrderQ p) }))
  let normal := words (n * n) (Config.oscMatrix (parWord p 0) b.normal (used.map (·.1)))
  let rhs := words n (Config.oscRhs (parWord p 0) b.rhs used)
  let theta := words n (Config.oscSolve normal rhs)
  let roots := cplxs (oscOrderP p) (Config.oscRoots (theta.take (oscOrderP p)) b.roots)
  let warm := decide (b.steps < oscWarmSteps p)
  { b with
    steps := b.steps + 1, rowsUsed := used.length
    usable := (chans.filter (fun e => (e.2.samples.head?.bind id).isSome)).length
    channels := chans2, normal := normal, rhs := rhs, theta := theta, roots := roots
    bands := b.bands.zipIdx.map (fun x => stepBand p warm roots chans2 x.2 x.1)
    forced := stepForced p b.steps chans2 branch b.forced }

/-- What the monitor decides in a course. -/
structure OscCourse where
  restart : Bool
  noPrior : Bool
  analysis : Bool
  buf : OscBuf

def oscCourse (i : LibIn) (bufs : List LibBuf) : OscCourse :=
  let p := i.params
  let k := i.course.number
  let d := oscDecimation i.course.rate
  let pr := oscPrior i bufs
  let restart := match pr with
    | none => true
    | some q => q.structural != oscStructural p
  let start := match pr with
    | some q => if restart then oscFresh p k else q
    | none => oscFresh p k
  let kept := (start.fir.filter (fun e => decide (k < e.1 + 8 * d + 1))) ++ [oscSamples i]
  let b := { start with course := k, fir := kept }
  let analysis := oscCount p != 0 && d != 0 && k % d == d - 1
  { restart := restart, noPrior := pr.isNone, analysis := analysis, buf := if analysis then oscStep i b else b }

/-- The warm-up lasts (R358). -/
def oscWarm (p : Bytes) (b : OscBuf) : Bool := decide (b.steps ≤ oscWarmSteps p)

/-! ### Outputs (R364, R366) -/

/-- The alarms of a course (R364). -/
def oscAlarms (p : Bytes) (x : OscCourse) : List Nat :=
  let base := field p 40 1
  ((x.buf.bands.zipIdx.filter (fun b => b.1.damping.on)).map (fun b => base + b.2)) ++
    ((x.buf.bands.zipIdx.filter (fun b => b.1.amplitude.on)).map (fun b => base + 8 + b.2)) ++
    (if x.buf.forced.alarm.on then [base + 16] else []) ++ (if x.restart then [base + 17] else [])

/-- The coherence of a channel with the reference in a band. -/
def bandCoherence (p : Bytes) (b : OscBand) (c : Nat) : Word :=
  Config.oscCoherence (tgetD b.c c (0, 0)) (tgetD b.p c 0) (tgetD b.p (oscRef p) 0)

/-- A mode record. -/
def modeRecord (p : Bytes) (k : Nat) (warm : Bool) (chans : Table OscChannel) (b : Option OscBand) : Bytes :=
  let free (n : Nat) : Word := Config.libraryUnstated n k
  match b with
  | none => wordBytes (free 202) ++ wordBytes (free 203) ++ wordBytes (free 204) ++ wordBytes (free 205) ++ zeros 16
  | some x =>
    let flags := b2n x.mode.isSome + 2 * b2n warm + 4 * b2n x.damping.on + 8 * b2n x.amplitude.on +
      16 * b2n (x.mode.any (fun m => m.2.2))
    wordBytes ((x.mode.map (·.1)).getD (free 200)) ++ wordBytes ((x.mode.map (·.2.1)).getD (free 201)) ++
      wordBytes (bandAmplitude p chans x) ++ wordBytes (Config.libAngle (tgetD x.y (oscRef p) (0, 0)) (0x3F800000, 0)) ++
      le 1 flags ++ zeros 1 ++
      le 2 ((oscChannels p).filter (fun c => fpLe 0x3F000000 (bandCoherence p x c))).length ++ zeros 12

def oscSummary (i : LibIn) (x : OscCourse) : Bytes :=
  let b := x.buf
  let flags := b2n x.restart + 2 * b2n (oscWarm i.params b) + 4 * b2n x.analysis + 8 * b2n x.noPrior +
    16 * b2n b.forced.active.isSome + 32 * b2n (b.bands.any (fun y => y.damping.on)) + 64 * b2n (b.bands.any (fun y => y.amplitude.on))
  le 8 i.course.number ++ le 4 flags ++ le 4 b.rowsUsed ++ le 4 b.steps ++ le 2 b.usable ++ zeros 42

def forcedLine (p : Bytes) (k : Nat) (f : OscForced) : Bytes :=
  wordBytes f.freq ++ wordBytes ((f.peak.map (·.2)).getD (Config.libraryUnstated 206 k)) ++ le 2 ((f.peak.map (·.1)).getD 0xFFFF) ++
    le 1 (b2n f.peak.isSome + 2 * b2n f.active.isSome) ++ le 1 ((sourceArea p f).getD 0xFF) ++
    wordBytes (fpOfRat (mkRat (f.stood : Int) 25)) ++ zeros 48

/-- The shapes and the coherences: band, channel; noValue where there is none. -/
def shapeLines (p : Bytes) (b : OscBuf) : List Bytes :=
  linesOf 4096 ((List.range 8).flatMap (fun m => (List.range 4096).flatMap (fun c =>
    match b.bands[m]? with
    | some x => if (oscChannels p).contains c then
        cplxBytes (Config.oscShape (tgetD x.c c (0, 0)) (tgetD x.p (oscRef p) 0)) else cplxBytes (noValue, noValue)
    | none => cplxBytes (noValue, noValue))))

def coherenceLines (p : Bytes) (b : OscBuf) : List Bytes :=
  linesOf 2048 ((List.range 8).flatMap (fun m => (List.range 4096).flatMap (fun c =>
    match b.bands[m]? with
    | some x => wordBytes (if (oscChannels p).contains c then bandCoherence p x c else noValue)
    | none => wordBytes noValue)))

/-- A round of the oscillation monitor. -/
def oscillationRound (i : LibIn) (bufs : List LibBuf) : LibOut :=
  let p := i.params
  let x := oscCourse i bufs
  let both : List (Nat × Nat) := [(0, Config.libraryTarget 2 0 0), (3, 0)]
  let host : List (Nat × Nat) := [(3, 0)]
  let records := linesOf 4 ((List.range 8).flatMap (fun m =>
    modeRecord p i.course.number (oscWarm p x.buf) x.buf.channels (x.buf.bands[m]?)))
  { lines := [(both, oscSummary i x)] ++ records.map (fun l => (both, l)) ++ [(both, forcedLine p i.course.number x.buf.forced)] ++
      (linesOf 4 ((List.range 64).flatMap (fun a => wordBytes (areaScore p x.buf.forced a))) ++
        linesOf 8 ((List.range 128).flatMap (fun b => wordBytes (tgetD x.buf.forced.branches b ([], 0)).2)) ++
        shapeLines p x.buf ++ coherenceLines p x.buf).map (fun l => (host, l))
    alarms := oscAlarms p x
    bufs := ((oscPrior i bufs).toList.map LibBuf.oscillation) ++ [.oscillation x.buf] }

end Sys2Proof.Machine
end

