-- ==== Sys2Proof/Machine/Library.lean ====
section
/-!
DEFINITION. Rounds of the library's reference patterns (chapters 09 and 10). The spec gives what they compute and not the
bundles they compute it with (R348): a round of one keeps its rows, its alarms' row and its output lines, and its tiles'
registers and data SRAM are not followed (log 27).
-/
namespace Sys2Proof.Machine

/-- A stored variant that a signature matches, the lowest id first (R342). -/
def matchingVariant (p : Part) (sig : Bytes) : Option Nat :=
  (p.variants.find? (fun v =>
    ((sig.zip (slice v.2 48 32)).map (fun (s, m) => s &&& m)) == slice v.2 80 32)).map (·.1)

/-- The variant in the active slot; none for the built-in contents (R335). -/
def activeVariant (p : Part) : Option Nat :=
  if bit p.selector 4 then p.slotB else if bit p.selector 5 then none else p.slotA

/-- What the round of a partition's library pattern reads. -/
def libInputs (p : Part) (pat : Pattern) (c : ClosedCourse) : LibIn :=
  let shape := imgRect pat.image
  { course := c, lastClean := p.lastClean, params := pat.params, selector := p.selector
    variant := ((activeVariant p).bind (tget p.variants)).getD (Config.builtInVariant shape.2.2.1 shape.2.2.2)
    active := activeVariant p, matching := matchingVariant p }

/-- The trigger features (R304): 64 lines that go to feature sets. -/
def triggerRound (i : LibIn) : LibOut :=
  { lines := (List.range 64).map (fun n => ([(2, Config.triggerSet n % 64)], fit 64 (Config.triggerFeatures i.course.positions i.params n)))
    alarms := [], bufs := [] }

/-- The round of a library pattern. -/
def libraryRound (id : Nat) (p : Part) (pat : Pattern) (c : ClosedCourse) : LibOut :=
  let i := libInputs p pat c
  match id with
  | 1 => estimateRound i p.lib
  | 2 => oscillationRound i p.lib
  | 3 => islandRound i p.lib
  | _ => triggerRound i

/-- The row in which a library pattern's ALARMs issue: 899 in the detector (R375); in the others, for which the spec gives
none, the last row (log 27). -/
def libraryAlarmRow (id q : Nat) : Nat := if id = 3 then 899 else q - 1

/-- The alarms that a row of a library pattern's round raises. -/
def libraryAlarms (id : Nat) (p : Part) (pat : Pattern) : List Nat :=
  match p.round with
  | some r => if p.row = libraryAlarmRow id (patRows pat) then (libraryRound id p pat r.course).alarms else []
  | none => []

end Sys2Proof.Machine
end

