-- ==== Sys2Proof/Machine/Skein.lean ====
section
/-!
DEFINITION. Skein alignment (chapter 06): placing values, opening and closing courses, the wale history, and the
commands of planes.
-/
namespace Sys2Proof.Machine

/-! ### Courses and instants (R212, R213) -/

/-- The number of the course that a tag selects relative to course `o` (R220). -/
def courseOfTag (c : PlaneCfg) (o : Nat) (t : FineTag) : Int :=
  let d := tagDiff t (BitVec.ofNat 40 (courseInstant c o))
  (o : Int) + (d * (c.rate : Int) + 2 ^ 23) / 2 ^ 24

/-- A tag lies within ±match_tol of the instant of a course (R220). -/
def onGrid (c : PlaneCfg) (k : Int) (t : FineTag) : Bool :=
  0 ≤ k && decide ((tagDiff t (BitVec.ofNat 40 (courseInstant c k.toNat))).natAbs ≤ c.matchTol)

/-! ### Planes -/

/-- Slots of the hot ring in use (R224, R225). -/
def ringUsed (l : Lane) (p : Nat) : Nat := (planeRun l p).courses.length + queuedOf l p

/-- A stream takes part in required sets: ACTIVE, or LEARNED (R107). -/
def notAbsent (l : Lane) (id : Nat) : Bool := (streamRun l id).any (fun s => s.state == .active || s.state == .learned)

/-- The required set of a course that opens now (R223). -/
def requiredSet (l : Lane) (map : Table MapEntry) : List Nat :=
  ((map.filter (fun e => e.2.required)).map (·.2.stream)).eraseDups.filter (notAbsent l)

/-- A course as it opens (R223, R240). -/
def openCourse (l : Lane) (c : PlaneCfg) (gen k : Nat) : Course :=
  { number := k, instant := courseInstant c k, rules := c, mapGen := gen, values := [], arrived := [],
    required := requiredSet l c.map, quorumTick := false, deadlineTick := false, cause := none }

/-- Opens courses in ascending number up to `k`, as far as the slots allow (R224). -/
def openUpTo (p : Nat) (c : PlaneCfg) (k : Nat) : Nat → Lane → Lane
  | 0, l => l
  | n + 1, l =>
    let r := planeRun l p
    if r.nextOpen ≤ k && ringUsed l p < 16 then
      openUpTo p c k n
        (setPlane p { r with courses := r.courses ++ [openCourse l c r.mapGen r.nextOpen], nextOpen := r.nextOpen + 1 } l)
    else l

/-- Opens course `k` and every lower one not yet open: at most 16 fit. -/
def openCourses (p k : Nat) (l : Lane) : Lane :=
  match planeCfg l p with
  | some c => if c.running then openUpTo p c k 16 l else l
  | none => l

def courseOf (l : Lane) (p k : Nat) : Option Course := (planeRun l p).courses.find? (fun c => c.number == k)

/-! ### Values at close (R231 to R233) -/

/-- The values of a channel that reached the aligner, oldest arrival first. -/
def recentOf (l : Lane) (id ch : Nat) : List (Int × Value) := tgetD l.skein.recent (256 * id + ch) []

/-- Usable for a substitute (R232, R233). -/
def gradeUsable (v : Value) : Bool := v.grade != .invalid

/-- No more than max_age course periods before the instant; 0 sets no limit (R232). -/
def ageOk (rate maxAge instant : Nat) (at_ : Int) : Bool :=
  maxAge == 0 || decide (((instant : Int) - at_) * (rate : Int) ≤ (maxAge * 2 ^ 24 : Nat))

/-- The value with the latest tag among those that pass; of one tag the earliest arrival (R221, R232). -/
def latestValue (ok : Int × Value → Bool) (vs : List (Int × Value)) : Option (Int × Value) :=
  vs.foldl (fun best v =>
    if ok v then
      match best with
      | none => some v
      | some b => if b.1 < v.1 then some v else best
    else best) none

/-- The policy of a position without a value (R231): its words and code. -/
def policyFill (policy : Nat) (cx : Bool) (sub : Option Value) : Word × Word × Nat :=
  match policy, sub with
  | 2, some v => (v.w0, v.w1, 3)
  | 1, _ => (fpNan, if cx then fpNan else 0, 0)
  | _, _ => (0, 0, 0)

/-- The validity code of a value that is not INVALID (R231). -/
def gradeCode : Grade → Nat
  | .good => 1
  | .suspect => 2
  | .invalid => 0

/-- One position of a closing course (R231 to R233). -/
def closePosition (l : Lane) (c : Course) (pos : Nat) (e : MapEntry) : Word × Word × Nat :=
  let vs := recentOf l e.stream e.channel
  let cx := channelComplex l e.stream e.channel
  let at_ : Int := (c.instant : Nat)
  let rate := c.rules.rate
  if e.hold then
    let base := fun (x : Int × Value) => decide (x.1 ≤ at_)
    let held := latestValue base vs
    match held.filter (fun x => ageOk rate e.maxAge c.instant x.1 && gradeUsable x.2) with
    | some x => (x.2.w0, x.2.w1, gradeCode x.2.grade)
    | none =>
      policyFill e.policy cx
        ((latestValue (fun x => base x && ageOk rate e.maxAge c.instant x.1 && gradeUsable x.2) vs).map (·.2))
  else
    match (tget c.values pos).filter gradeUsable with
    | some v => (v.w0, v.w1, gradeCode v.grade)
    | none =>
      policyFill e.policy cx
        ((latestValue (fun x => decide (x.1 < at_) && ageOk rate e.maxAge c.instant x.1 && gradeUsable x.2) vs).map (·.2))

/-- No value of the map's streams was placed in the course (EMPTY of R230). -/
def courseEmpty (l : Lane) (c : Course) : Bool :=
  c.arrived.isEmpty && c.rules.map.all (fun e =>
    !e.2.hold || (recentOf l e.2.stream e.2.channel).all (fun x =>
      courseOfTag c.rules c.number (BitVec.ofInt 40 x.1) != (c.number : Int)))

/-! ### Closing (R226 to R230) -/

/-- Members of the required set that have arrived. -/
def membersArrived (c : Course) : Nat := (c.required.filter c.arrived.contains).length

/-- The first cause that holds (R226). -/
def closeCause (c : Course) : Option Nat :=
  if c.rules.closeOnComplete && !c.required.isEmpty && membersArrived c == c.required.length then some 0
  else if c.rules.quorumCount != 0 && c.quorumTick && min c.rules.quorumCount c.required.length ≤ membersArrived c then some 1
  else if c.deadlineTick then some 2
  else none

/-- The status word at close (R230). -/
def closeStatus (l : Lane) (r : PlaneRun) (c : Course) (cause : Nat) (held : Bool) : Word :=
  BitVec.ofNat 32 (cause + 4 * b2n (courseEmpty l c) + 8 * b2n r.stepPending + 16 * b2n (c.mapGen != r.closedGen) +
    32 * b2n (l.mode.mode == .holdover) + 64 * b2n l.time.unlocked + 128 * b2n held +
    2 ^ 16 * min 0xFFFF (c.required.length - membersArrived c))

/-- The closed course that passes to Cast-on (R230, R231). -/
def closedCourse (l : Lane) (p : Nat) (r : PlaneRun) (c : Course) (cause : Nat) (held : Bool) : ClosedCourse :=
  { plane := p, number := c.number, instant := c.instant, status := closeStatus l r c cause held,
    width := c.rules.width, rate := c.rules.rate, mapGen := c.mapGen, closeTag := nowTag l,
    positions := (c.rules.map.map (fun e =>
      let v := closePosition l c e.1 e.2
      (e.1, v.1, v.2.1, v.2.2))).filter (fun x => !(x.2.1 == 0 && x.2.2.1 == 0 && x.2.2.2 == 0)) }

/-- Nanoseconds of a signed count of 2^-24 s, towards zero. -/
def unitsNs (d : Int) : Int := d * 1000000000 / 2 ^ 24

/-- A course closes: the counters, the flags that one course carries, the passage to Cast-on; with no partition its
slot is freed (R225, R230, R241). -/
def closeCourse (p : Nat) (c : Course) (cause : Nat) (held : Bool) (l : Lane) : Lane :=
  let r := planeRun l p
  let k := closedCourse l p r c cause held
  let empty := courseEmpty l c
  let r' := { r with
    courses := r.courses.filter (fun x => x.number != c.number), oldest := c.number + 1, lastClosed := c.number
    stepPending := false, closedGen := c.mapGen
    closesComplete := if cause = 0 then bump r.closesComplete else r.closesComplete
    closesQuorum := if cause = 1 then bump r.closesQuorum else r.closesQuorum
    closesDeadline := if cause = 2 then bump r.closesDeadline else r.closesDeadline
    empty := if empty then bump r.empty else r.empty
    held := if held then bump r.held else r.held }
  let l1 := gaugeSample 2 p (unitsNs ((nowUnits l : Int) - (c.instant : Int))) (setPlane p r' l)
  if c.rules.partition_ ≤ 3 then castOffer c.rules.partition_ k l1 else l1

/-- One pass over the open courses in ascending number (R226, R229): a course whose cause is met while an earlier one
is open keeps that cause and waits. -/
def closePass (p : Nat) : List Course → Bool → Lane → Lane
  | [], _, l => l
  | c :: t, blocked, l =>
    match c.cause.orElse (fun _ => closeCause c) with
    | none => closePass p t true l
    | some cause =>
      if blocked then
        let r := planeRun l p
        let hold := { r with courses := r.courses.map (fun x => if x.number = c.number then { x with cause := some cause } else x) }
        closePass p t true (setPlane p hold l)
      else closePass p t false (closeCourse p c cause c.cause.isSome l)

def closeCourses (p : Nat) (l : Lane) : Lane := closePass p (planeRun l p).courses false l

/-! ### Placing a value (R220 to R224) -/

/-- Writes a value into every EXACT position of a course that maps its channel and holds none yet (R221, R222).
Answers whether any position took it. -/
def placeValue (id : Nat) (v : Value) (c : Course) : Course × Bool :=
  let free := c.rules.map.filter (fun e =>
    e.2.stream == id && e.2.channel == v.channel && !e.2.hold && (tget c.values e.1).isNone)
  if free.isEmpty then (c, false)
  else
    ({ c with
       values := free.foldl (fun t e => tput t e.1 v) c.values
       arrived := if c.arrived.contains id then c.arrived else c.arrived ++ [id] }, true)

/-- The map that governs course k of a plane: the course's own while it is open, else the active one. -/
def mapFor (l : Lane) (p : Nat) (k : Int) : Table MapEntry :=
  match (planeRun l p).courses.find? (fun c => (c.number : Int) == k) with
  | some c => c.rules.map
  | none => ((planeCfg l p).map (·.map)).getD []

/-- A map has an EXACT position for a channel. -/
def mapsExact (m : Table MapEntry) (id ch : Nat) : Bool :=
  m.any (fun e => e.2.stream == id && e.2.channel == ch && !e.2.hold)

/-- What became of a value in one plane. -/
inductive Placement where
  | unmapped | written | duplicate | late | early | offGrid
deriving DecidableEq, Repr

/-- One value of a stream in one RUNNING plane (R220). -/
def writeValue (id : Nat) (t arrived : FineTag) (p : Nat) (v : Value) (l : Lane) : Lane × Placement :=
  match planeCfg l p with
  | none => (l, .unmapped)
  | some c =>
    let r := planeRun l p
    let k := courseOfTag c r.oldest t
    if !c.running || !mapsExact (mapFor l p k) id v.channel then (l, .unmapped)
    else if !onGrid c k t then (setPlane p { r with offGrid := bump r.offGrid } l, .offGrid)
    else if k < (r.oldest : Int) then (setPlane p { r with late := bump r.late } l, .late)
    else
      let l1 := openCourses p k.toNat l
      match courseOf l1 p k.toNat with
      | none =>
        let r1 := planeRun l1 p
        (setPlane p { r1 with early := bump r1.early } l1, .early)
      | some cs =>
        let w := placeValue id v cs
        let r1 := planeRun l1 p
        let put := { r1 with courses := r1.courses.map (fun x => if x.number = cs.number then w.1 else x) }
        let l2 := setPlane p put l1
        if w.2 then (gaugeSample 1 p (unitsNs (tagDiff arrived (BitVec.ofNat 40 cs.instant))) l2, .written)
        else (l2, .duplicate)

/-- All values of an arrival in one plane, and what became of each. -/
def writeValues (a : Arrival) (p : Nat) (l : Lane) : Lane × List Placement :=
  a.values.foldl (fun (acc : Lane × List Placement) v =>
    let w := writeValue a.stream a.tag a.arrived p v acc.1
    (w.1, w.2 :: acc.2)) (l, [])

/-- A value that was placed and not late (R235). -/
def placedOnTime (x : Placement) : Bool := x != .unmapped && x != .late

/-- A plane maps a channel of the arrival, in either mode. -/
def planeMaps (l : Lane) (p : Nat) (a : Arrival) (hold : Bool) : Bool :=
  (planeCfg l p).any (fun c => c.running && c.map.any (fun e =>
    e.2.stream == a.stream && e.2.hold == hold && a.values.any (fun v => v.channel == e.2.channel)))

/-- The values join those that reached the aligner (R232, R233). -/
def noteRecent (a : Arrival) (l : Lane) : Lane :=
  let at_ := joinTag l a.tag
  { l with skein := { l.skein with recent := a.values.foldl (fun t v =>
      let key := 256 * a.stream + v.channel
      tput t key (tgetD t key [] ++ [(at_, v)])) l.skein.recent } }

/-- The late values wait in the late-frame queue of a plane, or are dropped when it is full (R161, R235). -/
def sendLate (p : Nat) (a : Arrival) (mask : BitVec 4) (l : Lane) : Lane :=
  enqueueOrDrop (22 + p) (packetEntries (16 + 8 * a.values.length)) (.late a mask) l

/-- The accepted values of one frame or output cross into the Skein (R109 step 8, R220, R235): the planes of an
ACTIVE stream place them in ascending number, and a plane that was written looks for courses to close (R226); then
they go to the wale history, through a late-frame queue when they were late for every plane that maps them. -/
def alignArrival (a : Arrival) (l : Lane) : Lane :=
  if stateIs l a.stream .active then
    let l0 := noteRecent a l
    let r := [0, 1, 2, 3].foldl (fun (acc : Lane × List Nat × Bool) p =>
      let w := writeValues a p acc.1
      (if w.2.contains .written then closeCourses p w.1 else w.1,
       if w.2.contains .late then acc.2.1 ++ [p] else acc.2.1,
       acc.2.2 || w.2.any placedOnTime || planeMaps l0 p a true)) (l0, [], false)
    let mask : BitVec 4 := r.2.1.foldl (fun m p => m ||| BitVec.ofNat 4 (2 ^ p)) 0
    match r.2.1, r.2.2 with
    | p :: _, false => sendLate p a mask r.1
    | _, _ => { r.1 with skein := { r.1.skein with toHistory := r.1.skein.toHistory ++ [(a, mask)] } }
  else { l with skein := { l.skein with toHistory := l.skein.toHistory ++ [(a, 0)] } }

/-- The oldest values on their way cross into the Skein. -/
def laneAlignerWrite (l : Lane) : Lane :=
  match l.streams.arrivals with
  | [] => l
  | a :: t =>
    if serving l then alignArrival a { l with streams := { l.streams with arrivals := t } } else l

/-- Tension's time reaches a course instant: the course opens with every lower one, as the slots allow (R224). -/
def laneCourseInstant (p : Nat) (l : Lane) : Lane :=
  match planeCfg l p with
  | some c =>
    let r := planeRun l p
    if serving l && c.running && courseInstant c r.nextOpen ≤ nowUnits l then
      openCourses p (firstCourseFrom c (nowUnits l + 1) - 1) l
    else l
  | none => l

/-- The lowest open course whose tick is due and has not fired. -/
def dueCourse (l : Lane) (p : Nat) (fired : Course → Bool) (us : PlaneCfg → Nat) : Option Course :=
  (planeRun l p).courses.find? (fun c => !fired c && decide (c.instant + usUnits (us c.rules) ≤ nowUnits l))

/-- A course of a plane is changed in place. -/
def modCourse (p k : Nat) (f : Course → Course) (l : Lane) : Lane :=
  let r := planeRun l p
  setPlane p { r with courses := r.courses.map (fun x => if x.number = k then f x else x) } l

/-- The deadline tick of the lowest course due (R226, R227). -/
def laneDeadlineTick (p : Nat) (l : Lane) : Lane :=
  if !serving l then l
  else
    match dueCourse l p (·.deadlineTick) (·.waitUs) with
    | some c => closeCourses p (modCourse p c.number (fun x => { x with deadlineTick := true }) l)
    | none => l

/-- The quorum tick of the lowest course due (R226, R227). -/
def laneQuorumTick (p : Nat) (l : Lane) : Lane :=
  if !serving l then l
  else
    match dueCourse l p (fun c => c.quorumTick || c.rules.quorumCount == 0) (·.quorumWaitUs) with
    | some c => closeCourses p (modCourse p c.number (fun x => { x with quorumTick := true }) l)
    | none => l

/-! ### The wale history (R235 to R237) -/

/-- Inserts a record in tag order behind at most `n` newer records (R236): `none` where it falls before more of them; a
record of an equal tag is dropped. Records are newest first here. -/
def insertRecord (x : WaleRecord) : Nat → List WaleRecord → Option (List WaleRecord)
  | _, [] => some [x]
  | n, y :: t =>
    if y.at_ = x.at_ then some (y :: t)
    else if y.at_ < x.at_ then some (x :: y :: t)
    else
      match n with
      | 0 => none
      | k + 1 => (insertRecord x k t).map (y :: ·)

/-- A record enters a wale: in order, late ones inserted or counted in history_disorder, old ones released (R236). -/
def writeWale (historyMs : Nat) (x : WaleRecord) (w : Wale) : Wale :=
  match insertRecord x 63 w.records.reverse with
  | none => { w with disorder := bump w.disorder }
  | some rs =>
    let newest : Int := (rs.head?.map (·.at_)).getD 0
    { w with records := (rs.filter (fun y => decide ((newest - y.at_) * 1000 ≤ ((historyMs * 2 ^ 24 : Nat) : Int)))).reverse }

/-- One arrival is written to its stream's wale, and its values pass to the recorder (R235, R237, chapter 12). A mark
whose record is released is overtaken (R443). -/
def writeHistory (a : Arrival) (mask : BitVec 4) (l : Lane) : Lane :=
  match streamCfg l a.stream with
  | none => l
  | some c =>
    let at_ := joinTag l a.tag
    let x : WaleRecord := { at_ := at_, tag := a.tag, arrived := a.arrived, mask := mask, values := a.values }
    let old := tgetD l.skein.wales a.stream { records := [], disorder := 0 }
    let w := writeWale c.historyMs x old
    let gone := (x :: old.records).filter (fun y => w.records.head?.any (fun z => decide (y.at_ < z.at_)))
    let marks := l.swatch.marks.map (fun e =>
      if e.1 / 4 = a.stream && gone.any (fun y => decide (e.2.at_ ≤ y.at_)) then (e.1, { e.2 with valid := false }) else e)
    let feeds : List Feed := [.wale a.stream at_ a.values]
    { l with
      skein := { l.skein with wales := tput l.skein.wales a.stream w }
      swatch := { l.swatch with marks := marks, trigFeed := l.swatch.trigFeed ++ feeds, rowFeed := l.swatch.rowFeed ++ feeds } }

/-- The history writer takes the next accepted values: a late-frame queue's when one is named, else those on the
direct way (R235). -/
def laneWaleWrite (late : Option Nat) (l : Lane) : Lane :=
  match late with
  | some p =>
    match headItem l (22 + p) with
    | some ⟨_, _, .late a mask⟩ => if p ≤ 3 then writeHistory a mask (popItem (22 + p) l) else l
    | _ => l
  | none =>
    match l.skein.toHistory with
    | (a, mask) :: t => writeHistory a mask { l with skein := { l.skein with toHistory := t } }
    | [] => l

/-! ### PLANE_CREATE and PLANE_MODIFY (R239 to R242) -/

/-- The plane parameters at an offset-free body. -/
def planeAsked (b : Bytes) : PlaneCfg :=
  { running := false, rate := field b 0 2, partition_ := field b 2 1, closeOnComplete := bit (field b 3 1) 0,
    width := field b 4 4, waitUs := field b 8 4, quorumCount := field b 12 2, matchTol := field b 14 2,
    quorumWaitUs := field b 16 4, anchorS := field b 20 8, map := [] }

/-- The ranges of R211 and R239. -/
def planeRanges (l : Lane) (b : Bytes) : Bool :=
  let c := planeAsked b
  planeRates.contains c.rate && (c.partition_ ≤ 3 || c.partition_ == 0xFF) && field b 3 1 ≤ 1 && inRange 1 65536 c.width &&
    inRange 1 (12000000 / c.rate) c.waitUs && c.quorumCount ≤ 16383 && c.matchTol ≤ 4096 && c.quorumWaitUs ≤ c.waitUs &&
    c.anchorS ≤ nowSec l && isZero b 28 4

/-- The partition is bound to another plane. -/
def boundElsewhere (l : Lane) (p part : Nat) : Bool :=
  part ≤ 3 && l.cfg.planes.any (fun e => e.1 != p && e.2.partition_ == part)

def planeCreateCheck (l : Lane) (r : Request) : Status :=
  let c := planeAsked (body r)
  need (planeRanges l (body r)) .badParam <|
  need ((planeCfg l (flowId r)).isNone && !boundElsewhere l (flowId r) c.partition_) .noResource .ok

def planeCreateApply (r : Request) (l : Lane) : Lane × Bytes :=
  let l1 := { l with cfg := { l.cfg with planes := tput l.cfg.planes (flowId r) (planeAsked (body r)) } }
  (setPlane (flowId r) .new l1, [])

def lanePlaneCreate (r : Request) (l : Lane) : Lane := serve 0x0400 none planeCreateCheck planeCreateApply r l

/-- Reserved bytes first, then the FREE rule of R240, then the op's own check. -/
def planeModifyCheck (more : Lane → PlaneCfg → Request → Status) (l : Lane) (r : Request) : Status :=
  need (isZero (body r) 1 3) .badParam <|
  match planeCfg l (flowId r) with
  | none => .noResource
  | some c => more l c r

def planeSetCheck (l : Lane) (c : PlaneCfg) (r : Request) : Status :=
  let b := (body r).drop 4
  let n := planeAsked b
  need (planeRanges l b && n.rate == c.rate && n.width == c.width && n.anchorS == c.anchorS) .badParam <|
  need (!boundElsewhere l (flowId r) n.partition_) .noResource .ok

def planeSetApply (r : Request) (l : Lane) : Lane × Bytes :=
  let n := planeAsked ((body r).drop 4)
  let put := tmod l.cfg.planes (flowId r) (fun c => { n with running := c.running, map := c.map })
  ({ l with cfg := { l.cfg with planes := put } }, [])

def lanePlaneSet (r : Request) (l : Lane) : Lane := serve 0x0401 (some 0) (planeModifyCheck planeSetCheck) planeSetApply r l

/-- A position map entry (R215). -/
def mapEntryAt (b : Bytes) (o : Nat) : MapEntry :=
  let f := field b (o + 3) 1
  { stream := field b o 2, channel := field b (o + 2) 1, hold := bit f 0, required := bit f 1, policy := bits f 3 2,
    maxAge := field b (o + 4) 2 }

/-- The fields of an entry (R215). A max_age of 0 sets no limit in HOLD mode and names none in EXACT mode. -/
def mapEntryOk (b : Bytes) (o : Nat) : Bool :=
  let e := mapEntryAt b o
  e.stream ≤ 16383 && field b (o + 3) 1 < 16 && e.policy ≤ 2 && isZero b (o + 6) 2

def mapFirst (b : Bytes) : Nat := field b 4 4
def mapCount (b : Bytes) : Nat := field b 8 4

def mapWriteCheck (_ : Lane) (_ : PlaneCfg) (r : Request) : Status :=
  let b := body r
  need (inRange 1 8187 (mapCount b) && mapFirst b + mapCount b ≤ 65536 &&
    (List.range (mapCount b)).all (fun i => mapEntryOk b (12 + 8 * i))) .badParam .ok

/-- Entries enter the shadow map; stream 0 empties a position (R215, R240). -/
def mapWriteApply (r : Request) (l : Lane) : Lane × Bytes :=
  let b := body r
  let run := planeRun l (flowId r)
  let sh := (List.range (mapCount b)).foldl (fun t i =>
    let e := mapEntryAt b (12 + 8 * i)
    if e.stream = 0 then tdel t (mapFirst b + i) else tput t (mapFirst b + i) e) run.shadow
  (setPlane (flowId r) { run with shadow := sh } l, [])

def laneMapWrite (r : Request) (l : Lane) : Lane := serve 0x0401 (some 1) (planeModifyCheck mapWriteCheck) mapWriteApply r l

/-- The channels of a stream's type (R105). -/
def channelInRange (c : StreamCfg) (ch : Nat) : Bool :=
  match c.part with
  | .pmu _ => ch ≤ 127
  | .sv _ => ch ≤ 23
  | .mesh .. => ch ≤ 15
  | .legacy _ => ch ≤ 63
  | .derived _ kinds => ch < kinds.length

/-- The rate rule of an EXACT mapping (R217): the course rate divides the rate at which the channel produces. -/
def rateDivides (l : Lane) (p rate : Nat) (e : MapEntry) (c : StreamCfg) : Bool :=
  match c.part with
  | .pmu _ => rate != 0 && c.rate % rate == 0
  | .sv _ => rate != 0 && ((tget l.cfg.pe (8 * e.stream + e.channel % 8)).map (·.outRate)).getD c.freq % rate == 0
  | .derived q _ => q != p && (planeCfg l q).any (fun k => k.rate % rate == 0)
  | _ => false

/-- One entry of a map obeys R217. -/
def mapRuleOk (l : Lane) (p rate width pos : Nat) (e : MapEntry) : Bool :=
  match streamCfg l e.stream with
  | none => false
  | some c =>
    pos < width && channelInRange c e.channel && (!e.required || !e.hold) &&
      (e.hold || (rateDivides l p rate e c && (e.policy != 2 || 1 ≤ e.maxAge)))

/-- How often a channel appears in the active maps of the planes, with this plane's map replaced (R218). -/
def appearances (l : Lane) (p : Nat) (m : Table MapEntry) (s ch : Nat) : Nat :=
  let hits := fun (t : Table MapEntry) => (t.filter (fun e => e.2.stream == s && e.2.channel == ch)).length
  hits m + ((l.cfg.planes.filter (fun e => e.1 != p)).map (fun e => hits e.2.map)).sum

def mapSwitchCheck (l : Lane) (c : PlaneCfg) (r : Request) : Status :=
  let b := body r
  let p := flowId r
  let m := (planeRun l p).shadow
  need (inRange 1 65536 (field b 4 4) && isZero b 8 4 && m.all (fun e => mapRuleOk l p c.rate (field b 4 4) e.1 e.2)) .badParam <|
  need (m.all (fun e => appearances l p m e.2.stream e.2.channel ≤ 8)) .limitExceeded .ok

/-- The shadow map becomes active with the new width; a BUILDING plane becomes RUNNING from the first course at or
after now (R240, R241). -/
def mapSwitchApply (r : Request) (l : Lane) : Lane × Bytes :=
  let p := flowId r
  match planeCfg l p with
  | none => (l, [])
  | some c =>
    let run := planeRun l p
    let c' := { c with running := true, width := field (body r) 4 4, map := run.shadow }
    let first := if c.running then run.nextOpen else firstCourseFrom c (nowUnits l)
    let gen := bump run.mapGen
    let run' := { run with
      mapGen := gen, nextOpen := first, oldest := if c.running then run.oldest else first }
    (setPlane p run' { l with cfg := { l.cfg with planes := tput l.cfg.planes p c' } }, le 8 first ++ le 4 gen ++ zeros 4)

def laneMapSwitch (r : Request) (l : Lane) : Lane := serve 0x0401 (some 2) (planeModifyCheck mapSwitchCheck) mapSwitchApply r l

/-- The effect and result of `laneMapClear`. -/
def mapClearApply (q : Request) (s : Lane) : Lane × Bytes :=
  (setPlane (flowId q) { planeRun s (flowId q) with shadow := [] } s, [])

def laneMapClear (r : Request) (l : Lane) : Lane :=
  serve 0x0401 (some 3) (planeModifyCheck (fun _ _ _ => .ok)) mapClearApply r l

/-- STOP: open courses are discarded without a close (R240). -/
def planeStopApply (r : Request) (l : Lane) : Lane × Bytes :=
  let p := flowId r
  let l1 := { l with cfg := { l.cfg with planes := tmod l.cfg.planes p (fun c => { c with running := false }) } }
  (setPlane p { planeRun l1 p with courses := [] } l1, [])

def lanePlaneStop (r : Request) (l : Lane) : Lane :=
  serve 0x0401 (some 4) (planeModifyCheck (fun _ _ _ => .ok)) planeStopApply r l

/-! ### PLANE_DELETE, PLANE_QUERY, WALE_READ (R243 to R246) -/

/-- A derived stream names the plane as its producer. -/
def planeProduces (l : Lane) (p : Nat) : Bool :=
  l.cfg.streams.any (fun e => match e.2.part with | .derived q _ => q == p | _ => false)

def planeDeleteCheck (l : Lane) (r : Request) : Status :=
  need (isZero (body r) 0 4) .badParam <|
  need ((planeCfg l (flowId r)).isSome && !planeProduces l (flowId r)) .noResource .ok

def planeDeleteApply (r : Request) (l : Lane) : Lane × Bytes :=
  ({ l with
     cfg := { l.cfg with planes := tdel l.cfg.planes (flowId r) }
     skein := { l.skein with planes := tdel l.skein.planes (flowId r) } }, [])

def lanePlaneDelete (r : Request) (l : Lane) : Lane := serve 0x0402 none planeDeleteCheck planeDeleteApply r l

/-- The PLANE_QUERY result (R244); a FREE plane reads zeros and no partition. -/
def planeResult (l : Lane) (p : Nat) : Bytes :=
  match planeCfg l p with
  | none => [0, 0xFF] ++ zeros 78
  | some c =>
    let r := planeRun l p
    le 1 (if c.running then 2 else 1) ++ le 1 c.partition_ ++ le 2 c.rate ++ le 4 c.width ++ le 4 c.waitUs ++
      le 4 r.mapGen ++ le 8 r.oldest ++ le 8 r.lastClosed ++ le 4 r.closesComplete ++ le 4 r.closesQuorum ++
      le 4 r.closesDeadline ++ le 4 r.empty ++ le 4 r.held ++ le 4 r.stepSkipped ++ le 4 r.late ++ le 4 r.early ++
      le 4 r.offGrid ++ le 2 ((r.courses.getLast?.map (·.required.length)).getD 0) ++ zeros 2 ++ le 8 c.anchorS

/-- The checks of `lanePlaneQuery`. -/
def planeQueryCheck (_ : Lane) (q : Request) : Status :=
  need (isZero (body q) 0 4) .badParam .ok

/-- The effect and result of `lanePlaneQuery`. -/
def planeQueryApply (q : Request) (s : Lane) : Lane × Bytes :=
  (s, planeResult s (flowId q))

def lanePlaneQuery (r : Request) (l : Lane) : Lane :=
  serve 0x0403 none planeQueryCheck planeQueryApply r l

/-- The value of a channel in a record; a channel without a value is graded INVALID (R105). -/
def recordValue (ch : Nat) (x : WaleRecord) : Value :=
  (x.values.find? (fun v => v.channel == ch)).getD
    { channel := ch, w0 := 0, w1 := 0, grade := .invalid, test := false, auth := false, chain := 0 }

/-- The quality byte of R237. -/
def qualityByte (v : Value) : Nat := v.grade.code + 4 * b2n v.test + 8 * b2n v.auth + 16 * v.chain.toNat

/-- One record as WALE_READ and MARK_READ return it (R246). -/
def recordBytes (first count : Nat) (x : WaleRecord) : Bytes :=
  let vs := (List.range count).map (fun i => recordValue (first + i) x)
  let q := vs.flatMap (fun v => le 1 (qualityByte v))
  le 8 x.tag.toNat ++ le 8 (x.arrived.toNat + 2 ^ 40 * x.mask.toNat) ++ vs.flatMap (fun v => le 4 v.w0.toNat ++ le 4 v.w1.toNat) ++
    fit (8 * ((count + 7) / 8)) q

def waleOf (l : Lane) (id : Nat) : Wale := tgetD l.skein.wales id { records := [], disorder := 0 }

def waleReadCheck (l : Lane) (r : Request) : Status :=
  let b := body r
  let t := BitVec.ofNat 40 (field b 0 8)
  need (field b 0 8 < 2 ^ 40 && decide ((tagDiff t (nowTag l)).natAbs ≤ 32767 * 2 ^ 24) && inRange 1 32 (field b 9 1) &&
    inRange 1 4096 (field b 10 2) && isZero b 12 4) .badParam <|
  need (streamCfg l (flowId r)).isSome .noResource .ok

/-- The WALE_READ result (R246). -/
def waleReadApply (r : Request) (l : Lane) : Lane × Bytes :=
  let b := body r
  let id := flowId r
  let w := waleOf l id
  let from_ := joinTag l (BitVec.ofNat 40 (field b 0 8))
  let first := field b 8 1
  let count := field b 9 1
  let rs := (w.records.filter (fun x => decide (from_ ≤ x.at_))).take (field b 10 2)
  let oldest := w.records.head?
  let lost := oldest.any (fun x => decide (from_ < x.at_))
  (l, le 2 rs.length ++ le 2 (recordSize count) ++ le 1 (b2n lost) ++ zeros 3 ++
    le 8 ((oldest.map (·.tag.toNat)).getD 0) ++ le 4 w.disorder ++ zeros 4 ++ rs.flatMap (recordBytes first count))

def laneWaleRead (r : Request) (l : Lane) : Lane := serve 0x0404 none waleReadCheck waleReadApply r l

end Sys2Proof.Machine
end

