-- ==== Sys2Proof/Machine/Rounds.lean ====
section
/-!
DEFINITION. Rounds of a partition (chapters 07 and 08): Cast-on, the rows with their network and run-time checks,
Bind-off, retry, and the repair of tiles.
-/
namespace Sys2Proof.Machine

/-! ### Cast-on (R279, R298, R299, R316) -/

/-- A value line of a layout entry: eight positions (R299). -/
def valueLine (c : ClosedCourse) (first : Nat) : Bytes :=
  (List.range 8).flatMap (fun i => let v := positionOf c (first + i); le 4 v.1.toNat ++ le 4 v.2.1.toNat)

/-- A validity line: the codes of 32 value lines, two bits each, of which the entry has `lines` (R299). -/
def validLine (c : ClosedCourse) (first lines : Nat) : Bytes :=
  (List.range 64).flatMap (fun x =>
    le 1 (((List.range 4).map (fun q =>
      let u := 4 * x + q
      if u / 8 < lines then (positionOf c (first + u)).2.2 * 4 ^ q else 0)).sum))

/-- The lines that one layout entry puts into its tile. -/
def castEntry (c : ClosedCourse) (e : LayoutEntry) (t : Tile) : Tile :=
  let t1 := (List.range e.lines).foldl
    (fun acc j => writeBytes (16 * (e.valueLine + j)) (valueLine c (e.first + 8 * j)) acc) t
  (List.range ((e.lines + 31) / 32)).foldl
    (fun acc m => writeBytes (16 * (e.validLine + m)) (validLine c (e.first + 256 * m) (e.lines - 32 * m)) acc) t1

/-- The course header line (R316). -/
def headerLine (l : Lane) (p : Part) (c : ClosedCourse) (attempt : Nat) : Bytes :=
  le 8 c.number ++ le 8 (c.instant % 2 ^ 40) ++ le 4 c.status.toNat ++ le 4 c.mapGen ++ le 4 p.paramGen ++ le 1 attempt ++
    le 1 (b2n l.health.throttled) ++ le 2 p.selector ++ le 8 (p.lastClean.getD (2 ^ 64 - 1)) ++ le 8 c.closeTag.toNat ++ zeros 16

/-- The header line goes into every tile of the rectangle. -/
def writeHeader (n : Nat) (pat : Pattern) (c : ClosedCourse) (attempt : Nat) (l : Lane) : Lane :=
  let p := partOf l n
  match p.rect with
  | some r => modTiles r (fun _ t => writeBytes (16 * imgHeaderLine pat.image) (headerLine l p c attempt) t) l
  | none => l

/-- The course that a boundary admits next: the oldest in the queue, else the plane's lowest not yet closed (R311). -/
def nextCast (l : Lane) (n : Nat) : Option Nat :=
  match (partOf l n).queue with
  | c :: _ => some c.number
  | [] => (planeOf l n).map (fun x => (planeRun l x.1).oldest)

/-- The next course has reached from_course; with no plane bound no course is to be cast (R311, R340). -/
def courseReached (l : Lane) (n from_ : Nat) : Bool :=
  match nextCast l n with
  | some k => from_ ≤ k
  | none => true

/-- A change that waits for a boundary could apply now (R310). -/
def changeReady (l : Lane) (n : Nat) : Bool :=
  let p := partOf l n
  p.phase == .idle && !p.repairing &&
    (match p.change with
     | some (_, .swap k) => courseReached l n k
     | some (_, .params ..) => true
     | some (_, .stage ..) => !p.portion
     | some (_, .select _ _ k) => courseReached l n k
     | none =>
       (match p.auto.chosen with
        | some (v, k) => if p.slotA != some v && p.slotB != some v then !p.portion else courseReached l n k
        | none => false : Bool) : Bool)

/-- Cast-on takes the oldest closed course of an IDLE partition (R278, R279, R313): skipped at the start of its cast
on a mismatch or when the partition does not serve; else written with its header line into the tiles. A change that
could apply goes first (R310). -/
def laneCastOn (n : Nat) (l : Lane) : Lane :=
  let p := partOf l n
  if !serving l || p.phase != .idle || p.repairing || changeReady l n then l
  else
    match p.queue, p.rect with
    | c :: t, some rect =>
      let p1 := { p with queue := t }
      match activeBank p with
      | none => skipCourse n c 3 (setPart n p1 l)
      | some pat =>
        if p.faulted then skipCourse n c 3 (setPart n p1 l)
        else if c.width ≠ patWidth pat || !rateAllowed (patRates pat) c.rate then skipCourse n c 2 (setPart n p1 l)
        else
          let attempt := b2n p.secondDue
          let st := withStatus (0x800 * attempt + (if l.health.throttled then 0x2000 else 0)) c.status
          let c' := { c with status := st }
          let k := p.counters
          let p2 := { p1 with
            phase := .casting, row := 0, skipped := [], secondDue := false, portion := false
            round := some { course := c', attempt := attempt, alarms := [], violation := none }
            counters := { k with second := if p.secondDue then bump k.second else k.second } }
          let l1 := setPart n p2 l
          let l2 := (layoutOf pat.image).foldl (fun acc e => modTile (tileAt rect e.tile) (castEntry c' e) acc) l1
          writeHeader n pat c' attempt l2
    | _, _ => l

/-! ### The network (R263 to R267) -/

def dirStep : Dir → Nat × Nat → Nat × Nat
  | .n, (r, c) => (r - 1, c)
  | .e, (r, c) => (r, c + 1)
  | .s, (r, c) => (r + 1, c)
  | .w, (r, c) => (r, c - 1)

/-- The latch in which a value that travels in a direction arrives: named by the side it comes from. -/
def arrivalLatch : Dir → Latch
  | .n => .s
  | .e => .w
  | .s => .n
  | .w => .e

/-- The value present in a latch of the tile at (r, c) in row `t` (R265). -/
def latchValue (p : Part) (t r c : Nat) (x : Latch) : Option (List Word) :=
  match x with
  | .row => (p.buses.find? (fun b => b.isRow && b.line == r && b.at_ == t)).map (·.lanes)
  | .col => (p.buses.find? (fun b => !b.isRow && b.line == c && b.at_ == t)).map (·.lanes)
  | d => (p.flights.find? (fun f => f.r == r && f.c == c && f.left == 0 && arrivalLatch f.dir == d)).map (·.lanes)

/-- The two sub-slots of a bundle. -/
def nSlots (b : Bundle) : List (Nat × NSlot) := [(4, b.n0), (5, b.n1)]

/-- The receives of a bundle: latch values copied with latency 1 (R265). -/
def recvResults (p : Part) (t r c : Nat) (b : Bundle) : List Result :=
  (nSlots b).filterMap (fun (slot, n) =>
    if n.op.toNat = 4 then
      ((nLatch n).bind (latchValue p t r c)).map (fun lanes =>
        { due := t, issued := t, slot := slot, dest := .vec (nDst n) 0xFFFF lanes : Result })
    else none)

/-- A RECV names a latch that holds no value in its row (R267). -/
def recvEmpty (p : Part) (t r c : Nat) (b : Bundle) : Bool :=
  (nSlots b).any (fun (_, n) => n.op.toNat == 4 && ((nLatch n).bind (latchValue p t r c)).isNone)

/-- One tile of a round as a row finds it: directory index, row and column, registers, bundle. -/
structure RowTile where
  idx : Nat
  r : Nat
  c : Nat
  tile : Tile
  bundle : Bundle
deriving DecidableEq, Repr

/-- The sends of a row on neighbour links: the link's tile and direction, and the flight that it starts. -/
def linkSends (ts : List RowTile) : List ((Nat × Nat × Dir) × Flight) :=
  ts.flatMap (fun x => (nSlots x.bundle).filterMap (fun (_, n) =>
    if n.op.toNat = 1 then
      let d := nDir n
      let dst := dirStep d (x.r, x.c)
      some ((x.r, x.c, d), { r := dst.1, c := dst.2, dir := d, left := nHops n - 1, lanes := vreg x.tile (nSrc n) })
    else none))

/-- The sends of a row on bus segments, present two rows later (R264). -/
def busSends (ts : List RowTile) (t : Nat) : List BusValue :=
  ts.flatMap (fun x => (nSlots x.bundle).filterMap (fun (_, n) =>
    if n.op.toNat = 2 then some { isRow := true, line := x.r, at_ := t + 2, lanes := vreg x.tile (nSrc n) }
    else if n.op.toNat = 3 then some { isRow := false, line := x.c, at_ := t + 2, lanes := vreg x.tile (nSrc n) }
    else none))

/-- The links that values passing through occupy in this row. -/
def passing (p : Part) : List (Nat × Nat × Dir) := (p.flights.filter (fun f => f.left != 0)).map (fun f => (f.r, f.c, f.dir))

/-- A value that passes through moves on to the next tile. -/
def moveFlights (p : Part) : List Flight :=
  (p.flights.filter (fun f => f.left != 0)).map (fun f =>
    let dst := dirStep f.dir (f.r, f.c)
    { f with r := dst.1, c := dst.2, left := f.left - 1 })

/-- The first element that stands twice in a list. -/
def firstTwice {α : Type} [DecidableEq α] : List α → Option α
  | [] => none
  | a :: t => if t.contains a then some a else firstTwice t

/-! ### One row (R248, R281 to R284) -/

/-- The tiles of a partition in the row that issues next, with what earlier rows have still due written (R252,
R261). -/
def rowTiles (l : Lane) (p : Part) (pat : Pattern) (rect : Rect) : List RowTile :=
  (List.range (rectTiles rect)).map (fun i =>
    let t0 := tileOf l (tileAt rect i)
    let t := if p.row = 0 then t0 else settleStores (p.row - 1) (settleResults (p.row - 1) t0)
    { idx := i, r := i / rect.2.2.2, c := i % rect.2.2.2, tile := t, bundle := decodeBundle (codeWord pat.image i t.pc) })

/-- END issues in row Q − 1 and in no other (R272). -/
def endWrong (q row : Nat) (b : Bundle) : Bool := (b.c.op.toNat == 4) != (row + 1 == q)

/-- The checks of R281 for one row, in the order of its table: check number and tile index of the first failure. -/
def rowFailure (p : Part) (q : Nat) (ts : List RowTile) : Option (Nat × Nat) :=
  let cols := fun (r c : Nat) => ((ts.find? (fun x => x.r == r && x.c == c)).map (·.idx)).getD 0
  let links := passing p ++ (linkSends ts).map (·.1)
  let buses := (busSends ts p.row).map (fun b => (b.isRow, b.line))
  let at_ := fun (ok : RowTile → Bool) => (ts.find? ok).map (·.idx)
  ((at_ (fun x => bankConflict x.tile x.bundle)).map (fun i => (1, i))).orElse fun _ =>
  ((firstTwice links).map (fun k => (2, cols k.1 k.2.1))).orElse fun _ =>
  ((firstTwice buses).map (fun b =>
    (3, (at_ (fun x => (nSlots x.bundle).any (fun (_, n) =>
      (n.op.toNat == 2 && b.1 && x.r == b.2) || (n.op.toNat == 3 && !b.1 && x.c == b.2)))).getD 0))).orElse fun _ =>
  ((at_ (fun x => recvEmpty p p.row x.r x.c x.bundle)).map (fun i => (4, i))).orElse fun _ =>
  ((at_ (fun x => endWrong q p.row x.bundle)).map (fun i => (5, i)))

/-- Every tile issues its bundle. -/
def issueTiles (p : Part) (rect : Rect) (ts : List RowTile) (l : Lane) : Lane :=
  ts.foldl (fun acc x =>
    setTile (tileAt rect x.idx) (issueBundle p.row x.bundle (recvResults p p.row x.r x.c x.bundle) x.tile) acc) l

/-- The ALARMs of a row (R273, R274): the id becomes active or is held by the partition, and the event of its id and
course is counted. The ids that a row activates make one GOOSE event (R389). -/
def rowAlarms (n : Nat) (course : Nat) (ids : List Nat) (l : Lane) : Lane :=
  let new := ids.filter (fun id => !alarmActive l id)
  gooseEvent new (madderIds l new) <| ids.foldl (fun acc id =>
    let p := partOf acc n
    let old := p.events.find? (fun e => e.1 == id && e.2.1 == course)
    let rest := p.events.filter (fun e => !(e.1 == id && e.2.1 == course))
    let count := (old.map (·.2.2)).getD 0 + 1
    let mark := fun (r : Round) => { r with alarms := if r.alarms.contains id then r.alarms else r.alarms ++ [id] }
    raisePattern n id (setPart n { p with events := rest ++ [(id, course, count)], round := p.round.map mark } acc)) l

/-- Everything that issued takes its effect (R282). -/
def settleTiles (rect : Rect) (l : Lane) : Lane := modTiles rect (fun _ t => settleAll t) l

/-- A violation (R282, R319): the partition stops, the check is logged and counted at the tile, and a round that has
raised an alarm is recorded as aborted (R274). -/
def violate (n : Nat) (v : Violation) (l : Lane) : Lane :=
  let p := partOf l n
  let course := (p.round.map (·.course.number)).getD 0
  let raised := p.round.any (fun r => !r.alarms.isEmpty)
  let l1 := setPart n { p with
    phase := .stopped, violTile := v.tile, round := p.round.map (fun r => { r with violation := some v }), flights := [], buses := [] } l
  let l2 := logFault .event .round Status.contractViolation.code course none
    (le 2 v.check ++ le 2 v.tile ++ le 4 v.row ++ le 8 course) l1
  let l3 := countTile v.tile (fun k => { k with violations := bump k.violations }) l2
  if raised then raiseEvent 270 l3 else l3

/-- An uncorrectable word or a corrupted bundle (R283, R284): a second error at the same place makes the tile's fault
lasting. -/
def memoryError (n tile place check row : Nat) (l : Lane) : Lane :=
  let seen := l.array.suspect.contains (tile, place)
  let l1 := violate n ⟨check, tile, row⟩ l
  if seen then
    tileLasting tile { l1 with array := { l1.array with suspect := l1.array.suspect.filter (· != (tile, place)) } }
  else { l1 with array := { l1.array with suspect := l1.array.suspect ++ [(tile, place)] } }

/-- The first row of a round (R251): registers and predicates 0, the loop stack empty, the fetch at the entry. -/
def startRound (n : Nat) (pat : Pattern) (rect : Rect) (l : Lane) : Lane :=
  let l1 := modTiles rect (fun _ t =>
    { t with v := [], s := [], p := [], pc := imgEntry pat.image, loops := [], results := [], stores := [] }) l
  setPart n { partOf l1 n with phase := .running, row := 0, flights := [], buses := [] } l1

/-- One row of a running round. -/
def issueRow (n : Nat) (pat : Pattern) (rect : Rect) (err : RowError) (l : Lane) : Lane :=
  let p := partOf l n
  let ts := if pat.library.isSome then [] else rowTiles l p pat rect
  let course := (p.round.map (·.course.number)).getD 0
  let bad := rowFailure p (patRows pat) ts
  let alarms := match pat.library with
    | some id => libraryAlarms id p pat
    | none => ts.filterMap (fun x => cAlarm x.tile x.bundle.c)
  let l1 := rowAlarms n course alarms (issueTiles p rect ts l)
  let p1 := partOf l1 n
  let p2 := { p1 with
    row := p.row + 1, flights := moveFlights p ++ (linkSends ts).map (·.2)
    buses := (p.buses.filter (fun b => decide (p.row < b.at_))) ++ busSends ts p.row
    phase := if p.row + 1 = patRows pat then .binding else .running }
  match bad, err with
  | some (check, i), _ => settleTiles rect (violate n ⟨check, tileAt rect i, p.row⟩ l1)
  | none, .uncorrectable tile word => settleTiles rect (memoryError n tile word 6 p.row l1)
  | none, .corrected tile => setPart n p2 (countTile tile (fun k => { k with corrected := bump k.corrected }) l1)
  | none, _ => setPart n p2 l1

/-- Whether a tile belongs to a rectangle. -/
def inRect (r : Rect) (tile : Nat) : Bool := (List.range (rectTiles r)).any (fun t => tileAt r t == tile)

/-- The error of a row names a tile of the partition; an uncorrectable word needs a load in its row (R283). -/
def errorApplies (l : Lane) (p : Part) (pat : Pattern) (rect : Rect) : RowError → Bool
  | .none => true
  | .corrected t => inRect rect t
  | .fetch t => inRect rect t
  | .uncorrectable t w =>
    inRect rect t && (pat.library.isSome || (rowTiles l p pat rect).any (fun x =>
      tileAt rect x.idx == t && x.bundle.l.op != 0 && wordAddr (lAddr x.tile x.bundle.l) / 16 == w / 16))

/-- Every tile of a partition issues one bundle (R248). A partition that Cast-on has filled begins its round here. A
bundle that fails at fetch stops the partition before it would issue (R284). -/
def laneBundleIssue (n : Nat) (err : RowError) (l : Lane) : Lane :=
  let p := partOf l n
  match activeBank p, p.rect with
  | some pat, some rect =>
    let l1 := if p.phase == .casting then startRound n pat rect l else l
    if !serving l || !(p.phase == .casting || p.phase == .running) || !errorApplies l1 (partOf l1 n) pat rect err then l
    else
      match err with
      | .fetch tile => settleTiles rect (memoryError n tile (2 ^ 16 + (tileOf l1 tile).pc) 7 ((partOf l1 n).row - 1) l1)
      | e => issueRow n pat rect e l1
  | _, _ => l

/-- The last row issued by a round in progress. -/
def lastRow (p : Part) : Option Nat :=
  if (p.phase == .running || p.phase == .binding) && p.row != 0 then some (p.row - 1) else none

/-- Results due by the end of the last row issued are written (R252, R253). -/
def laneResultWrite (n : Nat) (l : Lane) : Lane :=
  let p := partOf l n
  match lastRow p, p.rect with
  | some row, some rect => if serving l then modTiles rect (fun _ t => settleResults row t) l else l
  | _, _ => l

/-- Stores due by the end of the last row issued write tile memory (R261). -/
def laneStoreWrite (n : Nat) (l : Lane) : Lane :=
  let p := partOf l n
  match lastRow p, p.rect with
  | some row, some rect => if serving l then modTiles rect (fun _ t => settleStores row t) l else l
  | _, _ => l

/-- The end of a row at the latches (R263 to R265): bus values whose row has passed are discarded; a value that has
arrived stays for the row that issues next and is discarded with it. -/
def laneLatchArrival (n : Nat) (l : Lane) : Lane :=
  let p := partOf l n
  if serving l && p.phase == .running then setPart n { p with buses := p.buses.filter (fun b => decide (p.row ≤ b.at_)) } l
  else l

/-! ### Bind-off (R280, R302, R317, R318, R324) -/

/-- An output line with the kinds and targets it goes to. -/
abbrev OutLine := List (Nat × Nat) × Bytes

/-- The output lines of an entry. -/
def entryLines (l : Lane) (rect : Rect) (e : OutEntry) : List OutLine :=
  (List.range e.lines).map (fun i => ([(e.kind, e.target)], lineBytes (tileOf l (tileAt rect e.tile)) (e.first + i)))

/-- The output lines of a round in the order of its output table: read from the tiles, or those of a library pattern. -/
def roundLines (l : Lane) (rect : Rect) (p : Part) (pat : Pattern) (c : ClosedCourse) : List OutLine :=
  match pat.library with
  | some id => (libraryRound id p pat c).lines
  | none => (outputsOf pat.image).flatMap (entryLines l rect)

/-- The bytes of all lines of a kind, concatenated by target in table order (R380, R405). -/
def outputBytes (ls : List OutLine) (kind : Nat) : Table Bytes :=
  ls.foldl (fun t x =>
    (x.1.filter (fun k => k.1 == kind)).foldl (fun acc k => tput acc k.2 (tgetD acc k.2 [] ++ x.2)) t) []

/-- One byte of the CRC of R318, reflected. -/
def crc64Bits : Nat → BitVec 64 → BitVec 64
  | 0, c => c
  | k + 1, c => crc64Bits k (if c.getLsbD 0 then (c >>> 1) ^^^ 0xC96C5795D7870F42 else c >>> 1)
def crc64 (b : Bytes) : Nat :=
  (~~~(b.foldl (fun c x => crc64Bits 8 (c ^^^ x.setWidth 64)) 0xFFFFFFFFFFFFFFFF)).toNat

/-- The alarm mask of a digest: id i is bit i mod 8 of byte ⌊i / 8⌋. -/
def alarmMask (ids : List Nat) : Bytes :=
  (List.range 32).map (fun b => BitVec.ofNat 8 (((List.range 8).map (fun i => if ids.contains (8 * b + i) then 2 ^ i else 0)).sum))

/-- The digest of a clean round (R318). -/
def roundDigest (pat : Pattern) (paramGen : Nat) (r : Round) (lines : List Bytes) : Nat :=
  crc64 (le 8 r.course.number ++ le 4 (patId pat) ++ le 4 (patVersion pat) ++ le 4 paramGen ++ zeros 4 ++
    alarmMask r.alarms ++ lines.flatten)

/-- The ids that a partition holds raised and that its round did not raise are released (R383). -/
def releaseAlarms (n : Nat) (raised : List Nat) (l : Lane) : Lane :=
  releasePattern n ((l.publish.active.filter (fun e => e.2.parts.contains n && !raised.contains e.1)).map (·.1)) l

/-- Feature sets pass to the recorder (R302). -/
def feedFeatures (at_ : Nat) (t : Table Bytes) (l : Lane) : Lane :=
  t.foldl (fun acc e =>
    let f : Feed := .feature e.1 at_ ((List.range (e.2.length / 4)).map (fun i => BitVec.ofNat 32 (field e.2 (4 * i) 4)))
    { acc with swatch := { acc.swatch with trigFeed := acc.swatch.trigFeed ++ [f], rowFeed := acc.swatch.rowFeed ++ [f] } }) l

/-- Automatic selection reads the topology line of a course (R342). -/
def autoSelect (course : Nat) (sig : Bytes) (pat : Pattern) (p : Part) : Part :=
  let a := p.auto
  if a.hold || field pat.params 11 1 = 0 then { p with auto := { a with candidate := none, count := 0, chosen := none, done := 0 } }
  else
    let m := matchingVariant p sig
    let act := activeVariant p
    match m with
    | none => { p with auto := { a with candidate := none, count := 0 } }
    | some v =>
      if act = some v then { p with auto := { a with candidate := none, count := 0, chosen := none, done := 0 } }
      else if a.chosen.any (fun x => x.1 == v) then p
      else
        let n := if a.candidate = some v then a.count + 1 else 1
        let confirmed := decide (field pat.params 12 1 ≤ n)
        { p with auto := { a with
            candidate := some v, count := n, done := 0
            chosen := if confirmed then some (v, course + field pat.params 14 2) else none } }

/-- A fault of a round is transient (R291, R321, R322, R623): counted, also at the tile of its violation. -/
def transientRound (n : Nat) (l : Lane) : Lane :=
  let p := partOf l n
  let k := p.counters
  transientFault .round n (countTile p.violTile (fun c => { c with transient := bump c.transient })
    (setPart n { p with counters := { k with transient := bump k.transient } } l))

/-- The clean end of a round: the counters, the last clean course, the result ring of 16 (R316, R323, R324). A second
attempt without a violation makes the fault transient (R321). -/
def cleanEnd (n : Nat) (pat : Pattern) (r : Round) (host : List Bytes) (l : Lane) : Lane :=
  let p := partOf l n
  let k := p.counters
  let ring := p.results ++ [{ course := r.course.number, instant := r.course.instant % 2 ^ 40, lines := host,
                              patternId := patId pat, paramGen := p.paramGen }]
  let p1 := { p with
    phase := .idle, round := none, lastClean := some r.course.number
    lib := match pat.library with
      | some id => (libraryRound id p pat r.course).bufs
      | none => []
    results := ring.drop (ring.length - 16)
    counters := { k with rounds := bump k.rounds } }
  let p2 := if patId pat = 0x52420001 then autoSelect r.course.number ((host.getD 1 []).take 32) pat p1 else p1
  let l1 := setPart n p2 { l with mode := { l.mode with cleanRounds := l.mode.cleanRounds + 1 } }
  if r.attempt = 1 then transientRound n (raiseEvent 268 l1) else l1

/-- The tiles of a partition, 8 ac after row Q − 1: Bind-off reads the output lines and delivers them by kind,
computes the digest, and the partition is IDLE again (R280, R317, R318). `bad`: the tile that fails the self-test that a digest
comparison would ask for (R555); `err`: an uncorrectable word on a read (R283). -/
def laneBindOff (n : Nat) (bad : Option Nat) (err : Option (Nat × Nat)) (l : Lane) : Lane :=
  let p := partOf l n
  match activeBank p, p.rect, p.round with
  | some pat, some rect, some r =>
    if !serving l || p.phase != .binding then l
    else
      let l1 := settleTiles rect l
      match err with
      | some (tile, word) => if inRect rect tile then memoryError n tile word 6 (p.row - 1) l1 else l
      | none =>
        let c := r.course
        let out := roundLines l1 rect p pat c
        let lines := out.map (·.2)
        let host := (out.filter (fun x => x.1.any (fun k => k.1 == 3))).map (·.2)
        let l2 := releaseAlarms n r.alarms (cleanEnd n pat r host l1)
        let l3 := gaugeSample 3 n (patRows pat + 8 + patOutLines pat : Nat) l2
        let l4 := deliverDerived c.plane c.instant (outputBytes out 1) l3
        let l5 := feedFeatures c.instant (outputBytes out 2) l4
        let l6 := publishCourse c.plane c.number c.instant c.rate c.status (some (outputBytes out 0)) l5
        produceDigest c.plane c.number (some (roundDigest pat p.paramGen r lines)) bad l6
  | _, _, _ => l

/-! ### Retry (R320, R321) -/

/-- A stopped round ends without a clean result: its absence is delivered and the partition is IDLE. -/
def giveUp (n : Nat) (r : Round) (second : Bool) (l : Lane) : Lane :=
  absentCourse r.course (setPart n { partOf l n with phase := .idle, round := none, secondDue := second } l)

/-- After a violation (R320, R321): a first attempt is repeated on the same course when no other course waits, and
given up otherwise; a second attempt makes the fault lasting. `failing`: the tile that the array self-test finds. -/
def laneRoundRetry (n : Nat) (failing : Option Nat) (l : Lane) : Lane :=
  let p := partOf l n
  match activeBank p, p.rect, p.round with
  | some pat, some rect, some r =>
    if !serving l || p.phase != .stopped then l
    else if r.attempt = 0 then
      if p.queue.isEmpty && !p.repairing then
        let c := { r.course with status := withStatus 0x800 r.course.status }
        let k := p.counters
        let p1 := { p with
          round := some { course := c, attempt := 1, alarms := [], violation := none }
          counters := { k with second := bump k.second } }
        startRound n pat rect (writeHeader n pat c 1 (setPart n p1 l))
      else giveUp n r true l
    else
      let k := p.counters
      let l1 := lastingFault .round n (setPart n { p with counters := { k with lasting := bump k.lasting } } l)
      let l2 := giveUp n r false l1
      match failing with
      | some tile => if inRect rect tile then tileLasting tile l2 else markFaulted n l2
      | none => markFaulted n l2
  | _, _, _ => l

/-! ### Repair (R287, R288) -/

/-- The partitions that a repair of this tile stops stand between rounds. -/
def repairReady (l : Lane) (tile : Nat) : Bool :=
  (partsWith l (fun x => x / 8 == tile / 8 && tile % 8 ≤ x % 8)).all (fun n =>
    (partOf l n).phase == .idle || (partOf l n).phase == .stopped)

/-- The oldest repair completes (R287): the row is shifted onto its spare, the words that could not be read are 0 and
counted, the partitions resume, and the repair is logged with Ochre alarm 261. -/
def laneTileRepair (lost : List Nat) (l : Lane) : Lane :=
  match l.array.repairs with
  | [] => l
  | tile :: t =>
    if !repairReady l tile then l
    else
      let words := lost.filter (· < 65536)
      let phys := physicalTile l tile
      let l1 := modTile tile (fun x => { x with mem := words.foldl (fun m w => putWord m w 0) x.mem }) l
      let stop := partsWith l1 (fun x => x / 8 == tile / 8 && tile % 8 ≤ x % 8)
      let l2 := { l1 with
        array := { l1.array with repairs := t }
        health := { l1.health with retired := l1.health.retired ++ [phys] } }
      let still := fun (n : Nat) => t.any (fun x =>
        (partsWith l2 (fun y => y / 8 == x / 8 && x % 8 ≤ y % 8)).contains n)
      let l3 := stop.foldl (fun acc n => setPart n { partOf acc n with repairing := still n } acc) l2
      raiseEvent 261 (logFault .event .sram 0 tile none (le 4 words.length) l3)

/-- An unused spare fails its self-test (R288). -/
def laneSpareFailure (row : Nat) (l : Lane) : Lane :=
  if row < 8 && dieRuns l && (retiredColumn l row).isNone then
    { l with health := { l.health with
        spareFailed := l.health.spareFailed ||| BitVec.ofNat 8 (2 ^ row)
        selfTestFail := l.health.selfTestFail + 1 } }
  else l

/-! ### The throttled clock (R289, R290) -/

/-- The junction sensor reaches 110 °C: it reads that much or more. -/
def laneThrottleEntry (l : Lane) : Lane :=
  if dieRuns l && !l.health.throttled then
    let l1 := setJunction (max 110 l.health.junction) l
    raiseEvent 262
      { l1 with
        health := { l1.health with throttled := true }
        array := { l1.array with throttleEntries := bump l1.array.throttleEntries, throttledAt := l1.tc } }
  else l

/-- The sensor has stayed at or below 104 °C for 1 s, which is after the entry. -/
def laneThrottleExit (l : Lane) : Lane :=
  if dieRuns l && l.health.throttled && l.array.throttledAt + secTc 1 ≤ l.tc then
    let l1 := setJunction (min 104 l.health.junction) l
    raiseEvent 263
      { l1 with
        health := { l1.health with throttled := false }
        array := { l1.array with throttledTc := l1.array.throttledTc + (l1.tc - l1.array.throttledAt) } }
  else l

end Sys2Proof.Machine
end

