-- ==== Sys2Proof/Machine/Patterns.lean ====
section
/-!
DEFINITION. The commands of a partition (chapters 07 and 08): loading, swap, parameters, queries, and the changes that
apply at a round boundary (R310).
-/
namespace Sys2Proof.Machine

/-! ### Regions (R300, R308, R311) -/

/-- The contents that a region starts with: its image block or zeros, and for a parameter copy the stored block. -/
def regionBytes (pat : Pattern) (r : Region) : Bytes :=
  if r.kind = 2 then fit (64 * r.lines) pat.params
  else if r.init = 0 then zeros (64 * r.lines)
  else slice pat.image r.init (64 * r.lines)

/-- One region is written into its tile. -/
def writeRegion (rect : Rect) (pat : Pattern) (r : Region) (l : Lane) : Lane :=
  modTile (tileAt rect r.tile) (writeBytes (16 * r.first) (regionBytes pat r)) l

/-- The regions of the kinds named, with their indexes, that `ok` admits. -/
def writeRegions (rect : Rect) (pat : Pattern) (ok : Nat → Region → Bool) (l : Lane) : Lane :=
  ((regionsOf pat.image).zipIdx.filter (fun (r, i) => ok i r)).foldl (fun acc x => writeRegion rect pat x.1 acc) l

/-- No line of a region is used by a pattern's layout, header line or regions (R308). -/
def regionClear (active : Option Pattern) (r : Region) : Bool :=
  match active with
  | none => true
  | some a => (usedLines a.image).all (fun u => u.1 != r.tile || apart (u.2.1, u.2.2.1) (r.first, r.lines))

/-- The regions that a load writes (R308): format 5 only. -/
def writtenAtLoad (active : Option Pattern) (pat : Pattern) (r : Region) : Bool :=
  imgFormat pat.image == 5 && (r.kind == 1 || r.kind == 2 || r.kind == 5) && regionClear active r

/-! ### PATTERN_LOAD (R304 to R309) -/

/-- The ranges of PATTERN_LOAD op CHUNK (R304, R305). -/
def loadChunkCheck (l : Lane) (r : Request) : Status :=
  let b := body r
  need (isZero b 1 3 && isZero b 16 4 && inRange 192 50331648 (chunkTotal b) && inRange 1 65496 (chunkLen b) &&
    chunkFits (partOf l (flowId r)).staged (chunkTotal b) (chunkOffset b) (chunkLen b)) .badParam .ok

/-- A chunk is staged (R305): the last one starts verification. -/
def loadChunkStart (r : Request) (l : Lane) : Lane :=
  let b := body r
  let n := flowId r
  let p := partOf l n
  let d := chunkData p.staged (chunkOffset b) (b.drop 20)
  if d.length = chunkTotal b then setPart n { p with staged := none, verifying := some (r, d, none) } l
  else postReply r .ok false [] (setPart n { p with staged := some (chunkTotal b, d) } l)

def lanePatternLoadChunk (r : Request) (l : Lane) : Lane :=
  serveHeld 0x0500 (some 0) loadChunkCheck loadChunkStart r l

/-- The shape of a partition. -/
def shapeOf (p : Part) : Option (Nat × Nat) := p.rect.map (fun r => (r.2.2.1, r.2.2.2))

/-- LIBRARY (R304, R305): a defined partition whose shape the library has. -/
def loadLibraryCheck (l : Lane) (r : Request) : Status :=
  let b := body r
  let id := field b 16 2
  need (isZero b 1 3 && isZero b 4 12 && inRange 1 4 id && isZero b 18 2) .badParam <|
  need ((shapeOf (partOf l (flowId r))).any (fun s => (libraryRow id s.1 s.2).isSome)) .noResource .ok

def loadLibraryStart (r : Request) (l : Lane) : Lane :=
  let n := flowId r
  let p := partOf l n
  match shapeOf p with
  | some s =>
    let id := field (body r) 16 2
    setPart n { p with verifying := some (r, libraryImage id s.1 s.2, some id) } l
  | none => refuse r .noResource l

def lanePatternLoadLibrary (r : Request) (l : Lane) : Lane :=
  serveHeld 0x0500 (some 1) loadLibraryCheck loadLibraryStart r l

/-- RELEASE (R304, R309). -/
def loadReleaseCheck (l : Lane) (r : Request) : Status :=
  need (isZero (body r) 1 19) .badParam <| need (planeOf l (flowId r)).isNone .noResource .ok

/-- RELEASE empties both banks and undefines the partition; its data SRAM is 0 (R309). Stored variants, which lie in
the pattern store, and an image in delivery stay. -/
def loadReleaseApply (r : Request) (l : Lane) : Lane × Bytes :=
  let n := flowId r
  let p := partOf l n
  let tiles := match p.rect with
    | some rect => l.array.tiles.filter (fun e => !inRect rect e.1)
    | none => l.array.tiles
  let l1 := { l with array := { l.array with tiles := tiles } }
  (setPart n { Part.empty with staged := p.staged, variants := p.variants, varChunk := p.varChunk } l1, [])

def lanePatternLoadRelease (r : Request) (l : Lane) : Lane :=
  serve 0x0500 (some 2) loadReleaseCheck loadReleaseApply r l

/-- The result of a failed verification: check, tile, offset, for IMAGE_INVALID only (R306). -/
def failResult (f : LoadFail) : Bytes :=
  if f.status = .imageInvalid then le 2 f.check ++ le 1 f.tile ++ zeros 1 ++ le 4 f.offset else []

/-- The commit point of a load (R307, R308): the inactive bank holds the new pattern, an undefined partition takes the
image's rectangle, and the regions that the load writes are written. -/
def commitImage (n : Nat) (image : Bytes) (lib : Option Nat) (l : Lane) : Lane :=
  let p := partOf l n
  let rect := p.rect.getD (imgRect image)
  let pat := patternOf image lib
  let ok := writtenAtLoad (activeBank p) pat
  let ids := ((regionsOf image).zipIdx.filter (fun (r, _) => ok r)).map (·.2)
  writeRegions rect pat (fun _ r => ok r)
    (setPart n (setInactive (some { pat with written := ids }) { p with rect := some rect, verifying := none }) l)

/-- Verification of a partition's staged image ends (R306, R307): the first failing check of R306 decides the reply;
an image of the library has been checked with its firmware and passes. -/
def laneVerificationComplete (n : Nat) (l : Lane) : Lane :=
  let p := partOf l n
  match p.verifying with
  | none => l
  | some (r, image, lib) =>
    let fail := match lib with
      | none => verifyImage l n image image.length
      | some _ => none
    match fail with
    | some f => postReply r f.status false (failResult f) (setPart n { p with verifying := none } l)
    | none => postReply r .ok false [] (commitImage n image lib l)

/-! ### PATTERN_SWAP (R311) -/

def swapFrom (r : Request) : Nat := field (body r) 0 8

/-- The checks of R311 at dispatch. -/
def patSwapCheck (l : Lane) (r : Request) : Status :=
  let b := body r
  let n := flowId r
  match inactiveBank (partOf l n) with
  | none => .noResource
  | some pat =>
    let idOk := (field b 8 4 == 0 || field b 8 4 == patId pat) && (field b 12 4 == 0 || field b 12 4 == patVersion pat)
    match planeOf l n with
    | none => need idOk .badParam .ok
    | some (_, c) =>
      need (idOk && rateAllowed (patRates pat) c.rate) .badParam <|
      need (roundFits (patTime pat false) c.rate) .limitExceeded .ok

/-- The selector of the course header line (R335). -/
def selectorWord (id slot builtIn : Nat) : Nat := id + 16 * slot + 32 * builtIn

/-- A swap of a plane's partition reaches Ply (R554, R555): its generation rises and a suspended comparison resumes. -/
def swapPlane (n : Nat) (l : Lane) : Lane :=
  match planeOf l n with
  | none => l
  | some (p, _) =>
    let l1 := { l with ply := { l.ply with swapGen := tput l.ply.swapGen p (tgetD l.ply.swapGen p 0 + 1) } }
    let c := compareOf l1 p
    if c.suspended then endSuspension p l1 else l1

/-- The steps of a change of the active pattern, in their order (R311, R322, R324, R335). The parameter block stored for a
host-loaded image applies at the first swap to the image with its hash (R687). -/
def activatePattern (n : Nat) (l : Lane) : Lane :=
  let p := partOf l n
  match p.rect, inactiveBank p with
  | some rect, some pat =>
    let skip := pat.written
    let stored := p.awaits.filter (fun a => a.1 == pat.hash)
    let pat := { pat with params := (stored.map (·.2)).getD pat.params }
    let p1 := { p with
      awaits := if stored.isSome then none else p.awaits
      activeBank := 1 - p.activeBank, lastClean := none, faulted := false, results := [], slotA := none, slotB := none, lib := []
      builtIn := true, auto := .reset, secondDue := false
      selector := if patId pat = 0x52420001 then selectorWord 0 0 1 else 0 }
    let l1 := setPart n (setActive (some { pat with written := [] }) p1) l
    let l2 := if p.secondDue then transientRound n l1 else l1
    let l3 := writeRegions rect pat (fun i r => (r.kind == 1 || r.kind == 5) && !skip.contains i) l2
    writeRegions rect pat (fun _ r => r.kind == 2) l3
  | _, _ => l

/-- A swap at its boundary (R311), which reaches Ply. -/
def applySwap (n : Nat) (l : Lane) : Lane :=
  let l1 := activatePattern n l
  if (partOf l n).rect.isSome && (inactiveBank (partOf l n)).isSome then swapPlane n l1 else l1

/-- A swap with no plane bound applies at dispatch; any other waits for its boundary (R311). -/
def patSwapStart (r : Request) (l : Lane) : Lane :=
  let n := flowId r
  if (planeOf l n).isNone && (partOf l n).phase == .idle then applySwap n (postReply r .ok false [] l)
  else setPart n { partOf l n with change := some (r, .swap (swapFrom r)) } l

def lanePatternSwap (r : Request) (l : Lane) : Lane := serveHeld 0x0501 none patSwapCheck patSwapStart r l

/-! ### PATTERN_PARAM_SET (R312, R345, R351, R365, R376) -/

/-- An FP32 field of a parameter block in its range. -/
def fpIn (b : Bytes) (off : Nat) (lo hi : Rat) : Bool := fp32In lo hi (BitVec.ofNat 32 (field b off 4))

/-- State estimation parameters (R345). `meas`: meas_count of the variant in force, 0 when none is. -/
def seParamsOk (meas : Nat) (b : Bytes) : Bool :=
  fpIn b 0 1 100 && fpIn b 4 (mkRat 1 (2 ^ 30)) (mkRat 1 16) && field b 8 1 ≤ 1 && field b 9 1 ≤ 1 && field b 10 1 ≤ 1 &&
    field b 11 1 ≤ 1 && inRange 1 16 (field b 12 1) && field b 13 1 ≤ 1 && inRange 2 64 (field b 14 2) &&
    inRange meas 65535 (field b 16 4) && field b 20 2 ≤ 256 && field b 22 1 ≤ 252 && isZero b 23 9

/-- One band of the oscillation table (R365). -/
def bandOk (b : Bytes) (m : Nat) : Bool :=
  let o := 128 + 32 * m
  let w := fun (x : Nat) => fp32ToRat (BitVec.ofNat 32 (field b x 4))
  let above := match w o, w (o + 4) with
    | some lo, some hi => decide (lo < hi)
    | _, _ => false
  fpIn b o (mkRat 1 100) 5 && fpIn b (o + 4) (mkRat 1 100) 5 && above && fpIn b (o + 8) (mkRat (-1) 10) (mkRat 1 2) &&
    fpIn b (o + 12) 1 600 && fpIn b (o + 16) 0 1000000000 && fpIn b (o + 20) 0 1000000000 && fpIn b (o + 24) 1 600 &&
    isZero b (o + 28) 4

/-- Oscillation parameters (R365). -/
def oscParamsOk (b : Bytes) : Bool :=
  let n := field b 6 2
  fpIn b 0 (mkRat 99 100) (mkRat 99999 100000) && inRange 2 16 (field b 4 1) && field b 4 1 % 2 == 0 && field b 5 1 ≤ 8 &&
    n ≤ 4096 && (field b 8 2 == 0 || field b 8 2 < n) && field b 10 2 ≤ 4095 && fpIn b 12 5 600 && fpIn b 16 5 600 &&
    fpIn b 20 10 600 && fpIn b 24 2 1000 && fpIn b 28 1 600 && fpIn b 32 5 600 && fpIn b 36 1 600 &&
    field b 40 1 ≤ 238 && inRange 1 8 (field b 41 1) && inRange 1 8 (field b 42 1) && field b 43 1 ≤ 128 && isZero b 44 84 &&
    (List.range 8).all (bandOk b) && (slice b 384 4096).all (fun x => x.toNat < 8) &&
    ((slice b 384 4096).filter (fun x => x.getLsbD 2)).length ≤ 64 &&
    (List.range 128).all (fun i =>
      let o := 4480 + 8 * i
      field b o 2 ≤ 4095 && field b (o + 2) 2 ≤ 4095 && field b (o + 4) 1 ≤ 63 && field b (o + 5) 1 ≤ 63 && isZero b (o + 6) 2)

/-- Islanding parameters (R376). -/
def islParamsOk (b : Bytes) : Bool :=
  let k := field b 6 1
  let brk := fun (x : Nat) => x == 255 || decide (x < k)
  field b 0 2 ≤ 448 && field b 2 2 ≤ 128 && inRange (2 * field b 0 2) 1023 (field b 4 2) &&
    k ≤ min 128 (1024 - field b 4 2) && field b 7 1 ≤ 1 && field b 8 1 ≤ 63 && inRange 1 16 (field b 9 1) &&
    1 ≤ field b 10 1 && field b 11 1 ≤ 252 && 1 ≤ field b 12 2 && inRange 1 64 (field b 14 1) && 1 ≤ field b 15 1 &&
    fpIn b 16 (mkRat 5 1000) 5 && fpIn b 20 1 3600 && fpIn b 24 (mkRat 5 100) 20 && fpIn b 28 1 90 &&
    inRange 1 16 (field b 32 1) && (field b 33 1 == 50 || field b 33 1 == 60) && isZero b 34 30 &&
    (List.range 448).all (fun j => field b (64 + 2 * j) 1 < 128 && isZero b (65 + 2 * j) 1) &&
    (List.range 128).all (fun t =>
      let o := 960 + 8 * t
      field b o 1 ≤ 63 && field b (o + 1) 1 ≤ 63 && field b o 1 != field b (o + 1) 1 && brk (field b (o + 2) 1) &&
        brk (field b (o + 3) 1) && isZero b (o + 4) 4)

/-- meas_count of the variant in force in a partition, 0 when the built-in contents are (R326, R336). -/
def activeMeas (p : Part) : Nat :=
  match (activeVariant p).bind (tget p.variants) with
  | some v => field v 28 4
  | none => 0

/-- The ranges that the firmware checks for a pattern's block, by its pattern_id. -/
def paramsOk (meas : Nat) (pat : Pattern) (b : Bytes) : Bool :=
  if patId pat = 0x52420001 then seParamsOk meas b
  else if patId pat = 0x52420002 then oscParamsOk b
  else if patId pat = 0x52420003 then islParamsOk b
  else true

/-- A block with bytes replaced from an offset on. -/
def splice (b : Bytes) (off : Nat) (d : Bytes) : Bytes := b.take off ++ d ++ b.drop (off + d.length)

/-- The bank that PATTERN_PARAM_SET names. -/
def paramBank (p : Part) (bank : Nat) : Option Pattern := if bank = 0 then activeBank p else inactiveBank p

def paramCheck (l : Lane) (r : Request) : Status :=
  let b := body r
  let p := partOf l (flowId r)
  let off := field b 4 4
  let len := field b 8 4
  need (field b 0 1 ≤ 1 && isZero b 1 3) .badParam <|
  match paramBank p (field b 0 1) with
  | none => .noResource
  | some pat =>
    need (off % 4 == 0 && off < pat.params.length && len % 4 == 0 && 4 ≤ len && off + len ≤ pat.params.length &&
      paramsOk (if field b 0 1 = 0 then activeMeas p else 0) pat (splice pat.params off (b.drop 12))) .badParam .ok

/-- The inactive bank's block is written at dispatch; the active bank's waits for a boundary (R312). -/
def paramStart (r : Request) (l : Lane) : Lane :=
  let b := body r
  let n := flowId r
  let p := partOf l n
  if field b 0 1 = 0 then setPart n { p with change := some (r, .params (field b 4 4) (b.drop 12)) } l
  else
    let pat := (inactiveBank p).map (fun x => { x with params := splice x.params (field b 4 4) (b.drop 12) })
    postReply r .ok false [] (setPart n (setInactive pat p) l)

def lanePatternParamSet (r : Request) (l : Lane) : Lane := serveHeld 0x0502 none paramCheck paramStart r l

/-- A parameter write at its boundary: the stored block, every copy, and the generation (R312). -/
def applyParams (n off : Nat) (d : Bytes) (l : Lane) : Lane :=
  let p := partOf l n
  match p.rect, activeBank p with
  | some rect, some pat =>
    let l1 := setPart n (setActive (some { pat with params := splice pat.params off d })
      { p with paramGen := bump p.paramGen }) l
    ((regionsOf pat.image).filter (fun r => r.kind == 2)).foldl
      (fun acc r => modTile (tileAt rect r.tile) (writeBytes (16 * r.first + off / 4) d) acc) l1
  | _, _ => l

/-! ### Variants at a boundary (R339, R340, R342) -/

/-- Fields of a variant image's header (R336). -/
def varTiles (v : Bytes) : Nat := field v 21 1
def varLines (v : Bytes) : Nat := field v 22 2
def varSlotLine (v : Bytes) (slot : Nat) : Nat := field v (40 + 2 * slot) 2

/-- The slot that is not active (R335, R338): 1 for B while A is active. -/
def inactiveSlot (p : Part) : Nat := if bit p.selector 4 then 0 else 1

/-- The variant that a slot holds. -/
def slotHolds (p : Part) (slot : Nat) : Option Nat := if slot = 0 then p.slotA else p.slotB
def setSlot (slot : Nat) (v : Option Nat) (p : Part) : Part := if slot = 0 then { p with slotA := v } else { p with slotB := v }

/-- A variant sits in one of the two slots. -/
def resident (p : Part) (v : Nat) : Bool := p.slotA == some v || p.slotB == some v

/-- The largest portion P in bytes, with the plane's slack (R339). -/
def portionMax (pat : Pattern) (throttled : Bool) (rate : Nat) : Nat :=
  64 * (((mkRat 1 rate) - patTime pat throttled) * 200000000).floor.toNat

/-- The lines of each tile that one boundary writes: an equal share in whole lines, at most P (R339). -/
def portionLines (v : Bytes) (maxBytes : Nat) : Nat :=
  let total := varTiles v * varLines v * 64
  let b := max 3 ((total + maxBytes - 1) / maxBytes)
  min ((varLines v + b - 1) / b) (maxBytes / (64 * varTiles v))

/-- Writes lines `first` to `first + count − 1` of a variant into a slot of every tile. -/
def writeSlot (rect : Rect) (v : Bytes) (slot first count : Nat) (l : Lane) : Lane :=
  modTiles rect (fun t x => writeBytes (16 * (varSlotLine v slot + first))
    (slice v (128 + 64 * (t * varLines v + first)) (64 * count)) x) l

/-- The inactive slot holds no variant while one is written into it; the built-in contents leave slot A (R335). -/
def openSlot (slot : Nat) (p : Part) : Part :=
  let p1 := setSlot slot none p
  if slot = 0 then { p1 with builtIn := false, selector := if bit p.selector 5 then p.selector - 32 else p.selector } else p1

/-- One portion of a staging: answers the lane and whether the last line is written. -/
def stagePortion (n v done : Nat) (l : Lane) : Lane × Bool :=
  let p := partOf l n
  match p.rect, activeBank p, tget p.variants v, planeOf l n with
  | some rect, some pat, some img, some (_, c) =>
    let slot := inactiveSlot p
    let count := min (portionLines img (portionMax pat l.health.throttled c.rate)) (varLines img - done)
    let p1 := { openSlot slot p with portion := true }
    let full := varLines img ≤ done + count
    let p2 := if full then setSlot slot (some v) p1 else p1
    (writeSlot rect img slot done count (setPart n p2 l), full)
  | _, _, _, _ => (l, true)

/-- The lines of a variant that stand written after a portion. -/
def doneAfter (l : Lane) (n v done : Nat) : Nat :=
  let p := partOf l n
  match activeBank p, tget p.variants v, planeOf l n with
  | some pat, some img, some (_, c) => done + portionLines img (portionMax pat l.health.throttled c.rate)
  | _, _, _ => done

/-- A selection takes effect for the next cast (R335, R340): a variant by its slot, or the built-in contents. -/
def applySelect (v : Option Nat) (p : Part) : Part :=
  match v with
  | none => { p with selector := selectorWord 0 0 (b2n p.builtIn) }
  | some id => { p with selector := selectorWord id (if p.slotA = some id then 0 else 1) (b2n p.builtIn) }

/-- VARIANT_SELECT's hold suspends automatic selection or lets it resume (R340). -/
def applyHold (hold : Bool) (p : Part) : Part :=
  { p with auto := { AutoSelect.reset with hold := hold } }

/-- Automatic selection stages its variant, and selects it at its course (R342). -/
def applyAuto (n v : Nat) (l : Lane) : Lane :=
  let p := partOf l n
  if resident p v then setPart n (applySelect (some v) { p with auto := { p.auto with candidate := none, count := 0, chosen := none, done := 0 } }) l
  else
    let d := doneAfter l n v p.auto.done
    let x := stagePortion n v p.auto.done l
    let q := partOf x.1 n
    setPart n { q with auto := { q.auto with done := if x.2 then 0 else d } } x.1

/-! ### The round boundary (R310) -/

/-- A change that waits for a boundary applies there (R310 to R312, R339, R340, R342). -/
def laneBoundaryApply (n : Nat) (l : Lane) : Lane :=
  if !dieRuns l || !changeReady l n then l
  else
    let p := partOf l n
    let q := { p with change := none }
    match p.change with
    | some (r, .swap _) => applySwap n (postReply r .ok false [] (setPart n q l))
    | some (r, .params off d) => postReply r .ok false [] (applyParams n off d (setPart n q l))
    | some (r, .stage v done) =>
      let d := doneAfter l n v done
      let x := stagePortion n v done l
      if x.2 then postReply r .ok false [] (setPart n { partOf x.1 n with change := none } x.1)
      else setPart n { partOf x.1 n with change := some (r, .stage v d) } x.1
    | some (r, .select v hold _) => postReply r .ok false [] (setPart n (applyHold hold (applySelect v q)) l)
    | none =>
      match p.auto.chosen with
      | some (v, _) => applyAuto n v l
      | none => l

/-! ### Queries (R291, R323, R324) -/

/-- ⌈x⌉ of a rational that is not negative. -/
def ceilNat (x : Rat) : Nat := x.ceil.toNat

/-- The state byte of PATTERN_QUERY (R323). -/
def partState (l : Lane) (n : Nat) (p : Part) : Nat :=
  if p.rect.isNone then 0
  else if p.repairing then 5
  else if p.change.any (fun c => match c.2 with | .swap _ => true | _ => false) then 4
  else if p.faulted then 3
  else if (planeOf l n).isNone then 1 else 2

def rectBytes (r : Option Rect) (absent : Nat) : Bytes :=
  match r with
  | some x => le 1 x.1 ++ le 1 x.2.1 ++ le 1 x.2.2.1 ++ le 1 x.2.2.2
  | none => le 1 absent ++ zeros 3

/-- The PATTERN_QUERY result (R323). -/
def patternResult (l : Lane) (n : Nat) : Bytes :=
  let p := partOf l n
  let k := p.counters
  let of := fun (x : Option Pattern) (f : Pattern → Nat) => (x.map f).getD 0
  let act := activeBank p
  let ina := inactiveBank p
  le 1 (partState l n p) ++ le 1 p.activeBank ++ le 1 (((planeOf l n).map (·.1)).getD 0xFF) ++ le 1 (throttleN l n) ++
    rectBytes p.rect 0xFF ++ le 4 (of act patId) ++ le 4 (of act patVersion) ++ le 4 (of ina patId) ++
    le 4 (of ina patVersion) ++ le 4 (of act patRows) ++ le 4 (of act patOutLines) ++
    le 4 (of act (fun x => ceilNat (patTime x l.health.throttled * 1000000000))) ++ le 4 p.paramGen ++
    le 1 (placesHeld p) ++ le 1 p.queueMax ++ zeros 2 ++ le 4 k.rounds ++ le 4 k.second ++ le 4 k.transient ++
    le 4 k.lasting ++ le 4 k.skQueue ++ le 4 k.skThrottle ++ le 4 k.skMismatch ++ le 4 k.skNotServing ++ zeros 4 ++
    le 8 (p.lastClean.getD (2 ^ 64 - 1)) ++ fit 32 ((act.map (·.hash)).getD []) ++ fit 32 ((ina.map (·.hash)).getD [])

/-- The checks of `lanePatternQuery`. -/
def patternQueryCheck (_ : Lane) (q : Request) : Status :=
  need (isZero (body q) 0 4) .badParam .ok

/-- The effect and result of `lanePatternQuery`. -/
def patternQueryApply (q : Request) (s : Lane) : Lane × Bytes :=
  let n := flowId q
  let p := partOf s n
  (setPart n { p with queueMax := placesHeld p } s, patternResult s n)

/-- PATTERN_QUERY: queue_max counts anew after the reply (R323). -/
def lanePatternQuery (r : Request) (l : Lane) : Lane :=
  serve 0x0503 none patternQueryCheck patternQueryApply r l

/-- The entry of the ring that RESULT_READ asks for: course 0 means the newest. -/
def resultEntry (p : Part) (course : Nat) : Option RoundResult :=
  if course = 0 then p.results.getLast? else p.results.find? (fun x => x.course == course)

/-- oldest and newest of the ring (R324). -/
def resultRange (p : Part) : Bytes :=
  let at_ := fun (x : Option RoundResult) => (x.map (·.course)).getD (2 ^ 64 - 1)
  le 8 (at_ p.results.head?) ++ le 8 (at_ p.results.getLast?)

def resultCheck (_ : Lane) (r : Request) : Status :=
  let b := body r
  need (field b 8 4 ≤ 16383 && inRange 1 1023 (field b 12 2) && isZero b 14 2) .badParam .ok

/-- RESULT_READ (R324). -/
def resultStart (r : Request) (l : Lane) : Lane :=
  let b := body r
  let p := partOf l (flowId r)
  match resultEntry p (field b 0 8) with
  | none => postReply r .noResource false (resultRange p) l
  | some x =>
    let lines := (x.lines.drop (field b 8 4)).take (field b 12 2)
    postReply r .ok false (le 8 x.course ++ le 8 x.instant ++ le 4 x.lines.length ++ le 2 lines.length ++ zeros 2 ++
      le 4 x.patternId ++ le 4 x.paramGen ++ lines.flatten) l

def laneResultRead (r : Request) (l : Lane) : Lane := serveHeld 0x0507 none resultCheck resultStart r l

/-- The logical tile at a physical one (R247, R286). -/
def logicalTile (l : Lane) (k : Nat) : Option Nat :=
  let row := k / 9
  let col := k % 9
  match retiredColumn l row with
  | some f => if col < f then some (8 * row + col) else if f < col then some (8 * row + col - 1) else none
  | none => if col < 8 then some (8 * row + col) else none

/-- The partition that holds a logical tile. -/
def partitionOfTile (l : Lane) (t : Nat) : Nat :=
  ((l.array.parts.find? (fun e => e.2.rect.any (fun r => inRect r t))).map (·.1)).getD 0xFF

/-- A tile entry of ARRAY_QUERY (R291). -/
def tileEntry (l : Lane) (k : Nat) : Bytes :=
  let c := tgetD l.array.counters k ⟨0, 0, 0⟩
  let head := match logicalTile l k with
    | some t => le 1 0 ++ le 1 t ++ le 1 (partitionOfTile l t)
    | none =>
      (if l.health.retired.contains k then le 1 2 else if l.health.spareFailed.getLsbD (k / 9) then le 1 3 else le 1 1) ++
        le 1 0xFF ++ le 1 0xFF
  head ++ zeros 1 ++ le 4 c.corrected ++ le 4 c.transient ++ le 4 c.violations

/-- The ARRAY_QUERY result (R291). -/
def arrayResult (l : Lane) : Bytes :=
  let spent := l.array.throttledTc + (if l.health.throttled then l.tc - l.array.throttledAt else 0)
  le 1 (b2n l.health.throttled) ++ le 1 (unsigned 8 l.health.junction) ++
    le 1 (b2n (!l.health.unhealthy.contains arrayUnhealthy)) ++ zeros 1 ++ le 4 l.array.throttleEntries ++
    le 4 (spent / msTc 1) ++ zeros 4 ++
    ((List.range 4).flatMap (fun n => rectBytes (partOf l n).rect 0xFF)) ++
    ((List.range 8).flatMap (fun row => le 1 (match retiredColumn l row with
      | some f => f
      | none => if l.health.spareFailed.getLsbD row then 0xFE else 0xFF))) ++ zeros 8 ++
    ((List.range 72).flatMap (tileEntry l))

/-- The checks of `laneArrayQuery`. -/
def arrayQueryCheck (_ : Lane) (q : Request) : Status :=
  need (isZero (body q) 0 4) .badParam .ok

/-- The effect and result of `laneArrayQuery`. -/
def arrayQueryApply (_ : Request) (s : Lane) : Lane × Bytes :=
  (s, arrayResult s)

def laneArrayQuery (r : Request) (l : Lane) : Lane :=
  serve 0x0506 none arrayQueryCheck arrayQueryApply r l

end Sys2Proof.Machine
end

