-- ==== Sys2Proof/Machine/Swatch.lean ====
section
/-!
DEFINITION. Swatch capture (chapter 12): triggers and profiles, rows, records, rewind marks.
-/
namespace Sys2Proof.Machine

/-! ### TRIGGER_SET (R415, R417) -/

/-- A field of the trigger structure as an FP32 word that is a number. -/
def finite (w : Word) : Bool := (fp32ToRat w).isSome
def wordAt (b : Bytes) (off : Nat) : Word := BitVec.ofNat 32 (field b off 4)

def triggerAsked (b : Bytes) : TriggerCfg :=
  { enable := field b 1 1 == 1, type := field b 2 1, profile := field b 3 1, source := field b 4 1
    channel := field b 5 1, object := field b 6 2, component := field b 8 1, falling := bit (field b 9 1) 0
    hold := field b 10 2, hi := wordAt b 12, lo := wordAt b 16, hyst := wordAt b 20, span := field b 24 2
    qualifier := field b 26 2, mask := wordAt b 28, qualWindowUs := field b 32 4 }

/-- The object and channel of a trigger lie in the ranges of its type and source (R415). -/
def triggerObject (t : TriggerCfg) : Bool :=
  if t.type ≤ 3 then
    (match t.source with
     | 0 => inRange 1 16383 t.object
     | 1 => inRange 1 16383 t.object && t.channel ≤ 7
     | _ => t.object ≤ 63 && t.channel ≤ 15 : Bool)
  else if t.type = 4 then inRange 1 16383 t.object
  else if t.type = 5 then inRange 1 16383 t.object && inRange 120 127 t.channel
  else if t.type = 6 then t.object ≤ 1
  else if t.type = 7 then t.object ≤ 511
  else true

/-- A component suits the channel (R410, R417): others than 0 only on complex channels. -/
def componentSuits (l : Lane) (t : TriggerCfg) : Bool :=
  t.component == 0 || (t.type ≤ 3 && t.source == 0 && channelComplex l t.object t.channel)

def triggerCheck (l : Lane) (r : Request) : Status :=
  let b := body r
  let t := triggerAsked b
  need (field b 1 1 ≤ 1 && t.type ≤ 8 && (t.profile ≤ 15 || t.profile == 0xFF) && t.source ≤ 2 && triggerObject t &&
    t.component ≤ 3 && componentSuits l t && field b 9 1 ≤ 1 && 1 ≤ t.hold && finite t.hi && finite t.lo &&
    fpLe t.lo t.hi && finite t.hyst && fpLe 0 t.hyst && inRange 1 1024 t.span &&
    (t.qualifier ≤ 255 || t.qualifier == 0xFFFF) && t.qualifier != flowId r && inRange 1 60000000 t.qualWindowUs &&
    isZero b 36 28) .badParam .ok

/-- The TRIGGER_SET result (R415). -/
def triggerResult (l : Lane) (i : Nat) : Bytes :=
  let x := triggerRun l i
  let on := (tget l.cfg.triggers i).any (·.enable)
  le 1 (if on then x.state else 0) ++ zeros 3 ++ le 4 x.fires ++ le 4 x.recorded ++ le 4 x.missed ++ le 4 x.unqualified ++
    zeros 4 ++ le 8 (match x.lastInstant with | some t => (BitVec.ofInt 40 t).toNat | none => 0)

/-- The checks of `laneTriggerRead`. -/
def triggerReadCheck (_ : Lane) (q : Request) : Status :=
  need (isZero (body q) 1 63) .badParam .ok

/-- The effect and result of `laneTriggerRead`. -/
def triggerReadApply (q : Request) (s : Lane) : Lane × Bytes :=
  (s, triggerResult s (flowId q))

def laneTriggerRead (r : Request) (l : Lane) : Lane :=
  serve 0x0700 (some 0) triggerReadCheck triggerReadApply r l

/-- The state in which a trigger starts (R416): those that evaluate values, and a pin trigger whose pin stands at the
level it waits for, must first see their condition false. -/
def triggerStart (l : Lane) (t : TriggerCfg) : Nat :=
  if !t.enable then 0
  else if t.type = 7 || t.type = 8 || (t.type = 6 && l.swatch.pinLevels.getLsbD t.object == t.falling) then 2
  else 1

/-- A set clears the hold count and the latch; the counters stay (R415). -/
def triggerApply (r : Request) (l : Lane) : Lane × Bytes :=
  let i := flowId r
  let t := triggerAsked (body r)
  let x := triggerRun l i
  let l1 := { l with cfg := { l.cfg with triggers := tput l.cfg.triggers i t } }
  let l2 := setTrigger i { x with
    state := triggerStart l t, holdCount := 0, past := [], firstTrue := none, lastFalse := none } l1
  (l2, triggerResult l2 i)

def laneTriggerSet (r : Request) (l : Lane) : Lane := serve 0x0700 (some 1) triggerCheck triggerApply r l

/-! ### SWATCH_ARM (R410 to R413) -/

def measAt (b : Bytes) (o : Nat) : MeasEntry :=
  { channel := field b o 1, kind := field b (o + 1) 1, component := field b (o + 2) 1, threshold := wordAt b (o + 4) }

def profileAsked (b : Bytes) : ProfileCfg :=
  let n := field b 7 1
  { single := field b 1 1 == 1, phasor := field b 2 1 == 1, extend := bit (field b 3 1) 0, recycle := bit (field b 3 1) 1
    rate := field b 4 2, avgN := field b 6 1, preMs := field b 8 4, postMs := field b 12 4, maxMs := field b 16 4
    rowWaitMs := field b 20 2, measMs := field b 24 4
    channels := (List.range n).map (fun i => (field b (32 + 8 * i) 2, field b (34 + 8 * i) 1))
    meas := (List.range (field b 22 1)).map (fun i => measAt b (32 + 8 * n + 8 * i)), armed := true }

/-- The channels that R105 gives a stream's type. -/
def channelExists (c : StreamCfg) (ch : Nat) : Bool :=
  match c.part with
  | .pmu _ => ch < 128
  | .sv p => ch % 8 < p.channels && ch < 24
  | .mesh .. => ch < 16
  | .legacy p => ch < p.points.length
  | .derived _ kinds => ch < kinds.length

/-- A channel entry suits its profile (R410). -/
def entryOk (l : Lane) (c : ProfileCfg) (e : Nat × Nat) : Bool :=
  inRange 1 16383 e.1 &&
    (match tget l.cfg.streams e.1 with
     | none => false
     | some s =>
       if c.phasor then channelExists s e.2
       else (match s.part with
         | .sv p => s.rate == c.rate && decide (e.2 < p.channels)
         | _ => false : Bool) : Bool)

/-- A measurement entry obeys its rules (R410). -/
def measOk (l : Lane) (c : ProfileCfg) (m : MeasEntry) : Bool :=
  let e := c.channels.getD m.channel (0, 0)
  let cx := c.phasor && channelComplex l e.1 e.2
  let fp := c.phasor && !cx && !channelWord l e.1 e.2
  m.channel < c.channels.length && m.kind ≤ 7 && m.component ≤ 3 && (m.component == 0 || cx) &&
    (!(m.kind == 3 || m.kind == 4) || !c.phasor) && (m.kind != 5 || fp) && (m.kind != 6 || cx)

/-- The fields of a body obey R410. -/
def profileOk (l : Lane) (c : ProfileCfg) : Bool :=
  (if c.phasor then planeRates.contains c.rate && c.avgN == 1 else inRange 4000 14400 c.rate && inRange 1 64 c.avgN &&
    c.rate % c.avgN == 0) && inRange 1 64 c.channels.length && c.preMs ≤ 60000 && inRange 1 3600000 c.postMs &&
    inRange c.postMs 3600000 c.maxMs && inRange 1 1000 c.rowWaitMs && c.meas.length ≤ 16 && c.measMs ≤ c.maxMs &&
    c.channels.all (entryOk l c) && c.meas.all (measOk l c)

/-- The raw fields of ARM: ranges and reserved bytes (R410, R21). -/
def armBytesOk (b : Bytes) : Bool :=
  let n := field b 7 1
  field b 1 1 ≤ 1 && field b 2 1 ≤ 1 && field b 3 1 < 4 && isZero b 23 1 && isZero b 28 4 &&
    (List.range n).all (fun i => isZero b (35 + 8 * i) 5) &&
    (List.range (field b 22 1)).all (fun i => isZero b (35 + 8 * n + 8 * i) 1)

/-- The segments that the pool can give a profile (R412, R422): FREE ones, its own ring's, and with `recycle` those of
DONE records. -/
def segmentsAvailable (l : Lane) (p : Nat) (c : ProfileCfg) : Nat :=
  (segCount l - l.swatch.segments.length) + (profileRun l p).ring.length +
    (if c.recycle then ((l.swatch.records.filter (fun e => isDone e.2)).map (fun e => e.2.segments.length)).sum else 0)

/-- The write rates of the other armed profiles (R412). -/
def otherRates (l : Lane) (p : Nat) : Nat :=
  ((l.cfg.profiles.filter (fun e => e.1 != p && (profileRun l e.1).state != .disarmed)).map (fun e => writeRate l e.2)).sum

/-- The checks of R412 for a body, in their order. -/
def armStatus (l : Lane) (p : Nat) (c : ProfileCfg) (bytesOk : Bool) : Status :=
  need (l.swatch.poolMib != 0 && (profileRun l p).record.isNone) .noResource <|
  need (bytesOk && profileOk l c) .badParam <|
  need ((rowsOfMs c c.preMs + rowsOfMs c c.maxMs + rowsPerSeg l c - 1) / rowsPerSeg l c + 1 ≤ segCount l) .armRejected <|
  need (otherRates l p + writeRate l c ≤ 4000000000) .limitExceeded <|
  need (ringSegments l c ≤ segmentsAvailable l p c) .noResource .ok

/-- Fires that were held until a re-arm act (R427). -/
def actHeld (p : Nat) (held : List (Nat × Int × Option Request)) (l : Lane) : Lane :=
  held.foldl (fun acc h => actFire h.1 p h.2.1 h.2.2 acc) l

/-- The commit point of ARM and REARM (R413): the body, a fresh ring, ARMED; fires that were held for the re-arm act
on it (R427). -/
def armProfile (p : Nat) (c : ProfileCfg) (l : Lane) : Lane :=
  let held := (profileRun l p).held
  let l1 := freeRing p { l with cfg := { l.cfg with profiles := tput l.cfg.profiles p { c with armed := true } } }
  let l2 := setProfile p { ProfileRun.zero with state := .armed, nextRow := rowFrom c (nowUnits l : Nat) } l1
  actHeld p held ((takeRing p c (ringSegments l c) l2).getD l2)

/-- The checks of `laneArm`. -/
def armCheck (s : Lane) (q : Request) : Status :=
  need (flowId q ≤ 15) .badParam (armStatus s (flowId q) (profileAsked (body q)) (armBytesOk (body q)))

/-- The effect and result of `laneArm`. -/
def armApply (q : Request) (s : Lane) : Lane × Bytes :=
  (armProfile (flowId q) (profileAsked (body q)) s, [])

def laneArm (r : Request) (l : Lane) : Lane :=
  serve 0x0701 (some 0) armCheck armApply r l

/-- A fire that was held for a re-arm which DISARM has taken away is missed (R427), and its command answers NO_RESOURCE
(R436). -/
def missHeld (l : Lane) (h : Nat × Int × Option Request) : Lane :=
  let l1 := countTrigger h.1 (fun x => { x with missed := bump x.missed }) l
  match h.2.2 with
  | some q => refuse q .noResource l1
  | none => l1

/-- DISARM: a record already open runs to its end (R413). -/
def disarmApply (r : Request) (l : Lane) : Lane × Bytes :=
  let p := flowId r
  let run := profileRun l p
  let cfg := match profileCfg l p with
    | some c => { l.cfg with profiles := tput l.cfg.profiles p { c with armed := false } }
    | none => l.cfg
  let keep := run.record.isSome
  let l1 := freeRing p { l with cfg := cfg }
  let l2 := setProfile p { profileRun l1 p with
    state := .disarmed, inputs := if keep then run.inputs else [], half := if keep then run.half else [], held := [] } l1
  (run.held.foldl missHeld l2, [])

def armShort (r : Request) : Bool := flowId r ≤ 15 && isZero (body r) 1 3

/-- The checks of `laneDisarm`. -/
def disarmCheck (_ : Lane) (q : Request) : Status :=
  need (armShort q) .badParam .ok

def laneDisarm (r : Request) (l : Lane) : Lane :=
  serve 0x0701 (some 1) disarmCheck disarmApply r l

/-- The checks of `laneRearmOp`. -/
def rearmOpCheck (s : Lane) (q : Request) : Status :=
  need (armShort q) .badParam <|
  match profileCfg s (flowId q) with
  | none => .noResource
  | some c => armStatus s (flowId q) c true

/-- The effect and result of `laneRearmOp`. -/
def rearmOpApply (q : Request) (s : Lane) : Lane × Bytes :=
  (match profileCfg s (flowId q) with
    | some c => armProfile (flowId q) c s
    | none => s, [])

def laneRearmOp (r : Request) (l : Lane) : Lane :=
  serve 0x0701 (some 2) rearmOpCheck rearmOpApply r l

/-! ### SWATCH_TRIGGER (R436) -/

/-- The instant at which a command places its fire. -/
def commandInstant (l : Lane) (r : Request) : Int :=
  if field (body r) 0 8 = 0 then (nowUnits l : Nat) else joinTag l (BitVec.ofNat 40 (field (body r) 0 8))

/-- R436: an enabled trigger of type 8, an instant not later than now and not before the ring's oldest row. -/
def commandCheck (l : Lane) (r : Request) : Status :=
  let b := body r
  match tget l.cfg.triggers (flowId r) with
  | none => .badParam
  | some t =>
    let at_ := commandInstant l r
    let early := match profileCfg l t.profile with
      | some c =>
        field b 0 8 != 0 && (profileRun l t.profile).state == .armed &&
          decide (at_ < rowInstant c.rate c.avgN (ringOldest l t.profile))
      | none => false
    need (t.enable && t.type == 8 && field b 0 8 < 2 ^ 40 && isZero b 8 4 && decide (at_ ≤ (nowUnits l : Nat)) && !early) .badParam .ok

/-- The command fires its trigger and waits for the index entry of its record; a profile that is DISARMED or WAITING
counts it in missed and answers NO_RESOURCE. A fire that opens or joins no record answers at once (R436). -/
def commandStart (r : Request) (l : Lane) : Lane :=
  let i := flowId r
  match tget l.cfg.triggers i with
  | none => refuse r .badParam l
  | some t =>
    let at_ := commandInstant l r
    let st := (profileRun l t.profile).state
    if !qualified l t at_ then refuse r .noResource (fire i t at_ none l)
    else if t.profile = 0xFF then postReply r .ok false (zeros 8) (fire i t at_ none l)
    else if st == .disarmed || st == .waiting then refuse r .noResource (fire i t at_ none l)
    else fire i t at_ (some r) l

def laneSwatchTrigger (r : Request) (l : Lane) : Lane := serveHeld 0x0702 none commandCheck commandStart r l

/-! ### SWATCH_KEEP, SWATCH_DELETE, SWATCH_INDEX_READ (R438 to R440) -/

def recordOf (l : Lane) (r : Request) : Option Record := tget l.swatch.records (field (body r) 0 4)

def keepCheck (l : Lane) (r : Request) : Status :=
  let b := body r
  need (field b 4 1 ≤ 1 && isZero b 5 3) .badParam <|
  match recordOf l r with
  | none => .noResource
  | some x => need (field b 4 1 == 0 || x.flags.getLsbD 5 || keepFits l x) .limitExceeded .ok

/-- A record's segments become KEPT or DONE; of an open record at its end (R438). -/
def keepApply (r : Request) (l : Lane) : Lane × Bytes :=
  match recordOf l r with
  | none => (l, [])
  | some x =>
    let on := field (body r) 4 1 == 1
    if x.opened then (setRecord { x with keepAtEnd := on } l, [])
    else
      let f := if on then x.flags ||| 0x20 else x.flags &&& 0xFFDF
      (setRecord { x with flags := f } (sealSegs x (if on then .kept else .done) l), [])

def laneSwatchKeep (r : Request) (l : Lane) : Lane := serve 0x0703 none keepCheck keepApply r l

def deleteCheck (l : Lane) (r : Request) : Status :=
  need (isZero (body r) 4 4) .badParam <| need ((recordOf l r).any (fun x => !x.opened)) .noResource .ok

/-- The effect and result of `laneSwatchDelete`. -/
def swatchDeleteApply (q : Request) (s : Lane) : Lane × Bytes :=
  (dropRecord (field (body q) 0 4) s, [])

def laneSwatchDelete (r : Request) (l : Lane) : Lane :=
  serve 0x0704 none deleteCheck swatchDeleteApply r l

/-- A mask of trigger numbers (R434). -/
def maskBytes (ids : List Nat) : Bytes :=
  (List.range 32).map (fun b => BitVec.ofNat 8 (((List.range 8).map (fun i => if ids.contains (8 * b + i) then 2 ^ i else 0)).sum))

/-- The full timestamp of an instant (R9). -/
def fullOf (t : Int) : Nat := (t * 256 % ((2 ^ 80 : Nat) : Int)).toNat

/-- The primary cause: the lowest trigger of the cause mask (R424, R437). -/
def primaryOf (r : Record) : Option Nat := (List.range 256).find? (r.cause.contains ·)

/-- The index entry (R434). -/
def indexEntry (r : Record) : Bytes :=
  let f := setFlag 13 r.cause.isEmpty r.flags
  le 4 r.id ++ le 1 r.profile ++ le 1 ((primaryOf r).getD 0xFF) ++ le 2 f.toNat ++ le 16 (fullOf r.t) ++
    le 2 (r.segments.headD 0xFFFF) ++ le 2 r.segments.length ++ le 4 r.rows ++ le 4 r.trigIndex ++ le 1 r.halvings ++
    le 1 r.channelCount ++ le 2 r.rowBytes ++ le 4 r.rate ++ le 1 r.avgN ++ zeros 3 ++ maskBytes r.cause ++
    maskBytes r.later ++ fit 128 (r.measurements.flatMap (fun m => le 4 m.1.toNat ++ le 4 (unsigned 32 m.2))) ++
    le 8 (BitVec.ofInt 40 r.endAt).toNat ++ zeros 8

/-- Records with an index entry. -/
def indexed (l : Lane) : List Record := (l.swatch.records.filter (fun e => !e.2.opened)).map (·.2)

def indexResult (l : Lane) (first count : Nat) : Bytes :=
  let es := ((indexed l).filter (fun r => decide (first ≤ r.id))).take count
  le 2 es.length ++ zeros 2 ++ le 4 (((indexed l).getLast?.map (·.id)).getD 0) ++ es.flatMap indexEntry

/-- The checks of `laneIndexRead`. -/
def indexReadCheck (_ : Lane) (q : Request) : Status :=
  need (inRange 1 255 (field (body q) 4 2) && isZero (body q) 6 2) .badParam .ok

/-- The effect and result of `laneIndexRead`. -/
def indexReadApply (q : Request) (s : Lane) : Lane × Bytes :=
  (s, indexResult s (field (body q) 0 4) (field (body q) 4 2))

def laneIndexRead (r : Request) (l : Lane) : Lane :=
  serve 0x0708 none indexReadCheck indexReadApply r l

/-! ### SKEW_TABLE_SET (R420) -/

def skewAt (b : Bytes) (off : Nat) : Int := signed 32 (field b off 4)
def skewInRange (x : Int) : Bool := inRangeI (-10000000) 10000000 x

def skewCheck (_ : Lane) (r : Request) : Status :=
  let b := body r
  let n := field b 5 1
  need (skewInRange (skewAt b 0) && n ≤ 32 && field b 4 1 + n ≤ 256 && isZero b 6 2 &&
    (List.range n).all (fun i => skewInRange (skewAt b (8 + 4 * i)))) .badParam .ok

def skewApply (r : Request) (l : Lane) : Lane × Bytes :=
  let b := body r
  let old := tgetD l.cfg.skews (flowId r) .zero
  let t := (List.range (field b 5 1)).foldl (fun acc i => tput acc (field b 4 1 + i) (skewAt b (8 + 4 * i))) old.channels
  ({ l with cfg := { l.cfg with skews := tput l.cfg.skews (flowId r) { stream := skewAt b 0, channels := t } } }, [])

def laneSkewSet (r : Request) (l : Lane) : Lane := serve 0x0705 none skewCheck skewApply r l

/-! ### Rewind marks (R442 to R444) -/

def markKey (r : Request) (m : Nat) : Nat := 4 * flowId r + m
def oldestOf (l : Lane) (id : Nat) : Option WaleRecord := (waleOf l id).records.head?

/-- The MARK_LOST result (R444). -/
def lostResult (l : Lane) (id key : Nat) : Bytes :=
  le 8 (((oldestOf l id).map (·.tag.toNat)).getD 0) ++ le 8 (((tget l.swatch.marks key).map (·.tag.toNat)).getD 0)

def markSetCheck (l : Lane) (r : Request) : Status :=
  let b := body r
  need (field b 0 1 ≤ 3 && isZero b 2 2 && field b 4 8 < 2 ^ 40) .badParam <|
  need (streamCfg l (flowId r)).isSome .noResource <|
  need ((tget l.swatch.marks (markKey r (field b 0 1))).isSome || l.swatch.marks.length < 1024) .limitExceeded .ok

/-- The place a mark takes (R442): the first record at or after `at`; 0 means the newest; none when `at` is older than
the oldest record. Without such a record the mark waits at `at`. -/
def markPlace (l : Lane) (id at_ : Nat) : Option Mark :=
  let rs := (waleOf l id).records
  let t := joinTag l (BitVec.ofNat 40 at_)
  if at_ = 0 then
    match rs.getLast? with
    | some x => some { at_ := x.at_, tag := x.tag, valid := true }
    | none => some { at_ := (nowUnits l : Nat), tag := nowTag l, valid := true }
  else if rs.head?.any (fun x => decide (t < x.at_)) then none
  else
    match rs.find? (fun x => decide (t ≤ x.at_)) with
    | some x => some { at_ := x.at_, tag := x.tag, valid := true }
    | none => some { at_ := t, tag := BitVec.ofNat 40 at_, valid := true }

def markSetStart (r : Request) (l : Lane) : Lane :=
  let b := body r
  let key := markKey r (field b 0 1)
  match markPlace l (flowId r) (field b 4 8) with
  | none => postReply r .markLost false (lostResult l (flowId r) key) l
  | some m => postReply r .ok false [] { l with swatch := { l.swatch with marks := tput l.swatch.marks key m } }

def laneMarkSet (r : Request) (l : Lane) : Lane := serveHeld 0x0706 (some 0) markSetCheck markSetStart r l

/-- The checks of `laneMarkClear`. -/
def markClearCheck (s : Lane) (q : Request) : Status :=
  need (field (body q) 0 1 ≤ 3 && isZero (body q) 2 2 && field (body q) 4 8 < 2 ^ 40) .badParam <|
  need (streamCfg s (flowId q)).isSome .noResource .ok

/-- The effect and result of `laneMarkClear`. -/
def markClearApply (q : Request) (s : Lane) : Lane × Bytes :=
  ({ s with swatch := { s.swatch with marks := tdel s.swatch.marks (markKey q (field (body q) 0 1)) } }, [])

/-- A clear of a mark: `at` is unused and lies in its range. -/
def laneMarkClear (r : Request) (l : Lane) : Lane :=
  serve 0x0706 (some 1) markClearCheck markClearApply r l

def markReadCheck (l : Lane) (r : Request) : Status :=
  let b := body r
  need (field b 0 1 ≤ 3 && field b 1 1 ≤ 1 && inRange 1 32 (field b 3 1) && inRange 1 4096 (field b 4 2) && isZero b 6 2) .badParam <|
  need (streamCfg l (flowId r)).isSome .noResource .ok

/-- MARK_READ: the records from the mark in the layout of R246, and with `advance` the mark moves past the last one
returned (R444). -/
def markReadStart (r : Request) (l : Lane) : Lane :=
  let b := body r
  let id := flowId r
  let key := markKey r (field b 0 1)
  match (tget l.swatch.marks key).filter (·.valid) with
  | none => postReply r .markLost false (lostResult l id key) l
  | some m =>
    let w := waleOf l id
    let rs := (w.records.filter (fun x => decide (m.at_ ≤ x.at_))).take (field b 4 2)
    let n := field b 3 1
    let next := match rs.getLast? with
      | some x => if field b 1 1 = 1 then { m with at_ := x.at_ + 1, tag := tagOfFull (x.at_ + 1) } else m
      | none => m
    postReply r .ok false
      (le 2 rs.length ++ le 2 (recordSize n) ++ le 1 0 ++ zeros 3 ++ le 8 ((w.records.head?.map (·.tag.toNat)).getD 0) ++
        le 4 w.disorder ++ zeros 4 ++ rs.flatMap (recordBytes (field b 2 1) n))
      { l with swatch := { l.swatch with marks := tput l.swatch.marks key next } }

def laneMarkRead (r : Request) (l : Lane) : Lane := serveHeld 0x0707 none markReadCheck markReadStart r l

/-! ### Evaluation of triggers (R416 to R418) -/

/-- scale of a raw sample (R414, R175): as set, else the default of a voltage channel. -/
def sampleScale (l : Lane) (stream ch : Nat) : Rat :=
  (((tget l.cfg.pe (8 * stream + ch)).map (·.scale)).bind fp32ToRat).getD (mkRat 1 100)

/-- What a feed offers a trigger of types 0 to 5: nothing of its source, no usable value, or a value. -/
def offered (l : Lane) (t : TriggerCfg) (f : Feed) : Option (Int × Option (Word × Word)) :=
  match f with
  | .wale s at_ vs =>
    if t.object = s && ((t.type ≤ 3 && t.source == 0) || t.type == 4 || t.type == 5) then
      match vs.find? (fun v => v.channel == t.channel) with
      | some v => some (at_, if v.grade == .invalid then none else some (v.w0, v.w1))
      | none => some (at_, none)
    else none
  | .raw s ch at_ x g =>
    if t.type ≤ 3 && t.source == 1 && t.object == s && t.channel == ch then
      some (at_, if g == .invalid then none else some (fpOfRat (sampleScale l s ch * x), 0))
    else none
  | .feature set at_ ws =>
    if t.type ≤ 3 && t.source == 2 && t.object == set then some (at_, (ws[t.channel]?).map (fun w => (w, 0))) else none
  | .alarm .. => none

/-- The quantity a trigger compares: the component of its value; θ in degrees for a phase jump of a complex value
(R416). -/
def trigWord (l : Lane) (t : TriggerCfg) (w : Word × Word) : Word :=
  if t.type = 3 && t.source == 0 && channelComplex l t.object t.channel then Config.angleDeg w.1 w.2
  else if t.type ≤ 3 then component t.component w.1 w.2 else w.1

/-- Level or window: the condition of a value (R416). -/
def levelTrue (t : TriggerCfg) (w : Word) : Bool :=
  if t.type = 2 then fpLt w t.lo || fpLt t.hi w else if t.falling then fpLt w t.lo else fpLt t.hi w

/-- |rate of change| against the value `span` back (R416). -/
def rateOf (t : TriggerCfg) (past : List TrigVal) (v : TrigVal) : Option Rat :=
  match past[t.span - 1]? with
  | none => none
  | some o =>
    match trigRat v.w0, trigRat o.w0 with
    | some a, some b => if v.at_ = o.at_ then none else some (ratAbs ((a - b) / secondsBetween o.at_ v.at_))
    | _, _ => none

/-- |phase jump| of a value and the two before it (R416). -/
def jumpOf (past : List TrigVal) (v : TrigVal) : Option Rat :=
  match past with
  | a :: b :: _ =>
    match trigRat v.w0, trigRat a.w0, trigRat b.w0 with
    | some x, some y, some z => some (ratAbs (wrapDeg (x - 2 * y + z)))
    | _, _, _ => none
  | _ => none

def ratOf (w : Word) : Rat := (trigRat w).getD 0

/-- The condition of a value, and whether it re-enables a latched trigger (R416); none where it has no predecessor
that it needs. -/
def condition (t : TriggerCfg) (past : List TrigVal) (v : TrigVal) : Option (Bool × Bool) :=
  let hi := ratOf t.hi
  let lo := ratOf t.lo
  let hy := ratOf t.hyst
  match t.type with
  | 0 => some (levelTrue t v.w0, (trigRat v.w0).any (fun x => if t.falling then decide (lo + hy ≤ x) else decide (x ≤ hi - hy)))
  | 1 => (rateOf t past v).map (fun r => (decide (hi < r), decide (r ≤ hi - hy)))
  | 2 => some (levelTrue t v.w0, (trigRat v.w0).any (fun x => decide (lo + hy ≤ x) && decide (x ≤ hi - hy)))
  | 3 => (jumpOf past v).map (fun r => (decide (hi < r), decide (r ≤ hi - hy)))
  | 4 => past.head?.map (fun o => ((v.w0 ^^^ o.w0) &&& t.mask != 0, true))
  | _ => past.head?.map (fun o =>
      (!o.w0.getLsbD 11 && v.w0.getLsbD 11 && t.mask.getLsbD (v.w0.toNat % 16), !v.w0.getLsbD 11))

/-- The placed instant of a fire (R416, R418, R421). -/
def placed (l : Lane) (t : TriggerCfg) (x : TriggerRun) (first v : TrigVal) : Int :=
  let raw := match t.type with
    | 0 =>
      match x.lastFalse with
      | some a => crossing (if t.falling then t.lo else t.hi) a first
      | none => first.at_
    | 1 => first.at_
    | 2 =>
      match x.lastFalse with
      | some a => crossing (if fpLt first.w0 t.lo then t.lo else t.hi) a first
      | none => first.at_
    | _ => v.at_
  if t.type = 4 || (t.type ≤ 3 && t.source ≤ 1) then raw - skewOf l t.object t.channel else raw

/-- Values that a trigger keeps. -/
def remember (t : TriggerCfg) (v : TrigVal) (past : List TrigVal) : List TrigVal := (v :: past).take (max t.span 2 + 1)

/-- Hold values before a fire; types 3 to 5 fire on the value itself (R416). -/
def holdNeeded (t : TriggerCfg) : Nat := if t.type ≤ 2 then t.hold else 1

/-- One value of its source reaches a trigger (R416, R417). -/
def evalValue (i : Nat) (t : TriggerCfg) (at_ : Int) (w : Option (Word × Word)) (l : Lane) : Lane :=
  let x := triggerRun l i
  match w with
  | none => setTrigger i { x with holdCount := 0, firstTrue := none } l
  | some w =>
    let v : TrigVal := { at_ := at_, w0 := trigWord l t w, w1 := w.2 }
    if x.past.head?.any (fun o => decide (at_ ≤ o.at_)) then l
    else
      let past := remember t v x.past
      match condition t x.past v with
      | none => setTrigger i { x with past := past } l
      | some (true, _) =>
        if x.state = 2 then
          let first := x.firstTrue.getD v
          let n := x.holdCount + 1
          if holdNeeded t ≤ n then
            let after := if t.type = 4 then 2 else 3
            fire i t (placed l t x first v) none
              (setTrigger i { x with past := past, state := after, holdCount := 0, firstTrue := none } l)
          else setTrigger i { x with past := past, holdCount := n, firstTrue := some first } l
        else setTrigger i { x with past := past } l
      | some (false, back) =>
        let st := if x.state = 1 then 2 else if x.state = 3 && back then 2 else x.state
        setTrigger i { x with past := past, state := st, holdCount := 0, firstTrue := none, lastFalse := some v } l

/-- One enabled trigger meets what reached the recorder. -/
def evalTrigger (f : Feed) (l : Lane) (e : Nat × TriggerCfg) : Lane :=
  if !e.2.enable then l
  else
    match f with
    | .alarm id at_ => if e.2.type = 7 && e.2.object = id then fire e.1 e.2 at_ none l else l
    | _ =>
      match offered l e.2 f with
      | some (at_, w) => evalValue e.1 e.2 at_ w l
      | none => l

/-- The oldest value or event that has reached the recorder is evaluated by every enabled trigger, in number order
(R417). -/
def laneTriggerEvaluate (l : Lane) : Lane :=
  match l.swatch.trigFeed with
  | [] => l
  | f :: t =>
    if !dieRuns l then l
    else l.cfg.triggers.foldl (evalTrigger f) { l with swatch := { l.swatch with trigFeed := t } }

/-- A trigger pin has stood at a level for `held` µs (R416, type 6): the sense's level held long enough fires an armed
trigger at the capture time of the edge, and the opposite level re-enables it. -/
def lanePinEdge (pin : Nat) (level : Bool) (held : Nat) (l : Lane) : Lane :=
  let levels := if level then l.swatch.pinLevels ||| BitVec.ofNat 2 (2 ^ pin)
    else l.swatch.pinLevels &&& ~~~(BitVec.ofNat 2 (2 ^ pin))
  let l0 := { l with swatch := { l.swatch with pinLevels := levels } }
  if !dieRuns l then l0
  else
    let edgeAt : Int := ((l.time.time - tickInc l.time.y * usTc held) / 2 ^ 40 : Nat)
    l.cfg.triggers.foldl (fun acc e =>
      let t := e.2
      if t.enable && t.type == 6 && t.object == pin then
        let x := triggerRun acc e.1
        if level == t.falling then setTrigger e.1 { x with state := 2 } acc
        else if x.state = 2 && t.hold ≤ held then fire e.1 t edgeAt none (setTrigger e.1 { x with state := 3 } acc)
        else acc
      else acc) l0

/-! ### Rows (R414, R430, R433) -/

/-- Whether a profile forms rows: its ring or an open record takes them. -/
def formsRows (r : ProfileRun) : Bool := r.state == .armed || r.record.isSome

/-- Whether a profile collects inputs: also between the index write and its re-arm (R426). -/
def collects (r : ProfileRun) : Bool := formsRows r || r.state == .recording

/-- The sample number of an instant, within 16 fine-tag units (R414). -/
def sampleNumber (rate : Nat) (at_ : Int) : Option Nat :=
  let k := at_.toNat * rate / 2 ^ 24
  [k, k + 1].find? (fun n => decide ((rowInstant rate 1 n - at_).natAbs ≤ 16))

/-- The inputs that a feed brings a profile. -/
def inputsOf (c : ProfileCfg) (f : Feed) : List RowInput :=
  match f with
  | .raw s ch at_ x g =>
    if c.phasor then []
    else
      match sampleNumber c.rate at_ with
      | none => []
      | some k => c.channels.zipIdx.filterMap (fun (e, i) =>
          if e = (s, ch) then some { ch := i, at_ := at_, k := k, sample := x, w0 := 0, w1 := 0, grade := g.code : RowInput } else none)
  | .wale s at_ vs =>
    if !c.phasor then []
    else c.channels.zipIdx.filterMap (fun (e, i) =>
      if e.1 = s then
        (vs.find? (fun v => v.channel == e.2)).map (fun v =>
          { ch := i, at_ := at_, k := 0, sample := 0, w0 := v.w0, w1 := v.w1, grade := v.grade.code : RowInput })
      else none)
  | _ => []

/-- The samples of a channel for a row. -/
def rowSamples (c : ProfileCfg) (inputs : List RowInput) (n ch : Nat) : List RowInput :=
  inputs.filter (fun x => x.ch == ch && decide (n * c.avgN ≤ x.k) && decide (x.k < (n + 1) * c.avgN))

/-- The input of a channel with the latest tag at or before an instant. -/
def latestInput (inputs : List RowInput) (ch : Nat) (t : Int) : Option RowInput :=
  (inputs.filter (fun x => x.ch == ch && decide (x.at_ ≤ t))).foldl (fun best x =>
    match best with
    | none => some x
    | some b => if b.at_ < x.at_ then some x else some b) none

/-- Every channel has its value for the row (R414). -/
def rowComplete (c : ProfileCfg) (r : ProfileRun) : Bool :=
  let t := rowInstant c.rate c.avgN r.nextRow
  (List.range c.channels.length).all (fun i =>
    if c.phasor then (latestInput r.inputs i t).any (fun x => decide (t - x.at_ ≤ 16))
    else ((rowSamples c r.inputs r.nextRow i).map (·.k)).eraseDups.length == c.avgN)

/-- A channel that is MISSING (R433). -/
def missingWords (l : Lane) (c : ProfileCfg) (e : Nat × Nat) : List Word :=
  List.replicate (entryWords l c e) (if c.phasor && channelWord l e.1 e.2 then 0 else fpNan)

/-- One channel of a row (R414, R433): quality, words, full-rate inputs. -/
def rowChannel (l : Lane) (c : ProfileCfg) (inputs : List RowInput) (n : Nat) (e : (Nat × Nat) × Nat) :
    Nat × List Word × List SrcVal :=
  if c.phasor then
    let t := rowInstant c.rate c.avgN n
    match latestInput inputs e.2 t with
    | some x =>
      if x.grade = 2 then (0, missingWords l c e.1, [])
      else
        let q := if 16 < t - x.at_ then 3 else if x.grade = 1 then 2 else 1
        (q, if entryWords l c e.1 = 2 then [x.w0, x.w1] else [x.w0], [{ ch := e.2, at_ := x.at_, w0 := x.w0, w1 := x.w1 }])
    | none => (0, missingWords l c e.1, [])
  else
    let xs := (rowSamples c inputs n e.2).filter (fun x => x.grade != 2)
    let scale := sampleScale l e.1.1 e.1.2
    if xs.isEmpty then (0, missingWords l c e.1, [])
    else
      let sum : Int := (xs.map (·.sample)).sum
      let q := if xs.length < c.avgN then 3 else if xs.any (fun x => x.grade == 1) then 2 else 1
      (q, [fpOfRat (scale * sum / (xs.length : Nat))],
       xs.map (fun x => { ch := e.2, at_ := x.at_, w0 := fpOfRat (scale * x.sample), w1 := 0 : SrcVal }))

/-- The row `n` of a profile from its inputs. -/
def makeRow (l : Lane) (c : ProfileCfg) (inputs : List RowInput) (n : Nat) : Row :=
  let xs := c.channels.zipIdx.map (rowChannel l c inputs n)
  { n := n, quality := xs.map (·.1), words := xs.map (·.2.1), src := xs.flatMap (·.2.2)
    holdover := l.mode.mode == .holdover, unlocked := l.time.unlocked }

/-- Inputs that later rows may still need. -/
def pruneInputs (c : ProfileCfg) (inputs : List RowInput) (n : Nat) : List RowInput :=
  if c.phasor then
    let t := rowInstant c.rate c.avgN n
    inputs.filter (fun x => decide (t < x.at_) || (latestInput inputs x.ch t).any (fun y => decide (y.at_ ≤ x.at_)))
  else inputs.filter (fun x => decide ((n + 1) * c.avgN ≤ x.k))

/-- The mean of two rows of the previous rate (R430): of a word channel the first constituent's value; where one of
them is MISSING, PARTIAL with the other's value. -/
def meanChannel (isWord : Bool) (a b : Nat × List Word) : Nat × List Word :=
  if isWord then a
  else if a.1 = 0 then (if b.1 = 0 then a else (3, b.2))
  else if b.1 = 0 then (3, a.2)
  else
    (if a.1 = 3 || b.1 = 3 then 3 else max a.1 b.1, (a.2.zip b.2).map (fun (x, y) => fpMul (fpAdd x y) 0x3F000000))

def meanRows (words : List Bool) (a b : Row) : Row :=
  let xs := ((a.quality.zip a.words).zip (b.quality.zip b.words)).zipIdx.map (fun (p, i) => meanChannel (words.getD i false) p.1 p.2)
  { n := a.n, quality := xs.map (·.1), words := xs.map (·.2), src := a.src ++ b.src
    holdover := a.holdover || b.holdover, unlocked := a.unlocked || b.unlocked }

/-- A group of 2^s rows of the full rate as one row (R430). -/
def combineRows (words : List Bool) : Nat → List Row → Option Row
  | 0, rs => rs.head?
  | s + 1, rs =>
    match combineRows words s (rs.take (2 ^ s)), combineRows words s (rs.drop (2 ^ s)) with
    | some a, some b => some (meanRows words a b)
    | x, none => x
    | none, y => y

/-- The word channels of a profile. -/
def wordFlags (l : Lane) (c : ProfileCfg) : List Bool := c.channels.map (fun e => c.phasor && channelWord l e.1 e.2)

/-- A finished row goes to the open record, or to the ring. -/
def putRow (p : Nat) (c : ProfileCfg) (shift : Nat) (row : Row) (l : Lane) : Lane :=
  match (profileRun l p).record with
  | some id => endIfDone id (row.n + 2 ^ shift) (writeRecord id c shift row l)
  | none => if rowsDrop l then l else writeRing p c shift row l

/-- The next row of a profile is formed: it joins its group, and a complete group is written (R414, R430). -/
def formRow (p : Nat) (c : ProfileCfg) (l : Lane) : Lane :=
  let r := profileRun l p
  let row := makeRow l c r.inputs r.nextRow
  let g := if r.half.isEmpty then r.shift else r.groupShift
  let half := r.half ++ [row]
  let full := decide (2 ^ g ≤ half.length)
  let l1 := setProfile p { r with
    nextRow := r.nextRow + 1, inputs := pruneInputs c r.inputs r.nextRow
    half := if full then [] else half, groupShift := g } l
  if full then
    match combineRows (wordFlags l c) g half with
    | some x => putRow p c g x l1
    | none => l1
  else l1

/-- Rows are formed while they are complete: each takes at least one input. -/
def formRows (p : Nat) (c : ProfileCfg) : Nat → Lane → Lane
  | 0, l => l
  | k + 1, l =>
    let r := profileRun l p
    if formsRows r && rowComplete c r then formRows p c k (formRow p c l) else l

/-- One profile takes what reached the recorder. -/
def feedProfile (f : Feed) (l : Lane) (e : Nat × ProfileCfg) : Lane :=
  let r := profileRun l e.1
  let xs := (inputsOf e.2 f).filter (fun x => e.2.phasor || decide (r.nextRow * e.2.avgN ≤ x.k))
  if collects r && !xs.isEmpty then
    formRows e.1 e.2 (r.inputs.length + xs.length) (setProfile e.1 { r with inputs := r.inputs ++ xs } l)
  else l

/-- The oldest sample or value on its way to the rows arrives (R414). -/
def laneSampleArrival (l : Lane) : Lane :=
  match l.swatch.rowFeed with
  | [] => l
  | f :: t =>
    if !dieRuns l then l
    else l.cfg.profiles.foldl (feedProfile f) { l with swatch := { l.swatch with rowFeed := t } }

/-- row_wait_ms after its instant the next row of a profile is formed with what it has (R414). -/
def laneRowWait (p : Nat) (l : Lane) : Lane :=
  match profileCfg l p with
  | some c =>
    let r := profileRun l p
    if dieRuns l && formsRows r &&
        decide (rowInstant c.rate c.avgN r.nextRow + (usUnits (1000 * c.rowWaitMs) : Nat) ≤ (nowUnits l : Nat)) then
      formRows p c r.inputs.length (formRow p c l)
    else l
  | none => l

/-! ### Re-arming and row rates (R426, R427, R430, R431) -/

/-- A profile awaits its re-arm (R426): after a record, or WAITING. -/
def awaitsRearm (r : ProfileRun) : Bool := (r.state == .recording && r.record.isNone) || r.state == .waiting

/-- A profile re-arms (R426, R427): its ring is brought back to ring_segments and continues at the row after the
record's last; where the segments cannot be taken it is WAITING. -/
def laneRearm (p : Nat) (l : Lane) : Lane :=
  match profileCfg l p with
  | none => l
  | some c =>
    let r := profileRun l p
    if !dieRuns l || !awaitsRearm r then l
    else
      let l1 := emptyRing p l
      match takeRing p c (ringSegments l1 c - r.ring.length) l1 with
      | none => setProfile p { r with state := .waiting, inputs := [], half := [] } l
      | some l2 =>
        let fresh := r.state == .waiting
        let x := profileRun l2 p
        let l3 := setProfile p { x with
          state := .armed, held := []
          nextRow := if fresh then rowFrom c (nowUnits l : Nat) else x.nextRow } l2
        actHeld p r.held l3

/-- The current write rate of a profile (R430). -/
def currentRate (l : Lane) (e : Nat × ProfileCfg) : Nat := writeRate l e.2 / 2 ^ (profileRun l e.1).shift

/-- The profile that halves next: RECORDING or ARMED, below shift 8, with the highest current write rate. -/
def busiest (l : Lane) : Option Nat :=
  let ps := l.cfg.profiles.filter (fun e =>
    ((profileRun l e.1).state == .armed || (profileRun l e.1).state == .recording) && (profileRun l e.1).shift < 8)
  (ps.foldl (fun best e =>
    match best with
    | none => some (e.1, currentRate l e)
    | some b => if b.2 < currentRate l e then some (e.1, currentRate l e) else some b) (none : Option (Nat × Nat))).map (·.1)

/-- The fill of the write buffer, with the time since which it is below 128 KiB. -/
def setBuffer (level : Nat) (l : Lane) : Lane :=
  let low := if level < 128 * 1024 then some (l.swatch.lowSince.getD l.tc) else none
  { l with swatch := { l.swatch with buffer := min level (512 * 1024), lowSince := low } }

/-- Every 100 µs with the write buffer above 384 KiB one profile's row rate is halved (R430). -/
def laneHalving (level : Nat) (l : Lane) : Lane :=
  let l1 := setBuffer level l
  if !dieRuns l || level ≤ 384 * 1024 || l.swatch.halvedAt.any (fun t => decide (l.tc < t + usTc 100)) then l1
  else
    let l2 := { l1 with swatch := { l1.swatch with halvedAt := some l.tc } }
    match busiest l2 with
    | some p => let r := profileRun l2 p; setProfile p { r with shift := r.shift + 1 } l2
    | none => l2

/-- After 100 ms below 128 KiB each halved profile lowers its shift by one (R431). -/
def laneRateRestore (level : Nat) (l : Lane) : Lane :=
  let l1 := setBuffer level l
  match l1.swatch.lowSince with
  | some t =>
    if dieRuns l && t + msTc 100 ≤ l.tc then
      { l1 with swatch := { l1.swatch with
          lowSince := some l.tc
          profiles := l1.swatch.profiles.map (fun e => (e.1, { e.2 with shift := e.2.shift - 1 })) } }
    else l1
  | none => l1

/-! ### The pool as BAR2 shows it (R432, R433, R641) -/

/-- A row's bytes (R433). -/
def rowImage (rowBytes : Nat) (r : Row) : Bytes :=
  fit rowBytes (le 16 (r.quality.zipIdx.map (fun (q, i) => q * 4 ^ i)).sum ++ r.words.flatten.flatMap (fun w => le 4 w.toNat))

/-- The 64-byte header of a segment (R432). -/
def segHeader (x : Segment) : Bytes :=
  let first := (x.rows.head?.map (·.n)).getD 0
  le 4 x.recordId ++ le 2 x.ordinal ++ le 2 (x.next.getD 0xFFFF) ++ le 16 (fullOf (rowInstant x.rate x.avgN first)) ++
    le 4 x.rows.length ++ le 4 x.startRow ++ le 4 x.rate ++ le 1 x.avgN ++ le 1 x.shift ++ le 2 x.rowBytes ++
    le 1 x.channelCount ++ le 1 (b2n (x.recordId != 0 && x.ordinal == 0) + 2 * b2n x.last + 4 * b2n x.trigRow.isSome) ++
    zeros 2 ++ le 4 (x.trigRow.getD 0xFFFFFFFF) ++ zeros 16

/-- The bytes that a segment holds so far. -/
def segImage (x : Segment) : Bytes := segHeader x ++ x.rows.flatMap (rowImage x.rowBytes)

end Sys2Proof.Machine
end

