-- ==== Sys2Proof/Machine/Variants.lean ====
section
/-!
DEFINITION. Topology variants of a partition (R336 to R340): VARIANT_STAGE and VARIANT_SELECT.
-/
namespace Sys2Proof.Machine

/-- The variant that a request names. -/
def varId (r : Request) : Nat := field (body r) 1 1

/-- Checks 1 and 2 of a variant image (R336): its header, its ranges, its reserved fields. -/
def variantHeader (v : Bytes) (total : Nat) : Option LoadFail :=
  (firstFail 1 [(field v 0 4 == 0x54524156, 0xFF, 0), (field v 4 2 == 1, 0xFF, 4), (field v 6 2 == 128, 0xFF, 6),
    (field v 8 4 == total && v.length == total && inRange 192 6291840 total, 0xFF, 8), (isZero v 44 4, 0xFF, 44),
    (isZero v 112 16, 0xFF, 112)]).orElse fun _ =>
  firstFail 2 [(1 ≤ field v 12 4, 0xFF, 12), (field v 20 1 ≤ 15, 0xFF, 20), (inRange 1 64 (varTiles v), 0xFF, 21),
    (inRange 1 1536 (varLines v), 0xFF, 22), (inRange 1 8192 (field v 24 4), 0xFF, 24),
    (inRange 1 65536 (field v 28 4), 0xFF, 28), (field v 32 4 == 128, 0xFF, 32),
    (field v 36 4 == 128 + 64 * (varTiles v * varLines v) && field v 36 4 + 8 ≤ total, 0xFF, 36),
    (field v 40 2 ≤ 4095, 0xFF, 40), (field v 42 2 ≤ 4095, 0xFF, 42),
    (((slice v 48 32).zip (slice v 80 32)).all (fun (m, x) => x &&& ~~~m == 0), 0xFF, 80)]

/-- The checks of a delivered variant, with the statuses of checks 1 to 3 of R306 (R338). -/
def variantFail (l : Lane) (v : Bytes) (total : Nat) : Option LoadFail :=
  (variantHeader v total).orElse fun _ =>
  match signatureStatus l v (field v 36 4) true with
  | .ok => none
  | st => some ⟨st, 3, 0xFF, field v 36 4⟩

/-- A chunk of a variant (R337, R338). -/
def variantChunkCheck (l : Lane) (r : Request) : Status :=
  let b := body r
  let p := partOf l (flowId r)
  let have_ := p.varChunk.bind (fun x => if x.1 = varId r then some x.2 else none)
  need (varId r ≤ 15 && isZero b 2 2 && inRange 192 6291840 (chunkTotal b) && inRange 1 65500 (chunkLen b) &&
    chunkFits have_ (chunkTotal b) (chunkOffset b) (chunkLen b)) .badParam <|
  need (!resident p (varId r)) .noResource .ok

/-- The last chunk verifies the variant and stores it under its id (R338). -/
def variantChunkStart (r : Request) (l : Lane) : Lane :=
  let b := body r
  let n := flowId r
  let p := partOf l n
  let have_ := p.varChunk.bind (fun x => if x.1 = varId r then some x.2 else none)
  let d := chunkData have_ (chunkOffset b) (b.drop 16)
  if d.length = chunkTotal b then
    match variantFail l d (chunkTotal b) with
    | some f => postReply r f.status false (failResult f) (setPart n { p with varChunk := none } l)
    | none => postReply r .ok false [] (setPart n { p with varChunk := none, variants := tput p.variants (varId r) d } l)
  else postReply r .ok false [] (setPart n { p with varChunk := some (varId r, chunkTotal b, d) } l)

def laneVariantChunk (r : Request) (l : Lane) : Lane := serveHeld 0x0504 (some 0) variantChunkCheck variantChunkStart r l

/-- A slot's lines are a constant region of every tile (R338). -/
def slotRegions (pat : Pattern) (tiles first lines : Nat) : Bool :=
  (List.range tiles).all (fun t =>
    (regionsOf pat.image).any (fun r => r.kind == 5 && r.tile == t && r.first == first && r.lines == lines))

/-- A stored variant matches the active pattern (R338). -/
def variantMatches (p : Part) (v : Bytes) : Bool :=
  match p.rect, activeBank p with
  | some rect, some pat =>
    field v 12 4 == patId pat && field v 16 4 == patVersion pat && varTiles v == rectTiles rect &&
      slotRegions pat (varTiles v) (varSlotLine v 0) (varLines v) &&
      slotRegions pat (varTiles v) (varSlotLine v 1) (varLines v)
  | _, _ => false

/-- P holds a line of every tile, where a plane is bound and the copy is not already there (R339). -/
def portionFits (l : Lane) (n : Nat) (p : Part) (v : Bytes) : Bool :=
  match activeBank p, planeOf l n with
  | some pat, some (_, c) => decide (64 * varTiles v ≤ portionMax pat l.health.throttled c.rate)
  | _, _ => true

def variantStageCheck (l : Lane) (r : Request) : Status :=
  let b := body r
  let n := flowId r
  let p := partOf l n
  need (varId r ≤ 15 && isZero b 2 14) .badParam <|
  match tget p.variants (varId r) with
  | none => .noResource
  | some v =>
    need (variantMatches p v) .badParam <|
    need (resident p (varId r) || portionFits l n p v) .limitExceeded .ok

/-- STAGE: a resident variant completes at dispatch; with no plane bound the whole copy is written; otherwise it goes
in portions (R338, R339). -/
def variantStageStart (r : Request) (l : Lane) : Lane :=
  let n := flowId r
  let p := partOf l n
  let v := varId r
  if resident p v then postReply r .ok false [] l
  else
    match planeOf l n, p.rect, tget p.variants v with
    | none, some rect, some img =>
      let slot := inactiveSlot p
      postReply r .ok false [] (writeSlot rect img slot 0 (varLines img) (setPart n (setSlot slot (some v) (openSlot slot p)) l))
    | _, _, _ => setPart n { p with change := some (r, .stage v 0) } l

def laneVariantStage (r : Request) (l : Lane) : Lane := serveHeld 0x0504 (some 1) variantStageCheck variantStageStart r l

/-- DELETE: NO_RESOURCE for a variant that is resident or not stored (R338). -/
def variantDeleteCheck (l : Lane) (r : Request) : Status :=
  let p := partOf l (flowId r)
  need (varId r ≤ 15 && isZero (body r) 2 14) .badParam <|
  need ((tget p.variants (varId r)).isSome && !resident p (varId r)) .noResource .ok

def variantDeleteApply (r : Request) (l : Lane) : Lane × Bytes :=
  let p := partOf l (flowId r)
  (setPart (flowId r) { p with variants := tdel p.variants (varId r) } l, [])

def laneVariantDelete (r : Request) (l : Lane) : Lane := serve 0x0504 (some 2) variantDeleteCheck variantDeleteApply r l

/-- The variant that VARIANT_SELECT names; none for the built-in contents. -/
def selectedVariant (r : Request) : Option Nat := if field (body r) 0 1 = 0xFF then none else some (field (body r) 0 1)

/-- R340: the variant, or slot A's built-in contents, must be resident. -/
def variantSelectCheck (l : Lane) (r : Request) : Status :=
  let b := body r
  let p := partOf l (flowId r)
  need ((field b 0 1 ≤ 15 || field b 0 1 == 0xFF) && field b 1 1 ≤ 1 && isZero b 2 2) .badParam <|
  need ((selectedVariant r).elim p.builtIn (resident p)) .noResource .ok

def variantSelectStart (r : Request) (l : Lane) : Lane :=
  let b := body r
  let p := partOf l (flowId r)
  setPart (flowId r) { p with change := some (r, .select (selectedVariant r) (field b 1 1 == 1) (field b 4 8)) } l

def laneVariantSelect (r : Request) (l : Lane) : Lane := serveHeld 0x0505 none variantSelectCheck variantSelectStart r l

end Sys2Proof.Machine
end

