-- ==== Sys2Proof/Machine/Restart.lean ====
section
/-!
DEFINITION. Leaving service, resets, and what each step of START does to the lane (R591 to R596, R604, R611, R687).
-/
namespace Sys2Proof.Machine

/-! ### Leaving service (R593) -/

/-- Every request admitted and not dispatched completes with CANCELLED (R76, R593). -/
def cancelUndispatched (l : Lane) : Lane :=
  (l.needle.entries.filter (fun e => e.phase == .delayed || e.phase == .queued)).foldl
    (fun acc e => refuse e.req .cancelled acc) l

/-- The replies of ring `n` that its completion ring has room for are written (R170). -/
def drainReplies (n : Nat) : List QItem → Lane → Lane
  | [], l => l
  | i :: t, l =>
    match i.payload with
    | .reply slot p => if cqFull (tgetD l.host.rings n .reset) then l else drainReplies n t (completeRing n slot p l)
    | _ => drainReplies n t l

/-- Before entry to SALVAGE or DORMANT the reply queues 52 to 55 reach the completion rings as far as they have room
(R170). -/
def drainAllReplies (l : Lane) : Lane :=
  [0, 1, 2, 3].foldl (fun acc n => drainReplies n (queueOf acc (52 + n)).items acc) l

/-- A queue emptied at once; no counter counts what is emptied (R170). -/
def emptied (q : Queue) : Queue :=
  { q with items := [], read := 0, discarded := false, partialLen := 0, dropping := false, waiting := [], paused := none
           highSeen := false }

def emptyQueues (l : Lane) : Lane := { l with queues := l.queues.map (fun e => (e.1, emptied e.2)) }

/-- What entry to DORMANT, SALVAGE or a reset does first, in the order of R593: leases released with the departure
notice (R540, R542), undispatched requests cancelled, queues emptied, privilege dropped. -/
def leave (reason : Nat) (intoRest : Bool) (l : Lane) : Lane :=
  let l1 := cancelUndispatched (if takesPart l then leaveService reason l else l)
  let l2 := emptyQueues (if intoRest then drainAllReplies l1 else l1)
  { l2 with keys := { l2.keys with privilege := false } }

/-! ### Reset -/

/-- START as it begins. -/
def startBegin (now : Nat) : StartSt :=
  { beganAt := now, step := 0, stepAt := now, testsPassed := false, failed := false, defaulted := false }

/-- Mode, start and update state after a reset; the arming of the VIN warning is the supply's (R617). -/
def modeAfterReset (m : Mode) (c : StartCause) (l : Lane) : ModeSt :=
  { mode := m, cause := c, wakePort := 0xFF, wakeFilter := 0xFF, active := .recovery, start := startBegin l.tc
    startMs := 0, staged := none, build := none, window := none, cleanRounds := 0, serviceAt := l.tc
    lastingSinceStart := 0, supply := { l.mode.supply with warnAt := none, heldAt := none }, rtcWakeAt := none
    rstnLow := l.mode.rstnLow, configGen := 0, configFormat := 0, hubPresent := true, hubSeenAt := l.tc
    hubLostAt := l.tc }

/-- Selvedge after a reset: slots empty until the key records are read, ZEROISED without a wrap key (R569, R587). -/
def keysAfterReset (l : Lane) : KeysSt :=
  { KeysSt.reset with
    zeroised := l.vault.wrap.isNone, keyEpoch := l.vault.epoch, inputs := l.keys.inputs, lastTest := l.tc }

/-- A peer without its window and its replies, which nothing keeps across a reset (R100, R603). -/
def peerAfterReset (p : Peer) : Peer := { p with highest := 0, seen := [], replies := [] }

/-- Host registers at the start of START (R650); the SYS registers that the host has written stay. -/
def hostAfterReset (h : HostSt) : HostSt :=
  { HostSt.reset with
    sysWin := h.sysWin, sysWinBase := h.sysWinBase, sysWinStream := h.sysWinStream, sysScratch := h.sysScratch }

/-- A reset of the lane (R593, R687): flash, OTP, the keep-alive domain, the pins that the board drives and the
free-running count stay; everything else stands at its reset value, and the mode is `m`. -/
def freshLane (m : Mode) (c : StartCause) (l : Lane) : Lane :=
  { l with
    mode := modeAfterReset m c l
    cfg := .dflt
    keys := keysAfterReset l
    peers := l.peers.map (fun e => (e.1, peerAfterReset e.2))
    needle := .reset, host := hostAfterReset l.host, health := .reset, publish := .reset
    time := .start (rtcTime l)
    ply := { PlySt.reset with
      laneLease := { Lease.reset with epoch := l.flashEpochs.1 }
      deviceLease := { Lease.reset with epoch := l.flashEpochs.2 } }
    ports := { eth := [], serial := [] }, queues := [], queueSizes := [], streams := .reset, pe := .reset
    skein := .reset, array := .reset, mesh := []
    swatch := { SwatchSt.reset with pinLevels := l.swatch.pinLevels } }

/-- A reset into START after the work of R593 (R591): RELEASE and the departure notice carry reason 2 (R542). -/
def resetToStart (c : StartCause) (l : Lane) : Lane := freshLane .start c (leave 2 false l)

/-- A restart into SALVAGE (R591, R619): the recovery image runs, and START has applied no store. -/
def resetToSalvage (c : StartCause) (l : Lane) : Lane := freshLane .salvage c (leave 2 false l)

/-- Entry to SALVAGE without a reset (R591, R593, R602): the recovery image runs on the control cores; the blocks that
do not run in SALVAGE stop where they are. -/
def enterSalvage (l : Lane) : Lane :=
  if l.mode.mode == .dormant || l.mode.mode == .salvage then l
  else
    let l1 := leave 3 true l
    setMode .salvage { l1 with mode := { l1.mode with active := .recovery, build := none, window := none } }

/-- A lasting fault of a critical resource (R602). -/
def criticalFault (l : Lane) : Lane := enterSalvage l

/-- A DORMANT lane wakes (R599). -/
def wake (c : StartCause) (l : Lane) : Lane :=
  if l.mode.mode == .dormant && l.powered && l.dieOk && !l.mode.rstnLow then freshLane .start c l else l

/-! ### Boot selection (R604) -/

/-- What the boot ROM does with one slot: boots it, and the state it writes; or does not, and the state it writes. -/
def bootSlot (s : BootSlot) (ok : Bool) : Bool × BootState :=
  match s.state with
  | .valid => if ok then (true, .valid) else (false, .failed)
  | .trial => if ok then (true, .testing) else (false, .failed)
  | .testing => (false, .failed)
  | x => (false, x)

def slotIn (b : BootFlash) (isB : Bool) : BootSlot := if isB then b.slotB else b.slotA
def setSlotIn (isB : Bool) (s : BootSlot) (b : BootFlash) : BootFlash :=
  if isB then { b with slotB := s } else { b with slotA := s }

/-- A start of one slot, with the state written to its header. -/
def trySlot (isB ok : Bool) (b : BootFlash) : Bool × BootFlash :=
  let s := slotIn b isB
  let r := bootSlot s ok
  (r.1, setSlotIn isB { s with state := r.2 } b)

/-- The boot ROM's choice (R604): the selected slot, else the other one, else the recovery image. A slot booted is
selected. Three consecutive start failures of a VALID slot start the recovery image. `okA` and `okB`: the image
verifies. -/
def bootSelect (okA okB : Bool) (b : BootFlash) : ActiveSlot × BootFlash :=
  let sel := b.selectedB
  let ok := fun (isB : Bool) => if isB then okB else okA
  let named := fun (isB : Bool) => if isB then ActiveSlot.b else ActiveSlot.a
  if (slotIn b sel).state = .valid && 3 ≤ b.failures then (.recovery, b)
  else
    let b0 := { b with fellBack := b.fellBack || (slotIn b sel).state = .testing }
    let r := trySlot sel (ok sel) b0
    if r.1 then (named sel, r.2)
    else
      let q := trySlot (!sel) (ok (!sel)) r.2
      if q.1 then (named (!sel), { q.2 with selectedB := !sel, failures := 0 }) else (.recovery, q.2)

/-! ### The config store (R611, R612) -/

/-- The header of the active image; the recovery image has none. -/
def activeHeader (l : Lane) : BootSlot :=
  match l.mode.active with
  | .a => l.boot.slotA
  | .b => l.boot.slotB
  | .recovery => .empty

/-- The configuration that an image of a config format reads in a copy: its own record, or the one kept in the
previous format (R611, R612). -/
def copyReads (fmt : Nat) (c : StoreCopy) : Option (Nat × Nat × RunConfig) :=
  if !c.valid then none
  else if c.format ≤ fmt then some (c.gen, c.format, c.content)
  else
    match c.prev with
    | some (f, x) => if f ≤ fmt then some (c.gen, f, x) else none
    | none => none

/-- The copy that START applies: the valid one with the higher generation (R611). -/
def storeInForce (fmt : Nat) (s : ConfigStore) : Option (Nat × Nat × RunConfig) :=
  match s.copy0.bind (copyReads fmt), s.copy1.bind (copyReads fmt) with
  | some a, some b => if a.1 < b.1 then some b else some a
  | some a, none => some a
  | none, x => x

/-! ### Applying the configuration (R687) -/

/-- The context of a stored stream as just after STREAM_ADD; a PMU stream with cfg_source 1 applies its stored
configuration at once, and a SUSPENDED context stays SUSPENDED. -/
def storedRun (l : Lane) (id : Nat) (c : StreamCfg) : StreamRun :=
  let fresh : StreamRun := .new (if isPmu c then .pendingCfg else .active) (confRevOf c) l.tc
  let own := match c.part with
    | .pmu p => if p.cfgSource = 1 then tget l.cfg.hostCfg id else none
    | _ => none
  let s := match own with
    | some d => { applyCfg d fresh with state := .active, resume := .active }
    | none => fresh
  if l.cfg.suspended.contains id then { s with resume := s.state, state := .suspended } else s

def applyStreams (l : Lane) : Lane :=
  { l with streams := { StreamsSt.reset with run := l.cfg.streams.map (fun e => (e.1, storedRun l e.1 e.2)) } }

/-- The enabled channels of the phasor estimation chain start afresh. -/
def applyPe (l : Lane) : Lane :=
  { l with pe := { PeSt.reset with
    channels := (l.cfg.pe.filter (fun e => e.2.enable)).map (fun e => (e.1, peStart e.2.bankSlot)) } }

/-- One stored partition: a library image is loaded with its stored parameter block; for a host-loaded one the active
bank stays empty, and its block waits for the image. -/
def applyPart (n : Nat) (c : PartCfg) (l : Lane) : Lane :=
  match c.library with
  | some id =>
    let pat := { patternOf (libraryImage id c.rect.2.2.1 c.rect.2.2.2) (some id) with params := c.params }
    let p := { Part.empty with
      rect := some c.rect, bank0 := some pat, builtIn := true
      selector := if id = 1 then selectorWord 0 0 1 else 0, auto := { AutoSelect.reset with hold := c.hold } }
    writeRegions c.rect pat (fun _ _ => true) (setPart n p l)
  | none => setPart n { Part.empty with rect := some c.rect, awaits := some (c.hash, c.params) } l

def applyParts (l : Lane) : Lane := l.cfg.parts.foldl (fun acc e => applyPart e.1 e.2 acc) l

/-- Poll tables: every enabled station starts at RESETTING. -/
def applyPoll (l : Lane) : Lane :=
  l.cfg.poll.foldl (fun acc e => setStation (e.1 / 64) (e.1 % 64) (.new e.2.enable) acc) l

/-- The Swatch index from the journal and the mirror, every entry with DATA_LOST and no segment; sizes from the store;
profiles stored as armed wait for SERVICE (R46, R407, R446). -/
def applySwatch (l : Lane) : Lane :=
  let lost := fun (r : Record) => { r with segments := [], opened := false, flags := setFlag 10 true r.flags }
  let fromJournal := ((l.journal.map (·.swatch)).getD []).foldl (fun t e => tput t e.1 (lost e.2)) []
  let all := l.boot.swatchMirror.foldl (fun t e => tput t e.1 (lost e.2)) fromJournal
  let s : SwatchSt :=
    { SwatchSt.reset with
      triggers := l.cfg.triggers.map (fun e => (e.1, { TriggerRun.zero with state := triggerStart l e.2 }))
      profiles := l.cfg.profiles.map (fun e => (e.1, .zero))
      nextId := 1, poolMib := l.cfg.swatchMib, segShift := l.cfg.segShift
      rearm := (l.cfg.profiles.filter (fun e => e.2.armed)).map (·.1), pinLevels := l.swatch.pinLevels }
  withRecords all { l with swatch := s }

/-- The outage report as bytes 0 to 31 (R618). -/
def reportBytes (r : OutageReport) : Bytes :=
  le 16 r.warnTime ++ le 2 r.vinMinMv ++ le 1 r.mode ++ le 1 r.plyState ++ le 4 r.laneEpoch ++ le 1 r.slot ++
    le 1 r.flags ++ le 2 r.records ++ le 4 r.configGen

/-- The outage report is read back and written to the fault log (R618, R630); the journal region is erased again for
the next warning. -/
def readJournal (l : Lane) : Lane :=
  match l.journal with
  | none => l
  | some j =>
    logFaultAt (j.report.returnTime.getD (nowFull l)) .event .outage 0 0 none (reportBytes j.report)
      { l with journal := none }

/-- The stored tamper enables replace those in force; a source that reads tamper is enabled once it reads normal
(R687). -/
def applyTamper (l : Lane) : Lane :=
  let reads : BitVec 6 := l.keys.inputs.setWidth 6
  { l with
    keys := { l.keys with deferred := l.cfg.tamperEnable &&& reads }
    vault := { l.vault with kaEnable := l.cfg.tamperEnable &&& ~~~reads } }

/-- Step 6 of START: the store is applied, or the defaults with alarm 363 to come, and the Swatch index is restored
(R594, R611, R687). -/
def applyStore (l : Lane) : Lane :=
  let s := storeInForce (activeHeader l).configFormat l.store
  let c := (s.map (·.2.2)).getD .dflt
  let l1 := { l with
    cfg := c
    mode := { l.mode with
      configGen := (s.map (·.1)).getD 0, configFormat := (s.map (·.2.1)).getD (activeHeader l).configFormat
      start := { l.mode.start with defaulted := s.isNone } }
    queueSizes := c.queues.map (fun e => (e.1, (e.2.ring, e.2.spill)))
    health := { l.health with gauges := c.gauges.map (fun e => (e.1, .cleared l.tc)) }
    skein := { SkeinSt.reset with planes := c.planes.map (fun e => (e.1, .new)) }
    publish := { l.publish with sessions := c.sessions.map (fun e => (e.1, .opened (!e.2.tcp))) } }
  readJournal (applySwatch (applyTamper (applyPoll (applyParts (applyPe (applyStreams (refreshUtc false l1)))))))

/-! ### Key records (R569) -/

/-- The slots that the flash records restore under the wrap key, but for those whose tag fails. -/
def restoredSlots (v : KeyStore) (bad : List Nat) : Table KeySlot :=
  (v.flash.filter (fun e => v.wrap == some e.2.wrapId && !bad.contains e.1)).map (fun e => (e.1, e.2.slot))

/-- Selvedge decrypts the key records; each whose tag fails leaves its slot EMPTY and writes a fault-log entry. -/
def readKeyRecords (bad : List Nat) (l : Lane) : Lane :=
  let failing := (l.vault.flash.filter (fun e => l.vault.wrap == some e.2.wrapId && bad.contains e.1)).map (·.1)
  let l1 := { l with keys := { l.keys with slots := restoredSlots l.vault bad } }
  failing.foldl (fun acc n => logFault .event .flash 0 n none [] acc) l1

end Sys2Proof.Machine
end

