-- ==== Sys2Proof/Machine/State.lean ====
section
/-!
DEFINITION. The state of the package: two lanes, the package's own supply latch, and the queue of commands that wait.
-/
namespace Sys2Proof.Machine

/-- The reasons a step can stop with a fault. The spec gives every command of the table an effect (what goes wrong in the
hardware is a status code, a fault-log record, an alarm or a mode, all of which are state), so there is none. Nothing raises
it: safe. -/
inductive Fault
deriving DecidableEq, Repr

/-- The reasons a command can be refused. -/
inductive Refusal where
  /-- Raised by an arm of `exec` whose command has no meaning yet; no arm raises it now. Safe: nothing follows from it. -/
  | notModelled (mnemonic : String)
deriving DecidableEq, Repr

/-- Everything the package holds (chapter 01), and the model's queue of waiting commands. -/
structure State where
  laneA : Lane
  laneB : Lane
  /-- the supervisor has switched the regulators of both lanes off after 10 µs above 19 V (R658) -/
  overvoltage : Bool
  /-- the commands that wait, first in, first out -/
  pending : List Instr
deriving DecidableEq, Repr

/-- The boot flash of a lane as the model takes it before its first start: slot A holds a confirmed image, slot B none (R604
gives the states and no contents; log 26). -/
def bootAtReset : BootFlash :=
  { slotA := { BootSlot.empty with state := .valid, version := 1, length := 1, configFormat := 1, arithGen := 1 }
    slotB := .empty, selectedB := false, failures := 0, confirmS := 0, hostConfirm := false, fellBack := false
    swatchMirror := [] }

/-- A lane that has never run: its flash, OTP and keep-alive domain as log 26 says, all else as a reset will set it. -/
def laneBefore (i : LaneId) : Lane :=
  { id := i, tc := 0, fresh := 0, powered := false, dieOk := true, spi := false
    mode := {
      mode := .start, cause := .vin, wakePort := 0xFF, wakeFilter := 0xFF, active := .recovery, start := startBegin 0
      startMs := 0, staged := none, build := none, window := none, cleanRounds := 0, serviceAt := 0
      lastingSinceStart := 0, supply := { armed := false, warnAt := none, heldAt := none }, rtcWakeAt := none
      rstnLow := false, configGen := 0, configFormat := 0, hubPresent := true, hubSeenAt := 0, hubLostAt := 0 }
    boot := bootAtReset, cfg := .dflt, store := { copy0 := none, copy1 := none }, journal := none, rtc := none
    flashEpochs := (0, 0), keys := .reset, vault := .factory, peers := [], mgmtPort := 11, mgmtUdp := 47848
    needle := .reset, host := .reset, health := .reset, publish := .reset, time := .start 0, ply := .reset
    ports := { eth := [], serial := [] }, queues := [], queueSizes := [], streams := .reset, pe := .reset, skein := .reset
    array := .reset, mesh := [], swatch := .reset, out := [] }

/-- A lane as the supervisor releases it from reset once VIN has stayed above 4.5 V for 1 ms, with start cause 0
(R599, R660). -/
def laneAtReset (i : LaneId) : Lane := freshLane .start .vin { laneBefore i with powered := true }

/-- The package right after reset: both lanes at the beginning of START (R591, R660), nothing waiting. -/
def State.reset : State :=
  { laneA := laneAtReset .a, laneB := laneAtReset .b, overvoltage := false, pending := [] }

/-- One lane of the package. -/
def State.lane (s : State) : LaneId → Lane
  | .a => s.laneA
  | .b => s.laneB

/-- The package with one lane replaced. -/
def State.setLane (s : State) (i : LaneId) (l : Lane) : State :=
  match i with
  | .a => { s with laneA := l }
  | .b => { s with laneB := l }

end Sys2Proof.Machine
end

