-- ==== Sys2Proof/Machine/Run.lean ====
section
/-!
DEFINITION. A command on the package: its lane's time base counts on to the command, and the command acts (log 3).
-/
namespace Sys2Proof.Machine

/-- A command of one lane: the tc cycles since that lane's previous command pass, then its effect. The other lane stays as it
is. -/
def runLane (e : Stamp) (f : Lane → Lane) (s : State) : Host.Outcome State Fault Refusal :=
  .next (s.setLane e.lane (f (advance e.ticks (s.lane e.lane))))

/-- A command of the package: in each lane the tc cycles pass, then its effect. -/
def runBoth (e : PackageStamp) (f : Lane → Lane) (s : State) : Host.Outcome State Fault Refusal :=
  .next { s with laneA := f (advance e.ticksA s.laneA), laneB := f (advance e.ticksB s.laneB) }

end Sys2Proof.Machine
end

