-- ==== Sys2Proof/Machine/ExecArray.lean ====
section
/-!
DEFINITION. The commands of the Stitch Array (chapters 07 and 08) on the package.
-/
namespace Sys2Proof.Machine

/-- CAST_ON (R279). -/
def execCastOn (e : Stamp) (part : Fin 4) (s : State) : Host.Outcome State Fault Refusal :=
  runLane e (laneCastOn part) s

/-- BUNDLE_ISSUE (R248). -/
def execBundleIssue (e : Stamp) (part : Fin 4) (err : RowError) (s : State) : Host.Outcome State Fault Refusal :=
  runLane e (laneBundleIssue part err) s

/-- ARRAY_RESULT_WRITE (R252). -/
def execArrayResultWrite (e : Stamp) (part : Fin 4) (s : State) : Host.Outcome State Fault Refusal :=
  runLane e (laneResultWrite part) s

/-- STORE_MEMORY_WRITE (R261). -/
def execStoreMemoryWrite (e : Stamp) (part : Fin 4) (s : State) : Host.Outcome State Fault Refusal :=
  runLane e (laneStoreWrite part) s

/-- NETWORK_LATCH_ARRIVAL (R263). -/
def execNetworkLatchArrival (e : Stamp) (part : Fin 4) (s : State) : Host.Outcome State Fault Refusal :=
  runLane e (laneLatchArrival part) s

/-- BIND_OFF (R280). -/
def execBindOff (e : Stamp) (part : Fin 4) (bad : Option Nat) (err : Option (Nat × Nat)) (s : State) : Host.Outcome State Fault Refusal :=
  runLane e (laneBindOff part bad err) s

/-- ROUND_BOUNDARY_APPLY (R310). -/
def execRoundBoundaryApply (e : Stamp) (part : Fin 4) (s : State) : Host.Outcome State Fault Refusal :=
  runLane e (laneBoundaryApply part) s

/-- ROUND_RETRY (R320). -/
def execRoundRetry (e : Stamp) (part : Fin 4) (failing : Option Nat) (s : State) : Host.Outcome State Fault Refusal :=
  runLane e (laneRoundRetry part failing) s

/-- TILE_REPAIR (R287). -/
def execTileRepair (e : Stamp) (lost : List Nat) (s : State) : Host.Outcome State Fault Refusal :=
  runLane e (laneTileRepair lost) s

/-- SPARE_SELF_TEST_FAILURE (R288). -/
def execSpareSelfTestFailure (e : Stamp) (row : Fin 8) (s : State) : Host.Outcome State Fault Refusal :=
  runLane e (laneSpareFailure row) s

/-- THROTTLE_ENTRY (R289). -/
def execThrottleEntry (e : Stamp) (s : State) : Host.Outcome State Fault Refusal := runLane e laneThrottleEntry s

/-- THROTTLE_EXIT (R289). -/
def execThrottleExit (e : Stamp) (s : State) : Host.Outcome State Fault Refusal := runLane e laneThrottleExit s

/-- ARRAY_QUERY (R291). -/
def execArrayQuery (e : Stamp) (r : Request) (s : State) : Host.Outcome State Fault Refusal :=
  runLane e (laneArrayQuery r) s

end Sys2Proof.Machine
end

