-- ==== Sys2Proof/Machine/Modes.lean ====
section
/-!
DEFINITION. Mode commands, START, resets and wakes (chapter 18), and tamper by mode (R587, R588).
-/
namespace Sys2Proof.Machine

/-! ### MODE_SET and LANE_RESET (R591, R592, R619) -/

def modeAsked (r : Request) : Nat := field (body r) 0 1
def rtcWakeS (r : Request) : Nat := field (body r) 4 4

/-- The lane holds its lane lease, or its package holds the device lease through it (R592). -/
def holdsAnyLease (l : Lane) : Bool := l.ply.laneLease.held || (l.cfg.pair.isSome && l.ply.deviceLease.held)

/-- The transitions that MODE_SET may request (R591, R592); any other change fails with WRONG_MODE. -/
def modeTransition (l : Lane) (target : Mode) : Status :=
  match l.mode.mode, target with
  | .service, .drill => if holdsAnyLease l then .noResource else .ok
  | .drill, .service => .ok
  | .service, .dormant => .ok
  | .holdover, .dormant => .ok
  | .salvage, .start => .ok
  | .start, .salvage => .ok
  | .service, .salvage => .ok
  | .holdover, .salvage => .ok
  | .drill, .salvage => .ok
  | _, _ => .wrongMode

def modeSetCheck (l : Lane) (r : Request) : Status :=
  need (isZero (body r) 1 3) .badParam <|
  match Mode.ofCode (modeAsked r) with
  | none => .badParam
  | some m => modeTransition l m

/-- The end of DRILL (R591): SERVICE, or HOLDOVER when no reference is qualified. -/
def leaveDrill (l : Lane) : Lane :=
  setMode (if l.time.ptp.qualified || l.time.pps.qualified || l.time.irig.qualified then .service else .holdover) l

/-- Entry to DORMANT (R593, R600), with the RTC wake when rtc_wake_s is not 0. -/
def enterDormant (wakeS : Nat) (l : Lane) : Lane :=
  let l1 := leave 3 true l
  let l2 := setMode .dormant l1
  { l2 with mode := { l2.mode with rtcWakeAt := if wakeS = 0 then none else some (l.tc + secTc wakeS) } }

/-- The change of mode that a checked MODE_SET makes. -/
def changeMode (m : Mode) (wakeS : Nat) (l : Lane) : Lane :=
  match m with
  | .drill => setMode .drill l
  | .service => leaveDrill l
  | .dormant => enterDormant wakeS l
  | .salvage => enterSalvage l
  | .start => resetToStart .salvageExit l
  | .holdover => l

/-- MODE_SET: the reply goes out at the commit point, and what R593 says of the entry follows. -/
def modeSetStart (r : Request) (l : Lane) : Lane :=
  let l1 := postReply r .ok false [] l
  match Mode.ofCode (modeAsked r) with
  | some m => changeMode m (rtcWakeS r) l1
  | none => l1

def laneModeSet (r : Request) (l : Lane) : Lane := serveHeld 0x0101 none modeSetCheck modeSetStart r l

def laneResetCheck (_ : Lane) (r : Request) : Status := need (isZero (body r) 1 3) .badParam .ok

/-- The start of `laneResetRestart`. -/
def resetRestartStart (q : Request) (s : Lane) : Lane :=
  resetToStart .laneReset (postReply q .ok false [] s)

/-- LANE_RESET op 0: the reply, then the reset with cause 6 (R619). -/
def laneResetRestart (r : Request) (l : Lane) : Lane :=
  serveHeld 0x0102 (some 0) laneResetCheck resetRestartStart r l

/-- The start of `laneResetSalvage`. -/
def resetSalvageStart (q : Request) (s : Lane) : Lane :=
  resetToSalvage .laneReset (postReply q .ok false [] s)

/-- LANE_RESET op 1: the reply, then the restart into SALVAGE (R619). -/
def laneResetSalvage (r : Request) (l : Lane) : Lane :=
  serveHeld 0x0102 (some 1) laneResetCheck resetSalvageStart r l

/-! ### The config store commands (R611 to R614) -/

/-- The partition as the store names it (R687). -/
def partConfig (p : Part) : Option PartCfg :=
  p.rect.map (fun rect =>
    let pat := activeBank p
    { rect := rect, library := pat.bind (·.library), patternId := (pat.map patId).getD 0
      version := (pat.map patVersion).getD 0
      hash := (pat.map (·.hash)).getD ((p.awaits.map (·.1)).getD [])
      params := (pat.map (·.params)).getD ((p.awaits.map (·.2)).getD [])
      selector := p.selector, hold := p.auto.hold })

/-- LEARNED contexts that are not yet adopted are not stored (R687). -/
def isLearned (l : Lane) (id : Nat) : Bool := ((tget l.streams.run id).map (·.state)) == some .learned

/-- The running configuration (R687). -/
def runningConfig (l : Lane) : RunConfig :=
  { l.cfg with
    streams := l.cfg.streams.filter (fun e => !isLearned l e.1)
    auth := l.cfg.auth.filter (fun e => !isLearned l e.1)
    suspended := (l.streams.run.filter (fun e => e.2.state == .suspended)).map (·.1)
    parts := l.array.parts.filterMap (fun e => (partConfig e.2).map (fun c => (e.1, c))) }

/-- Whether copy 1 is the older copy: an empty or invalid copy is older than any other (R611). -/
def olderIsSecond (s : ConfigStore) : Bool :=
  match s.copy0, s.copy1 with
  | none, _ => false
  | some _, none => true
  | some a, some b => !b.valid || (a.valid && b.gen < a.gen)

def writeOlder (c : StoreCopy) (s : ConfigStore) : ConfigStore :=
  if olderIsSecond s then { s with copy1 := some c } else { s with copy0 := some c }

/-- The slot that is not active; on the recovery image, the one that is not selected. -/
def inactiveIsB (l : Lane) : Bool :=
  match l.mode.active with
  | .a => true
  | .b => false
  | .recovery => !l.boot.selectedB

/-- The second record of a commit during a trial: in the previous image's format, when that is older (R612). -/
def prevRecord (l : Lane) (c : RunConfig) : Option (Nat × RunConfig) :=
  let prev := slotIn l.boot (inactiveIsB l)
  if (activeHeader l).state = .testing && prev.configFormat < (activeHeader l).configFormat then some (prev.configFormat, c)
  else none

/-- Writes a configuration over the older copy with config_gen + 1 (R611). -/
def writeStore (c : RunConfig) (l : Lane) : Lane :=
  let gen := bump l.mode.configGen
  let fmt := (activeHeader l).configFormat
  { l with
    store := writeOlder { gen := gen, format := fmt, valid := true, content := c, prev := prevRecord l c } l.store
    mode := { l.mode with configGen := gen, configFormat := fmt } }

/-- The checks of `laneConfigCommit`. -/
def configCommitCheck (_ : Lane) (_ : Request) : Status :=
  .ok

/-- The effect and result of `laneConfigCommit`. -/
def configCommitApply (_ : Request) (s : Lane) : Lane × Bytes :=
  (writeStore (runningConfig s) s, le 4 (bump s.mode.configGen))

/-- CONFIG_COMMIT (R611). -/
def laneConfigCommit (r : Request) (l : Lane) : Lane :=
  serve 0x0103 none configCommitCheck configCommitApply r l

/-- The bytes of the copy in force; none without one (R613). -/
def configBytes (l : Lane) : Bytes :=
  match storeInForce (activeHeader l).configFormat l.store with
  | some (g, f, c) => Config.configImage g f c
  | none => []

def configReadCheck (_ : Lane) (r : Request) : Status := need (inRange 1 65504 (field (body r) 4 4)) .badParam .ok

/-- The effect and result of `laneConfigRead`. -/
def configReadApply (q : Request) (s : Lane) : Lane × Bytes :=
  let d := configBytes s
  (s, le 4 s.mode.configGen ++ le 2 s.mode.configFormat ++ zeros 2 ++ le 4 d.length ++ zeros 4 ++
    slice d (field (body q) 0 4) (field (body q) 4 4))

/-- CONFIG_READ (R613). -/
def laneConfigRead (r : Request) (l : Lane) : Lane :=
  serve 0x0104 none configReadCheck configReadApply r l

/-- POOL_SPLIT_SET (R614): a whole number of segments, at most 4,096; the wale pool holds the histories. -/
def poolSplitCheck (l : Lane) (r : Request) : Status :=
  let mib := field (body r) 0 4
  let sh := field (body r) 4 1
  need (mib ≤ 8192 && inRange 16 26 sh && isZero (body r) 5 3 && mib * 2 ^ 20 % 2 ^ sh == 0 &&
    mib * 2 ^ 20 / 2 ^ sh ≤ 4096) .badParam <|
  need (poolFits mib (histories l.cfg.streams) (peAreas l)) .limitExceeded .ok

/-- The split is written to the store at the commit point; it takes effect at the next START (R46, R614). -/
def poolSplitApply (r : Request) (l : Lane) : Lane × Bytes :=
  let split := fun (c : RunConfig) => { c with swatchMib := field (body r) 0 4, segShift := field (body r) 4 1 }
  let inForce := ((storeInForce (activeHeader l).configFormat l.store).map (·.2.2)).getD .dflt
  (writeStore (split inForce) { l with cfg := split l.cfg }, [])

def lanePoolSplit (r : Request) (l : Lane) : Lane := serve 0x0105 none poolSplitCheck poolSplitApply r l

/-! ### SYS_INFO (R620) -/

/-- Whole seconds left in the confirm window; 0 when none. -/
def confirmLeft (l : Lane) : Nat :=
  match l.mode.window with
  | some t => (t - l.tc) / secTc 1
  | none => 0

def sysInfo (l : Lane) : Bytes :=
  le 1 l.id.code ++ le 1 l.mode.mode.code ++ le 1 l.mode.cause.code ++ [Config.siliconStep l.id] ++
    le 1 l.mode.active.code ++ le 1 l.boot.slotA.state.code ++ le 1 l.boot.slotB.state.code ++ le 1 l.boot.failures ++
    le 4 (firmware l) ++ le 4 (confirmLeft l) ++ le 4 l.mode.cleanRounds ++ le 4 l.mode.configGen ++
    le 2 l.mode.configFormat ++ le 1 l.mode.wakePort ++ le 1 l.mode.wakeFilter ++ le 4 l.mode.startMs ++
    fit 32 (activeHeader l).hash

/-- The checks of `laneSysInfo`. -/
def sysInfoCheck (_ : Lane) (q : Request) : Status :=
  need (isZero (body q) 0 4) .badParam .ok

/-- The effect and result of `laneSysInfo`. -/
def sysInfoApply (_ : Request) (s : Lane) : Lane × Bytes :=
  (s, sysInfo s)

def laneSysInfo (r : Request) (l : Lane) : Lane :=
  serve 0x0100 none sysInfoCheck sysInfoApply r l

/-! ### START (R594 to R596, R604) -/

/-- A start step completes. -/
def stepDone (l : Lane) : Lane :=
  { l with mode := { l.mode with start := { l.mode.start with step := l.mode.start.step + 1, stepAt := l.tc } } }

/-- Step 2: the boot ROM's choice; without a bootable slot the recovery image starts in SALVAGE (R604). -/
def startBoot (o : StartOutcome) (l : Lane) : Lane :=
  let c := bootSelect o.imageA o.imageB l.boot
  let l1 := { l with boot := c.2, mode := { l.mode with active := c.1 } }
  if c.1 = .recovery then enterSalvage l1 else stepDone l1

/-- Step 3: DRAM training, retried once; a lasting failure is critical (R602, R621). -/
def startDram (o : StartOutcome) (l : Lane) : Lane :=
  if o.dram then stepDone l
  else if o.dramRetry then stepDone (transientFault .dram 0 l)
  else criticalFault (lastingFault .dram 0 l)

/-- A lane whose keep-alive domain has lost its supply finds source 9 and continues as for a tamper in START (R588,
R661). -/
def supplyTamper (l : Lane) : Lane :=
  if l.vault.supplyLost then
    let l1 := logFault .event .tamper 0 0x200 none [] (zeroiseState 0x200 (nowFull l) l)
    { l1 with vault := { l1.vault with supplyLost := false, alarmDue := true } }
  else l

/-- Step 5: Selvedge's start tests, retried once (R571), and the key records (R569). Tile SRAM is 0 since the reset
(R251). -/
def startKeys (o : StartOutcome) (l : Lane) : Lane :=
  let l1 := readKeyRecords o.badRecords (supplyTamper { l with keys := { l.keys with lastTest := l.tc } })
  let ok := o.tests || o.testsRetry
  let l2 := { l1 with mode := { l1.mode with start := { l1.mode.start with testsPassed := ok } } }
  if o.tests then stepDone l2
  else if ok then stepDone (transientFault .keyEngine 0 l2)
  else
    let l3 := lastingFault .keyEngine 0 { l2 with keys := { l2.keys with engineFault := true } }
    stepDone { l3 with health := { l3.health with unhealthy := l3.health.unhealthy ++ [5] } }

/-- Step 8 ends when the time is set, or start_wait_ms after the links are up (R462, R596). -/
def timeStepDone (l : Lane) : Bool :=
  l.time.startSet.isSome || decide (l.mode.start.stepAt + msTc l.cfg.timeRef.startWaitMs ≤ l.tc)

/-- start_wait_ms passes in step 8 with no measurement: START goes on with RTC time (R462). -/
def laneStartTimeWait (l : Lane) : Lane :=
  if l.mode.mode == .start && dieRuns l && l.mode.start.step == 7 && l.time.startSet.isNone && timeStepDone l then stepDone l
  else l

/-- START completes its next step (R594). -/
def laneStartStep (o : StartOutcome) (l : Lane) : Lane :=
  if l.mode.mode != .start || !dieRuns l then l
  else
    match l.mode.start.step with
    | 0 => setCause causeStarted (stepDone l)
    | 1 => startBoot o l
    | 2 => startDram o l
    | 3 => stepDone l
    | 4 => startKeys o l
    | 5 => stepDone (applyStore l)
    | 6 => stepDone (plySend 0xFF (.hello (helloBody l)) l)
    | 7 => if timeStepDone l then stepDone l else l
    | _ => l

/-- The member in contact that holds a lease, from which a lane that enters SERVICE pulls (R560): the holder of its
package's lane lease, or the holder device's agent. -/
def pullSource (l : Lane) : Option Nat :=
  match l.ply.laneLease.holder with
  | some h =>
    if h != memberId l && inContact l h then some h
    else (partnerMembers l).find? (fun m => inContact l m && decide (3 ≤ ((tget l.ply.contacts m).map (·.state)).getD 0))
  | none => (partnerMembers l).find? (fun m => inContact l m && decide (3 ≤ ((tget l.ply.contacts m).map (·.state)).getD 0))

/-- PULLING, and the first item asked for, when another member in contact holds a lease (R560). -/
def beginPull (l : Lane) : Lane :=
  match pullSource l with
  | some h => requestItem h 1 (setReason 1 true l)
  | none => l

/-- The RUNNING planes open their first course at or after the entry to SERVICE (R688). -/
def startPlanes (l : Lane) : Lane :=
  l.cfg.planes.foldl (fun acc e =>
    if e.2.running then
      let k := firstCourseFrom e.2 (nowUnits acc)
      setPlane e.1 { planeRun acc e.1 with courses := [], nextOpen := k, oldest := k } acc
    else acc) l

/-- Configuration procedures of PENDING_CFG streams begin (R128, R688). -/
def startStreams (l : Lane) : Lane :=
  (l.streams.run.filter (fun e => e.2.state == .pendingCfg)).foldl (fun acc e => startProcedure e.1 acc) l

/-- Profiles stored as armed re-arm (R446). -/
def rearmStored (l : Lane) : Lane :=
  let l1 := { l with swatch := { l.swatch with rearm := [] } }
  l.swatch.rearm.foldl (fun acc p =>
    match profileCfg acc p with
    | some c => armProfile p c acc
    | none => acc) l1

/-- Radios begin with their scripts; `first` and `retry` tell whether the compares of a script match (R507, R528). -/
def startRadios (ok0 retry0 ok1 retry1 : Bool) (l : Lane) : Lane :=
  l.cfg.mesh.foldl (fun acc e =>
    if e.1 = 0 then meshInit 0 ok0 retry0 (meshBegin 0 acc) else meshInit 1 ok1 retry1 (meshBegin 1 acc)) l

/-- The alarms whose conditions hold as SERVICE begins (R382, R483, R571, R587, R604, R611, R617). -/
def startAlarms (l : Lane) : Lane :=
  let ports := (List.range 12).foldl
    (fun acc n => if (ethCfg acc n).mode != 0 && !linkUp acc n then raiseCond (304 + n) acc else acc) l
  let l1 := condAlarm 365 (!ports.mode.supply.armed) (condAlarm 355 ports.keys.engineFault (condAlarm 353 ports.keys.zeroised ports))
  let l2 := if l1.boot.fellBack then raiseEvent 362 { l1 with boot := { l1.boot with fellBack := false } } else l1
  let l3 := if l2.mode.start.defaulted then raiseEvent 363 l2 else l2
  if l3.vault.alarmDue then raiseEvent 352 { l3 with vault := { l3.vault with alarmDue := false } } else l3

/-- The boot record and the mode fields as SERVICE begins (R604, R607). -/
def startRecords (l : Lane) : Lane :=
  let testing : Bool := (activeHeader l).state = .testing
  { l with
    boot := { l.boot with failures := if l.mode.start.failed then l.boot.failures else 0 }
    mode := { l.mode with
      startMs := (l.tc - l.mode.start.beganAt) / msTc 1, serviceAt := l.tc, cleanRounds := 0
      window := if testing then some (l.tc + secTc l.boot.confirmS) else none }
    publish := { l.publish with active := [] }
    ply := { l.ply with
      laneLease := { l.ply.laneLease with serviceSince := some l.tc }
      deviceLease := { l.ply.deviceLease with serviceSince := some l.tc } } }

/-- Every step has completed: the lane enters SERVICE (R594, R688), and passes to HOLDOVER at once when no reference
has set its time (R462). -/
def laneStartComplete (ok0 retry0 ok1 retry1 : Bool) (l : Lane) : Lane :=
  if l.mode.mode != .start || !dieRuns l || l.mode.start.step < 8 then l
  else
    let l1 := beginPull (setMode .service (startRecords l))
    let l2 := startAlarms (startRadios ok0 retry0 ok1 retry1 (rearmStored (startStreams (startPlanes l1))))
    if l2.time.startSet.isNone then enterHoldover l2 else l2

/-- A START that has not reached SERVICE within 10 s counts as a start failure; the third in a row of a VALID slot
starts the recovery image in SALVAGE (R604). -/
def laneStartTimeout (l : Lane) : Lane :=
  if l.mode.mode != .start || !dieRuns l || l.mode.start.failed || decide (l.tc < l.mode.start.beganAt + secTc 10) then l
  else
    let l1 := { l with
      boot := { l.boot with failures := min 255 (l.boot.failures + 1) }
      mode := { l.mode with start := { l.mode.start with failed := true } } }
    if (activeHeader l1).state = .valid && 3 ≤ l1.boot.failures then enterSalvage l1 else l1

/-! ### Resets and wakes (R599 to R601) -/

/-- A control core's watchdog expires (R601): RELEASE first, then the reset with cause 7. -/
def laneWatchdog (l : Lane) : Lane := if dieRuns l then resetToStart .watchdog l else l

/-- `LA_RSTN` changes level after the old level has lasted `held` µs (R601, R672): low for 10 µs or longer resets the
lane, which stays in reset until the pin rises; START begins then. -/
def laneRstn (low : Bool) (held : Nat) (l : Lane) : Lane :=
  if !l.powered || !l.dieOk then l
  else if low then
    if held < 10 then l
    else
      let l1 := resetToStart .rstn l
      { l1 with mode := { l1.mode with rstnLow := true } }
  else if l.mode.rstnLow then
    { l with mode := { l.mode with rstnLow := false, start := startBegin l.tc } }
  else l

/-- `LA_WAKE` has been high for `held` µs (R599, R672): 1 ms or longer wakes a DORMANT lane. -/
def laneWakePin (held : Nat) (l : Lane) : Lane := if 1000 ≤ held then wake .wakePin l else l

/-- A frame on wake port E4 or E5 of a DORMANT lane that the magic packet or a filter matches wakes it (R494, R599). -/
def laneWakeFrame (n : Nat) (f : EthFrame) (l : Lane) : Lane :=
  if l.mode.mode != .dormant || !(n == 4 || n == 5) || (ethCfg l n).mode == 0 || (frameError l n f).isSome then l
  else
    match wakeFilterOf l n f.bytes with
    | none => l
    | some k =>
      let l1 := wake .wakeFrame l
      if l1.mode.mode == .dormant then l1
      else { l1 with mode := { l1.mode with wakePort := n, wakeFilter := k } }

/-- The RTC wakes the lane rtc_wake_s after the commit point (R600). -/
def laneRtcWake (l : Lane) : Lane :=
  match l.mode.rtcWakeAt with
  | some t => if t ≤ l.tc then wake .rtc l else l
  | none => l

/-! ### Tamper (R587, R588) -/

/-- The keep-alive logic zeroises without running cores: the wrap key is cleared, the record latched with RTC time, and
alarm 352 is due in SERVICE (R588). -/
def zeroiseAsleep (sources : BitVec 10) (l : Lane) : Lane :=
  let l1 := zeroiseState sources (rtcTime l / 2 ^ 32 % 2 ^ 80) l
  { l1 with vault := { l1.vault with alarmDue := true } }

/-- A tamper in START: START goes on with Selvedge ZEROISED, and alarm 352 is raised in SERVICE. -/
def zeroiseInStart (sources : BitVec 10) (l : Lane) : Lane :=
  let l1 := logFault .event .tamper 0 sources.toNat none [] (zeroiseState sources (nowFull l) l)
  { l1 with vault := { l1.vault with alarmDue := true } }

/-- Sources read tamper (R585, R587, R588): those enabled, and watched in the mode, zeroise the lane. -/
def laneTamper (sources : BitVec 10) (l : Lane) : Lane :=
  let l1 := { l with keys := { l.keys with inputs := l.keys.inputs ||| sources } }
  let acts := sources &&& enabledSources l
  if !l.dieOk then l1
  else if !l.powered then
    if acts &&& dormantSources = 0 then l1 else zeroiseAsleep (acts &&& dormantSources) l1
  else if l.mode.mode == .dormant then
    if acts &&& dormantSources = 0 then l1 else wake .tamper (zeroiseAsleep (acts &&& dormantSources) l1)
  else if acts = 0 then l1
  else if l.mode.mode == .start then zeroiseInStart acts l1
  else zeroise acts l1

/-- A source reads normal again: a stored enable deferred at START takes effect (R687). -/
def laneTamperNormal (source : Nat) (l : Lane) : Lane :=
  let m : BitVec 10 := BitVec.ofNat 10 (2 ^ source)
  let d := l.keys.deferred &&& m.setWidth 6
  { l with
    keys := { l.keys with inputs := l.keys.inputs &&& ~~~m, deferred := l.keys.deferred &&& ~~~d }
    vault := { l.vault with kaEnable := l.vault.kaEnable ||| d } }

end Sys2Proof.Machine
end

