-- ==== Sys2Proof/Machine/Health.lean ====
section
/-!
DEFINITION. Gauges, the fault log, drills and the retry rule (chapter 19).
-/
namespace Sys2Proof.Machine

/-! ### Gauges (R627 to R629) -/

/-- The parameters of GAUGE_SET. -/
def gaugeAsked (b : Bytes) : GaugeCfg :=
  { source := field b 0 1, log := field b 1 1 == 1, object := field b 2 2, base := signed 32 (field b 4 4)
    width := field b 8 4, intervalUs := field b 12 4 }

/-- The objects of a source (R626). -/
def gaugeObjectOk (source object : Nat) : Bool :=
  if source = 1 || source = 2 || source = 3 then object ≤ 3
  else if source = 4 then object ≤ 63
  else if source = 5 then object ≤ 57
  else object == 0

def gaugeSetCheck (_ : Lane) (r : Request) : Status :=
  let b := body r
  let c := gaugeAsked b
  need (c.source ≤ 8 && field b 1 1 ≤ 1 && gaugeObjectOk c.source c.object &&
    (if c.log then decide (0 < c.base) && inRange 1 32 c.width else inRange 1 (2 ^ 26) c.width) &&
    inRange 10 1000000 c.intervalUs) .badParam .ok

/-- The whole set applies and the gauge is cleared (R627). -/
def gaugeSetApply (r : Request) (l : Lane) : Lane × Bytes :=
  let n := flowId r
  ({ l with
     cfg := { l.cfg with gauges := tput l.cfg.gauges n (gaugeAsked (body r)) }
     health := { l.health with gauges := tput l.health.gauges n (.cleared l.tc) } }, [])

def laneGaugeSet (r : Request) (l : Lane) : Lane := serve 0x0E00 none gaugeSetCheck gaugeSetApply r l

/-- A gauge as GAUGE_SNAPSHOT copies it, 160 bytes (R629). -/
def gaugeBytes (l : Lane) (n : Nat) : Bytes :=
  let c := tgetD l.cfg.gauges n .dflt
  let g := gaugeVal l n
  le 1 c.source ++ le 1 (b2n c.log) ++ le 2 c.object ++ le 4 (unsigned 32 g.min) ++ le 4 (unsigned 32 g.max) ++
    le 4 g.count ++ le 8 (unsigned 64 g.sum) ++ le 8 ((l.tc - g.clearedAt) * 4) ++ fit 128 (g.bins.flatMap (le 4))

/-- A gauge reset by a snapshot with clear set (R629). -/
def clearGauge (n : Nat) (l : Lane) : Lane :=
  { l with health := { l.health with gauges := tput l.health.gauges n { GaugeVal.cleared l.tc with
      lastSample := (gaugeVal l n).lastSample } } }

/-- The checks of `laneGaugeSnapshot`. -/
def gaugeSnapshotCheck (_ : Lane) (q : Request) : Status :=
  need (field (body q) 0 1 ≤ 1 && isZero (body q) 1 3) .badParam .ok

/-- The effect and result of `laneGaugeSnapshot`. -/
def gaugeSnapshotApply (q : Request) (s : Lane) : Lane × Bytes :=
  (if field (body q) 0 1 = 1 then clearGauge (flowId q) s else s, gaugeBytes s (flowId q))

def laneGaugeSnapshot (r : Request) (l : Lane) : Lane :=
  serve 0x0E01 none gaugeSnapshotCheck gaugeSnapshotApply r l

/-- A sample of one gauge alone. -/
def sampleGauge (n : Nat) (c : GaugeCfg) (v : Int) (l : Lane) : Lane :=
  { l with health := { l.health with gauges := tput l.health.gauges n (gaugeAdd c l.tc v (gaugeVal l n)) } }

/-- Every interval_us a gauge of source 5, 7 or 8 takes a sample (R626): the depth of its queue, the DRAM bandwidth over
the interval, or the junction temperature, whose reading the command gives. -/
def laneIntervalSample (n : Nat) (reading : Int) (l : Lane) : Lane :=
  match tget l.cfg.gauges n with
  | none => l
  | some c =>
    if !serving l || decide (l.tc < (gaugeVal l n).lastSample + usTc c.intervalUs) then l
    else if c.source = 5 then sampleGauge n c (queueHeld (queueOf l c.object) : Nat) l
    else if c.source = 7 then sampleGauge n c reading l
    else if c.source = 8 then sampleGauge n c reading (setJunction reading l)
    else l

/-! ### The fault log (R630, R631) -/

/-- A record in the layout of R630. -/
def faultBytes (x : FaultRecord) : Bytes :=
  le 4 x.seq ++ le 2 x.status ++ le 1 x.cls.code ++ le 1 x.resource.code ++ le 16 x.time ++ le 4 x.object ++
    le 2 (x.alarm.getD 0xFFFF) ++ zeros 2 ++ fit 32 x.detail

/-- The oldest sequence number held; the next one while the log is empty. -/
def oldestSeq (l : Lane) : Nat := ((l.health.log.head?).map (·.seq)).getD l.health.nextSeq

def faultReadCheck (_ : Lane) (r : Request) : Status :=
  let b := body r
  need (inRange 1 1024 (field b 4 2) && field b 6 1 < 32 && isZero b 7 1) .badParam .ok

/-- FAULT_LOG_READ (R631): the selected classes in ascending seq from from_seq. -/
def faultRead (r : Request) (l : Lane) : Bytes :=
  let b := body r
  let from_ := field b 0 4
  let sel := (l.health.log.filter (fun x => decide (from_ ≤ x.seq) && bit (field b 6 1) x.cls.code)).take (field b 4 2)
  le 2 sel.length ++ le 1 (b2n (from_ < oldestSeq l)) ++ zeros 1 ++ le 4 (oldestSeq l) ++ le 4 l.health.nextSeq ++
    zeros 4 ++ sel.flatMap faultBytes

/-- The effect and result of `laneFaultLogRead`. -/
def faultLogReadApply (q : Request) (s : Lane) : Lane × Bytes :=
  (s, faultRead q s)

def laneFaultLogRead (r : Request) (l : Lane) : Lane :=
  serve 0x0E02 none faultReadCheck faultLogReadApply r l

/-! ### DRILL (R632 to R634) -/

def drillCheck (l : Lane) (r : Request) : Status :=
  let b := body r
  need (l.mode.mode == .drill) .wrongMode <|
  need (inRange 1 0x1F (field b 0 1) && inRange 1 4 (field b 1 1) && field b 2 1 ≤ 1 && 1 ≤ field b 3 1 &&
    field b 4 4 < 2 ^ 22) .badParam .ok

/-- DRILL_RUN begins (R632): its commit point is the write of its verdict (R634). -/
def drillStart (r : Request) (l : Lane) : Lane :=
  let b := body r
  { l with health := { l.health with drill := some {
      req := r, tests := field b 0 1, scenario := field b 1 1, exitOnDone := bit (field b 2 1) 0, repeats := field b 3 1
      portMask := BitVec.ofNat 32 (field b 4 4) } } }

def laneDrillRun (r : Request) (l : Lane) : Lane := serveHeld 0x0E03 none drillCheck drillStart r l

/-- The 32-byte result of a drill (R634): the tests asked for are passed or failed. -/
def drillResult (d : DrillRun) (v : DrillVerdict) : Bytes :=
  let passed := d.tests &&& v.passed
  le 1 passed ++ le 1 (d.tests - passed) ++ zeros 2 ++ le 8 v.firstBad ++ le 8 v.expected ++ le 8 v.actual ++ zeros 4

/-- The status of a drill: FAULT_LASTING for a failing test, but CONTRACT_VIOLATION where R321's holds (R634). -/
def drillStatus (d : DrillRun) (v : DrillVerdict) : Status :=
  if d.tests &&& v.passed = d.tests then .ok else if v.violation then .contractViolation else .faultLasting

/-- The drill completes (R634): the verdict is written, the alarm raised, the reply posted, and with exit_on_done the
lane leaves DRILL. -/
def laneDrillVerdict (v : DrillVerdict) (l : Lane) : Lane :=
  match l.health.drill with
  | none => l
  | some d =>
    if l.mode.mode != .drill || !dieRuns l then l
    else
      let res := drillResult d v
      let st := drillStatus d v
      let l1 := raiseEvent (if st = .ok then 370 else 371) { l with health := { l.health with drill := none, lastDrill := res } }
      let l2 := postReply d.req st false res l1
      if d.exitOnDone then leaveDrill l2 else l2

/-! ### HEALTH_QUERY (R635) -/

/-- Counts by resource code 1 to 12. -/
def countBytes (t : Table Nat) : Bytes := (List.range 12).flatMap (fun i => le 4 (tgetD t (i + 1) 0))

def healthResult (l : Lane) : Bytes :=
  healthBytes l ++ countBytes l.health.transient ++ countBytes l.health.lasting ++ le 4 l.health.dramRetired ++
    fit 32 l.health.lastDrill ++ zeros 4

/-- The checks of `laneHealthQuery`. -/
def healthQueryCheck (_ : Lane) (q : Request) : Status :=
  need (isZero (body q) 0 4) .badParam .ok

/-- The effect and result of `laneHealthQuery`. -/
def healthQueryApply (_ : Request) (s : Lane) : Lane × Bytes :=
  (s, healthResult s)

def laneHealthQuery (r : Request) (l : Lane) : Lane :=
  serve 0x0E04 none healthQueryCheck healthQueryApply r l

/-! ### The retry rule (R621, R622) -/

/-- The resource of a site and its object in the log. -/
def siteResource : ErrorSite → Resource × Nat
  | .sram a => (.sram, a)
  | .dram p _ => (.dram, p)
  | .flash a => (.flash, a)
  | .core n => (.none, n)

/-- Requests in service whose work a successful repeat covered carry TRANSIENT_SEEN (R62, R621). -/
def markTransient (covered : List (Nat × Word)) (l : Lane) : Lane :=
  { l with needle := { l.needle with entries := l.needle.entries.map (fun e =>
      if (e.phase == .inService || e.phase == .committed) && covered.contains (e.req.src, e.req.tag) then
        { e with transientSeen := true } else e) } }

/-- An item of a spill region is discarded whole; a head item that the consumer has begun ends (R164). -/
def dropSpillItem (n i : Nat) (l : Lane) : Lane :=
  let q := queueOf l n
  if i < q.items.length then
    unblock n (setQueue n { q with
      items := q.items.eraseIdx i, droppedError := bump q.droppedError
      discarded := q.discarded || (i == 0 && q.read != 0), read := if i = 0 then 0 else q.read } l)
  else l

/-- A segment of the Swatch pool is dropped: its rows are gone (R622). -/
def dropSegment (s : Nat) (l : Lane) : Lane :=
  match segOf l s with
  | some x => setSeg s { x with rows := [] } l
  | none => l

/-- Records of a stream's wale are dropped (R622). -/
def dropWale (stream first count : Nat) (l : Lane) : Lane :=
  { l with skein := { l.skein with wales := tmod l.skein.wales stream (fun w =>
      { w with records := w.records.take first ++ w.records.drop (first + count) }) } }

/-- What a retired page takes with it (R622). -/
def dropPage (w : DramPage) (l : Lane) : Lane :=
  match w with
  | .spill q i => dropSpillItem q i l
  | .swatch s => dropSegment s l
  | .wale id first count => dropWale id first count l
  | .firmware | .patterns => l

/-- The reason codes of unhealthiness by SRAM and by DRAM. -/
def sramUnhealthy : Nat := 1
def dramUnhealthy : Nat := 2

/-- A page is retired from its region; a 65th makes the lane unhealthy (R622). -/
def retirePage (w : DramPage) (l : Lane) : Lane :=
  let l1 := dropPage w { l with health := { l.health with dramRetired := l.health.dramRetired + 1 } }
  let l2 := if l1.health.dramRetired = 65 then declareUnhealthy dramUnhealthy l1 else l1
  if w = .firmware then criticalFault l2 else l2

/-- The lasting action of a site (R602, R622). -/
def lastingAction (s : ErrorSite) (l : Lane) : Lane :=
  match s with
  | .sram _ => declareUnhealthy sramUnhealthy l
  | .dram _ w => retirePage w l
  | .flash _ => criticalFault l
  | .core _ => criticalFault l

/-- A detected error's step has been repeated once (R621): transient when the repeat succeeds, else lasting with the
action of its resource (R622). -/
def laneErrorRetry (s : ErrorSite) (repeatOk : Bool) (covered : List (Nat × Word)) (l : Lane) : Lane :=
  if !dieRuns l then l
  else
    let r := siteResource s
    if repeatOk then markTransient covered (transientFault r.1 r.2 l)
    else lastingAction s (lastingFault r.1 r.2 l)

/-- What the scrubber finds (R624, R625): a correction is written back and counted, and is no error; an uncorrectable
location is handled as if a user had read it. -/
def laneScrub (s : ErrorSite) (corrected repeatOk : Bool) (l : Lane) : Lane :=
  if !dieRuns l then l
  else if corrected then
    match s with
    | .sram _ => { l with health := { l.health with sramCorrected := l.health.sramCorrected + 1 } }
    | .dram .. => { l with health := { l.health with dramCorrected := l.health.dramCorrected + 1 } }
    | _ => l
  else
    match s with
    | .sram _ => laneErrorRetry s repeatOk [] l
    | .dram .. => laneErrorRetry s repeatOk [] l
    | _ => l

end Sys2Proof.Machine
end

