-- ==== Sys2Proof/Machine/ExecHealth.lean ====
section
/-!
DEFINITION. The commands of health and Gauges (chapter 19) on the package.
-/
namespace Sys2Proof.Machine

/-- GAUGE_SET (R627). -/
def execGaugeSet (e : Stamp) (r : Request) (s : State) : Host.Outcome State Fault Refusal :=
  runLane e (laneGaugeSet r) s

/-- GAUGE_SNAPSHOT (R629). -/
def execGaugeSnapshot (e : Stamp) (r : Request) (s : State) : Host.Outcome State Fault Refusal :=
  runLane e (laneGaugeSnapshot r) s

/-- FAULT_LOG_READ (R631). -/
def execFaultLogRead (e : Stamp) (r : Request) (s : State) : Host.Outcome State Fault Refusal :=
  runLane e (laneFaultLogRead r) s

/-- DRILL_RUN (R632). -/
def execDrillRun (e : Stamp) (r : Request) (s : State) : Host.Outcome State Fault Refusal :=
  runLane e (laneDrillRun r) s

/-- DRILL_VERDICT (R634). -/
def execDrillVerdict (e : Stamp) (v : DrillVerdict) (s : State) : Host.Outcome State Fault Refusal :=
  runLane e (laneDrillVerdict v) s

/-- HEALTH_QUERY (R635). -/
def execHealthQuery (e : Stamp) (r : Request) (s : State) : Host.Outcome State Fault Refusal :=
  runLane e (laneHealthQuery r) s

/-- GAUGE_INTERVAL_SAMPLE (R626). -/
def execGaugeIntervalSample (e : Stamp) (gauge : Fin 64) (reading : Int) (s : State) : Host.Outcome State Fault Refusal :=
  runLane e (laneIntervalSample gauge reading) s

/-- ERROR_RETRY (R621). -/
def execErrorRetry (e : Stamp) (site : ErrorSite) (repeatOk : Bool) (covered : List (Nat × Word)) (s : State) : Host.Outcome State Fault Refusal :=
  runLane e (laneErrorRetry site repeatOk covered) s

/-- SCRUB_ERROR_FOUND (R625). -/
def execScrubErrorFound (e : Stamp) (site : ErrorSite) (corrected repeatOk : Bool) (s : State) : Host.Outcome State Fault Refusal :=
  runLane e (laneScrub site corrected repeatOk) s

end Sys2Proof.Machine
end

