-- ==== Sys2Proof/Machine/HostPort.lean ====
section
/-!
DEFINITION. The host port of a lane (chapter 20): rings, host frames, interrupts, the register blocks, the mailbox and
the resets that the host sees.
-/
namespace Sys2Proof.Machine

/-- An access of the host reaches a lane that runs, through a hub that is present (R30, R34). A DORMANT lane is woken
instead (R655). -/
def hostOp (f : Lane → Lane) (l : Lane) : Lane :=
  if l.mode.mode == .dormant then wake .hostAccess l
  else if dieRuns l && l.mode.hubPresent then f l
  else l

/-- The GLG and HFR blocks exist in PCIe mode, the MBX block in SPI mode (R640). -/
def pcieOp (f : Lane → Lane) (l : Lane) : Lane := hostOp (fun s => if s.spi then s else f s) l
def spiOp (f : Lane → Lane) (l : Lane) : Lane := hostOp (fun s => if s.spi then f s else s) l

/-! ### SYS_RESET (R642) -/

/-- The KEY of a SYS_RESET write and its OP (R642). -/
def resetKey (v : Word) : Nat := bits v.toNat 15 8
def resetOp (v : Word) : Nat := bits v.toNat 1 0

def laneSysResetRestart (v : Word) (l : Lane) : Lane :=
  hostOp (fun s => if resetKey v = 0xA5 && resetOp v = 1 then resetToStart .hostReset s else s) l

def laneSysResetSalvage (v : Word) (l : Lane) : Lane :=
  hostOp (fun s => if resetKey v = 0xA5 && resetOp v = 2 then resetToSalvage .hostReset s else s) l

/-! ### Glegal rings (R644 to R647) -/

def ringOf (l : Lane) (n : Nat) : GlgRing := tgetD l.host.rings n .reset
def setRing (n : Nat) (r : GlgRing) (l : Lane) : Lane := { l with host := { l.host with rings := tput l.host.rings n r } }

/-- A request that a queue item carries. -/
def requestIn : QPayload → Option Request
  | .request r => some r
  | _ => none

/-- Every request fetched from a source and not yet answered: admitted, an ABORT under way, or still in the request
queue of its group (R64). -/
def fetchedFrom (l : Lane) (src : Nat) : List Request :=
  let q := queueOf l (48 + src)
  (l.needle.entries.map (·.req) ++ l.needle.aborts.map (·.req) ++
    (q.items ++ q.waiting).filterMap (fun i => requestIn i.payload)).filter (fun r => r.src == src)

/-- A ring stops (R644): requests already fetched complete, and their completions are discarded. -/
def disableRing (n : Nat) (err : Bool) (l : Lane) : Lane :=
  let r := ringOf l n
  let gone := fetchedFrom l n
  let l1 := setRing n { r with enable := false, error := r.error || err } l
  setQueue (52 + n) (emptied (queueOf l1 (52 + n)))
    { l1 with host := { l1.host with discard := l1.host.discard ++ gone } }

/-- A GLG_CTRL write (R20, R644): the size is set while the ring is disabled and the value is no reserved encoding;
setting ENABLE zeroes heads and tails and sets the phase; clearing it stops the ring. -/
def ringCtrl (n : Nat) (v : Word) (l : Lane) : Lane :=
  let r := ringOf l n
  let size := bits v.toNat 11 8
  let r1 := { r with sizeLog2 := if !r.enable && inRange 2 8 size then size else r.sizeLog2 }
  if v.getLsbD 0 then
    if r.enable then l
    else setRing n { r1 with enable := true, sqTail := 0, sqHead := 0, cqHead := 0, cqTail := 0, phase := true } l
  else if r.enable then disableRing n false l
  else setRing n r1 l

/-- Setting GLG_CTRL.ENABLE (R644); a write that does not set it is another register write. -/
def laneRingEnable (n : Nat) (v : Word) (l : Lane) : Lane :=
  pcieOp (fun s => if n < 4 && v.getLsbD 0 then ringCtrl n v s else s) l

/-- The packet of a completion that no request header names (R645): BAD_LENGTH and tag 0. -/
def badLengthPacket : Bytes :=
  replyPacket { src := 0, version := ⟨2, 0⟩, opcode := 0, flags := 0, group := 0, rsvd := 0, tag := 0, paramLen := 0,
                params := [], path := .mailbox } .badLength 0 []

/-- One submission entry (R645): an entry that a PCIe error leaves unread disables the ring; one too short completes at
once with NO_REPLY; any other is copied into the request queue of the ring. `i` is the entry's index. -/
def fetchEntry (n i : Nat) (e : Option Submission) (l : Lane) : Lane :=
  match e with
  | none => disableRing n true l
  | some s =>
    let l1 := setRing n { ringOf l n with sqHead := (i + 1) % ringSize (ringOf l n) } l
    if s.reqLen < 16 || s.rspLen < 16 then deliverRing n ⟨s.rspAddr, 0, i⟩ badLengthPacket l1
    else
      let r := packetRequest n (.ring ⟨s.rspAddr, s.rspLen, i⟩) (fit s.reqLen s.packet)
      enqueueOrWait (48 + n) (packetEntries s.reqLen) (.request r) l1

/-- The entries from the head to the tail, in order; a missing one reads as one that a PCIe error leaves unread. -/
def fetchAll (n : Nat) : Nat → List (Option Submission) → Lane → Lane
  | 0, _, l => l
  | k + 1, es, l =>
    if !(ringOf l n).enable then l
    else fetchAll n k es.tail (fetchEntry n (ringOf l n).sqHead ((es.head?).getD none) l)

/-- A GLG_SQ_TAIL write (R644, R645): an index at or above the size sets ERROR. `index` is the low byte written. -/
def ringDoorbell (n index : Nat) (es : List (Option Submission)) (l : Lane) : Lane :=
  let r := ringOf l n
  if ringSize r ≤ index then disableRing n true l
  else
    let l1 := setRing n { r with sqTail := index } l
    if r.enable then fetchAll n ((index + ringSize r - r.sqHead) % ringSize r) es l1 else l1

def laneSqDoorbell (n index : Nat) (es : List (Option Submission)) (l : Lane) : Lane :=
  pcieOp (fun s => if n < 4 then ringDoorbell n (index % 256) es s else s) l

/-- Replies that wait for the completion ring are written while it has room (R647). -/
def drainRing (n : Nat) : Nat → Lane → Lane
  | 0, l => l
  | fuel + 1, l =>
    if cqFull (ringOf l n) then l
    else
      match headItem l (52 + n) with
      | some ⟨_, _, .reply slot p⟩ => drainRing n fuel (completeRing n slot p (popItem (52 + n) l))
      | _ => l

/-- Replies of ring `n` that wait. -/
def repliesHeld (l : Lane) (n : Nat) : Nat := (queueOf l (52 + n)).items.length + (queueOf l (52 + n)).waiting.length

/-- A GLG_CQ_HEAD write (R647): it frees entries for waiting replies; a bad index sets ERROR. -/
def ringCqHead (n index : Nat) (l : Lane) : Lane :=
  let r := ringOf l n
  if ringSize r ≤ index then disableRing n true l
  else
    let l1 := setRing n { r with cqHead := index } l
    if r.enable then drainRing n (repliesHeld l1 n) l1 else l1

def laneCqHeadWrite (n index : Nat) (l : Lane) : Lane :=
  pcieOp (fun s => if n < 4 then ringCqHead n (index % 256) s else s) l

/-! ### Host frame rings (R648) -/

/-- The write-back of an item's descriptor is discarded. -/
def stripDesc (i : QItem) : QItem :=
  match i.payload with
  | .egress w len ptp _ => { i with payload := .egress w len ptp none }
  | .hostTx port f _ => { i with payload := .hostTx port f none }
  | _ => i

/-- The transmit ring stops: descriptors already taken complete, and their write-backs are discarded (R644, R648). -/
def disableTx (err : Bool) (l : Lane) : Lane :=
  { l with
    queues := l.queues.map (fun e => (e.1, { e.2 with
      items := e.2.items.map stripDesc, waiting := e.2.waiting.map stripDesc }))
    host := { l.host with txDone := [], tx := { l.host.tx with enable := false, error := l.host.tx.error || err } } }

/-- The receive ring stops: its free descriptors are no longer the lane's. -/
def disableRx (err : Bool) (l : Lane) : Lane :=
  { l with host := { l.host with rxFree := [], rx := { l.host.rx with enable := false, error := l.host.rx.error || err } } }

/-- An HFR_*_CTRL write to a ring (R20, R644). -/
def hfrCtrl (v : Word) (r : HfrRing) : HfrRing :=
  let size := bits v.toNat 11 8
  let r1 := { r with sizeLog2 := if !r.enable && inRange 6 12 size then size else r.sizeLog2 }
  if v.getLsbD 0 && !r.enable then { r1 with enable := true, tail := 0, head := 0 } else r1

def txCtrl (v : Word) (l : Lane) : Lane :=
  let on := v.getLsbD 0 && !l.host.tx.enable
  if l.host.tx.enable && !v.getLsbD 0 then disableTx false l
  else { l with host := { l.host with
    tx := hfrCtrl v l.host.tx, txNext := if on then 0 else l.host.txNext, txDone := if on then [] else l.host.txDone } }

def rxCtrl (v : Word) (l : Lane) : Lane :=
  let on := v.getLsbD 0 && !l.host.rx.enable
  if l.host.rx.enable && !v.getLsbD 0 then disableRx false l
  else { l with host := { l.host with rx := hfrCtrl v l.host.rx, rxFree := if on then [] else l.host.rxFree } }

/-- One transmit descriptor (R648): a bad port or length is refused at once; a frame passes through queue 56 to the
egress queue of its port. -/
def takeTx (i : Nat) (d : Option TxDescriptor) (l : Lane) : Lane :=
  match d with
  | none => disableTx true l
  | some d =>
    let l1 := { l with host := { l.host with tx := { l.host.tx with head := (i + 1) % 2 ^ l.host.tx.sizeLog2 } } }
    if 11 < d.port || !inRange 14 9212 d.length then txWriteBack (some (i, d.tsReq)) 3 l1
    else
      let f := fit d.length d.frame
      let l2 := enqueueOrWait 56 (frameEntries f.length) (.hostTx d.port f (some (i, d.tsReq))) l1
      forwardHost (txQueued l2) l2

def takeAllTx : Nat → List (Option TxDescriptor) → Lane → Lane
  | 0, _, l => l
  | k + 1, ds, l =>
    if !l.host.tx.enable then l else takeAllTx k ds.tail (takeTx l.host.tx.head ((ds.head?).getD none) l)

/-- An HFR_TX_TAIL write (R648, with the rules of R644). -/
def txDoorbell (index : Nat) (ds : List (Option TxDescriptor)) (l : Lane) : Lane :=
  let size := 2 ^ l.host.tx.sizeLog2
  if size ≤ index then disableTx true l
  else
    let l1 := { l with host := { l.host with tx := { l.host.tx with tail := index } } }
    if l.host.tx.enable then takeAllTx ((index + size - l.host.tx.head) % size) ds l1 else l1

def laneHfrTxDoorbell (index : Nat) (ds : List (Option TxDescriptor)) (l : Lane) : Lane :=
  pcieOp (txDoorbell (index % 4096) ds) l

/-- An HFR_RX_TAIL write (R648): the descriptors up to the tail are free, with the buffers they name; frames that wait
follow. -/
def rxTail (index : Nat) (addrs : List (Option Nat)) (l : Lane) : Lane :=
  let size := 2 ^ l.host.rx.sizeLog2
  if size ≤ index then disableRx true l
  else
    let n := (index + size - l.host.rx.tail) % size
    let named := (List.range n).map (fun i => (addrs[i]?).getD none)
    let l1 := { l with host := { l.host with rx := { l.host.rx with tail := index } } }
    if !l.host.rx.enable then l1
    else if named.any (·.isNone) then disableRx true l1
    else
      let l2 := { l1 with host := { l1.host with rxFree := l1.host.rxFree ++ named.filterMap id } }
      drainRx (rxQueued l2) l2

def laneHfrRxTail (index : Nat) (addrs : List (Option Nat)) (l : Lane) : Lane :=
  pcieOp (rxTail (index % 4096) addrs) l

/-- The BAR0 offset of HFR_RX_DROP. -/
def offRxDrop : Nat := 0x3038

/-- A read of HFR_RX_DROP returns the count and clears it (R17). -/
def laneRxDropRead (l : Lane) : Lane :=
  pcieOp (fun s => emit (.regRead offRxDrop s.host.rxDrop) { s with host := { s.host with rxDrop := 0 } }) l

/-! ### Interrupts (R649) -/

/-- The holdoff of a vector has passed: its message is sent while its cause is still set and unmasked. -/
def laneHoldoffExpiry (b : Nat) (l : Lane) : Lane :=
  if dieRuns l && l.host.heldMsg.contains b && l.mode.hubPresent && holdoffPassed l b then
    let l1 := { l with host := { l.host with heldMsg := l.host.heldMsg.filter (· != b) } }
    if l1.host.intCause.getLsbD b then signalCause b l1 else l1
  else l

/-- An INT_MASK write: a cause that stands and is unmasked now is signalled. -/
def writeMask (v : Word) (l : Lane) : Lane :=
  let m := v.setWidth 11
  let l1 := { l with host := { l.host with intMask := m } }
  (List.range 11).foldl (fun acc b =>
    if l.host.intMask.getLsbD b && !m.getLsbD b && l.host.intCause.getLsbD b then signalCause b acc else acc) l1

def writeInt (off : Nat) (v : Word) (l : Lane) : Lane :=
  if off = 0x000 then { l with host := { l.host with intCause := l.host.intCause &&& ~~~(v.setWidth 11) } }
  else if off = 0x004 then writeMask v l
  else if off = 0x008 then
    let us := bits v.toNat 15 0
    { l with host := { l.host with intHoldoff := if us ≤ 1000 then us else l.host.intHoldoff } }
  else l

/-! ### Time, gauges and the witness (R651 to R653) -/

/-- TNS_QUAL: state, time quality and the unlocked flag. -/
def tnsQualWord (l : Lane) : Word :=
  BitVec.ofNat 32 (timeStateCode l + 256 * timeQualityByte l (nowSec l) + 65536 * b2n l.time.unlocked)

/-- A TNS_LATCH write with GO latches time, quality and error together. -/
def latchTime (l : Lane) : Lane :=
  let t := nowFull l
  { l with host := { l.host with
    tnsT0 := BitVec.ofNat 32 t, tnsT1 := BitVec.ofNat 32 (t / 2 ^ 32), tnsT2 := BitVec.ofNat 16 (t / 2 ^ 64)
    tnsQual := tnsQualWord l, tnsErr := BitVec.ofNat 32 (estErrorNs l) } }

def laneTnsLatch (v : Word) (l : Lane) : Lane := hostOp (fun s => if v.getLsbD 0 then latchTime s else s) l

/-- A GAU_SEL write: the gauge is copied into the window, and cleared with CLEAR (R652). -/
def copyGauge (n : Nat) (l : Lane) : Lane := { l with host := { l.host with gauData := gaugeBytes l n } }

def laneGauSnapshot (n : Nat) (l : Lane) : Lane := hostOp (copyGauge (n % 64)) l
def laneGauSnapshotClear (n : Nat) (l : Lane) : Lane := hostOp (fun s => clearGauge (n % 64) (copyGauge (n % 64) s)) l

/-- The lease a question names. -/
def questionLease (q : WitnessQuestion) : LeaseKind := if q.lease = 1 then .device else .lane

/-- A PLY_WITNESS write (R653): with PENDING set, a VOTE and the pending QSEQ it delivers the vote. -/
def witnessWrite (v : Word) (l : Lane) : Lane :=
  let vote := bits v.toNat 1 0
  let seq := bits v.toNat 31 16
  match l.host.wq with
  | none => l
  | some q =>
    if vote = 0 || q.qseq % 65536 ≠ seq then l
    else
      plySettle (witnessAnswer (questionLease q) q.qseq vote
        { l with host := { l.host with wq := none, witnessVote := vote, witnessQseq := seq } })

def lanePlyWitnessWrite (v : Word) (l : Lane) : Lane := hostOp (witnessWrite v) l

/-! ### The SPI mailbox (R654) -/

/-- The fields of an MBX_DOORBELL write. -/
def doorbellLen (v : Word) : Nat := bits v.toNat 16 0
def doorbellBypass (v : Word) : Bool := v.getLsbD 29
def doorbellRing (v : Word) : Nat := bits v.toNat 31 30

/-- A doorbell whose LEN lies outside its range is not admitted. -/
def mailboxBadLength (ring : Nat) (l : Lane) : Lane :=
  setCause ring { l with host := { l.host with mbx := { l.host.mbx with
    done := true, rspLen := 16, reply := badLengthPacket } } }

/-- A normal doorbell: an overrun while BUSY; else the request is copied and acts as from its ring. -/
def mailboxSubmit (v : Word) (l : Lane) : Lane :=
  let ring := doorbellRing v
  let len := doorbellLen v
  let m := l.host.mbx
  if m.busy then { l with host := { l.host with mbx := { m with overrun := true } } }
  else if !inRange 16 65536 len then mailboxBadLength ring l
  else
    let r := packetRequest ring .mailbox (fit len m.request)
    enqueueOrWait (48 + ring) (packetEntries len) (.request r)
      { l with host := { l.host with mbx := { m with busy := true, ring := ring } } }

/-- MBX_DOORBELL without BYPASS. -/
def laneMbxDoorbell (v : Word) (l : Lane) : Lane :=
  spiOp (fun s => if doorbellBypass v then s else mailboxSubmit v s) l

/-- A bypass doorbell: HELLO, ABORT and CANCEL are served on arrival, and any other opcode is refused at once. -/
def mailboxBypass (v : Word) (l : Lane) : Lane :=
  let ring := doorbellRing v
  let len := doorbellLen v
  if !inRange 16 65536 len then mailboxBadLength ring l
  else
    let r := packetRequest ring .bypass (fit len l.host.mbx.request)
    if opBypass r.opcode then arrive 65520 r l
    else deliverBypass ring (replyPacket r .badOpcode 0 []) l

/-- MBX_DOORBELL with BYPASS. -/
def laneMbxBypass (v : Word) (l : Lane) : Lane :=
  spiOp (fun s => if doorbellBypass v then mailboxBypass v s else s) l

/-- Bytes with a 32-bit word written at a position. -/
def putBytes (pos : Nat) (v : Word) (b : Bytes) : Bytes := fit pos b ++ le 4 v.toNat ++ b.drop (pos + 4)

def writeMbx (off : Nat) (v : Word) (l : Lane) : Lane :=
  let m := l.host.mbx
  let set := fun (x : Mailbox) => { l with host := { l.host with mbx := x } }
  if !l.spi then l
  else if off = 0x000 then set { m with page := bits v.toNat 5 0 }
  else if off = 0x008 then
    set { m with done := m.done && !v.getLsbD 1, overrun := m.overrun && !v.getLsbD 2, bypDone := m.bypDone && !v.getLsbD 3 }
  else if 0x800 ≤ off then
    if m.page < 32 then set { m with request := putBytes (2048 * m.page + (off - 0x800)) v m.request }
    else set { m with reply := putBytes (2048 * (m.page - 32) + (off - 0x800)) v m.reply }
  else l

/-! ### Register writes (R17 to R20) -/

/-- SYS_WIN (R20, R643): a reserved REGION or CHANNELS keeps the field. -/
def sysWinWrite (v old : Word) : Word :=
  let region := if bits v.toNat 1 0 ≤ 2 then bits v.toNat 1 0 else bits old.toNat 1 0
  let ch := if inRange 1 32 (bits v.toNat 21 16) then bits v.toNat 21 16 else bits old.toNat 21 16
  BitVec.ofNat 32 (region + 256 * bits v.toNat 15 8 + 65536 * ch)

def writeSys (off : Nat) (v : Word) (l : Lane) : Lane :=
  if off = 0x020 then { l with host := { l.host with sysWin := sysWinWrite v l.host.sysWin } }
  else if off = 0x024 then { l with host := { l.host with sysWinBase := v } }
  else if off = 0x028 then { l with host := { l.host with sysWinStream := v &&& 0x3FFF } }
  else if off = 0x02C then { l with host := { l.host with sysScratch := v } }
  else l

/-- The registers of a Glegal ring (R644): base registers only while it is disabled; ERROR is W1C. -/
def writeGlg (off : Nat) (v : Word) (l : Lane) : Lane :=
  let n := off / 0x40
  let rel := off % 0x40
  let r := ringOf l n
  if l.spi || 4 ≤ n then l
  else if rel = 0x10 then ringCtrl n v l
  else if rel = 0x24 then setRing n { r with error := r.error && !v.getLsbD 1 } l
  else if r.enable then l
  else if rel = 0x00 then setRing n { r with sqBaseLo := v &&& 0xFFFFFFC0 } l
  else if rel = 0x04 then setRing n { r with sqBaseHi := v } l
  else if rel = 0x08 then setRing n { r with cqBaseLo := v &&& 0xFFFFFFC0 } l
  else if rel = 0x0C then setRing n { r with cqBaseHi := v } l
  else l

def writeHfr (off : Nat) (v : Word) (l : Lane) : Lane :=
  let h := l.host
  if l.spi then l
  else if off = 0x008 then txCtrl v l
  else if off = 0x028 then rxCtrl v l
  else if off = 0x034 then
    let n := bits v.toNat 13 0
    { l with host := { h with rxBuf := if inRange 2048 9216 n && n % 64 == 0 then n else h.rxBuf } }
  else if off = 0x000 && !h.tx.enable then { l with host := { h with tx := { h.tx with baseLo := v &&& 0xFFFFFFE0 } } }
  else if off = 0x004 && !h.tx.enable then { l with host := { h with tx := { h.tx with baseHi := v } } }
  else if off = 0x020 && !h.rx.enable then { l with host := { h with rx := { h.rx with baseLo := v &&& 0xFFFFFFE0 } } }
  else if off = 0x024 && !h.rx.enable then { l with host := { h with rx := { h.rx with baseHi := v } } }
  else l

/-- A write to a BAR0 register without its own row: unaligned and unpopulated offsets ignore it (R19, R637). -/
def writeReg (off : Nat) (v : Word) (l : Lane) : Lane :=
  let o := off % 0x1000
  let blk := off / 0x1000
  if off % 4 ≠ 0 then l
  else if blk = 0 then writeSys o v l
  else if blk = 1 then writeInt o v l
  else if blk = 2 then writeGlg o v l
  else if blk = 3 then writeHfr o v l
  else if blk = 7 then (if o = 0x008 then { l with host := { l.host with fltSel := v.toNat } } else l)
  else if blk = 9 then writeMbx o v l
  else l

def laneRegisterWrite (off : Nat) (v : Word) (l : Lane) : Lane := hostOp (writeReg off v) l

/-! ### What the registers read (R641 to R654) -/

/-- The 32-bit word at a byte offset of a buffer. -/
def wordIn (b : Bytes) (off : Nat) : Word := BitVec.ofNat 32 (field b off 4)

/-- A head as the host reads it: the entries that wait for a queue are not yet taken (R161). -/
def headLess (head waiting size : Nat) : Nat := (head + size * waiting - waiting) % size

def readSys (l : Lane) (off : Nat) : Word :=
  if off = 0x000 then 0x0001_7848
  else if off = 0x004 then BitVec.ofNat 32 (l.id.code + 256 * (Config.siliconStep l.id).toNat)
  else if off = 0x008 then BitVec.ofNat 32 (l.mode.mode.code + 16 * l.mode.cause.code + 256 * l.mode.active.code)
  else if off = 0x00C then BitVec.ofNat 32 (b2n l.spi)
  else if off = 0x020 then l.host.sysWin
  else if off = 0x024 then l.host.sysWinBase
  else if off = 0x028 then l.host.sysWinStream
  else if off = 0x02C then l.host.sysScratch
  else 0

def readInt (l : Lane) (off : Nat) : Word :=
  if off = 0x000 then l.host.intCause.setWidth 32
  else if off = 0x004 then l.host.intMask.setWidth 32
  else if off = 0x008 then BitVec.ofNat 32 l.host.intHoldoff
  else 0

def readGlg (l : Lane) (off : Nat) : Word :=
  let n := off / 0x40
  let rel := off % 0x40
  let r := ringOf l n
  let waiting := (queueOf l (48 + n)).waiting.length
  if l.spi || 4 ≤ n then 0
  else if rel = 0x00 then r.sqBaseLo
  else if rel = 0x04 then r.sqBaseHi
  else if rel = 0x08 then r.cqBaseLo
  else if rel = 0x0C then r.cqBaseHi
  else if rel = 0x10 then BitVec.ofNat 32 (b2n r.enable + 256 * r.sizeLog2)
  else if rel = 0x14 then BitVec.ofNat 32 r.sqTail
  else if rel = 0x18 then BitVec.ofNat 32 (headLess r.sqHead waiting (ringSize r))
  else if rel = 0x1C then BitVec.ofNat 32 r.cqHead
  else if rel = 0x20 then BitVec.ofNat 32 r.cqTail
  else if rel = 0x24 then BitVec.ofNat 32 (b2n (waiting != 0) + 2 * b2n r.error)
  else 0

/-- The five registers of a host frame ring. -/
def readHfrRing (r : HfrRing) (waiting off : Nat) : Word :=
  if off = 0x00 then r.baseLo
  else if off = 0x04 then r.baseHi
  else if off = 0x08 then BitVec.ofNat 32 (b2n r.enable + 256 * r.sizeLog2)
  else if off = 0x0C then BitVec.ofNat 32 r.tail
  else if off = 0x10 then BitVec.ofNat 32 (headLess r.head waiting (2 ^ r.sizeLog2))
  else 0

def readHfr (l : Lane) (off : Nat) : Word :=
  if l.spi then 0
  else if off < 0x20 then readHfrRing l.host.tx (queueOf l 56).waiting.length off
  else if off < 0x34 then readHfrRing l.host.rx 0 (off - 0x20)
  else if off = 0x34 then BitVec.ofNat 32 l.host.rxBuf
  else if off = 0x38 then l.host.rxDrop
  else 0

def readTns (l : Lane) (off : Nat) : Word :=
  if off = 0x004 then l.host.tnsT0
  else if off = 0x008 then l.host.tnsT1
  else if off = 0x00C then l.host.tnsT2.setWidth 32
  else if off = 0x010 then l.host.tnsQual
  else if off = 0x014 then l.host.tnsErr
  else 0

def readPly (l : Lane) (off : Nat) : Word :=
  let q := l.host.wqLast
  if off = 0x000 then BitVec.ofNat 32 ((plyState l).code + 256 * knownHolder l .lane + 65536 * knownDevice l)
  else if off = 0x004 then (reasonMask l).setWidth 32
  else if off = 0x008 then BitVec.ofNat 32 l.ply.laneLease.epoch
  else if off = 0x00C then BitVec.ofNat 32 l.ply.deviceLease.epoch
  else if off = 0x010 then BitVec.ofNat 32 q.qseq
  else if off = 0x014 then BitVec.ofNat 32 (q.kind + 256 * q.lease + 65536 * q.holder + 2 ^ 31 * b2n l.host.wq.isSome)
  else if off = 0x018 then BitVec.ofNat 32 q.epoch
  else if off = 0x01C then BitVec.ofNat 32 (l.host.witnessVote + 65536 * l.host.witnessQseq)
  else 0

/-- The fault record that FLT_SEL names, while it is held (R652). -/
def shownFault (l : Lane) : Option FaultRecord := l.health.log.find? (fun x => x.seq == l.host.fltSel)

def readFlt (l : Lane) (off : Nat) : Word :=
  if off = 0x000 then BitVec.ofNat 32 (((l.health.log.head?).map (·.seq)).getD 0)
  else if off = 0x004 then BitVec.ofNat 32 l.health.nextSeq
  else if off = 0x008 then BitVec.ofNat 32 l.host.fltSel
  else if off = 0x00C then BitVec.ofNat 32 (b2n (shownFault l).isSome)
  else if inRange 0x040 0x07C off then wordIn (((shownFault l).map faultBytes).getD []) (off - 0x040)
  else 0

def readSlv (l : Lane) (off : Nat) : Word :=
  let unack := l.vault.records.any (fun r => !r.acknowledged)
  if off = 0x000 then
    BitVec.ofNat 32 (b2n l.keys.zeroised + 2 * b2n l.keys.privilege + 4 * b2n l.vault.debugUnlocked + 8 * b2n unack +
      16 * b2n l.keys.engineFault)
  else if off = 0x004 then BitVec.ofNat 32 (l.keys.inputs.toNat + 65536 * l.vault.kaEnable.toNat)
  else if off = 0x008 then BitVec.ofNat 32 (keyEpochNow l)
  else if off = 0x00C then BitVec.ofNat 32 l.vault.zeroisations
  else 0

def readMbx (l : Lane) (off : Nat) : Word :=
  let m := l.host.mbx
  if !l.spi then 0
  else if off = 0x000 then BitVec.ofNat 32 m.page
  else if off = 0x008 then BitVec.ofNat 32 (b2n m.busy + 2 * b2n m.done + 4 * b2n m.overrun + 8 * b2n m.bypDone)
  else if off = 0x00C then BitVec.ofNat 32 m.rspLen
  else if inRange 0x040 0x07C off then wordIn m.bypReply (off - 0x040)
  else if 0x800 ≤ off then
    (if m.page < 32 then wordIn m.request (2048 * m.page + (off - 0x800))
     else wordIn m.reply (2048 * (m.page - 32) + (off - 0x800)))
  else 0

/-- What BAR0 reads at an offset (R17 to R19, R637, R641): write-only fields, unpopulated offsets and unaligned
accesses read 0. A DORMANT lane reads 0 throughout, which is the code of DORMANT in SYS_MODE (R655). -/
def readReg (l : Lane) (off : Nat) : Word :=
  let o := off % 0x1000
  let blk := off / 0x1000
  if off % 4 ≠ 0 || l.mode.mode == .dormant then 0
  else if blk = 0 then readSys l o
  else if blk = 1 then readInt l o
  else if blk = 2 then readGlg l o
  else if blk = 3 then readHfr l o
  else if blk = 4 then readTns l o
  else if blk = 5 then readPly l o
  else if blk = 6 then (if inRange 0x100 0x19C o then wordIn l.host.gauData (o - 0x100) else 0)
  else if blk = 7 then readFlt l o
  else if blk = 8 then readSlv l o
  else if blk = 9 then readMbx l o
  else 0

/-- The wale of SYS_WIN_STREAM as a WALE_READ result (R246, R643). -/
def waleRegion (l : Lane) : Bytes :=
  let id := l.host.sysWinStream.toNat
  let w := waleOf l id
  let count := bits l.host.sysWin.toNat 21 16
  le 2 w.records.length ++ le 2 (recordSize count) ++ zeros 4 ++ le 8 (((w.records.head?).map (·.tag.toNat)).getD 0) ++
    le 4 w.disorder ++ zeros 4 ++ w.records.flatMap (recordBytes (bits l.host.sysWin.toNat 15 8) count)

/-- A byte of the Swatch pool: segment s lies at s × the segment size (R407, R432). -/
def poolByte (l : Lane) (a : Nat) : Byte :=
  match segOf l (a / segSize l) with
  | some x => ((segImage x)[a % segSize l]?).getD 0
  | none => 0

/-- A byte of BAR2 (R643): its region from BASE × 65,536 onwards; 0 beyond the region and while REGION is 0. -/
def bar2Byte (l : Lane) (off : Nat) : Byte :=
  let a := l.host.sysWinBase.toNat * 65536 + off
  match bits l.host.sysWin.toNat 1 0 with
  | 1 => poolByte l a
  | 2 => ((waleRegion l)[a]?).getD 0
  | _ => 0

/-! ### A DORMANT lane, and resets of the port (R655, R672) -/

/-- The hub completes a submission entry that it fetches for a DORMANT lane (R74, R655). -/
def refuseDormant (n i : Nat) (s : Submission) (l : Lane) : Lane :=
  if s.reqLen < 16 || s.rspLen < 16 then completeRing n ⟨s.rspAddr, 0, i⟩ badLengthPacket l
  else
    let slot : HostSlot := ⟨s.rspAddr, s.rspLen, i⟩
    completeRing n slot (replyPacket (packetRequest n (.ring slot) (fit s.reqLen s.packet)) .wrongMode 0 []) l

def refuseAllDormant (n : Nat) : List (Option Submission) → Lane → Lane
  | some s :: t, l =>
    let r := ringOf l n
    if r.enable && !cqFull r then
      refuseAllDormant n t (refuseDormant n r.sqHead s (setRing n { r with sqHead := (r.sqHead + 1) % ringSize r } l))
    else l
  | _, l => l

/-- What the hub answers for a DORMANT lane. -/
def answerDormant (a : HostAccess) (l : Lane) : Lane :=
  match a with
  | .read off => emit (.regRead off 0) l
  | .write _ _ => l
  | .doorbell n tail es =>
    let r := ringOf l n
    if l.spi || 4 ≤ n || ringSize r ≤ tail % 256 then l
    else refuseAllDormant n (es.take ((tail % 256 + ringSize r - r.sqHead) % ringSize r)) l

/-- A host access to a DORMANT lane: the hub answers, and the lane wakes with start cause 2 (R599). -/
def laneHostDormant (a : HostAccess) (l : Lane) : Lane :=
  if l.mode.mode == .dormant && l.powered && l.dieOk then wake .hostAccess (answerDormant a l) else l

/-- The GLG, HFR, INT, MBX and SYS_WIN registers of the function return to reset, requests already fetched complete
with their completions and write-backs discarded, and the lane's privilege drops (R577, R655). -/
def functionReset (l : Lane) : Lane :=
  let l1 := [0, 1, 2, 3].foldl (fun acc n => disableRing n false acc) l
  let l2 := disableRx false (disableTx false l1)
  let h := l2.host
  { l2 with
    keys := { l2.keys with privilege := false }
    host := { h with
      sysWin := HostSt.reset.sysWin, sysWinBase := 0, sysWinStream := 0, intCause := 0, intMask := 0x7FF, intHoldoff := 0
      lastMsg := [], heldMsg := [], rings := GlgRing.resetAll, tx := .reset, rx := .reset, txNext := 0, txDone := []
      rxFree := [], rxBuf := 2048, rxDrop := 0, mbx := .reset } }

/-- A function-level reset, which PCIe mode alone has (R636, R655). -/
def laneFunctionReset (l : Lane) : Lane := if l.powered && l.dieOk && !l.spi then functionReset l else l

/-- A hot reset or the loss of the PCIe link does the same for each function (R655). -/
def lanePcieReset (l : Lane) : Lane := laneFunctionReset l

/-- HOST_PERSTN resets the host port only (R672): in each function as a hot reset does (log 24). -/
def lanePerstn (l : Lane) : Lane := if l.powered && l.dieOk then functionReset l else l

/-! ### The hub's heartbeat (R35) -/

/-- A heartbeat is exchanged. -/
def laneHeartbeat (l : Lane) : Lane :=
  if dieRuns l && l.mode.hubPresent then { l with mode := { l.mode with hubSeenAt := l.tc } } else l

/-- A host witness counts as absent while the hub is lost (R35). -/
def hostWitnessLost (k : LeaseKind) (l : Lane) : Lane :=
  if witnessKind l k = 1 then witnessLost k (setWitness k { witnessOf l k with outstanding := none } l) else l

/-- 1 ms without a heartbeat: the hub is lost, the host witness is absent, privilege drops (R577), and Ochre alarm 256
reports it (R34). -/
def laneHubLost (l : Lane) : Lane :=
  if dieRuns l && l.mode.hubPresent && decide (l.mode.hubSeenAt + msTc 1 ≤ l.tc) then
    let l1 := { l with
      mode := { l.mode with hubPresent := false, hubLostAt := l.tc }
      keys := { l.keys with privilege := false }
      host := { l.host with wq := none } }
    plySettle (raiseCond 256 (hostWitnessLost .device (hostWitnessLost .lane l1)))
  else l

/-- What waited for the hub follows (log 23). -/
def resumeHost (l : Lane) : Lane :=
  let l1 := [0, 1, 2, 3].foldl (fun acc n => if (ringOf acc n).enable then drainRing n (repliesHeld acc n) acc else acc) l
  drainRx (rxQueued l1) l1

/-- The heartbeat resumes: the hub is present again, and the outage is recorded in the fault log (R35). -/
def laneHubReturn (l : Lane) : Lane :=
  if dieRuns l && !l.mode.hubPresent then
    plySettle (resumeHost (logFault .event .none 0 0 (some 256) (le 8 (4 * (l.tc - l.mode.hubLostAt)))
      (dropCond 256 { l with mode := { l.mode with hubPresent := true, hubSeenAt := l.tc } })))
  else l

end Sys2Proof.Machine
end

