-- ==== Sys2Proof/Machine/ExecHost.lean ====
section
/-!
DEFINITION. The commands of the host port (chapter 20) on the package.
-/
namespace Sys2Proof.Machine

/-- SYS_RESET_RESTART (R642). -/
def execSysResetRestart (e : Stamp) (v : Word) (s : State) : Host.Outcome State Fault Refusal :=
  runLane e (laneSysResetRestart v) s

/-- SYS_RESET_SALVAGE (R642). -/
def execSysResetSalvage (e : Stamp) (v : Word) (s : State) : Host.Outcome State Fault Refusal :=
  runLane e (laneSysResetSalvage v) s

/-- GLG_RING_ENABLE (R644). -/
def execGlgRingEnable (e : Stamp) (ring : Fin 4) (v : Word) (s : State) : Host.Outcome State Fault Refusal :=
  runLane e (laneRingEnable ring v) s

/-- GLG_SQ_DOORBELL (R645). -/
def execGlgSqDoorbell (e : Stamp) (ring : Fin 4) (index : Nat) (entries : List (Option Submission)) (s : State) : Host.Outcome State Fault Refusal :=
  runLane e (laneSqDoorbell ring index entries) s

/-- GLG_CQ_HEAD_WRITE (R647). -/
def execGlgCqHeadWrite (e : Stamp) (ring : Fin 4) (index : Nat) (s : State) : Host.Outcome State Fault Refusal :=
  runLane e (laneCqHeadWrite ring index) s

/-- HFR_TX_DOORBELL (R648). -/
def execHfrTxDoorbell (e : Stamp) (index : Nat) (descs : List (Option TxDescriptor)) (s : State) : Host.Outcome State Fault Refusal :=
  runLane e (laneHfrTxDoorbell index descs) s

/-- HFR_RX_TAIL_WRITE (R648). -/
def execHfrRxTailWrite (e : Stamp) (index : Nat) (addrs : List (Option Nat)) (s : State) : Host.Outcome State Fault Refusal :=
  runLane e (laneHfrRxTail index addrs) s

/-- HFR_RX_DROP_READ (R17). -/
def execHfrRxDropRead (e : Stamp) (s : State) : Host.Outcome State Fault Refusal := runLane e laneRxDropRead s

/-- INT_HOLDOFF_EXPIRY (R649). -/
def execIntHoldoffExpiry (e : Stamp) (vector : Fin 11) (s : State) : Host.Outcome State Fault Refusal :=
  runLane e (laneHoldoffExpiry vector) s

/-- TNS_LATCH (R651). -/
def execTnsLatch (e : Stamp) (v : Word) (s : State) : Host.Outcome State Fault Refusal := runLane e (laneTnsLatch v) s

/-- GAU_SEL_SNAPSHOT (R652). -/
def execGauSelSnapshot (e : Stamp) (gauge : Fin 64) (s : State) : Host.Outcome State Fault Refusal :=
  runLane e (laneGauSnapshot gauge) s

/-- GAU_SEL_SNAPSHOT_CLEAR (R652). -/
def execGauSelSnapshotClear (e : Stamp) (gauge : Fin 64) (s : State) : Host.Outcome State Fault Refusal :=
  runLane e (laneGauSnapshotClear gauge) s

/-- PLY_WITNESS_WRITE (R653). -/
def execPlyWitnessWrite (e : Stamp) (v : Word) (s : State) : Host.Outcome State Fault Refusal :=
  runLane e (lanePlyWitnessWrite v) s

/-- MBX_DOORBELL (R654). -/
def execMbxDoorbell (e : Stamp) (v : Word) (s : State) : Host.Outcome State Fault Refusal :=
  runLane e (laneMbxDoorbell v) s

/-- MBX_DOORBELL_BYPASS (R654). -/
def execMbxDoorbellBypass (e : Stamp) (v : Word) (s : State) : Host.Outcome State Fault Refusal :=
  runLane e (laneMbxBypass v) s

/-- REGISTER_WRITE (R17). -/
def execRegisterWrite (e : Stamp) (off : Nat) (v : Word) (s : State) : Host.Outcome State Fault Refusal :=
  runLane e (laneRegisterWrite off v) s

/-- HOST_ACCESS_WHILE_DORMANT (R655). -/
def execHostAccessWhileDormant (e : Stamp) (a : HostAccess) (s : State) : Host.Outcome State Fault Refusal :=
  runLane e (laneHostDormant a) s

/-- FUNCTION_LEVEL_RESET (R655). -/
def execFunctionLevelReset (e : Stamp) (s : State) : Host.Outcome State Fault Refusal := runLane e laneFunctionReset s

/-- PCIE_HOT_RESET (R655). -/
def execPcieHotReset (e : PackageStamp) (s : State) : Host.Outcome State Fault Refusal := runBoth e lanePcieReset s

/-- HOST_PERSTN (R672). -/
def execHostPerstn (e : PackageStamp) (s : State) : Host.Outcome State Fault Refusal := runBoth e lanePerstn s

/-- HUB_HEARTBEAT_SEND (R35). -/
def execHubHeartbeatSend (e : Stamp) (s : State) : Host.Outcome State Fault Refusal := runLane e laneHeartbeat s

/-- HUB_LOST (R35). -/
def execHubLost (e : Stamp) (s : State) : Host.Outcome State Fault Refusal := runLane e laneHubLost s

/-- HUB_RETURN (R35). -/
def execHubReturn (e : Stamp) (s : State) : Host.Outcome State Fault Refusal := runLane e laneHubReturn s

end Sys2Proof.Machine
end

