-- ==== Sys2Proof/Machine/ExecKeys.lean ====
section
/-!
DEFINITION. The commands of Selvedge (chapter 17) on the package.
-/
namespace Sys2Proof.Machine

/-- KEY_GENERATE (R580). -/
def execKeyGenerate (e : Stamp) (r : Request) (s : State) : Host.Outcome State Fault Refusal :=
  runLane e (laneKeyGenerate r) s

/-- KEY_WRITE (R581). -/
def execKeyWrite (e : Stamp) (r : Request) (s : State) : Host.Outcome State Fault Refusal :=
  runLane e (laneKeyWrite r) s

/-- KEY_DERIVE (R582). -/
def execKeyDerive (e : Stamp) (r : Request) (s : State) : Host.Outcome State Fault Refusal :=
  runLane e (laneKeyDerive r) s

/-- KEY_DELETE (R583). -/
def execKeyDelete (e : Stamp) (r : Request) (s : State) : Host.Outcome State Fault Refusal :=
  runLane e (laneKeyDelete r) s

/-- KEY_INVALIDATE (R583). -/
def execKeyInvalidate (e : Stamp) (r : Request) (s : State) : Host.Outcome State Fault Refusal :=
  runLane e (laneKeyInvalidate r) s

/-- KEY_ATTEST (R584). -/
def execKeyAttest (e : Stamp) (r : Request) (s : State) : Host.Outcome State Fault Refusal :=
  runLane e (laneKeyAttest r) s

/-- ROLE_CHALLENGE (R577). -/
def execRoleChallenge (e : Stamp) (r : Request) (s : State) : Host.Outcome State Fault Refusal :=
  runLane e (laneRoleChallenge r) s

/-- ROLE_RESPOND_TAKE (R577). -/
def execRoleRespondTake (e : Stamp) (r : Request) (s : State) : Host.Outcome State Fault Refusal :=
  runLane e (laneRespondTake r) s

/-- ROLE_RESPOND_DROP (R577). -/
def execRoleRespondDrop (e : Stamp) (r : Request) (s : State) : Host.Outcome State Fault Refusal :=
  runLane e (laneRespondDrop r) s

/-- ROLE_RESPOND_BIND (R578). -/
def execRoleRespondBind (e : Stamp) (r : Request) (s : State) : Host.Outcome State Fault Refusal :=
  runLane e (laneRespondBind r) s

/-- ROLE_LOCKOUT_EXPIRY (R579). -/
def execRoleLockoutExpiry (e : Stamp) (s : State) : Host.Outcome State Fault Refusal := runLane e laneLockoutExpiry s

/-- SLV_QUERY_STATUS (R586). -/
def execSlvQueryStatus (e : Stamp) (r : Request) (s : State) : Host.Outcome State Fault Refusal :=
  runLane e (laneSlvStatus r) s

/-- SLV_QUERY_SLOTS (R586). -/
def execSlvQuerySlots (e : Stamp) (r : Request) (s : State) : Host.Outcome State Fault Refusal :=
  runLane e (laneSlvSlots r) s

/-- SLV_QUERY_TAMPER_SET (R586). -/
def execSlvQueryTamperSet (e : Stamp) (r : Request) (s : State) : Host.Outcome State Fault Refusal :=
  runLane e (laneSlvTamperSet r) s

/-- SLV_QUERY_TAMPER_ACK (R586). -/
def execSlvQueryTamperAck (e : Stamp) (r : Request) (s : State) : Host.Outcome State Fault Refusal :=
  runLane e (laneSlvTamperAck r) s

/-- SELVEDGE_SELF_TEST (R571). -/
def execSelvedgeSelfTest (e : Stamp) (first retry : Bool) (s : State) : Host.Outcome State Fault Refusal :=
  runLane e (laneSelfTest first retry) s

/-- TAMPER_DETECT (R587). -/
def execTamperDetect (e : Stamp) (sources : BitVec 10) (s : State) : Host.Outcome State Fault Refusal :=
  runLane e (laneTamper sources) s

/-- TAMPER_INPUT_NORMAL (R687). -/
def execTamperInputNormal (e : Stamp) (source : Fin 10) (s : State) : Host.Outcome State Fault Refusal :=
  runLane e (laneTamperNormal source) s

end Sys2Proof.Machine
end

