-- ==== Sys2Proof/Machine/ExecMesh.lean ====
section
/-!
DEFINITION. The commands of the Picot radios (chapter 15) on the package.
-/
namespace Sys2Proof.Machine

/-- MESH_SET (R528). -/
def execMeshSet (e : Stamp) (first retry : Bool) (r : Request) (s : State) : Host.Outcome State Fault Refusal :=
  runLane e (laneMeshSet first retry r) s

/-- MESH_NODE_ADD (R529). -/
def execMeshNodeAdd (e : Stamp) (r : Request) (s : State) : Host.Outcome State Fault Refusal :=
  runLane e (laneNodeAdd r) s

/-- MESH_NODE_REMOVE (R529). -/
def execMeshNodeRemove (e : Stamp) (r : Request) (s : State) : Host.Outcome State Fault Refusal :=
  runLane e (laneNodeRemove r) s

/-- MESH_SLOT_ASSIGN_ASSIGN (R530). -/
def execMeshSlotAssignAssign (e : Stamp) (r : Request) (s : State) : Host.Outcome State Fault Refusal :=
  runLane e (laneSlotAssign r) s

/-- MESH_SLOT_ASSIGN_RELEASE (R530). -/
def execMeshSlotAssignRelease (e : Stamp) (r : Request) (s : State) : Host.Outcome State Fault Refusal :=
  runLane e (laneSlotRelease r) s

/-- MESH_QUERY (R531). -/
def execMeshQuery (e : Stamp) (r : Request) (s : State) : Host.Outcome State Fault Refusal :=
  runLane e (laneMeshQuery r) s

/-- MESH_SLOT_START (R510). -/
def execMeshSlotStart (e : Stamp) (radio : Fin 2) (coin : Bool) (s : State) : Host.Outcome State Fault Refusal :=
  runLane e (laneSlotStart radio coin) s

/-- PICOT_FRAME_RECEIVE (R515). -/
def execPicotFrameReceive (e : Stamp) (radio : Fin 2) (ok : Bool) (psdu : Bytes) (riseAgo fallAgo : Nat) (s : State) : Host.Outcome State Fault Refusal :=
  runLane e (lanePicotReceive radio ok psdu riseAgo fallAgo) s

/-- MESH_ACK_SEND (R516). -/
def execMeshAckSend (e : Stamp) (radio : Fin 2) (s : State) : Host.Outcome State Fault Refusal :=
  runLane e (laneAckSend radio) s

/-- MESH_REPORT_DELIVERY (R526). -/
def execMeshReportDelivery (e : Stamp) (radio : Fin 2) (s : State) : Host.Outcome State Fault Refusal :=
  runLane e (laneReportDelivery radio) s

/-- MESH_BEACON_MISS (R524). -/
def execMeshBeaconMiss (e : Stamp) (radio : Fin 2) (s : State) : Host.Outcome State Fault Refusal :=
  runLane e (laneBeaconMiss radio) s

/-- MESH_SCAN_CHANNEL_EXPIRY (R524). -/
def execMeshScanChannelExpiry (e : Stamp) (radio : Fin 2) (s : State) : Host.Outcome State Fault Refusal :=
  runLane e (laneScanExpiry radio) s

/-- MESH_SUPERVISION_TIMEOUT (R525). -/
def execMeshSupervisionTimeout (e : Stamp) (radio : Fin 2) (child : Option Nat) (s : State) : Host.Outcome State Fault Refusal :=
  runLane e (laneSupervision radio child) s

/-- JOIN_RESPONSE_WAIT_EXPIRY (R521). -/
def execJoinResponseWaitExpiry (e : Stamp) (radio : Fin 2) (s : State) : Host.Outcome State Fault Refusal :=
  runLane e (laneJoinExpiry radio) s

/-- SEEN_CACHE_EXPIRY (R518). -/
def execSeenCacheExpiry (e : Stamp) (radio : Fin 2) (s : State) : Host.Outcome State Fault Refusal :=
  runLane e (laneSeenExpiry radio) s

end Sys2Proof.Machine
end

