-- ==== Sys2Proof/Machine/Update.lean ====
section
/-!
DEFINITION. Updates, confirmation and slot selection (R605 to R610).
-/
namespace Sys2Proof.Machine

/-- UPDATE_BEGIN (R605). -/
def updateBeginCheck (l : Lane) (r : Request) : Status :=
  let b := body r
  need (inRange 64 25231360 (field b 0 4)) .badParam <|
  need (isZero b 4 32 || slice b 4 32 == fit 32 (activeHeader l).hash) .imageInvalid <|
  need ((activeHeader l).state != .testing) .noResource .ok

def updateBeginApply (r : Request) (l : Lane) : Lane × Bytes :=
  let b := body r
  ({ l with mode := { l.mode with
    staged := some { totalLen := field b 0 4, fromHash := slice b 4 32, toHash := slice b 36 32, data := [] } } }, [])

def laneUpdateBegin (r : Request) (l : Lane) : Lane := serve 0x0D00 none updateBeginCheck updateBeginApply r l

/-- The bytes staged so far, as a delivery of the chunk rule (R116). -/
def stagedBytes (s : Staged) : Option (Nat × Bytes) := some (s.totalLen, s.data)

/-- UPDATE_CHUNK (R605). -/
def updateChunkCheck (l : Lane) (r : Request) : Status :=
  let b := body r
  need (inRange 1 65508 (field b 4 4)) .badParam <|
  match l.mode.staged with
  | none => .noResource
  | some s => need (chunkFits (stagedBytes s) s.totalLen (field b 0 4) (field b 4 4)) .badParam .ok

def updateChunkApply (r : Request) (l : Lane) : Lane × Bytes :=
  match l.mode.staged with
  | some s =>
    ({ l with mode := { l.mode with staged := some { s with
      data := chunkData (stagedBytes s) (field (body r) 0 4) ((body r).drop 8) } } }, [])
  | none => (l, [])

def laneUpdateChunk (r : Request) (l : Lane) : Lane := serve 0x0D01 none updateChunkCheck updateChunkApply r l

/-- The inactive slot is left EMPTY (R606). -/
def emptyInactive (l : Lane) : Lane := { l with boot := setSlotIn (inactiveIsB l) .empty l.boot }

/-- A failure at any step replies IMAGE_INVALID, leaves the inactive slot EMPTY and keeps the active slot selected
(R606). -/
def failUpdate (r : Request) (l : Lane) : Lane := refuse r .imageInvalid (emptyInactive l)

/-- UPDATE_FINISH: its ranges; without an UPDATE_BEGIN it fails as UPDATE_CHUNK does (R605, R606). -/
def updateFinishCheck (l : Lane) (r : Request) : Status :=
  let b := body r
  need (inRange 60 86400 (field b 0 4) && field b 4 1 < 4 && isZero b 5 3) .badParam <|
  need l.mode.staged.isSome .noResource .ok

/-- The staged package is whole and verifies (R606 step 1). -/
def packageOk (l : Lane) : Bool :=
  match l.mode.staged with
  | some s => s.data.length == s.totalLen && Config.packageVerifies s.data s.toHash
  | none => false

/-- UPDATE_FINISH: the package is verified, the inactive slot's header erased, and the build begins (R606). -/
def updateFinishStart (r : Request) (l : Lane) : Lane :=
  let b := body r
  if packageOk l then
    let l1 := emptyInactive l
    { l1 with mode := { l1.mode with
      build := some { req := r, confirmS := field b 0 4, hostConfirm := bit (field b 4 1) 0, restart := bit (field b 4 1) 1 } } }
  else failUpdate r l

def laneUpdateFinish (r : Request) (l : Lane) : Lane := serveHeld 0x0D02 none updateFinishCheck updateFinishStart r l

/-- The header written at the commit point (R606 step 5): TRIAL, with the target hash. -/
def trialSlot (s : Staged) (x : BuiltImage) : BootSlot :=
  { state := .trial, version := x.version, hash := s.toHash, length := x.length, configFormat := x.configFormat
    arithGen := x.arithGen }

/-- The build ends (R605, R606): `built` is the image that verified against to_hash, none where it does not; an image
longer than a slot holds fails. The slot becomes TRIAL and is selected, and with `restart` the lane resets. -/
def laneBuildComplete (built : Option BuiltImage) (l : Lane) : Lane :=
  match l.mode.build, l.mode.staged with
  | some q, some s =>
    let l1 := { l with mode := { l.mode with build := none } }
    match built with
    | some x =>
      if 25165568 < x.length then failUpdate q.req l1
      else
        let isB := inactiveIsB l
        let boot := setSlotIn isB (trialSlot s x) l.boot
        let l2 := postReply q.req .ok false [] { l1 with boot := { boot with
          selectedB := isB, failures := 0, confirmS := q.confirmS, hostConfirm := q.hostConfirm } }
        if q.restart then resetToStart .laneReset l2 else l2
    | none => failUpdate q.req l1
  | _, _ => l

/-! ### Confirmation (R607 to R609) -/

/-- The active slot is the one a state names. -/
def setActiveState (s : BootState) (l : Lane) : Lane :=
  match l.mode.active with
  | .a => { l with boot := { l.boot with slotA := { l.boot.slotA with state := s } } }
  | .b => { l with boot := { l.boot with slotB := { l.boot.slotB with state := s } } }
  | .recovery => l

/-- Confirmation: one write to the boot record, and Slate alarm 361 (R607). -/
def confirmImage (l : Lane) : Lane :=
  let l1 := setActiveState .valid l
  raiseEvent 361 { l1 with mode := { l1.mode with window := none } }

/-- UPDATE_CONFIRM on the TESTING slot needs its window (R608). -/
def confirmCheck (l : Lane) (r : Request) : Status :=
  need (isZero (body r) 1 3) .badParam <|
  match (activeHeader l).state with
  | .testing => need l.mode.window.isSome .confirmWindowClosed .ok
  | .valid => .ok
  | _ => .noResource

/-- The effect and result of `laneUpdateConfirm`. -/
def updateConfirmApply (_ : Request) (s : Lane) : Lane × Bytes :=
  (if (activeHeader s).state = .testing then confirmImage s else s, [])

/-- UPDATE_CONFIRM op 0 (R609): OK on a slot that is already VALID. -/
def laneUpdateConfirm (r : Request) (l : Lane) : Lane :=
  serve 0x0D03 (some 0) confirmCheck updateConfirmApply r l

def rejectCheck (l : Lane) (r : Request) : Status :=
  need (isZero (body r) 1 3) .badParam <|
  match (activeHeader l).state with
  | .testing => need l.mode.window.isSome .confirmWindowClosed .ok
  | _ => .noResource

/-- UPDATE_CONFIRM op 1 (R609): the TESTING slot becomes FAILED, the other slot is selected, and the lane resets. -/
def rejectStart (r : Request) (l : Lane) : Lane :=
  let l1 := setActiveState .failed (postReply r .ok false [] l)
  resetToStart .laneReset { l1 with boot := { l1.boot with selectedB := inactiveIsB l } }

def laneUpdateReject (r : Request) (l : Lane) : Lane := serveHeld 0x0D03 (some 1) rejectCheck rejectStart r l

/-- A TESTING image confirms itself within its window (R607): the start tests passed; 10,000 clean rounds, or 60 s in
service while no plane runs; no lasting fault since START; and no host confirmation is asked for. -/
def mayConfirm (l : Lane) : Bool :=
  (match l.mode.window with
   | some t => decide (l.tc < t)
   | none => false) &&
  (activeHeader l).state == .testing && l.mode.start.testsPassed && l.mode.lastingSinceStart == 0 &&
  !l.boot.hostConfirm &&
  (decide (10000 ≤ l.mode.cleanRounds) ||
    (l.cfg.planes.all (fun e => !e.2.running) && (l.mode.mode == .service || l.mode.mode == .holdover) &&
      decide (l.mode.serviceAt + secTc 60 ≤ l.tc)))

def laneConfirmation (l : Lane) : Lane := if dieRuns l && mayConfirm l then confirmImage l else l

/-- The window closes unconfirmed: Ochre alarm 360, and the lane keeps running (R608). -/
def laneWindowClose (l : Lane) : Lane :=
  match l.mode.window with
  | some t =>
    if dieRuns l && decide (t ≤ l.tc) then raiseEvent 360 { l with mode := { l.mode with window := none } } else l
  | none => l

/-! ### SLOT_SELECT (R610) -/

/-- The named slot must be VALID or TRIAL (R610). -/
def slotSelectCheck (l : Lane) (r : Request) : Status :=
  let b := body r
  let s := (slotIn l.boot (field b 0 1 == 1)).state
  need (field b 0 1 ≤ 1 && field b 1 1 ≤ 1 && isZero b 2 2 && (s == .valid || s == .trial)) .badParam .ok

/-- The boot record write: selecting away from a TESTING slot marks it FAILED; with `restart` the lane resets, and
leaves SALVAGE (R591, R610). -/
def slotSelectStart (r : Request) (l : Lane) : Lane :=
  let isB : Bool := field (body r) 0 1 == 1
  let other := slotIn l.boot (!isB)
  let boot := if other.state = .testing then setSlotIn (!isB) { other with state := .failed } l.boot else l.boot
  let l1 := postReply r .ok false [] { l with boot := { boot with selectedB := isB, failures := 0 } }
  if bit (field (body r) 1 1) 0 then
    resetToStart (if l.mode.mode == .salvage then .salvageExit else .laneReset) l1
  else l1

def laneSlotSelect (r : Request) (l : Lane) : Lane := serveHeld 0x0D04 none slotSelectCheck slotSelectStart r l

end Sys2Proof.Machine
end

