-- ==== Sys2Proof/Machine/ExecModes.lean ====
section
/-!
DEFINITION. The commands of modes, START, resets, wakes and updates (chapter 18) on the package.
-/
namespace Sys2Proof.Machine

/-- START_TIME_WAIT_EXPIRY (R462). -/
def execStartTimeWaitExpiry (e : Stamp) (s : State) : Host.Outcome State Fault Refusal := runLane e laneStartTimeWait s

/-- MODE_SET (R591). -/
def execModeSet (e : Stamp) (r : Request) (s : State) : Host.Outcome State Fault Refusal := runLane e (laneModeSet r) s

/-- LANE_RESET_RESTART (R619). -/
def execLaneResetRestart (e : Stamp) (r : Request) (s : State) : Host.Outcome State Fault Refusal :=
  runLane e (laneResetRestart r) s

/-- LANE_RESET_SALVAGE (R619). -/
def execLaneResetSalvage (e : Stamp) (r : Request) (s : State) : Host.Outcome State Fault Refusal :=
  runLane e (laneResetSalvage r) s

/-- CONFIG_COMMIT (R611). -/
def execConfigCommit (e : Stamp) (r : Request) (s : State) : Host.Outcome State Fault Refusal :=
  runLane e (laneConfigCommit r) s

/-- CONFIG_READ (R613). -/
def execConfigRead (e : Stamp) (r : Request) (s : State) : Host.Outcome State Fault Refusal :=
  runLane e (laneConfigRead r) s

/-- POOL_SPLIT_SET (R614). -/
def execPoolSplitSet (e : Stamp) (r : Request) (s : State) : Host.Outcome State Fault Refusal :=
  runLane e (lanePoolSplit r) s

/-- SYS_INFO (R620). -/
def execSysInfo (e : Stamp) (r : Request) (s : State) : Host.Outcome State Fault Refusal := runLane e (laneSysInfo r) s

/-- UPDATE_BEGIN (R605). -/
def execUpdateBegin (e : Stamp) (r : Request) (s : State) : Host.Outcome State Fault Refusal :=
  runLane e (laneUpdateBegin r) s

/-- UPDATE_CHUNK (R605). -/
def execUpdateChunk (e : Stamp) (r : Request) (s : State) : Host.Outcome State Fault Refusal :=
  runLane e (laneUpdateChunk r) s

/-- UPDATE_FINISH (R606). -/
def execUpdateFinish (e : Stamp) (r : Request) (s : State) : Host.Outcome State Fault Refusal :=
  runLane e (laneUpdateFinish r) s

/-- UPDATE_BUILD_COMPLETE (R606). -/
def execUpdateBuildComplete (e : Stamp) (built : Option BuiltImage) (s : State) : Host.Outcome State Fault Refusal :=
  runLane e (laneBuildComplete built) s

/-- UPDATE_CONFIRM_CONFIRM (R609). -/
def execUpdateConfirmConfirm (e : Stamp) (r : Request) (s : State) : Host.Outcome State Fault Refusal :=
  runLane e (laneUpdateConfirm r) s

/-- UPDATE_CONFIRM_REJECT (R609). -/
def execUpdateConfirmReject (e : Stamp) (r : Request) (s : State) : Host.Outcome State Fault Refusal :=
  runLane e (laneUpdateReject r) s

/-- SLOT_SELECT (R610). -/
def execSlotSelect (e : Stamp) (r : Request) (s : State) : Host.Outcome State Fault Refusal :=
  runLane e (laneSlotSelect r) s

/-- START_SEQUENCE (R594). -/
def execStartSequence (e : Stamp) (o : StartOutcome) (s : State) : Host.Outcome State Fault Refusal :=
  runLane e (laneStartStep o) s

/-- START_COMPLETE (R594). -/
def execStartComplete (e : Stamp) (first0 retry0 first1 retry1 : Bool) (s : State) : Host.Outcome State Fault Refusal :=
  runLane e (laneStartComplete first0 retry0 first1 retry1) s

/-- START_FAILURE_TIMEOUT (R604). -/
def execStartFailureTimeout (e : Stamp) (s : State) : Host.Outcome State Fault Refusal := runLane e laneStartTimeout s

/-- IMAGE_CONFIRMATION (R607). -/
def execImageConfirmation (e : Stamp) (s : State) : Host.Outcome State Fault Refusal := runLane e laneConfirmation s

/-- CONFIRM_WINDOW_CLOSE (R608). -/
def execConfirmWindowClose (e : Stamp) (s : State) : Host.Outcome State Fault Refusal := runLane e laneWindowClose s

/-- WATCHDOG_EXPIRY (R601). -/
def execWatchdogExpiry (e : Stamp) (s : State) : Host.Outcome State Fault Refusal := runLane e laneWatchdog s

/-- RSTN_LOW (R601). -/
def execRstnLow (e : Stamp) (low : Bool) (held : Nat) (s : State) : Host.Outcome State Fault Refusal :=
  runLane e (laneRstn low held) s

/-- WAKE_PIN (R672). -/
def execWakePin (e : Stamp) (held : Nat) (s : State) : Host.Outcome State Fault Refusal :=
  runLane e (laneWakePin held) s

/-- RTC_WAKE_ALARM (R600). -/
def execRtcWakeAlarm (e : Stamp) (s : State) : Host.Outcome State Fault Refusal := runLane e laneRtcWake s

end Sys2Proof.Machine
end

