-- ==== Sys2Proof/Machine/ExecNeedle.lean ====
section
/-!
DEFINITION. The commands of the Needle (chapter 02) on the package.
-/
namespace Sys2Proof.Machine

/-- GLEGAL_REQUEST_ARRIVAL (R72). -/
def execGlegalRequestArrival (e : Stamp) (vlan : Bool) (r : Request) (s : State) : Host.Outcome State Fault Refusal :=
  runLane e (fun l => laneArrival (udpLimit l r.src vlan) r l) s

/-- NEEDLE_DISPATCH (R83). -/
def execNeedleDispatch (e : Stamp) (s : State) : Host.Outcome State Fault Refusal := runLane e laneDispatch s

/-- DELAY_LIST_TICK (R84). -/
def execDelayListTick (e : Stamp) (s : State) : Host.Outcome State Fault Refusal := runLane e laneDelayTick s

/-- ABORT_TAKES_EFFECT (R88). -/
def execAbortTakesEffect (e : Stamp) (s : State) : Host.Outcome State Fault Refusal := runLane e laneAbortTakesEffect s

/-- GLEGAL_DATAGRAM_RECEIVE (R99). -/
def execGlegalDatagramReceive (e : Stamp) (vlan : Bool) (addr : Bytes) (fragment : Bool) (d : Bytes) (s : State) : Host.Outcome State Fault Refusal :=
  runLane e (fun l => laneDatagram (udpLimit l (((peerOf l addr).map (·.1)).getD 0) vlan) addr fragment d l) s

/-- NOP (R67). -/
def execNop (e : Stamp) (r : Request) (s : State) : Host.Outcome State Fault Refusal := runLane e (laneNop r) s

/-- HELLO (R69). -/
def execHello (e : Stamp) (vlan : Bool) (r : Request) (s : State) : Host.Outcome State Fault Refusal :=
  runLane e (fun l => laneHello (udpLimit l r.src vlan) r l) s

/-- ABORT (R88). -/
def execAbort (e : Stamp) (r : Request) (s : State) : Host.Outcome State Fault Refusal := runLane e (laneAbort r) s

/-- CANCEL (R89). -/
def execCancel (e : Stamp) (r : Request) (s : State) : Host.Outcome State Fault Refusal := runLane e (laneCancel r) s

/-- NEEDLE_GROUP_SET (R82). -/
def execNeedleGroupSet (e : Stamp) (r : Request) (s : State) : Host.Outcome State Fault Refusal :=
  runLane e (laneGroupSet r) s

/-- NEEDLE_STATUS (R94). -/
def execNeedleStatus (e : Stamp) (r : Request) (s : State) : Host.Outcome State Fault Refusal :=
  runLane e (laneNeedleStatus r) s

end Sys2Proof.Machine
end

