-- ==== Sys2Proof/Machine/ExecPatterns.lean ====
section
/-!
DEFINITION. The commands of patterns, parameters, results and variants (chapters 08 and 09) on the package.
-/
namespace Sys2Proof.Machine

/-- PATTERN_LOAD_CHUNK (R305). -/
def execPatternLoadChunk (e : Stamp) (r : Request) (s : State) : Host.Outcome State Fault Refusal :=
  runLane e (lanePatternLoadChunk r) s

/-- PATTERN_LOAD_LIBRARY (R305). -/
def execPatternLoadLibrary (e : Stamp) (r : Request) (s : State) : Host.Outcome State Fault Refusal :=
  runLane e (lanePatternLoadLibrary r) s

/-- PATTERN_LOAD_RELEASE (R309). -/
def execPatternLoadRelease (e : Stamp) (r : Request) (s : State) : Host.Outcome State Fault Refusal :=
  runLane e (lanePatternLoadRelease r) s

/-- PATTERN_VERIFICATION_COMPLETE (R306). -/
def execPatternVerificationComplete (e : Stamp) (part : Fin 4) (s : State) : Host.Outcome State Fault Refusal :=
  runLane e (laneVerificationComplete part) s

/-- PATTERN_SWAP (R311). -/
def execPatternSwap (e : Stamp) (r : Request) (s : State) : Host.Outcome State Fault Refusal :=
  runLane e (lanePatternSwap r) s

/-- PATTERN_PARAM_SET (R312). -/
def execPatternParamSet (e : Stamp) (r : Request) (s : State) : Host.Outcome State Fault Refusal :=
  runLane e (lanePatternParamSet r) s

/-- PATTERN_QUERY (R323). -/
def execPatternQuery (e : Stamp) (r : Request) (s : State) : Host.Outcome State Fault Refusal :=
  runLane e (lanePatternQuery r) s

/-- RESULT_READ (R324). -/
def execResultRead (e : Stamp) (r : Request) (s : State) : Host.Outcome State Fault Refusal :=
  runLane e (laneResultRead r) s

/-- VARIANT_STAGE_CHUNK (R338). -/
def execVariantStageChunk (e : Stamp) (r : Request) (s : State) : Host.Outcome State Fault Refusal :=
  runLane e (laneVariantChunk r) s

/-- VARIANT_STAGE_STAGE (R339). -/
def execVariantStageStage (e : Stamp) (r : Request) (s : State) : Host.Outcome State Fault Refusal :=
  runLane e (laneVariantStage r) s

/-- VARIANT_STAGE_DELETE (R338). -/
def execVariantStageDelete (e : Stamp) (r : Request) (s : State) : Host.Outcome State Fault Refusal :=
  runLane e (laneVariantDelete r) s

/-- VARIANT_SELECT (R340). -/
def execVariantSelect (e : Stamp) (r : Request) (s : State) : Host.Outcome State Fault Refusal :=
  runLane e (laneVariantSelect r) s

end Sys2Proof.Machine
end

