-- ==== Sys2Proof/Machine/ExecPe.lean ====
section
/-!
DEFINITION. The commands of the phasor estimation chain (chapter 05) on the package.
-/
namespace Sys2Proof.Machine

/-- PE_CHANNEL_SET (R175). -/
def execPeChannelSet (e : Stamp) (r : Request) (s : State) : Host.Outcome State Fault Refusal :=
  runLane e (lanePeChannelSet r) s

/-- PE_BANK_LOAD (R188). -/
def execPeBankLoad (e : Stamp) (r : Request) (s : State) : Host.Outcome State Fault Refusal :=
  runLane e (lanePeBankLoad r) s

/-- PE_BANK_SWAP (R196). -/
def execPeBankSwap (e : Stamp) (r : Request) (s : State) : Host.Outcome State Fault Refusal :=
  runLane e (lanePeBankSwap r) s

/-- PE_RESET (R209). -/
def execPeReset (e : Stamp) (r : Request) (s : State) : Host.Outcome State Fault Refusal := runLane e (lanePeReset r) s

/-- PE_QUERY (R210). -/
def execPeQuery (e : Stamp) (r : Request) (s : State) : Host.Outcome State Fault Refusal := runLane e (lanePeQuery r) s

/-- PHASOR_OUTPUT (R185). -/
def execPhasorOutput (e : Stamp) (stream : Nat) (channel : Fin 8) (s : State) : Host.Outcome State Fault Refusal :=
  runLane e (lanePhasorOutput stream channel) s

end Sys2Proof.Machine
end

