-- ==== Sys2Proof/Machine/PlyLinks.lean ====
section
/-!
DEFINITION. Ply messages as they arrive (R548 to R553): links, Azwell datagrams, the pull of a returning lane (R560,
R561), and the effect of each message.
-/
namespace Sys2Proof.Machine

/-! ### The pull (R560, R561) -/

/-- One partition as a holder sends it. -/
def pulledPart (p : Part) : PulledPart := { active := activeBank p, inactive := inactiveBank p, variants := p.variants }

def pulledPlane (l : Lane) (n : Nat) (c : PlaneCfg) : PulledPlane :=
  { rate := c.rate, anchor := c.anchorS, mapGen := (planeRun l n).mapGen, lastClosed := (planeRun l n).lastClosed }

/-- The copy of the store in force. -/
def copyInForce (l : Lane) : Option StoreCopy :=
  if olderIsSecond l.store then l.store.copy0 else l.store.copy1

/-- A publication's numbers as MIRROR carries them (R400). -/
def pulledGoose (l : Lane) (n : Nat) (p : GoosePub) : Nat × Nat × Nat × Nat × Nat :=
  let r := gooseRun l n
  (n, r.stNum, r.sqNum, r.intervalMs, boolsNat (memberBits l p.members))

/-- The content of an item (R560). -/
def pullContent (item : Nat) (l : Lane) : Option PullItem :=
  if item = 1 then some (.config (copyInForce l))
  else if item = 2 then some (.keyEpoch (keyEpochNow l))
  else if item = 3 then some (.patterns (l.array.parts.map (fun e => (e.1, pulledPart e.2))))
  else if item = 4 then some (.planes (l.cfg.planes.map (fun e => (e.1, pulledPlane l e.1 e.2))))
  else if item = 5 then
    some (.alarms (l.publish.active.map (·.1)) l.publish.pins.toNat (l.cfg.goose.map (fun e => pulledGoose l e.1 e.2)))
  else if item = 6 then
    some (.sessions (l.publish.sessions.filterMap (fun e =>
      if ((tget l.cfg.sessions e.1).any (fun c => !c.tcp)) && e.2.framesSent != 0 then some (e.1, e.2.lastCourse) else none)))
  else none

/-- PULL_REQ: the holder of its package's lane lease answers with the item. -/
def onPullReq (m item : Nat) (l : Lane) : Lane :=
  let l1 := noteContact m l
  if l1.ply.laneLease.held then
    match pullContent item l1 with
    | some c => sendTo m (.pullData c (Config.pullLength item l1.tc)) l1
    | none => l1
  else l1

/-- The trigger and profile states of a configuration just taken: profiles stored as armed re-arm. -/
def applyRecorder (l : Lane) : Lane :=
  let l1 := l.swatch.profiles.foldl (fun acc e => freeRing e.1 acc) l
  rearmStored { l1 with swatch := { l1.swatch with
    triggers := l1.cfg.triggers.map (fun e => (e.1, { TriggerRun.zero with state := triggerStart l1 e.2 }))
    profiles := l1.cfg.profiles.map (fun e => (e.1, .zero))
    rearm := (l1.cfg.profiles.filter (fun e => e.2.armed)).map (·.1) } }

/-- A configuration taken whole applies to the running lane as at START (R560, R687), but for the queue sizes and the pool
split, which wait for the next START (R46, R158). -/
def applyRunning (c : RunConfig) (l : Lane) : Lane :=
  let l1 := { l with
    cfg := c
    array := { l.array with parts := [], tiles := [] }
    health := { l.health with gauges := c.gauges.map (fun e => (e.1, .cleared l.tc)) }
    skein := { l.skein with planes := c.planes.map (fun e => (e.1, .new)) }
    publish := { l.publish with sessions := c.sessions.map (fun e => (e.1, .opened (!e.2.tcp))) } }
  let l2 := applyTamper (applyPoll (applyParts (applyPe (applyStreams (refreshUtc false l1)))))
  applyRecorder (startStreams (startPlanes l2))

/-- Item 1: a copy of another generation is taken whole; the discarded generation is recorded in the fault log, and a
format that the lane cannot read sets FORMAT (R535, R560). -/
def takeConfig (c : Option StoreCopy) (l : Lane) : Lane :=
  match c with
  | none => l
  | some x =>
    if x.gen = l.mode.configGen then setReason 6 false l
    else
      match copyReads (activeHeader l).configFormat x with
      | none => setReason 6 true l
      | some (g, f, content) =>
        let l1 := logFault .event .none 0 l.mode.configGen none [] (setReason 6 false l)
        applyRunning content { l1 with
          store := writeOlder x l1.store
          mode := { l1.mode with configGen := g, configFormat := f } }

/-- A pulled pattern is loaded as by PATTERN_LOAD (R306, R560). -/
def takePattern (n : Nat) (pat : Pattern) (l : Lane) : Lane :=
  let ok := pat.library.isSome || (verifyImage l n pat.image pat.image.length).isNone
  if ok then
    let l1 := commitImage n pat.image pat.library l
    let p := partOf l1 n
    setPart n (setInactive ((inactiveBank p).map (fun (x : Pattern) => { x with params := pat.params })) p) l1
  else l

/-- Item 3 for one partition: images, parameter blocks and variants that differ. -/
def takePart (n : Nat) (x : PulledPart) (l : Lane) : Lane :=
  let same := fun (a b : Option Pattern) => (a.map (fun p => (p.hash, p.params))) == b.map (fun p => (p.hash, p.params))
  let l1 := match x.active with
    | some pat => if same x.active (activeBank (partOf l n)) then l else activatePattern n (takePattern n pat l)
    | none => l
  let l2 := match x.inactive with
    | some pat => if same x.inactive (inactiveBank (partOf l1 n)) then l1 else takePattern n pat l1
    | none => l1
  let p := partOf l2 n
  setPart n { p with variants := x.variants.foldl (fun t e => tput t e.1 e.2) p.variants } l2

/-- Item 4: the generation of each map, and comparison from the first course that both close afterwards. -/
def takePlane (n : Nat) (x : PulledPlane) (l : Lane) : Lane :=
  let r := planeRun l n
  let l1 := if (planeCfg l n).isSome then setPlane n { r with mapGen := x.mapGen } l else l
  setCompare n { compareOf l1 n with startAt := max r.oldest (x.lastClosed + 1) } l1

/-- Item 5: the holder's pattern alarms are active here, for their hold at least, its pins and GOOSE numbers are
mirrored (R403). -/
def takeAlarms (active : List Nat) (pins : Nat) (goose : List (Nat × Nat × Nat × Nat × Nat)) (l : Lane) : Lane :=
  let add := fun (t : Table AlarmState) (id : Nat) =>
    if 255 < id || (tget t id).isSome then t
    else tput t id { since := l.tc, parts := [], cond := false, eventUntil := l.tc + msTc (eventHoldMs l id) }
  let l1 := { l with publish := { l.publish with active := active.foldl add l.publish.active, mirrorPins := BitVec.ofNat 8 pins } }
  refreshPins (goose.foldl (fun acc g =>
    { acc with publish := { acc.publish with
        goose := tput acc.publish.goose g.1 { gooseRun acc g.1 with mirrored := some g.2 } } }) l1)

/-- Item 6: the last queued course of each UDP session. -/
def takeSessions (last : List (Nat × Nat)) (l : Lane) : Lane :=
  let ss := last.foldl (fun t e => tmod t e.1 (fun (s : SessionRun) => { s with mirroredCourse := some e.2 })) l.publish.sessions
  { l with publish := { l.publish with sessions := ss } }

/-- The number of an item. -/
def pullNumber : PullItem → Nat
  | .config _ => 1
  | .keyEpoch _ => 2
  | .patterns _ => 3
  | .planes _ => 4
  | .alarms .. => 5
  | .sessions _ => 6

/-- The key epoch of the member pulled from, as its latest word (R535). -/
def tellEpoch (n : Nat) (l : Lane) : Lane :=
  match l.ply.pull with
  | none => l
  | some p => { l with ply := { l.ply with contacts := tmod l.ply.contacts p.source (fun (c : Contact) =>
      { c with hello := c.hello.map (fun h => { h with keyEpoch := n }) }) } }

/-- The action of an item (R560). -/
def takeItem (c : PullItem) (l : Lane) : Lane :=
  match c with
  | .config x => takeConfig x l
  | .keyEpoch n => setReason 3 (n ≠ keyEpochNow l) (tellEpoch n l)
  | .patterns ps => ps.foldl (fun acc e => takePart e.1 e.2 acc) l
  | .planes ps => ps.foldl (fun acc e => takePlane e.1 e.2 acc) l
  | .alarms a p g => takeAlarms a p g l
  | .sessions s => takeSessions s l

/-- PULL_DATA: the item asked for is taken, and the next one asked for; the last completes the pull (R560, R561). -/
def onPullData (m : Nat) (c : PullItem) (total : Nat) (l : Lane) : Lane :=
  let l1 := noteContact m l
  match l1.ply.pull with
  | none => l1
  | some p =>
    if p.source ≠ m || p.item ≠ pullNumber c then l1
    else
      let ctr := { l1.ply.ctr with pullBytes := (l1.ply.ctr.pullBytes + total) % 2 ^ 32 }
      let l2 := takeItem c { l1 with ply := { l1.ply with ctr := ctr } }
      if p.item = 6 then finishPull l2 else requestItem m (p.item + 1) l2

/-- A pull follows the lease: it restarts from a new holder in contact, and ends when no member in contact holds a lease
(R560). -/
def followPull (l : Lane) : Lane :=
  match l.ply.pull with
  | none => l
  | some p =>
    match pullSource l with
    | none => finishPull l
    | some h => if h = p.source then l else requestItem h 1 l

/-! ### Messages (R549) -/

/-- The lease that a message names. -/
def leaseNamed (n : Nat) : Option LeaseKind := if n = 0 then some .lane else if n = 1 then some .device else none

/-- A message that is dropped is counted (R549). -/
def dropMessage (l : Lane) : Lane :=
  { l with ply := { l.ply with ctr := { l.ply.ctr with msgsDropped := bump l.ply.ctr.msgsDropped } } }

/-- A witness's vote answers the outstanding question of its sequence (R546). -/
def onVote (q vote : Nat) (l : Lane) : Lane :=
  let asks := fun (k : LeaseKind) => ((witnessOf l k).outstanding.map (·.1)) == some q
  if !inRange 1 3 vote then dropMessage l
  else if asks .lane && witnessKind l .lane = 2 then plySettle (witnessAnswer .lane q vote l)
  else if asks .device && witnessKind l .device = 2 then plySettle (witnessAnswer .device q vote l)
  else l

/-- A message about a lease; one that names none is dropped. -/
def withLease (n : Nat) (f : LeaseKind → Lane → Lane) (l : Lane) : Lane :=
  match leaseNamed n with
  | some k => f k l
  | none => dropMessage l

/-- The effect of one message (R549). `az` tells an Azwell datagram from a Ply frame: TIME travels on the Ply links only.
`bad` is the tile, if any, that fails the array self-test that a lasting mismatch starts (R555). -/
def onMessage (az : Bool) (m : PlyMsg) (bad : Option Nat) (l : Lane) : Lane :=
  match m.body with
  | .hello h => onHello m.sender h l
  | .renew e c p g => withLease m.lease (fun k s => onRenew k m.sender e c p g s) l
  | .renewAck e c _ => withLease m.lease (fun k s => onRenewAck k m.sender e c s) l
  | .yield e => withLease m.lease (fun k s => onYield k m.sender e s) l
  | .release e s r => withLease m.lease (fun k x => onRelease k m.sender e s r x) l
  | .offer e t => withLease m.lease (fun k s => onOffer k m.sender e t s) l
  | .accept _ _ => withLease m.lease (fun k s => onAccept k m.sender s) l
  | .digest p g a f d => onDigest m.sender p g a f d bad l
  | .health h => onHealth m.sender h.bytes l
  | .time tx e r => if az then dropMessage l else onTime m.sender tx e r l
  | .tamper s t => onTamper m.sender s t l
  | .mirrorPins p => onMirrorPins m.sender p l
  | .mirrorGoose n st sq i ms => onMirrorGoose m.sender n st sq i ms l
  | .mirrorCourse n c => onMirrorCourse m.sender n c l
  | .pullReq item _ => onPullReq m.sender item l
  | .pullData c total => onPullData m.sender c total l
  | .check p r f c => onCheck m.sender p r f c bad l
  | .witnessQuery .. => dropMessage l
  | .witnessVote q v => onVote q v l
  | .other .. => dropMessage l

/-- The other members of the pair (R532); a vote comes from a witness. -/
def knownSender (l : Lane) (m : PlyMsg) : Bool :=
  m.sender == siblingId l || (partnerMembers l).contains m.sender ||
    (match m.body with | .witnessVote .. => true | _ => false)

/-- A message is delivered to a lane whose die runs. -/
def deliverMessage (az : Bool) (m : PlyMsg) (bad : Option Nat) (l : Lane) : Lane :=
  if !dieRuns l then l
  else if !knownSender l m then dropMessage l
  else followPull (onMessage az m bad l)

def lanePlyHello (m : Nat) (h : HelloBody) (l : Lane) : Lane := deliverMessage false ⟨m, 0xFF, .hello h⟩ none l
def lanePlyRenew (m lease epoch counter periodUs guardUs : Nat) (l : Lane) : Lane :=
  deliverMessage false ⟨m, lease, .renew epoch counter periodUs guardUs⟩ none l
def lanePlyRenewAck (m lease epoch counter state : Nat) (l : Lane) : Lane :=
  deliverMessage false ⟨m, lease, .renewAck epoch counter state⟩ none l
def lanePlyYield (m lease epoch : Nat) (l : Lane) : Lane := deliverMessage false ⟨m, lease, .yield epoch⟩ none l
def lanePlyRelease (m lease epoch successor reason : Nat) (l : Lane) : Lane :=
  deliverMessage false ⟨m, lease, .release epoch successor reason⟩ none l
def lanePlyOffer (m lease epoch target : Nat) (l : Lane) : Lane := deliverMessage false ⟨m, lease, .offer epoch target⟩ none l
def lanePlyAccept (m lease epoch target : Nat) (l : Lane) : Lane := deliverMessage false ⟨m, lease, .accept epoch target⟩ none l
def lanePlyDigest (m plane swapGen absent first : Nat) (digests : List Nat) (bad : Option Nat) (l : Lane) : Lane :=
  deliverMessage false ⟨m, 0xFF, .digest plane swapGen absent first digests⟩ bad l
def lanePlyHealth (m : Nat) (b : Bytes) (l : Lane) : Lane := deliverMessage false ⟨m, 0xFF, .health ⟨b⟩⟩ none l
def lanePlyTimeMessage (m tx echoTx echoRx : Nat) (l : Lane) : Lane :=
  deliverMessage false ⟨m, 0xFF, .time tx echoTx echoRx⟩ none l
def lanePlyTamper (m sources time : Nat) (l : Lane) : Lane := deliverMessage false ⟨m, 0xFF, .tamper sources time⟩ none l

def lanePlyMirror (m : Nat) (x : MirrorKind) (l : Lane) : Lane :=
  match x with
  | .pins p => deliverMessage false ⟨m, 0xFF, .mirrorPins p⟩ none l
  | .goose n st sq i ms => deliverMessage false ⟨m, 0xFF, .mirrorGoose n st sq i ms⟩ none l
  | .course n c => deliverMessage false ⟨m, 0xFF, .mirrorCourse n c⟩ none l

def lanePlyPullReq (m item offset : Nat) (l : Lane) : Lane := deliverMessage false ⟨m, 0xFF, .pullReq item offset⟩ none l
def lanePlyPullData (m : Nat) (c : PullItem) (total : Nat) (l : Lane) : Lane :=
  deliverMessage false ⟨m, 0xFF, .pullData c total⟩ none l
def lanePlyCheck (m plane : Nat) (result fail : Bool) (course : Nat) (bad : Option Nat) (l : Lane) : Lane :=
  deliverMessage false ⟨m, 0xFF, .check plane result fail course⟩ bad l
def lanePlyVote (q vote : Nat) (l : Lane) : Lane := deliverMessage true ⟨0xFE, 0xFF, .witnessVote q vote⟩ none l

/-- WITNESS_QUERY: a question that is due goes to an Azwell witness (R545, R546): 0 PING, 1 RENEW, 2 CLAIM (log 25). -/
def lanePlyWitnessQuery (k : LeaseKind) (kind : Nat) (l : Lane) : Lane :=
  if witnessKind l k ≠ 2 then l
  else if kind = 0 then laneWitnessPing k l
  else if kind = 1 then laneRenewAckTimeout k l
  else laneClaimRepeat k l

/-! ### Frames on the Ply links (R548) -/

/-- The second copy of a message of both links is discarded: the first of the two is remembered. -/
def secondCopy (k : Nat) (m : PlyMsg) (l : Lane) : Bool := l.ply.copies.contains (1 - k, m)

def noteCopy (k : Nat) (m : PlyMsg) (l : Lane) : Lane :=
  { l with ply := { l.ply with copies := ((k, m) :: l.ply.copies).take 8 } }

def dropCopy (k : Nat) (m : PlyMsg) (l : Lane) : Lane :=
  { l with ply := { l.ply with copies := l.ply.copies.erase (1 - k, m) } }

/-- A valid frame's message, or its idle frame (R541). -/
def frameMessage (k : Nat) (msg : Option PlyMsg) (bad : Option Nat) (l : Lane) : Lane :=
  match msg with
  | none => noteIdle l
  | some m =>
    if onBothLinks m.body then
      if secondCopy k m l then noteIdle (dropCopy k m l) else deliverMessage false m bad (noteCopy k m l)
    else deliverMessage false m bad l

/-- The frame of a sequence is sent again, once it is asked for (R548). -/
def resendFrame (k seq : Nat) (l : Lane) : Lane :=
  match (linkOf l k).sent.find? (fun e => e.1 == seq) with
  | some (_, m) =>
    emit (.ply k seq m) (setLink k { linkOf l k with sent := (linkOf l k).sent.filter (fun e => e.1 != seq) } l)
  | none => l

/-- A Ply link delivers (R548): a frame is checked, a duplicate of the link discarded, its message delivered; a request
resends. -/
def lanePlyFrame (k : Nat) (x : PlyRx) (bad : Option Nat) (l : Lane) : Lane :=
  if !dieRuns l || 1 < k then l
  else
    match x with
    | .again seq => resendFrame k seq l
    | .frame seq ok msg =>
      if !ok then badPlyFrame k seq l
      else if (linkOf l k).rxSeen.contains seq then l
      else frameMessage k msg bad (goodPlyFrame k seq l)

/-! ### Azwell (R550 to R552) -/

def azOf (l : Lane) (m : Nat) : AzPeer := tgetD l.ply.az m .reset
def setAz (m : Nat) (x : AzPeer) (l : Lane) : Lane := { l with ply := { l.ply with az := tput l.ply.az m x } }

/-- The key slot of a sender's datagrams: the pair key, or the witness's. -/
def azKeySlot (l : Lane) (m : Nat) : Option Nat :=
  if m = 0xFE then (if l.cfg.witness.laneWitness = 2 || l.cfg.witness.deviceWitness = 2 then some l.cfg.witness.keySlot else none)
  else if (partnerMembers l).contains m then l.cfg.pair.map (·.keySlot)
  else none

/-- R99's checks, read with this magic (R551). -/
def azOk (l : Lane) (d : AzDatagram) : Bool :=
  d.valid && azKeySlot l d.sender == some d.keySlot && d.seq != 0 && (usableKey l d.keySlot).any (fun k => k.usage.getLsbD 1)

/-- An acknowledgement with no message, or any datagram of this content (R550). -/
def azAck (m : Nat) (l : Lane) : Lane := azSend m false [] l

/-- Messages are delivered in their order. -/
def azDeliver (ms : List PlyMsg) (bad : Option Nat) (l : Lane) : Lane := ms.foldl (fun acc m => deliverMessage true m bad acc) l

/-- Reliable datagrams held out of order that now follow in rseq order. -/
def azHeld (m : Nat) (bad : Option Nat) : Nat → Lane → Lane
  | 0, l => l
  | fuel + 1, l =>
    let p := azOf l m
    match p.heldOut.find? (fun e => e.1 == p.rxRseq + 1) with
    | none => l
    | some (r, ms) =>
      azHeld m bad fuel
        (azDeliver ms bad (setAz m { p with rxRseq := r, heldOut := p.heldOut.filter (fun e => e.1 != r) } l))

/-- A reliable datagram: delivered in rseq order, up to 32 held out of order, each acknowledged. -/
def azReliableIn (d : AzDatagram) (bad : Option Nat) (l : Lane) : Lane :=
  let p := azOf l d.sender
  if d.rseq ≤ p.rxRseq then azAck d.sender l
  else if d.rseq = p.rxRseq + 1 then
    let l1 := azDeliver d.msgs bad (setAz d.sender { p with rxRseq := d.rseq } l)
    azAck d.sender (azHeld d.sender bad 32 l1)
  else if p.heldOut.length < 32 && !p.heldOut.any (fun e => e.1 == d.rseq) then
    azAck d.sender (setAz d.sender { p with heldOut := p.heldOut ++ [(d.rseq, d.msgs)] } l)
  else l

/-- A datagram dropped without reply is counted (R551). -/
def azDrop (l : Lane) : Lane :=
  { l with ply := { l.ply with ctr := { l.ply.ctr with azDropped := bump l.ply.ctr.azDropped } } }

/-- A valid datagram of a new sequence: the window, the acknowledged datagrams and contact, then its messages. -/
def azAccept (d : AzDatagram) (bad : Option Nat) (l : Lane) : Lane :=
  let p := azOf l d.sender
  let w := acceptSeq p.highest p.seen d.seq
  let l1 := setAz d.sender { p with
    highest := w.1, seen := w.2, lastValid := l.tc, pending := p.pending.filter (fun x => decide (d.ack < x.rseq)) } l
  let l2 := if (partnerMembers l1).contains d.sender then noteFrame d.sender l1 else l1
  if d.rseq = 0 then azDeliver d.msgs bad l2 else azReliableIn d bad l2

/-- An Azwell datagram arrives (R551). -/
def laneAzwellReceive (d : AzDatagram) (bad : Option Nat) (l : Lane) : Lane :=
  if !dieRuns l then l
  else if !azOk l d then azDrop l
  else
    let p := azOf l d.sender
    if isDuplicate p.highest p.seen d.seq then (if d.rseq = 0 then l else azAck d.sender l)
    else azAccept d bad l

/-- A pending datagram is due again after P_d/4 (R551). -/
def azDue (l : Lane) (x : AzPending) : Bool := decide (x.sentAt + periodTc l .device / 4 ≤ l.tc)

/-- One datagram is resent with a new sequence and the same rseq. -/
def azResend (m : Nat) (x : AzPending) (l : Lane) : Lane :=
  let p := azOf l m
  let p' := { p with
    txSeq := p.txSeq + 1
    pending := p.pending.map (fun y => if y.rseq = x.rseq then { y with sentAt := l.tc, resends := y.resends + 1 } else y) }
  let l1 := setAz m p' l
  emit (.azwell m (p.txSeq + 1) x.rseq p.rxRseq x.msgs)
    { l1 with ply := { l1.ply with ctr := { l1.ply.ctr with azRetransmits := bump l1.ply.ctr.azRetransmits } } }

/-- Every unacknowledged reliable datagram that is due is resent, up to eight times (R551). -/
def laneAzwellRetransmit (m : Nat) (l : Lane) : Lane :=
  if !dieRuns l || l.keys.zeroised then l
  else ((azOf l m).pending.filter (fun x => azDue l x && x.resends < 8)).foldl (fun acc x => azResend m x acc) l

/-- P_d without a valid datagram, eight retransmissions that failed, or no common version: the link is lost (R552). -/
def laneAzwellLoss (m : Nat) (l : Lane) : Lane :=
  let p := azOf l m
  let silent := decide (p.lastValid + periodTc l .device ≤ l.tc)
  let failed := p.pending.any (fun x => azDue l x && 8 ≤ x.resends)
  if dieRuns l && p.up && (silent || failed || p.version.isNone) then
    followPull (plySettle (setAz m { p with up := false } l))
  else l

/-- start_wait_ms with no holder known (R541), and the end of a pull whose holder is gone (R560). -/
def laneFreeLeaseWait (k : LeaseKind) (l : Lane) : Lane := laneFreeLease k (followPull l)

end Sys2Proof.Machine
end

