-- ==== Sys2Proof/Machine/ExecPly.lean ====
section
/-!
DEFINITION. The commands of Ply leases, witnesses and links (chapter 16) on the package.
-/
namespace Sys2Proof.Machine

/-- PLY_SET (R563). -/
def execPlySet (e : Stamp) (r : Request) (s : State) : Host.Outcome State Fault Refusal := runLane e (lanePlySet r) s

/-- PLY_PAIR_PAIR (R564). -/
def execPlyPairPair (e : Stamp) (r : Request) (s : State) : Host.Outcome State Fault Refusal :=
  runLane e (lanePlyPair r) s

/-- PLY_PAIR_UNPAIR (R564). -/
def execPlyPairUnpair (e : Stamp) (r : Request) (s : State) : Host.Outcome State Fault Refusal :=
  runLane e (lanePlyUnpair r) s

/-- LEASE_HANDOVER (R543). -/
def execLeaseHandover (e : Stamp) (r : Request) (s : State) : Host.Outcome State Fault Refusal :=
  runLane e (laneLeaseHandover r) s

/-- PLY_QUERY (R566). -/
def execPlyQuery (e : Stamp) (r : Request) (s : State) : Host.Outcome State Fault Refusal :=
  runLane e (lanePlyQuery r) s

/-- WITNESS_SET (R565). -/
def execWitnessSet (e : Stamp) (r : Request) (s : State) : Host.Outcome State Fault Refusal :=
  runLane e (laneWitnessSet r) s

/-- RENEW_SEND (R536). -/
def execRenewSend (e : Stamp) (k : LeaseKind) (s : State) : Host.Outcome State Fault Refusal :=
  runLane e (laneRenewSend k) s

/-- RENEW_ACK_TIMEOUT (R546). -/
def execRenewAckTimeout (e : Stamp) (k : LeaseKind) (s : State) : Host.Outcome State Fault Refusal :=
  runLane e (laneRenewAckTimeout k) s

/-- LEASE_EXPIRY (R537). -/
def execLeaseExpiry (e : Stamp) (k : LeaseKind) (s : State) : Host.Outcome State Fault Refusal :=
  runLane e (laneLeaseExpiry k) s

/-- SILENCE_TAKEOVER (R538). -/
def execSilenceTakeover (e : Stamp) (k : LeaseKind) (s : State) : Host.Outcome State Fault Refusal :=
  runLane e (laneSilenceTakeover k) s

/-- CLAIM_REPEAT (R538). -/
def execClaimRepeat (e : Stamp) (k : LeaseKind) (s : State) : Host.Outcome State Fault Refusal :=
  runLane e (laneClaimRepeat k) s

/-- FREE_LEASE_WAIT_EXPIRY (R541). -/
def execFreeLeaseWaitExpiry (e : Stamp) (k : LeaseKind) (s : State) : Host.Outcome State Fault Refusal :=
  runLane e (laneFreeLeaseWait k) s

/-- PLY_HELLO_PERIODIC (R541). -/
def execPlyHelloPeriodic (e : Stamp) (s : State) : Host.Outcome State Fault Refusal := runLane e lanePlyHelloPeriodic s

/-- WITNESS_PING (R545). -/
def execWitnessPing (e : Stamp) (k : LeaseKind) (s : State) : Host.Outcome State Fault Refusal :=
  runLane e (laneWitnessPing k) s

/-- WITNESS_UNAVAILABLE (R545). -/
def execWitnessUnavailable (e : Stamp) (k : LeaseKind) (s : State) : Host.Outcome State Fault Refusal :=
  runLane e (laneWitnessUnavailable k) s

/-- OFFER_TIMEOUT (R543). -/
def execOfferTimeout (e : Stamp) (s : State) : Host.Outcome State Fault Refusal := runLane e laneOfferTimeout s

/-- PLY_IDLE_FRAME (R548). -/
def execPlyIdleFrame (e : Stamp) (link : Fin 2) (s : State) : Host.Outcome State Fault Refusal :=
  runLane e (lanePlyIdle link) s

/-- PLY_FRAME_RECEIVE (R548). -/
def execPlyFrameReceive (e : Stamp) (link : Fin 2) (x : PlyRx) (bad : Option Nat) (s : State) : Host.Outcome State Fault Refusal :=
  runLane e (lanePlyFrame link x bad) s

/-- PLY_LINK_LOSS (R548). -/
def execPlyLinkLoss (e : Stamp) (link : Fin 2) (s : State) : Host.Outcome State Fault Refusal :=
  runLane e (lanePlyLinkLoss link) s

/-- PLY_LINK_RETRAIN (R548). -/
def execPlyLinkRetrain (e : Stamp) (link : Fin 2) (s : State) : Host.Outcome State Fault Refusal :=
  runLane e (lanePlyRetrain link) s

/-- DIGEST_UNMATCHED_EXPIRY (R554). -/
def execDigestUnmatchedExpiry (e : Stamp) (s : State) : Host.Outcome State Fault Refusal := runLane e laneDigestExpiry s

/-- HEALTH_SEND (R557). -/
def execHealthSend (e : Stamp) (s : State) : Host.Outcome State Fault Refusal := runLane e laneHealthSend s

/-- TIME_REASON_CLEAR (R558). -/
def execTimeReasonClear (e : Stamp) (s : State) : Host.Outcome State Fault Refusal := runLane e laneTimeReasonClear s

end Sys2Proof.Machine
end

