-- ==== Sys2Proof/Machine/ExecPlyMessages.lean ====
section
/-!
DEFINITION. The messages of Ply and the datagrams of Azwell (chapter 16) on the package.
-/
namespace Sys2Proof.Machine

/-- PLY_HELLO (R549). -/
def execPlyHello (e : Stamp) (m : Nat) (h : HelloBody) (s : State) : Host.Outcome State Fault Refusal :=
  runLane e (lanePlyHello m h) s

/-- PLY_RENEW (R536). -/
def execPlyRenew (e : Stamp) (m lease epoch counter periodUs guardUs : Nat) (s : State) : Host.Outcome State Fault Refusal :=
  runLane e (lanePlyRenew m lease epoch counter periodUs guardUs) s

/-- PLY_RENEW_ACK (R537). -/
def execPlyRenewAck (e : Stamp) (m lease epoch counter state : Nat) (s : State) : Host.Outcome State Fault Refusal :=
  runLane e (lanePlyRenewAck m lease epoch counter state) s

/-- PLY_YIELD (R536). -/
def execPlyYield (e : Stamp) (m lease epoch : Nat) (s : State) : Host.Outcome State Fault Refusal :=
  runLane e (lanePlyYield m lease epoch) s

/-- PLY_RELEASE (R540). -/
def execPlyRelease (e : Stamp) (m lease epoch successor reason : Nat) (s : State) : Host.Outcome State Fault Refusal :=
  runLane e (lanePlyRelease m lease epoch successor reason) s

/-- PLY_OFFER (R543). -/
def execPlyOffer (e : Stamp) (m lease epoch target : Nat) (s : State) : Host.Outcome State Fault Refusal :=
  runLane e (lanePlyOffer m lease epoch target) s

/-- PLY_ACCEPT (R543). -/
def execPlyAccept (e : Stamp) (m lease epoch target : Nat) (s : State) : Host.Outcome State Fault Refusal :=
  runLane e (lanePlyAccept m lease epoch target) s

/-- PLY_DIGEST (R554). -/
def execPlyDigest (e : Stamp) (m plane swapGen absent first : Nat) (digests : List Nat) (bad : Option Nat) (s : State) : Host.Outcome State Fault Refusal :=
  runLane e (lanePlyDigest m plane swapGen absent first digests bad) s

/-- PLY_HEALTH (R557). -/
def execPlyHealth (e : Stamp) (m : Nat) (b : Bytes) (s : State) : Host.Outcome State Fault Refusal :=
  runLane e (lanePlyHealth m b) s

/-- PLY_TIME (R476). -/
def execPlyTime (e : Stamp) (m tx echoTx echoRx : Nat) (s : State) : Host.Outcome State Fault Refusal :=
  runLane e (lanePlyTimeMessage m tx echoTx echoRx) s

/-- PLY_TAMPER (R559). -/
def execPlyTamper (e : Stamp) (m sources time : Nat) (s : State) : Host.Outcome State Fault Refusal :=
  runLane e (lanePlyTamper m sources time) s

/-- PLY_MIRROR (R400). -/
def execPlyMirror (e : Stamp) (m : Nat) (x : MirrorKind) (s : State) : Host.Outcome State Fault Refusal :=
  runLane e (lanePlyMirror m x) s

/-- PLY_PULL_REQ (R560). -/
def execPlyPullReq (e : Stamp) (m item offset : Nat) (s : State) : Host.Outcome State Fault Refusal :=
  runLane e (lanePlyPullReq m item offset) s

/-- PLY_PULL_DATA (R560). -/
def execPlyPullData (e : Stamp) (m : Nat) (c : PullItem) (total : Nat) (s : State) : Host.Outcome State Fault Refusal :=
  runLane e (lanePlyPullData m c total) s

/-- PLY_CHECK (R555). -/
def execPlyCheck (e : Stamp) (m plane : Nat) (result fail : Bool) (course : Nat) (bad : Option Nat) (s : State) : Host.Outcome State Fault Refusal :=
  runLane e (lanePlyCheck m plane result fail course bad) s

/-- PLY_WITNESS_QUERY (R546). -/
def execPlyWitnessQuery (e : Stamp) (k : LeaseKind) (kind : Nat) (s : State) : Host.Outcome State Fault Refusal :=
  runLane e (lanePlyWitnessQuery k kind) s

/-- PLY_WITNESS_VOTE (R546). -/
def execPlyWitnessVote (e : Stamp) (q vote : Nat) (s : State) : Host.Outcome State Fault Refusal :=
  runLane e (lanePlyVote q vote) s

/-- AZWELL_DATAGRAM_RECEIVE (R551). -/
def execAzwellDatagramReceive (e : Stamp) (d : AzDatagram) (bad : Option Nat) (s : State) : Host.Outcome State Fault Refusal :=
  runLane e (laneAzwellReceive d bad) s

/-- AZWELL_RETRANSMIT (R551). -/
def execAzwellRetransmit (e : Stamp) (m : Nat) (s : State) : Host.Outcome State Fault Refusal :=
  runLane e (laneAzwellRetransmit m) s

/-- AZWELL_LINK_LOSS (R552). -/
def execAzwellLinkLoss (e : Stamp) (m : Nat) (s : State) : Host.Outcome State Fault Refusal :=
  runLane e (laneAzwellLoss m) s

end Sys2Proof.Machine
end

