-- ==== Sys2Proof/Machine/ExecPorts.lean ====
section
/-!
DEFINITION. The commands of the Ethernet and serial ports (chapter 14) on the package.
-/
namespace Sys2Proof.Machine

/-- PORT_SET (R482). -/
def execPortSet (e : Stamp) (r : Request) (s : State) : Host.Outcome State Fault Refusal := runLane e (lanePortSet r) s

/-- CLASSIFIER_SET (R492). -/
def execClassifierSet (e : Stamp) (r : Request) (s : State) : Host.Outcome State Fault Refusal :=
  runLane e (laneClassifierSet r) s

/-- WAKE_SET (R493). -/
def execWakeSet (e : Stamp) (r : Request) (s : State) : Host.Outcome State Fault Refusal := runLane e (laneWakeSet r) s

/-- POLL_TABLE_SET_READ (R499). -/
def execPollTableSetRead (e : Stamp) (r : Request) (s : State) : Host.Outcome State Fault Refusal :=
  runLane e (lanePollRead r) s

/-- POLL_TABLE_SET_WRITE (R499). -/
def execPollTableSetWrite (e : Stamp) (r : Request) (s : State) : Host.Outcome State Fault Refusal :=
  runLane e (lanePollWrite r) s

/-- PORT_COUNTERS (R495). -/
def execPortCounters (e : Stamp) (r : Request) (s : State) : Host.Outcome State Fault Refusal :=
  runLane e (lanePortCounters r) s

/-- PAUSE_TIMER_EXPIRY (R486). -/
def execPauseTimerExpiry (e : Stamp) (port : Fin 12) (s : State) : Host.Outcome State Fault Refusal :=
  runLane e (lanePauseExpiry port) s

/-- LINK_UP (R483). -/
def execLinkUp (e : Stamp) (port : Fin 12) (s : State) : Host.Outcome State Fault Refusal :=
  runLane e (laneLinkUp port) s

/-- LINK_DOWN (R483). -/
def execLinkDown (e : Stamp) (port : Fin 12) (s : State) : Host.Outcome State Fault Refusal :=
  runLane e (laneLinkDown port) s

/-- WAKE_FRAME (R494). -/
def execWakeFrame (e : Stamp) (port : Fin 12) (f : EthFrame) (s : State) : Host.Outcome State Fault Refusal :=
  runLane e (laneWakeFrame port f) s

/-- POLL_REQUEST_SEND (R500). -/
def execPollRequestSend (e : Stamp) (port : Fin 8) (s : State) : Host.Outcome State Fault Refusal :=
  runLane e (lanePollSend port) s

/-- SERIAL_RESPONSE_RECEIVE (R501). -/
def execSerialResponseReceive (e : Stamp) (port : Fin 8) (octets : Bytes) (charError : Bool) (s : State) : Host.Outcome State Fault Refusal :=
  runLane e (laneSerialResponse port octets charError) s

/-- RESPONSE_TIMEOUT (R501). -/
def execResponseTimeout (e : Stamp) (port : Fin 8) (s : State) : Host.Outcome State Fault Refusal :=
  runLane e (laneResponseTimeout port) s

/-- OFFLINE_RETRY_EXPIRY (R501). -/
def execOfflineRetryExpiry (e : Stamp) (port : Fin 8) (entry : Fin 64) (s : State) : Host.Outcome State Fault Refusal :=
  runLane e (laneOfflineRetry port entry) s

/-- UNSOLICITED_CHARACTER (R503). -/
def execUnsolicitedCharacter (e : Stamp) (port : Fin 8) (count : Nat) (s : State) : Host.Outcome State Fault Refusal :=
  runLane e (laneUnsolicited port count) s

/-- OBSERVED_POLL_REQUEST (R504). -/
def execObservedPollRequest (e : Stamp) (port : Fin 8) (octets : Bytes) (s : State) : Host.Outcome State Fault Refusal :=
  runLane e (laneObservedPoll port octets) s

end Sys2Proof.Machine
end

