-- ==== Sys2Proof/Machine/ExecPublish.lean ====
section
/-!
DEFINITION. The commands of alarms, GOOSE publications and sessions (chapter 11) on the package.
-/
namespace Sys2Proof.Machine

/-- ALARM_HOLD_EXPIRY (R383). -/
def execAlarmHoldExpiry (e : Stamp) (alarm : Fin 512) (s : State) : Host.Outcome State Fault Refusal :=
  runLane e (laneAlarmHold alarm) s

/-- ALARM_ROUTE_SET (R384). -/
def execAlarmRouteSet (e : Stamp) (r : Request) (s : State) : Host.Outcome State Fault Refusal :=
  runLane e (laneAlarmRoute r) s

/-- GOOSE_PUB_SET (R387). -/
def execGoosePubSet (e : Stamp) (r : Request) (s : State) : Host.Outcome State Fault Refusal :=
  runLane e (laneGoosePub r) s

/-- GOOSE_REPEAT (R389). -/
def execGooseRepeat (e : Stamp) (pub : Fin 32) (s : State) : Host.Outcome State Fault Refusal :=
  runLane e (laneGooseRepeat pub) s

/-- SESSION_OPEN (R391). -/
def execSessionOpen (e : Stamp) (r : Request) (s : State) : Host.Outcome State Fault Refusal :=
  runLane e (laneSessionOpen r) s

/-- SESSION_MODIFY (R398). -/
def execSessionModify (e : Stamp) (r : Request) (s : State) : Host.Outcome State Fault Refusal :=
  runLane e (laneSessionModify r) s

/-- SESSION_ANNOUNCE_COMMIT (R398). -/
def execSessionAnnounceCommit (e : Stamp) (session : Fin 64) (s : State) : Host.Outcome State Fault Refusal :=
  runLane e (laneAnnounceCommit session) s

/-- SESSION_CLOSE (R398). -/
def execSessionClose (e : Stamp) (r : Request) (s : State) : Host.Outcome State Fault Refusal :=
  runLane e (laneSessionClose r) s

/-- PUBLISH_QUERY (R399). -/
def execPublishQuery (e : Stamp) (r : Request) (s : State) : Host.Outcome State Fault Refusal :=
  runLane e (lanePublishQuery r) s

/-- DERIVED_STREAM_CREATE (R404). -/
def execDerivedStreamCreate (e : Stamp) (r : Request) (s : State) : Host.Outcome State Fault Refusal :=
  runLane e (laneDerivedCreate r) s

/-- DERIVED_STREAM_REMOVE (R406). -/
def execDerivedStreamRemove (e : Stamp) (r : Request) (s : State) : Host.Outcome State Fault Refusal :=
  runLane e (laneDerivedRemove r) s

/-- SESSION_DATA_OFF (R397). -/
def execSessionDataOff (e : Stamp) (session : Fin 64) (idcode : Nat) (chk : Bool) (s : State) : Host.Outcome State Fault Refusal :=
  runLane e (laneDataOff session idcode chk) s

/-- SESSION_DATA_ON (R397). -/
def execSessionDataOn (e : Stamp) (session : Fin 64) (idcode : Nat) (chk : Bool) (s : State) : Host.Outcome State Fault Refusal :=
  runLane e (laneDataOn session idcode chk) s

/-- SESSION_SEND_HEADER (R397). -/
def execSessionSendHeader (e : Stamp) (session : Fin 64) (idcode : Nat) (chk : Bool) (s : State) : Host.Outcome State Fault Refusal :=
  runLane e (laneSendHeader session idcode chk) s

/-- SESSION_SEND_CFG1 (R397). -/
def execSessionSendCfg1 (e : Stamp) (session : Fin 64) (idcode : Nat) (chk : Bool) (s : State) : Host.Outcome State Fault Refusal :=
  runLane e (laneSendCfg1 session idcode chk) s

/-- SESSION_SEND_CFG2 (R397). -/
def execSessionSendCfg2 (e : Stamp) (session : Fin 64) (idcode : Nat) (chk : Bool) (s : State) : Host.Outcome State Fault Refusal :=
  runLane e (laneSendCfg2 session idcode chk) s

/-- SESSION_SEND_CFG3 (R397). -/
def execSessionSendCfg3 (e : Stamp) (session : Fin 64) (idcode : Nat) (chk : Bool) (s : State) : Host.Outcome State Fault Refusal :=
  runLane e (laneSendCfg3 session idcode chk) s

/-- SESSION_TCP_CONNECT (R398). -/
def execSessionTcpConnect (e : Stamp) (session : Fin 64) (addr : Bytes) (s : State) : Host.Outcome State Fault Refusal :=
  runLane e (laneTcpConnect session addr) s

/-- EGRESS_FRAME_TRANSMIT (R488). -/
def execEgressFrameTransmit (e : Stamp) (port : Fin 12) (underrun : Bool) (s : State) : Host.Outcome State Fault Refusal :=
  runLane e (laneEgress port underrun) s

/-- SESSION_TCP_DISCONNECT (R398). -/
def execSessionTcpDisconnect (e : Stamp) (session : Fin 64) (s : State) : Host.Outcome State Fault Refusal :=
  runLane e (laneTcpDisconnect session) s

end Sys2Proof.Machine
end

