-- ==== Sys2Proof/Machine/ExecQueues.lean ====
section
/-!
DEFINITION. The commands of the queues (chapter 04) on the package.
-/
namespace Sys2Proof.Machine

/-- QUEUE_SET_READ (R157). -/
def execQueueSetRead (e : Stamp) (r : Request) (s : State) : Host.Outcome State Fault Refusal :=
  runLane e (laneQueueRead r) s

/-- QUEUE_SET_SET (R158). -/
def execQueueSetSet (e : Stamp) (r : Request) (s : State) : Host.Outcome State Fault Refusal :=
  runLane e (laneQueueSet r) s

/-- QUEUE_FLUSH (R165). -/
def execQueueFlush (e : Stamp) (read written : Nat) (r : Request) (s : State) : Host.Outcome State Fault Refusal :=
  runLane e (laneQueueFlush read written r) s

/-- QUEUE_DROP_REST (R169). -/
def execQueueDropRest (e : Stamp) (read written : Nat) (r : Request) (s : State) : Host.Outcome State Fault Refusal :=
  runLane e (laneQueueDropRest read written r) s

/-- QUEUE_WRITE_UNBLOCK (R160). -/
def execQueueWriteUnblock (e : Stamp) (queue : Fin 58) (s : State) : Host.Outcome State Fault Refusal :=
  runLane e (laneWriteUnblock queue) s

/-- PAUSE_FRAME_SEND (R163). -/
def execPauseFrameSend (e : Stamp) (port : Fin 12) (s : State) : Host.Outcome State Fault Refusal :=
  runLane e (lanePauseSend port) s

/-- PAUSE_REPEAT (R163). -/
def execPauseRepeat (e : Stamp) (port : Fin 12) (s : State) : Host.Outcome State Fault Refusal :=
  runLane e (lanePauseRepeat port) s

end Sys2Proof.Machine
end

