-- ==== Sys2Proof/Machine/ExecSkein.lean ====
section
/-!
DEFINITION. The commands of the Skein (chapter 06) on the package.
-/
namespace Sys2Proof.Machine

/-- ALIGNER_VALUE_WRITE (R220). -/
def execAlignerValueWrite (e : Stamp) (s : State) : Host.Outcome State Fault Refusal := runLane e laneAlignerWrite s

/-- COURSE_INSTANT_REACHED (R224). -/
def execCourseInstantReached (e : Stamp) (plane : Fin 4) (s : State) : Host.Outcome State Fault Refusal :=
  runLane e (laneCourseInstant plane) s

/-- DEADLINE_TICK (R227). -/
def execDeadlineTick (e : Stamp) (plane : Fin 4) (s : State) : Host.Outcome State Fault Refusal :=
  runLane e (laneDeadlineTick plane) s

/-- QUORUM_TICK (R226). -/
def execQuorumTick (e : Stamp) (plane : Fin 4) (s : State) : Host.Outcome State Fault Refusal :=
  runLane e (laneQuorumTick plane) s

/-- WALE_HISTORY_WRITE (R235). -/
def execWaleHistoryWrite (e : Stamp) (late : Option Nat) (s : State) : Host.Outcome State Fault Refusal :=
  runLane e (laneWaleWrite late) s

/-- PLANE_CREATE (R239). -/
def execPlaneCreate (e : Stamp) (r : Request) (s : State) : Host.Outcome State Fault Refusal :=
  runLane e (lanePlaneCreate r) s

/-- PLANE_MODIFY_SET (R240). -/
def execPlaneModifySet (e : Stamp) (r : Request) (s : State) : Host.Outcome State Fault Refusal :=
  runLane e (lanePlaneSet r) s

/-- PLANE_MODIFY_MAP_WRITE (R240). -/
def execPlaneModifyMapWrite (e : Stamp) (r : Request) (s : State) : Host.Outcome State Fault Refusal :=
  runLane e (laneMapWrite r) s

/-- PLANE_MODIFY_MAP_SWITCH (R240). -/
def execPlaneModifyMapSwitch (e : Stamp) (r : Request) (s : State) : Host.Outcome State Fault Refusal :=
  runLane e (laneMapSwitch r) s

/-- PLANE_MODIFY_MAP_CLEAR (R240). -/
def execPlaneModifyMapClear (e : Stamp) (r : Request) (s : State) : Host.Outcome State Fault Refusal :=
  runLane e (laneMapClear r) s

/-- PLANE_MODIFY_STOP (R240). -/
def execPlaneModifyStop (e : Stamp) (r : Request) (s : State) : Host.Outcome State Fault Refusal :=
  runLane e (lanePlaneStop r) s

/-- PLANE_DELETE (R243). -/
def execPlaneDelete (e : Stamp) (r : Request) (s : State) : Host.Outcome State Fault Refusal :=
  runLane e (lanePlaneDelete r) s

/-- PLANE_QUERY (R244). -/
def execPlaneQuery (e : Stamp) (r : Request) (s : State) : Host.Outcome State Fault Refusal :=
  runLane e (lanePlaneQuery r) s

/-- WALE_READ (R245). -/
def execWaleRead (e : Stamp) (r : Request) (s : State) : Host.Outcome State Fault Refusal :=
  runLane e (laneWaleRead r) s

end Sys2Proof.Machine
end

