-- ==== Sys2Proof/Machine/ExecStreams.lean ====
section
/-!
DEFINITION. The commands of stream contexts, frames and decode (chapter 03) on the package.
-/
namespace Sys2Proof.Machine

/-- STREAM_ADD (R114). -/
def execStreamAdd (e : Stamp) (r : Request) (s : State) : Host.Outcome State Fault Refusal :=
  runLane e (laneStreamAdd r) s

/-- STREAM_MODIFY_SET (R116). -/
def execStreamModifySet (e : Stamp) (r : Request) (s : State) : Host.Outcome State Fault Refusal :=
  runLane e (laneModifySet r) s

/-- STREAM_MODIFY_ADOPT (R116). -/
def execStreamModifyAdopt (e : Stamp) (r : Request) (s : State) : Host.Outcome State Fault Refusal :=
  runLane e (laneModifyAdopt r) s

/-- STREAM_MODIFY_CFG_CHUNK (R116). -/
def execStreamModifyCfgChunk (e : Stamp) (r : Request) (s : State) : Host.Outcome State Fault Refusal :=
  runLane e (laneModifyChunk r) s

/-- STREAM_MODIFY_ACCEPT_CFG (R116). -/
def execStreamModifyAcceptCfg (e : Stamp) (r : Request) (s : State) : Host.Outcome State Fault Refusal :=
  runLane e (laneModifyAccept r) s

/-- STREAM_MODIFY_SUSPEND (R116). -/
def execStreamModifySuspend (e : Stamp) (r : Request) (s : State) : Host.Outcome State Fault Refusal :=
  runLane e (laneModifySuspend r) s

/-- STREAM_MODIFY_RESUME (R116). -/
def execStreamModifyResume (e : Stamp) (r : Request) (s : State) : Host.Outcome State Fault Refusal :=
  runLane e (laneModifyResume r) s

/-- STREAM_REMOVE (R117). -/
def execStreamRemove (e : Stamp) (r : Request) (s : State) : Host.Outcome State Fault Refusal :=
  runLane e (laneStreamRemove r) s

/-- STREAM_QUERY (R118). -/
def execStreamQuery (e : Stamp) (r : Request) (s : State) : Host.Outcome State Fault Refusal :=
  runLane e (laneStreamQuery r) s

/-- STREAM_LEARN_SET (R147). -/
def execStreamLearnSet (e : Stamp) (r : Request) (s : State) : Host.Outcome State Fault Refusal :=
  runLane e (laneLearnSet r) s

/-- STREAM_AUTH_SET (R143). -/
def execStreamAuthSet (e : Stamp) (r : Request) (s : State) : Host.Outcome State Fault Refusal :=
  runLane e (laneAuthSet r) s

/-- ETHERNET_FRAME_RECEIVE (R491). -/
def execEthernetFrameReceive (e : Stamp) (port : Fin 12) (f : EthFrame) (s : State) : Host.Outcome State Fault Refusal :=
  runLane e (laneFrameReceive port f) s

/-- PMU_DATA_FRAME_DECODE (R124). -/
def execPmuDataFrameDecode (e : Stamp) (port : Fin 12) (s : State) : Host.Outcome State Fault Refusal :=
  runLane e (lanePmuDecode port) s

/-- CONFIGURATION_FRAME_RECEIVE (R128). -/
def execConfigurationFrameReceive (e : Stamp) (stream : Nat) (f : Bytes) (s : State) : Host.Outcome State Fault Refusal :=
  runLane e (laneCfgReceive stream f) s

/-- CONFIGURATION_REQUEST_RETRY (R128). -/
def execConfigurationRequestRetry (e : Stamp) (stream : Nat) (s : State) : Host.Outcome State Fault Refusal :=
  runLane e (laneCfgRetry stream) s

/-- PMU_TCP_CONNECT_ATTEMPT (R130). -/
def execPmuTcpConnectAttempt (e : Stamp) (stream : Nat) (s : State) : Host.Outcome State Fault Refusal :=
  runLane e (laneTcpAttempt stream) s

/-- PMU_TCP_CONNECTION_OPEN (R130). -/
def execPmuTcpConnectionOpen (e : Stamp) (stream : Nat) (s : State) : Host.Outcome State Fault Refusal :=
  runLane e (laneTcpOpen stream) s

/-- PMU_TCP_CONNECTION_CLOSE (R130). -/
def execPmuTcpConnectionClose (e : Stamp) (stream : Nat) (s : State) : Host.Outcome State Fault Refusal :=
  runLane e (laneTcpClose stream) s

/-- SV_FRAME_DECODE (R131). -/
def execSvFrameDecode (e : Stamp) (port : Fin 12) (s : State) : Host.Outcome State Fault Refusal :=
  runLane e (laneSvDecode port) s

/-- ROUTED_SV_DECODE (R137). -/
def execRoutedSvDecode (e : Stamp) (port : Fin 12) (s : State) : Host.Outcome State Fault Refusal :=
  runLane e (laneRoutedSvDecode port) s

/-- GOOSE_SUBSCRIPTION_DECODE (R140). -/
def execGooseSubscriptionDecode (e : Stamp) (port : Fin 12) (s : State) : Host.Outcome State Fault Refusal :=
  runLane e (laneGooseDecode port) s

/-- GOOSE_TAL_EXPIRY (R140). -/
def execGooseTalExpiry (e : Stamp) (stream : Nat) (s : State) : Host.Outcome State Fault Refusal :=
  runLane e (laneTalExpiry stream) s

/-- POLLED_ASDU_DECODE (R138). -/
def execPolledAsduDecode (e : Stamp) (port : Fin 8) (s : State) : Host.Outcome State Fault Refusal :=
  runLane e (lanePolledAsdu port) s

/-- LEARNED_CONTEXT_IDLE_EXPIRY (R149). -/
def execLearnedContextIdleExpiry (e : Stamp) (stream : Nat) (s : State) : Host.Outcome State Fault Refusal :=
  runLane e (laneLearnedIdle stream) s

end Sys2Proof.Machine
end

