-- ==== Sys2Proof/Machine/Supply.lean ====
section
/-!
DEFINITION. The supply as a lane sees it: the VIN warning and its journal (R615 to R618), power (R658 to R665), the
junction sensor (R681).
-/
namespace Sys2Proof.Machine

/-! ### The brown-out journal -/

/-- Alarm 365 is active while a lane in SERVICE, HOLDOVER or DRILL has its warning disarmed (R617). -/
def armAlarm (l : Lane) : Lane := condAlarm 365 (serving l && !l.mode.supply.armed) l

/-- The outage report of a warning (R618). `vin` is the lowest VIN seen, in mV. -/
def outageReport (vin entries : Nat) (l : Lane) : OutageReport :=
  { warnTime := nowFull l, vinMinMv := vin, mode := l.mode.mode.code, plyState := (plyState l).code
    laneEpoch := l.ply.laneLease.epoch, slot := l.mode.active.code + 16 * (activeHeader l).state.code
    flags := 2 + 4 * b2n l.mode.build.isSome, records := entries, configGen := l.mode.configGen, returnTime := none }

/-- What the journal writes (R615). -/
def journalOf (vin : Nat) (l : Lane) : Journal :=
  let idx := journalIndex l
  { active := l.publish.active.map (·.1), pins := l.publish.pins
    goose := l.publish.goose.map (fun e => (e.1, e.2.stNum, e.2.sqNum, e.2.intervalMs)), swatch := idx
    laneEpoch := l.ply.laneLease.epoch, deviceEpoch := l.ply.deviceLease.epoch
    report := outageReport vin idx.length l }

/-- VIN falls below 4.75 V with the warning armed (R615, R617): it disarms; open records end and profiles stop (R445),
and the journal is written with the highest epochs. -/
def writeJournal (vin : Nat) (l : Lane) : Lane :=
  let l1 := swatchBrownout l
  armAlarm { l1 with
    journal := some (journalOf vin l1)
    flashEpochs := (max l1.flashEpochs.1 l1.ply.laneLease.epoch, max l1.flashEpochs.2 l1.ply.deviceLease.epoch)
    mode := { l1.mode with supply := { l1.mode.supply with warnAt := some l1.tc } } }

/-- The VIN warning (R615, R665): before step 6 of START no journal is written and the lane stays in reset; a DORMANT
lane runs no journal (R688). -/
def laneVinWarning (vin : Nat) (l : Lane) : Lane :=
  if !l.powered || !l.dieOk || !l.mode.supply.armed then l
  else
    let l1 := { l with mode := { l.mode with supply := { l.mode.supply with armed := false } } }
    if l.mode.mode == .start && l.mode.start.step < 6 then
      let l2 := freshLane .start .vin (leave 2 false l1)
      { l2 with mode := { l2.mode with supply := { l2.mode.supply with heldAt := some l.tc } } }
    else if dieRuns l then writeJournal vin l1
    else l1

/-- Still running 100 ms after the warning with VIN at or above 4.5 V throughout, the lane rides through (R616). -/
def laneRideThrough (l : Lane) : Lane :=
  match l.mode.supply.warnAt with
  | none => l
  | some t =>
    if !dieRuns l || decide (l.tc < t + msTc 100) then l
    else
      let ended := fun (x : OutageReport) =>
        { x with flags := x.flags + b2n (!bit x.flags 0), returnTime := some (nowFull l) }
      let l1 := { l with
        mode := { l.mode with supply := { l.mode.supply with warnAt := none } }
        journal := l.journal.map (fun (j : Journal) => { j with report := ended j.report }) }
      let l2 := (l1.cfg.profiles.filter (fun e => e.2.armed)).foldl (fun acc e => armProfile e.1 e.2 acc) l1
      raiseEvent 364 l2

/-- VIN has stayed above 5.0 V for 100 ms: the warning is armed (R617). -/
def laneWarningArm (l : Lane) : Lane :=
  if l.powered && l.dieOk then
    armAlarm { l with mode := { l.mode with supply := { l.mode.supply with armed := true } } }
  else l

/-- VIN at or above 4.5 V for 100 ms after an early warning: the lane starts again with cause 0 (R665). -/
def laneEarlyRestart (l : Lane) : Lane :=
  match l.mode.supply.heldAt with
  | none => l
  | some t => if l.powered && l.dieOk && decide (t + msTc 100 ≤ l.tc) then freshLane .start .vin l else l

/-! ### Power -/

/-- The lane's rails go down: everything but flash, OTP, the keep-alive domain and the board's pins is lost; the warning
is disarmed until VIN meets R617 again. -/
def powerOff (l : Lane) : Lane :=
  if !l.powered then l
  else
    let l1 := freshLane .start .vin { l with powered := false, host := .reset }
    { l1 with mode := { l1.mode with supply := { armed := false, warnAt := none, heldAt := none } } }

/-- The supervisor releases the lane from reset with start cause 0 (R658, R660). -/
def powerOn (l : Lane) : Lane :=
  if l.powered then l else freshLane .start .vin { l with powered := true, host := .reset }

/-- Without VIN a keep-alive domain whose supply falls below 2.0 V loses its wrap key and RTC (R661). -/
def laneKeepAliveLoss (l : Lane) : Lane :=
  if l.powered then l
  else { l with rtc := none, vault := { l.vault with wrap := none, supplyLost := true } }

/-- The lane's die or regulator stops without warning: it sends nothing more (R540). -/
def laneDieFailure (l : Lane) : Lane := { l with dieOk := false }

/-! ### Junction temperature (R681) -/

/-- The reason code of unhealthiness by the junction. -/
def junctionUnhealthy : Nat := 17

/-- The sensor's reading, and whether it has reached the limit of R681. -/
def setOverheat (celsius : Int) (on : Bool) (l : Lane) : Lane :=
  let l1 := setJunction celsius l
  { l1 with health := { l1.health with overheat := on } }

/-- The sensor has read 120 °C or more for 1 s: UNHEALTHY and Ochre alarm 376. -/
def laneOverheat (celsius : Int) (l : Lane) : Lane :=
  if !dieRuns l || celsius < 120 then l
  else declareUnhealthy junctionUnhealthy (raiseCond 376 (setOverheat celsius true l))

/-- The sensor has stayed at or below 110 °C for 10 s: the reason and the alarm clear. -/
def laneOverheatClear (celsius : Int) (l : Lane) : Lane :=
  if !dieRuns l || 110 < celsius || !l.health.overheat then l
  else clearUnhealthy junctionUnhealthy (dropCond 376 (setOverheat celsius false l))

end Sys2Proof.Machine
end

