-- ==== Sys2Proof/Machine/ExecSupply.lean ====
section
/-!
DEFINITION. The commands of the supply and the junction (chapters 18 and 21) on the package.
-/
namespace Sys2Proof.Machine

/-- VIN_POWER_UP (R660). -/
def execVinPowerUp (e : PackageStamp) (s : State) : Host.Outcome State Fault Refusal :=
  if s.overvoltage then runBoth e id s else runBoth e powerOn s

/-- VIN_WARNING (R615). -/
def execVinWarning (e : Stamp) (mv : Nat) (s : State) : Host.Outcome State Fault Refusal :=
  runLane e (laneVinWarning mv) s

/-- RIDE_THROUGH (R616). -/
def execRideThrough (e : Stamp) (s : State) : Host.Outcome State Fault Refusal := runLane e laneRideThrough s

/-- VIN_WARNING_ARM (R617). -/
def execVinWarningArm (e : Stamp) (s : State) : Host.Outcome State Fault Refusal := runLane e laneWarningArm s

/-- EARLY_WARNING_RESTART (R665). -/
def execEarlyWarningRestart (e : Stamp) (s : State) : Host.Outcome State Fault Refusal := runLane e laneEarlyRestart s

/-- VIN_OVERVOLTAGE (R658). -/
def execVinOvervoltage (e : PackageStamp) (s : State) : Host.Outcome State Fault Refusal :=
  runBoth e powerOff { s with overvoltage := true }

/-- OVERVOLTAGE_RESTART (R658). -/
def execOvervoltageRestart (e : PackageStamp) (s : State) : Host.Outcome State Fault Refusal :=
  if s.overvoltage then runBoth e powerOn { s with overvoltage := false } else runBoth e id s

/-- JUNCTION_OVERHEAT (R681). -/
def execJunctionOverheat (e : Stamp) (celsius : Int) (s : State) : Host.Outcome State Fault Refusal :=
  runLane e (laneOverheat celsius) s

/-- JUNCTION_OVERHEAT_CLEAR (R681). -/
def execJunctionOverheatClear (e : Stamp) (celsius : Int) (s : State) : Host.Outcome State Fault Refusal :=
  runLane e (laneOverheatClear celsius) s

/-- VIN_SUPPLY_LOSS (R34). -/
def execVinSupplyLoss (e : PackageStamp) (s : State) : Host.Outcome State Fault Refusal :=
  runBoth e powerOff { s with overvoltage := false }

/-- KEEP_ALIVE_SUPPLY_LOSS (R661). -/
def execKeepAliveSupplyLoss (e : Stamp) (s : State) : Host.Outcome State Fault Refusal :=
  if s.overvoltage then runLane e id s else runLane e laneKeepAliveLoss s

/-- LANE_DIE_FAILURE (R540). -/
def execLaneDieFailure (e : Stamp) (s : State) : Host.Outcome State Fault Refusal := runLane e laneDieFailure s

end Sys2Proof.Machine
end

