-- ==== Sys2Proof/Machine/ExecSwatch.lean ====
section
/-!
DEFINITION. The commands of the Swatch and of rewind marks (chapter 12) on the package.
-/
namespace Sys2Proof.Machine

/-- TRIGGER_SET_READ (R415). -/
def execTriggerSetRead (e : Stamp) (r : Request) (s : State) : Host.Outcome State Fault Refusal :=
  runLane e (laneTriggerRead r) s

/-- TRIGGER_SET_SET (R415). -/
def execTriggerSetSet (e : Stamp) (r : Request) (s : State) : Host.Outcome State Fault Refusal :=
  runLane e (laneTriggerSet r) s

/-- SWATCH_ARM_ARM (R412). -/
def execSwatchArmArm (e : Stamp) (r : Request) (s : State) : Host.Outcome State Fault Refusal := runLane e (laneArm r) s

/-- SWATCH_ARM_DISARM (R413). -/
def execSwatchArmDisarm (e : Stamp) (r : Request) (s : State) : Host.Outcome State Fault Refusal :=
  runLane e (laneDisarm r) s

/-- SWATCH_ARM_REARM (R413). -/
def execSwatchArmRearm (e : Stamp) (r : Request) (s : State) : Host.Outcome State Fault Refusal :=
  runLane e (laneRearmOp r) s

/-- SWATCH_TRIGGER (R436). -/
def execSwatchTrigger (e : Stamp) (r : Request) (s : State) : Host.Outcome State Fault Refusal :=
  runLane e (laneSwatchTrigger r) s

/-- SWATCH_KEEP (R438). -/
def execSwatchKeep (e : Stamp) (r : Request) (s : State) : Host.Outcome State Fault Refusal :=
  runLane e (laneSwatchKeep r) s

/-- SWATCH_DELETE (R439). -/
def execSwatchDelete (e : Stamp) (r : Request) (s : State) : Host.Outcome State Fault Refusal :=
  runLane e (laneSwatchDelete r) s

/-- SWATCH_INDEX_READ (R440). -/
def execSwatchIndexRead (e : Stamp) (r : Request) (s : State) : Host.Outcome State Fault Refusal :=
  runLane e (laneIndexRead r) s

/-- SKEW_TABLE_SET (R420). -/
def execSkewTableSet (e : Stamp) (r : Request) (s : State) : Host.Outcome State Fault Refusal :=
  runLane e (laneSkewSet r) s

/-- MARK_SET_SET (R442). -/
def execMarkSetSet (e : Stamp) (r : Request) (s : State) : Host.Outcome State Fault Refusal :=
  runLane e (laneMarkSet r) s

/-- MARK_SET_CLEAR (R442). -/
def execMarkSetClear (e : Stamp) (r : Request) (s : State) : Host.Outcome State Fault Refusal :=
  runLane e (laneMarkClear r) s

/-- MARK_READ (R444). -/
def execMarkRead (e : Stamp) (r : Request) (s : State) : Host.Outcome State Fault Refusal :=
  runLane e (laneMarkRead r) s

/-- TRIGGER_VALUE_EVALUATE (R417). -/
def execTriggerValueEvaluate (e : Stamp) (s : State) : Host.Outcome State Fault Refusal :=
  runLane e laneTriggerEvaluate s

/-- SWT_PIN_EDGE (R416). -/
def execSwtPinEdge (e : Stamp) (pin : Fin 2) (level : Bool) (held : Nat) (s : State) : Host.Outcome State Fault Refusal :=
  runLane e (lanePinEdge pin level held) s

/-- SWATCH_SAMPLE_ARRIVAL (R414). -/
def execSwatchSampleArrival (e : Stamp) (s : State) : Host.Outcome State Fault Refusal := runLane e laneSampleArrival s

/-- SWATCH_ROW_WAIT_EXPIRY (R414). -/
def execSwatchRowWaitExpiry (e : Stamp) (profile : Fin 16) (s : State) : Host.Outcome State Fault Refusal :=
  runLane e (laneRowWait profile) s

/-- PROFILE_REARM (R426). -/
def execProfileRearm (e : Stamp) (profile : Fin 16) (s : State) : Host.Outcome State Fault Refusal :=
  runLane e (laneRearm profile) s

/-- WRITE_BUFFER_HALVING (R430). -/
def execWriteBufferHalving (e : Stamp) (level : Nat) (s : State) : Host.Outcome State Fault Refusal :=
  runLane e (laneHalving level) s

/-- ROW_RATE_RESTORE (R431). -/
def execRowRateRestore (e : Stamp) (level : Nat) (s : State) : Host.Outcome State Fault Refusal :=
  runLane e (laneRateRestore level) s

end Sys2Proof.Machine
end

