-- ==== Sys2Proof/Machine/ExecTime.lean ====
section
/-!
DEFINITION. The commands of Tension (chapter 13) on the package.
-/
namespace Sys2Proof.Machine

/-- TIME_REF_SET (R452). -/
def execTimeRefSet (e : Stamp) (r : Request) (s : State) : Host.Outcome State Fault Refusal :=
  runLane e (laneTimeRefSet r) s

/-- PTP_PORT_SET (R457). -/
def execPtpPortSet (e : Stamp) (r : Request) (s : State) : Host.Outcome State Fault Refusal :=
  runLane e (lanePtpPortSet r) s

/-- SERVO_SET (R463). -/
def execServoSet (e : Stamp) (r : Request) (s : State) : Host.Outcome State Fault Refusal :=
  runLane e (laneServoSet r) s

/-- UTC_OFFSET_SET (R473). -/
def execUtcOffsetSet (e : Stamp) (r : Request) (s : State) : Host.Outcome State Fault Refusal :=
  runLane e (laneUtcOffsetSet r) s

/-- TIME_QUERY (R478). -/
def execTimeQuery (e : Stamp) (r : Request) (s : State) : Host.Outcome State Fault Refusal :=
  runLane e (laneTimeQuery r) s

/-- PTP_SYNC_RECEIVE (R456). -/
def execPtpSyncReceive (e : Stamp) (m : PtpEvent) (s : State) : Host.Outcome State Fault Refusal :=
  runLane e (lanePtpSync m) s

/-- PTP_FOLLOW_UP_RECEIVE (R456). -/
def execPtpFollowUpReceive (e : Stamp) (m : PtpEvent) (s : State) : Host.Outcome State Fault Refusal :=
  runLane e (lanePtpFollowUp m) s

/-- PDELAY_REQ_RECEIVE (R453). -/
def execPdelayReqReceive (e : Stamp) (port : Fin 12) (domain version seq : Nat) (s : State) : Host.Outcome State Fault Refusal :=
  runLane e (lanePdelayReq port domain version seq) s

/-- PDELAY_RESP_RECEIVE (R456). -/
def execPdelayRespReceive (e : Stamp) (m : PdelayAnswer) (s : State) : Host.Outcome State Fault Refusal :=
  runLane e (lanePdelayResp m) s

/-- ANNOUNCE_RECEIVE (R454). -/
def execAnnounceReceive (e : Stamp) (a : Announce) (s : State) : Host.Outcome State Fault Refusal :=
  runLane e (laneAnnounce a) s

/-- PTP_MASTER_SEND (R453). -/
def execPtpMasterSend (e : Stamp) (port : Fin 12) (s : State) : Host.Outcome State Fault Refusal :=
  runLane e (lanePtpMasterSend port) s

/-- PPS_EDGE (R458). -/
def execPpsEdge (e : Stamp) (edge : Nat) (s : State) : Host.Outcome State Fault Refusal :=
  runLane e (lanePpsEdge edge) s

/-- TOD_MESSAGE_RECEIVE (R458). -/
def execTodMessageReceive (e : Stamp) (m : TodMessage) (s : State) : Host.Outcome State Fault Refusal :=
  runLane e (laneTod m) s

/-- IRIG_FRAME_RECEIVE (R458). -/
def execIrigFrameReceive (e : Stamp) (f : IrigFrame) (s : State) : Host.Outcome State Fault Refusal :=
  runLane e (laneIrig f) s

/-- REFERENCE_LOSS (R450). -/
def execReferenceLoss (e : Stamp) (k : RefKind) (s : State) : Host.Outcome State Fault Refusal :=
  runLane e (laneReferenceLoss k) s

/-- REVERT_EXPIRY (R451). -/
def execRevertExpiry (e : Stamp) (s : State) : Host.Outcome State Fault Refusal := runLane e laneRevertExpiry s

/-- UNLOCK_BOUND_CROSS (R465). -/
def execUnlockBoundCross (e : Stamp) (s : State) : Host.Outcome State Fault Refusal := runLane e laneUnlockCross s

/-- REF10M_QUALIFY (R459). -/
def execRef10mQualify (e : Stamp) (s : State) : Host.Outcome State Fault Refusal := runLane e laneRef10mQualify s

/-- REF10M_LOST (R459). -/
def execRef10mLost (e : Stamp) (s : State) : Host.Outcome State Fault Refusal := runLane e laneRef10mLost s

/-- RTC_WRITE (R449). -/
def execRtcWrite (e : Stamp) (s : State) : Host.Outcome State Fault Refusal := runLane e laneRtcWrite s

/-- TEMP_TABLE_LEARN (R466). -/
def execTempTableLearn (e : Stamp) (s : State) : Host.Outcome State Fault Refusal := runLane e laneTempLearn s

/-- LEAP_OFFSET_CHANGE (R469). -/
def execLeapOffsetChange (e : Stamp) (s : State) : Host.Outcome State Fault Refusal := runLane e laneLeapChange s

/-- LEAP_STATE_DISCARD (R469). -/
def execLeapStateDiscard (e : Stamp) (s : State) : Host.Outcome State Fault Refusal := runLane e laneLeapDiscard s

/-- LANE_TIME_EXCHANGE (R476). -/
def execLaneTimeExchange (e : Stamp) (s : State) : Host.Outcome State Fault Refusal := runLane e laneTimeExchange s

end Sys2Proof.Machine
end

