-- ==== Sys2Proof/Machine/Dispatch.lean ====
section
/-!
DEFINITION. The dispatch of commands: one arm per constructor.
-/
namespace Sys2Proof.Machine

/-- The effect of a command on everything but the queue. -/
def exec (i : Instr) (s : State) : Host.Outcome State Fault Refusal :=
  match i with
  | .glegalRequestArrival e vlan r => Sys2Proof.Machine.execGlegalRequestArrival e vlan r s
  | .needleDispatch e => Sys2Proof.Machine.execNeedleDispatch e s
  | .delayListTick e => Sys2Proof.Machine.execDelayListTick e s
  | .abortTakesEffect e => Sys2Proof.Machine.execAbortTakesEffect e s
  | .glegalDatagramReceive e vlan addr fragment d => Sys2Proof.Machine.execGlegalDatagramReceive e vlan addr fragment d s
  | .nop e r => Sys2Proof.Machine.execNop e r s
  | .hello e vlan r => Sys2Proof.Machine.execHello e vlan r s
  | .abort e r => Sys2Proof.Machine.execAbort e r s
  | .cancel e r => Sys2Proof.Machine.execCancel e r s
  | .needleGroupSet e r => Sys2Proof.Machine.execNeedleGroupSet e r s
  | .needleStatus e r => Sys2Proof.Machine.execNeedleStatus e r s
  | .streamAdd e r => Sys2Proof.Machine.execStreamAdd e r s
  | .streamModifySet e r => Sys2Proof.Machine.execStreamModifySet e r s
  | .streamModifyAdopt e r => Sys2Proof.Machine.execStreamModifyAdopt e r s
  | .streamModifyCfgChunk e r => Sys2Proof.Machine.execStreamModifyCfgChunk e r s
  | .streamModifyAcceptCfg e r => Sys2Proof.Machine.execStreamModifyAcceptCfg e r s
  | .streamModifySuspend e r => Sys2Proof.Machine.execStreamModifySuspend e r s
  | .streamModifyResume e r => Sys2Proof.Machine.execStreamModifyResume e r s
  | .streamRemove e r => Sys2Proof.Machine.execStreamRemove e r s
  | .streamQuery e r => Sys2Proof.Machine.execStreamQuery e r s
  | .streamLearnSet e r => Sys2Proof.Machine.execStreamLearnSet e r s
  | .streamAuthSet e r => Sys2Proof.Machine.execStreamAuthSet e r s
  | .ethernetFrameReceive e port f => Sys2Proof.Machine.execEthernetFrameReceive e port f s
  | .pmuDataFrameDecode e port => Sys2Proof.Machine.execPmuDataFrameDecode e port s
  | .configurationFrameReceive e stream f => Sys2Proof.Machine.execConfigurationFrameReceive e stream f s
  | .configurationRequestRetry e stream => Sys2Proof.Machine.execConfigurationRequestRetry e stream s
  | .pmuTcpConnectAttempt e stream => Sys2Proof.Machine.execPmuTcpConnectAttempt e stream s
  | .pmuTcpConnectionOpen e stream => Sys2Proof.Machine.execPmuTcpConnectionOpen e stream s
  | .pmuTcpConnectionClose e stream => Sys2Proof.Machine.execPmuTcpConnectionClose e stream s
  | .svFrameDecode e port => Sys2Proof.Machine.execSvFrameDecode e port s
  | .routedSvDecode e port => Sys2Proof.Machine.execRoutedSvDecode e port s
  | .gooseSubscriptionDecode e port => Sys2Proof.Machine.execGooseSubscriptionDecode e port s
  | .gooseTalExpiry e stream => Sys2Proof.Machine.execGooseTalExpiry e stream s
  | .polledAsduDecode e port => Sys2Proof.Machine.execPolledAsduDecode e port s
  | .learnedContextIdleExpiry e stream => Sys2Proof.Machine.execLearnedContextIdleExpiry e stream s
  | .queueSetRead e r => Sys2Proof.Machine.execQueueSetRead e r s
  | .queueSetSet e r => Sys2Proof.Machine.execQueueSetSet e r s
  | .queueFlush e read written r => Sys2Proof.Machine.execQueueFlush e read written r s
  | .queueDropRest e read written r => Sys2Proof.Machine.execQueueDropRest e read written r s
  | .queueWriteUnblock e queue => Sys2Proof.Machine.execQueueWriteUnblock e queue s
  | .pauseFrameSend e port => Sys2Proof.Machine.execPauseFrameSend e port s
  | .pauseRepeat e port => Sys2Proof.Machine.execPauseRepeat e port s
  | .peChannelSet e r => Sys2Proof.Machine.execPeChannelSet e r s
  | .peBankLoad e r => Sys2Proof.Machine.execPeBankLoad e r s
  | .peBankSwap e r => Sys2Proof.Machine.execPeBankSwap e r s
  | .peReset e r => Sys2Proof.Machine.execPeReset e r s
  | .peQuery e r => Sys2Proof.Machine.execPeQuery e r s
  | .phasorOutput e stream channel => Sys2Proof.Machine.execPhasorOutput e stream channel s
  | .alignerValueWrite e => Sys2Proof.Machine.execAlignerValueWrite e s
  | .courseInstantReached e plane => Sys2Proof.Machine.execCourseInstantReached e plane s
  | .deadlineTick e plane => Sys2Proof.Machine.execDeadlineTick e plane s
  | .quorumTick e plane => Sys2Proof.Machine.execQuorumTick e plane s
  | .waleHistoryWrite e late => Sys2Proof.Machine.execWaleHistoryWrite e late s
  | .planeCreate e r => Sys2Proof.Machine.execPlaneCreate e r s
  | .planeModifySet e r => Sys2Proof.Machine.execPlaneModifySet e r s
  | .planeModifyMapWrite e r => Sys2Proof.Machine.execPlaneModifyMapWrite e r s
  | .planeModifyMapSwitch e r => Sys2Proof.Machine.execPlaneModifyMapSwitch e r s
  | .planeModifyMapClear e r => Sys2Proof.Machine.execPlaneModifyMapClear e r s
  | .planeModifyStop e r => Sys2Proof.Machine.execPlaneModifyStop e r s
  | .planeDelete e r => Sys2Proof.Machine.execPlaneDelete e r s
  | .planeQuery e r => Sys2Proof.Machine.execPlaneQuery e r s
  | .waleRead e r => Sys2Proof.Machine.execWaleRead e r s
  | .castOn e part => Sys2Proof.Machine.execCastOn e part s
  | .bundleIssue e part err => Sys2Proof.Machine.execBundleIssue e part err s
  | .arrayResultWrite e part => Sys2Proof.Machine.execArrayResultWrite e part s
  | .storeMemoryWrite e part => Sys2Proof.Machine.execStoreMemoryWrite e part s
  | .networkLatchArrival e part => Sys2Proof.Machine.execNetworkLatchArrival e part s
  | .bindOff e part bad err => Sys2Proof.Machine.execBindOff e part bad err s
  | .roundBoundaryApply e part => Sys2Proof.Machine.execRoundBoundaryApply e part s
  | .roundRetry e part failing => Sys2Proof.Machine.execRoundRetry e part failing s
  | .tileRepair e lost => Sys2Proof.Machine.execTileRepair e lost s
  | .spareSelfTestFailure e row => Sys2Proof.Machine.execSpareSelfTestFailure e row s
  | .throttleEntry e => Sys2Proof.Machine.execThrottleEntry e s
  | .throttleExit e => Sys2Proof.Machine.execThrottleExit e s
  | .arrayQuery e r => Sys2Proof.Machine.execArrayQuery e r s
  | .patternLoadChunk e r => Sys2Proof.Machine.execPatternLoadChunk e r s
  | .patternLoadLibrary e r => Sys2Proof.Machine.execPatternLoadLibrary e r s
  | .patternLoadRelease e r => Sys2Proof.Machine.execPatternLoadRelease e r s
  | .patternVerificationComplete e part => Sys2Proof.Machine.execPatternVerificationComplete e part s
  | .patternSwap e r => Sys2Proof.Machine.execPatternSwap e r s
  | .patternParamSet e r => Sys2Proof.Machine.execPatternParamSet e r s
  | .patternQuery e r => Sys2Proof.Machine.execPatternQuery e r s
  | .resultRead e r => Sys2Proof.Machine.execResultRead e r s
  | .variantStageChunk e r => Sys2Proof.Machine.execVariantStageChunk e r s
  | .variantStageStage e r => Sys2Proof.Machine.execVariantStageStage e r s
  | .variantStageDelete e r => Sys2Proof.Machine.execVariantStageDelete e r s
  | .variantSelect e r => Sys2Proof.Machine.execVariantSelect e r s
  | .alarmHoldExpiry e alarm => Sys2Proof.Machine.execAlarmHoldExpiry e alarm s
  | .alarmRouteSet e r => Sys2Proof.Machine.execAlarmRouteSet e r s
  | .goosePubSet e r => Sys2Proof.Machine.execGoosePubSet e r s
  | .gooseRepeat e pub => Sys2Proof.Machine.execGooseRepeat e pub s
  | .sessionOpen e r => Sys2Proof.Machine.execSessionOpen e r s
  | .sessionModify e r => Sys2Proof.Machine.execSessionModify e r s
  | .sessionAnnounceCommit e session => Sys2Proof.Machine.execSessionAnnounceCommit e session s
  | .sessionClose e r => Sys2Proof.Machine.execSessionClose e r s
  | .publishQuery e r => Sys2Proof.Machine.execPublishQuery e r s
  | .derivedStreamCreate e r => Sys2Proof.Machine.execDerivedStreamCreate e r s
  | .derivedStreamRemove e r => Sys2Proof.Machine.execDerivedStreamRemove e r s
  | .sessionDataOff e session idcode chk => Sys2Proof.Machine.execSessionDataOff e session idcode chk s
  | .sessionDataOn e session idcode chk => Sys2Proof.Machine.execSessionDataOn e session idcode chk s
  | .sessionSendHeader e session idcode chk => Sys2Proof.Machine.execSessionSendHeader e session idcode chk s
  | .sessionSendCfg1 e session idcode chk => Sys2Proof.Machine.execSessionSendCfg1 e session idcode chk s
  | .sessionSendCfg2 e session idcode chk => Sys2Proof.Machine.execSessionSendCfg2 e session idcode chk s
  | .sessionSendCfg3 e session idcode chk => Sys2Proof.Machine.execSessionSendCfg3 e session idcode chk s
  | .sessionTcpConnect e session addr => Sys2Proof.Machine.execSessionTcpConnect e session addr s
  | .egressFrameTransmit e port underrun => Sys2Proof.Machine.execEgressFrameTransmit e port underrun s
  | .triggerSetRead e r => Sys2Proof.Machine.execTriggerSetRead e r s
  | .triggerSetSet e r => Sys2Proof.Machine.execTriggerSetSet e r s
  | .swatchArmArm e r => Sys2Proof.Machine.execSwatchArmArm e r s
  | .swatchArmDisarm e r => Sys2Proof.Machine.execSwatchArmDisarm e r s
  | .swatchArmRearm e r => Sys2Proof.Machine.execSwatchArmRearm e r s
  | .swatchTrigger e r => Sys2Proof.Machine.execSwatchTrigger e r s
  | .swatchKeep e r => Sys2Proof.Machine.execSwatchKeep e r s
  | .swatchDelete e r => Sys2Proof.Machine.execSwatchDelete e r s
  | .swatchIndexRead e r => Sys2Proof.Machine.execSwatchIndexRead e r s
  | .skewTableSet e r => Sys2Proof.Machine.execSkewTableSet e r s
  | .markSetSet e r => Sys2Proof.Machine.execMarkSetSet e r s
  | .markSetClear e r => Sys2Proof.Machine.execMarkSetClear e r s
  | .markRead e r => Sys2Proof.Machine.execMarkRead e r s
  | .triggerValueEvaluate e => Sys2Proof.Machine.execTriggerValueEvaluate e s
  | .swtPinEdge e pin level held => Sys2Proof.Machine.execSwtPinEdge e pin level held s
  | .swatchSampleArrival e => Sys2Proof.Machine.execSwatchSampleArrival e s
  | .swatchRowWaitExpiry e profile => Sys2Proof.Machine.execSwatchRowWaitExpiry e profile s
  | .profileRearm e profile => Sys2Proof.Machine.execProfileRearm e profile s
  | .writeBufferHalving e level => Sys2Proof.Machine.execWriteBufferHalving e level s
  | .rowRateRestore e level => Sys2Proof.Machine.execRowRateRestore e level s
  | .timeRefSet e r => Sys2Proof.Machine.execTimeRefSet e r s
  | .ptpPortSet e r => Sys2Proof.Machine.execPtpPortSet e r s
  | .servoSet e r => Sys2Proof.Machine.execServoSet e r s
  | .utcOffsetSet e r => Sys2Proof.Machine.execUtcOffsetSet e r s
  | .timeQuery e r => Sys2Proof.Machine.execTimeQuery e r s
  | .ptpSyncReceive e m => Sys2Proof.Machine.execPtpSyncReceive e m s
  | .ptpFollowUpReceive e m => Sys2Proof.Machine.execPtpFollowUpReceive e m s
  | .pdelayReqReceive e port domain version seq => Sys2Proof.Machine.execPdelayReqReceive e port domain version seq s
  | .pdelayRespReceive e m => Sys2Proof.Machine.execPdelayRespReceive e m s
  | .announceReceive e a => Sys2Proof.Machine.execAnnounceReceive e a s
  | .ptpMasterSend e port => Sys2Proof.Machine.execPtpMasterSend e port s
  | .ppsEdge e edge => Sys2Proof.Machine.execPpsEdge e edge s
  | .todMessageReceive e m => Sys2Proof.Machine.execTodMessageReceive e m s
  | .irigFrameReceive e f => Sys2Proof.Machine.execIrigFrameReceive e f s
  | .referenceLoss e k => Sys2Proof.Machine.execReferenceLoss e k s
  | .revertExpiry e => Sys2Proof.Machine.execRevertExpiry e s
  | .unlockBoundCross e => Sys2Proof.Machine.execUnlockBoundCross e s
  | .ref10mQualify e => Sys2Proof.Machine.execRef10mQualify e s
  | .ref10mLost e => Sys2Proof.Machine.execRef10mLost e s
  | .rtcWrite e => Sys2Proof.Machine.execRtcWrite e s
  | .tempTableLearn e => Sys2Proof.Machine.execTempTableLearn e s
  | .leapOffsetChange e => Sys2Proof.Machine.execLeapOffsetChange e s
  | .leapStateDiscard e => Sys2Proof.Machine.execLeapStateDiscard e s
  | .laneTimeExchange e => Sys2Proof.Machine.execLaneTimeExchange e s
  | .startTimeWaitExpiry e => Sys2Proof.Machine.execStartTimeWaitExpiry e s
  | .portSet e r => Sys2Proof.Machine.execPortSet e r s
  | .classifierSet e r => Sys2Proof.Machine.execClassifierSet e r s
  | .wakeSet e r => Sys2Proof.Machine.execWakeSet e r s
  | .pollTableSetRead e r => Sys2Proof.Machine.execPollTableSetRead e r s
  | .pollTableSetWrite e r => Sys2Proof.Machine.execPollTableSetWrite e r s
  | .portCounters e r => Sys2Proof.Machine.execPortCounters e r s
  | .pauseTimerExpiry e port => Sys2Proof.Machine.execPauseTimerExpiry e port s
  | .linkUp e port => Sys2Proof.Machine.execLinkUp e port s
  | .linkDown e port => Sys2Proof.Machine.execLinkDown e port s
  | .wakeFrame e port f => Sys2Proof.Machine.execWakeFrame e port f s
  | .pollRequestSend e port => Sys2Proof.Machine.execPollRequestSend e port s
  | .serialResponseReceive e port octets charError => Sys2Proof.Machine.execSerialResponseReceive e port octets charError s
  | .responseTimeout e port => Sys2Proof.Machine.execResponseTimeout e port s
  | .offlineRetryExpiry e port entry => Sys2Proof.Machine.execOfflineRetryExpiry e port entry s
  | .unsolicitedCharacter e port count => Sys2Proof.Machine.execUnsolicitedCharacter e port count s
  | .meshSet e first retry r => Sys2Proof.Machine.execMeshSet e first retry r s
  | .meshNodeAdd e r => Sys2Proof.Machine.execMeshNodeAdd e r s
  | .meshNodeRemove e r => Sys2Proof.Machine.execMeshNodeRemove e r s
  | .meshSlotAssignAssign e r => Sys2Proof.Machine.execMeshSlotAssignAssign e r s
  | .meshSlotAssignRelease e r => Sys2Proof.Machine.execMeshSlotAssignRelease e r s
  | .meshQuery e r => Sys2Proof.Machine.execMeshQuery e r s
  | .meshSlotStart e radio coin => Sys2Proof.Machine.execMeshSlotStart e radio coin s
  | .picotFrameReceive e radio ok psdu riseAgo fallAgo => Sys2Proof.Machine.execPicotFrameReceive e radio ok psdu riseAgo fallAgo s
  | .meshAckSend e radio => Sys2Proof.Machine.execMeshAckSend e radio s
  | .meshReportDelivery e radio => Sys2Proof.Machine.execMeshReportDelivery e radio s
  | .meshBeaconMiss e radio => Sys2Proof.Machine.execMeshBeaconMiss e radio s
  | .meshScanChannelExpiry e radio => Sys2Proof.Machine.execMeshScanChannelExpiry e radio s
  | .meshSupervisionTimeout e radio child => Sys2Proof.Machine.execMeshSupervisionTimeout e radio child s
  | .joinResponseWaitExpiry e radio => Sys2Proof.Machine.execJoinResponseWaitExpiry e radio s
  | .seenCacheExpiry e radio => Sys2Proof.Machine.execSeenCacheExpiry e radio s
  | .plySet e r => Sys2Proof.Machine.execPlySet e r s
  | .plyPairPair e r => Sys2Proof.Machine.execPlyPairPair e r s
  | .plyPairUnpair e r => Sys2Proof.Machine.execPlyPairUnpair e r s
  | .leaseHandover e r => Sys2Proof.Machine.execLeaseHandover e r s
  | .plyQuery e r => Sys2Proof.Machine.execPlyQuery e r s
  | .witnessSet e r => Sys2Proof.Machine.execWitnessSet e r s
  | .renewSend e k => Sys2Proof.Machine.execRenewSend e k s
  | .renewAckTimeout e k => Sys2Proof.Machine.execRenewAckTimeout e k s
  | .leaseExpiry e k => Sys2Proof.Machine.execLeaseExpiry e k s
  | .silenceTakeover e k => Sys2Proof.Machine.execSilenceTakeover e k s
  | .claimRepeat e k => Sys2Proof.Machine.execClaimRepeat e k s
  | .freeLeaseWaitExpiry e k => Sys2Proof.Machine.execFreeLeaseWaitExpiry e k s
  | .plyHelloPeriodic e => Sys2Proof.Machine.execPlyHelloPeriodic e s
  | .witnessPing e k => Sys2Proof.Machine.execWitnessPing e k s
  | .witnessUnavailable e k => Sys2Proof.Machine.execWitnessUnavailable e k s
  | .offerTimeout e => Sys2Proof.Machine.execOfferTimeout e s
  | .plyIdleFrame e link => Sys2Proof.Machine.execPlyIdleFrame e link s
  | .plyFrameReceive e link x bad => Sys2Proof.Machine.execPlyFrameReceive e link x bad s
  | .plyLinkLoss e link => Sys2Proof.Machine.execPlyLinkLoss e link s
  | .plyLinkRetrain e link => Sys2Proof.Machine.execPlyLinkRetrain e link s
  | .plyHello e m h => Sys2Proof.Machine.execPlyHello e m h s
  | .plyRenew e m lease epoch counter periodUs guardUs => Sys2Proof.Machine.execPlyRenew e m lease epoch counter periodUs guardUs s
  | .plyRenewAck e m lease epoch counter state => Sys2Proof.Machine.execPlyRenewAck e m lease epoch counter state s
  | .plyYield e m lease epoch => Sys2Proof.Machine.execPlyYield e m lease epoch s
  | .plyRelease e m lease epoch successor reason => Sys2Proof.Machine.execPlyRelease e m lease epoch successor reason s
  | .plyOffer e m lease epoch target => Sys2Proof.Machine.execPlyOffer e m lease epoch target s
  | .plyAccept e m lease epoch target => Sys2Proof.Machine.execPlyAccept e m lease epoch target s
  | .plyDigest e m plane swapGen absent first digests bad => Sys2Proof.Machine.execPlyDigest e m plane swapGen absent first digests bad s
  | .plyHealth e m b => Sys2Proof.Machine.execPlyHealth e m b s
  | .plyTime e m tx echoTx echoRx => Sys2Proof.Machine.execPlyTime e m tx echoTx echoRx s
  | .plyTamper e m sources time => Sys2Proof.Machine.execPlyTamper e m sources time s
  | .plyMirror e m x => Sys2Proof.Machine.execPlyMirror e m x s
  | .plyPullReq e m item offset => Sys2Proof.Machine.execPlyPullReq e m item offset s
  | .plyPullData e m c total => Sys2Proof.Machine.execPlyPullData e m c total s
  | .plyCheck e m plane result fail course bad => Sys2Proof.Machine.execPlyCheck e m plane result fail course bad s
  | .plyWitnessQuery e k kind => Sys2Proof.Machine.execPlyWitnessQuery e k kind s
  | .plyWitnessVote e q vote => Sys2Proof.Machine.execPlyWitnessVote e q vote s
  | .azwellDatagramReceive e d bad => Sys2Proof.Machine.execAzwellDatagramReceive e d bad s
  | .azwellRetransmit e m => Sys2Proof.Machine.execAzwellRetransmit e m s
  | .azwellLinkLoss e m => Sys2Proof.Machine.execAzwellLinkLoss e m s
  | .digestUnmatchedExpiry e => Sys2Proof.Machine.execDigestUnmatchedExpiry e s
  | .healthSend e => Sys2Proof.Machine.execHealthSend e s
  | .timeReasonClear e => Sys2Proof.Machine.execTimeReasonClear e s
  | .keyGenerate e r => Sys2Proof.Machine.execKeyGenerate e r s
  | .keyWrite e r => Sys2Proof.Machine.execKeyWrite e r s
  | .keyDerive e r => Sys2Proof.Machine.execKeyDerive e r s
  | .keyDelete e r => Sys2Proof.Machine.execKeyDelete e r s
  | .keyInvalidate e r => Sys2Proof.Machine.execKeyInvalidate e r s
  | .keyAttest e r => Sys2Proof.Machine.execKeyAttest e r s
  | .roleChallenge e r => Sys2Proof.Machine.execRoleChallenge e r s
  | .roleRespondTake e r => Sys2Proof.Machine.execRoleRespondTake e r s
  | .roleRespondDrop e r => Sys2Proof.Machine.execRoleRespondDrop e r s
  | .roleRespondBind e r => Sys2Proof.Machine.execRoleRespondBind e r s
  | .roleLockoutExpiry e => Sys2Proof.Machine.execRoleLockoutExpiry e s
  | .slvQueryStatus e r => Sys2Proof.Machine.execSlvQueryStatus e r s
  | .slvQuerySlots e r => Sys2Proof.Machine.execSlvQuerySlots e r s
  | .slvQueryTamperSet e r => Sys2Proof.Machine.execSlvQueryTamperSet e r s
  | .slvQueryTamperAck e r => Sys2Proof.Machine.execSlvQueryTamperAck e r s
  | .selvedgeSelfTest e first retry => Sys2Proof.Machine.execSelvedgeSelfTest e first retry s
  | .tamperDetect e sources => Sys2Proof.Machine.execTamperDetect e sources s
  | .modeSet e r => Sys2Proof.Machine.execModeSet e r s
  | .laneResetRestart e r => Sys2Proof.Machine.execLaneResetRestart e r s
  | .laneResetSalvage e r => Sys2Proof.Machine.execLaneResetSalvage e r s
  | .configCommit e r => Sys2Proof.Machine.execConfigCommit e r s
  | .configRead e r => Sys2Proof.Machine.execConfigRead e r s
  | .poolSplitSet e r => Sys2Proof.Machine.execPoolSplitSet e r s
  | .sysInfo e r => Sys2Proof.Machine.execSysInfo e r s
  | .updateBegin e r => Sys2Proof.Machine.execUpdateBegin e r s
  | .updateChunk e r => Sys2Proof.Machine.execUpdateChunk e r s
  | .updateFinish e r => Sys2Proof.Machine.execUpdateFinish e r s
  | .updateBuildComplete e built => Sys2Proof.Machine.execUpdateBuildComplete e built s
  | .updateConfirmConfirm e r => Sys2Proof.Machine.execUpdateConfirmConfirm e r s
  | .updateConfirmReject e r => Sys2Proof.Machine.execUpdateConfirmReject e r s
  | .slotSelect e r => Sys2Proof.Machine.execSlotSelect e r s
  | .startSequence e o => Sys2Proof.Machine.execStartSequence e o s
  | .startComplete e first0 retry0 first1 retry1 => Sys2Proof.Machine.execStartComplete e first0 retry0 first1 retry1 s
  | .startFailureTimeout e => Sys2Proof.Machine.execStartFailureTimeout e s
  | .imageConfirmation e => Sys2Proof.Machine.execImageConfirmation e s
  | .confirmWindowClose e => Sys2Proof.Machine.execConfirmWindowClose e s
  | .watchdogExpiry e => Sys2Proof.Machine.execWatchdogExpiry e s
  | .rstnLow e low held => Sys2Proof.Machine.execRstnLow e low held s
  | .wakePin e held => Sys2Proof.Machine.execWakePin e held s
  | .rtcWakeAlarm e => Sys2Proof.Machine.execRtcWakeAlarm e s
  | .vinPowerUp e => Sys2Proof.Machine.execVinPowerUp e s
  | .vinWarning e mv => Sys2Proof.Machine.execVinWarning e mv s
  | .rideThrough e => Sys2Proof.Machine.execRideThrough e s
  | .vinWarningArm e => Sys2Proof.Machine.execVinWarningArm e s
  | .earlyWarningRestart e => Sys2Proof.Machine.execEarlyWarningRestart e s
  | .vinOvervoltage e => Sys2Proof.Machine.execVinOvervoltage e s
  | .overvoltageRestart e => Sys2Proof.Machine.execOvervoltageRestart e s
  | .junctionOverheat e celsius => Sys2Proof.Machine.execJunctionOverheat e celsius s
  | .junctionOverheatClear e celsius => Sys2Proof.Machine.execJunctionOverheatClear e celsius s
  | .gaugeSet e r => Sys2Proof.Machine.execGaugeSet e r s
  | .gaugeSnapshot e r => Sys2Proof.Machine.execGaugeSnapshot e r s
  | .faultLogRead e r => Sys2Proof.Machine.execFaultLogRead e r s
  | .drillRun e r => Sys2Proof.Machine.execDrillRun e r s
  | .drillVerdict e v => Sys2Proof.Machine.execDrillVerdict e v s
  | .healthQuery e r => Sys2Proof.Machine.execHealthQuery e r s
  | .gaugeIntervalSample e gauge reading => Sys2Proof.Machine.execGaugeIntervalSample e gauge reading s
  | .errorRetry e site repeatOk covered => Sys2Proof.Machine.execErrorRetry e site repeatOk covered s
  | .scrubErrorFound e site corrected repeatOk => Sys2Proof.Machine.execScrubErrorFound e site corrected repeatOk s
  | .sysResetRestart e v => Sys2Proof.Machine.execSysResetRestart e v s
  | .sysResetSalvage e v => Sys2Proof.Machine.execSysResetSalvage e v s
  | .glgRingEnable e ring v => Sys2Proof.Machine.execGlgRingEnable e ring v s
  | .glgSqDoorbell e ring index entries => Sys2Proof.Machine.execGlgSqDoorbell e ring index entries s
  | .glgCqHeadWrite e ring index => Sys2Proof.Machine.execGlgCqHeadWrite e ring index s
  | .hfrTxDoorbell e index descs => Sys2Proof.Machine.execHfrTxDoorbell e index descs s
  | .hfrRxTailWrite e index addrs => Sys2Proof.Machine.execHfrRxTailWrite e index addrs s
  | .hfrRxDropRead e => Sys2Proof.Machine.execHfrRxDropRead e s
  | .intHoldoffExpiry e vector => Sys2Proof.Machine.execIntHoldoffExpiry e vector s
  | .tnsLatch e v => Sys2Proof.Machine.execTnsLatch e v s
  | .gauSelSnapshot e gauge => Sys2Proof.Machine.execGauSelSnapshot e gauge s
  | .gauSelSnapshotClear e gauge => Sys2Proof.Machine.execGauSelSnapshotClear e gauge s
  | .plyWitnessWrite e v => Sys2Proof.Machine.execPlyWitnessWrite e v s
  | .mbxDoorbell e v => Sys2Proof.Machine.execMbxDoorbell e v s
  | .mbxDoorbellBypass e v => Sys2Proof.Machine.execMbxDoorbellBypass e v s
  | .registerWrite e off v => Sys2Proof.Machine.execRegisterWrite e off v s
  | .hostAccessWhileDormant e a => Sys2Proof.Machine.execHostAccessWhileDormant e a s
  | .functionLevelReset e => Sys2Proof.Machine.execFunctionLevelReset e s
  | .pcieHotReset e => Sys2Proof.Machine.execPcieHotReset e s
  | .hostPerstn e => Sys2Proof.Machine.execHostPerstn e s
  | .hubHeartbeatSend e => Sys2Proof.Machine.execHubHeartbeatSend e s
  | .hubLost e => Sys2Proof.Machine.execHubLost e s
  | .hubReturn e => Sys2Proof.Machine.execHubReturn e s
  | .vinSupplyLoss e => Sys2Proof.Machine.execVinSupplyLoss e s
  | .keepAliveSupplyLoss e => Sys2Proof.Machine.execKeepAliveSupplyLoss e s
  | .laneDieFailure e => Sys2Proof.Machine.execLaneDieFailure e s
  | .tamperInputNormal e source => Sys2Proof.Machine.execTamperInputNormal e source s
  | .observedPollRequest e port octets => Sys2Proof.Machine.execObservedPollRequest e port octets s
  | .sessionTcpDisconnect e session => Sys2Proof.Machine.execSessionTcpDisconnect e session s

end Sys2Proof.Machine
end

