-- ==== Sys2Proof/Safety.lean ====
section
/-!
DEFINITION. What counts as a safe run: the invariants that claims name.
-/
namespace Sys2Proof
open Sys2Proof.Machine

/-- A step that goes on: neither a fault nor a refusal. -/
def goesOn (o : Host.Outcome State Fault Refusal) : Prop := ∃ t, o = .next t

/-- The lane of a stamped command when its effect begins: the tc cycles since that lane's previous command have passed. -/
def nowOf (e : Stamp) (s : State) : Lane := advance e.ticks (s.lane e.lane)

/-- A request is the named command (R59, log 8), and passes the checks made at dispatch: mode and lease (R75), the length of
its structure (R686), its op byte, and the checks of its opcode. -/
def accepted (opcode : Nat) (op : Option Nat) (check : Lane → Request → Status) (l : Lane) (r : Request) : Prop :=
  names opcode op r = true ∧ serviceStatus check l r = .ok

/-- The lane and the time of a command of one lane; none for the commands of the whole package. -/
def stampOf : Instr → Option Stamp
  | .glegalRequestArrival e .. | .needleDispatch e | .delayListTick e | .abortTakesEffect e
  | .glegalDatagramReceive e .. | .nop e .. | .hello e .. | .abort e .. | .cancel e .. | .needleGroupSet e ..
  | .needleStatus e .. | .streamAdd e .. | .streamModifySet e .. | .streamModifyAdopt e ..
  | .streamModifyCfgChunk e .. | .streamModifyAcceptCfg e .. | .streamModifySuspend e .. | .streamModifyResume e ..
  | .streamRemove e .. | .streamQuery e .. | .streamLearnSet e .. | .streamAuthSet e .. | .ethernetFrameReceive e ..
  | .pmuDataFrameDecode e .. | .configurationFrameReceive e .. | .configurationRequestRetry e ..
  | .pmuTcpConnectAttempt e .. | .pmuTcpConnectionOpen e .. | .pmuTcpConnectionClose e .. | .svFrameDecode e ..
  | .routedSvDecode e .. | .gooseSubscriptionDecode e .. | .gooseTalExpiry e .. | .polledAsduDecode e ..
  | .learnedContextIdleExpiry e .. | .queueSetRead e .. | .queueSetSet e .. | .queueFlush e .. | .queueDropRest e ..
  | .queueWriteUnblock e .. | .pauseFrameSend e .. | .pauseRepeat e .. | .peChannelSet e .. | .peBankLoad e ..
  | .peBankSwap e .. | .peReset e .. | .peQuery e .. | .phasorOutput e .. | .alignerValueWrite e
  | .courseInstantReached e .. | .deadlineTick e .. | .quorumTick e .. | .waleHistoryWrite e .. | .planeCreate e ..
  | .planeModifySet e .. | .planeModifyMapWrite e .. | .planeModifyMapSwitch e .. | .planeModifyMapClear e ..
  | .planeModifyStop e .. | .planeDelete e .. | .planeQuery e .. | .waleRead e .. | .castOn e .. | .bundleIssue e ..
  | .arrayResultWrite e .. | .storeMemoryWrite e .. | .networkLatchArrival e .. | .bindOff e ..
  | .roundBoundaryApply e .. | .roundRetry e .. | .tileRepair e .. | .spareSelfTestFailure e .. | .throttleEntry e
  | .throttleExit e | .arrayQuery e .. | .patternLoadChunk e .. | .patternLoadLibrary e .. | .patternLoadRelease e ..
  | .patternVerificationComplete e .. | .patternSwap e .. | .patternParamSet e .. | .patternQuery e ..
  | .resultRead e .. | .variantStageChunk e .. | .variantStageStage e .. | .variantStageDelete e ..
  | .variantSelect e .. | .alarmHoldExpiry e .. | .alarmRouteSet e .. | .goosePubSet e .. | .gooseRepeat e ..
  | .sessionOpen e .. | .sessionModify e .. | .sessionAnnounceCommit e .. | .sessionClose e .. | .publishQuery e ..
  | .derivedStreamCreate e .. | .derivedStreamRemove e .. | .sessionDataOff e .. | .sessionDataOn e ..
  | .sessionSendHeader e .. | .sessionSendCfg1 e .. | .sessionSendCfg2 e .. | .sessionSendCfg3 e ..
  | .sessionTcpConnect e .. | .egressFrameTransmit e .. | .triggerSetRead e .. | .triggerSetSet e ..
  | .swatchArmArm e .. | .swatchArmDisarm e .. | .swatchArmRearm e .. | .swatchTrigger e .. | .swatchKeep e ..
  | .swatchDelete e .. | .swatchIndexRead e .. | .skewTableSet e .. | .markSetSet e .. | .markSetClear e ..
  | .markRead e .. | .triggerValueEvaluate e | .swtPinEdge e .. | .swatchSampleArrival e | .swatchRowWaitExpiry e ..
  | .profileRearm e .. | .writeBufferHalving e .. | .rowRateRestore e .. | .timeRefSet e .. | .ptpPortSet e ..
  | .servoSet e .. | .utcOffsetSet e .. | .timeQuery e .. | .ptpSyncReceive e .. | .ptpFollowUpReceive e ..
  | .pdelayReqReceive e .. | .pdelayRespReceive e .. | .announceReceive e .. | .ptpMasterSend e .. | .ppsEdge e ..
  | .todMessageReceive e .. | .irigFrameReceive e .. | .referenceLoss e .. | .revertExpiry e | .unlockBoundCross e
  | .ref10mQualify e | .ref10mLost e | .rtcWrite e | .tempTableLearn e | .leapOffsetChange e | .leapStateDiscard e
  | .laneTimeExchange e | .startTimeWaitExpiry e | .portSet e .. | .classifierSet e .. | .wakeSet e ..
  | .pollTableSetRead e .. | .pollTableSetWrite e .. | .portCounters e .. | .pauseTimerExpiry e .. | .linkUp e ..
  | .linkDown e .. | .wakeFrame e .. | .pollRequestSend e .. | .serialResponseReceive e .. | .responseTimeout e ..
  | .offlineRetryExpiry e .. | .unsolicitedCharacter e .. | .meshSet e .. | .meshNodeAdd e .. | .meshNodeRemove e ..
  | .meshSlotAssignAssign e .. | .meshSlotAssignRelease e .. | .meshQuery e .. | .meshSlotStart e ..
  | .picotFrameReceive e .. | .meshAckSend e .. | .meshReportDelivery e .. | .meshBeaconMiss e ..
  | .meshScanChannelExpiry e .. | .meshSupervisionTimeout e .. | .joinResponseWaitExpiry e .. | .seenCacheExpiry e ..
  | .plySet e .. | .plyPairPair e .. | .plyPairUnpair e .. | .leaseHandover e .. | .plyQuery e .. | .witnessSet e ..
  | .renewSend e .. | .renewAckTimeout e .. | .leaseExpiry e .. | .silenceTakeover e .. | .claimRepeat e ..
  | .freeLeaseWaitExpiry e .. | .plyHelloPeriodic e | .witnessPing e .. | .witnessUnavailable e .. | .offerTimeout e
  | .plyIdleFrame e .. | .plyFrameReceive e .. | .plyLinkLoss e .. | .plyLinkRetrain e .. | .plyHello e ..
  | .plyRenew e .. | .plyRenewAck e .. | .plyYield e .. | .plyRelease e .. | .plyOffer e .. | .plyAccept e ..
  | .plyDigest e .. | .plyHealth e .. | .plyTime e .. | .plyTamper e .. | .plyMirror e .. | .plyPullReq e ..
  | .plyPullData e .. | .plyCheck e .. | .plyWitnessQuery e .. | .plyWitnessVote e .. | .azwellDatagramReceive e ..
  | .azwellRetransmit e .. | .azwellLinkLoss e .. | .digestUnmatchedExpiry e | .healthSend e | .timeReasonClear e
  | .keyGenerate e .. | .keyWrite e .. | .keyDerive e .. | .keyDelete e .. | .keyInvalidate e .. | .keyAttest e ..
  | .roleChallenge e .. | .roleRespondTake e .. | .roleRespondDrop e .. | .roleRespondBind e .. | .roleLockoutExpiry e
  | .slvQueryStatus e .. | .slvQuerySlots e .. | .slvQueryTamperSet e .. | .slvQueryTamperAck e ..
  | .selvedgeSelfTest e .. | .tamperDetect e .. | .modeSet e .. | .laneResetRestart e .. | .laneResetSalvage e ..
  | .configCommit e .. | .configRead e .. | .poolSplitSet e .. | .sysInfo e .. | .updateBegin e .. | .updateChunk e ..
  | .updateFinish e .. | .updateBuildComplete e .. | .updateConfirmConfirm e .. | .updateConfirmReject e ..
  | .slotSelect e .. | .startSequence e .. | .startComplete e .. | .startFailureTimeout e | .imageConfirmation e
  | .confirmWindowClose e | .watchdogExpiry e | .rstnLow e .. | .wakePin e .. | .rtcWakeAlarm e | .vinWarning e ..
  | .rideThrough e | .vinWarningArm e | .earlyWarningRestart e | .junctionOverheat e .. | .junctionOverheatClear e ..
  | .gaugeSet e .. | .gaugeSnapshot e .. | .faultLogRead e .. | .drillRun e .. | .drillVerdict e ..
  | .healthQuery e .. | .gaugeIntervalSample e .. | .errorRetry e .. | .scrubErrorFound e .. | .sysResetRestart e ..
  | .sysResetSalvage e .. | .glgRingEnable e .. | .glgSqDoorbell e .. | .glgCqHeadWrite e .. | .hfrTxDoorbell e ..
  | .hfrRxTailWrite e .. | .hfrRxDropRead e | .intHoldoffExpiry e .. | .tnsLatch e .. | .gauSelSnapshot e ..
  | .gauSelSnapshotClear e .. | .plyWitnessWrite e .. | .mbxDoorbell e .. | .mbxDoorbellBypass e ..
  | .registerWrite e .. | .hostAccessWhileDormant e .. | .functionLevelReset e | .hubHeartbeatSend e | .hubLost e
  | .hubReturn e | .keepAliveSupplyLoss e | .laneDieFailure e | .tamperInputNormal e .. | .observedPollRequest e ..
  | .sessionTcpDisconnect e .. => some e
  | .vinPowerUp _ | .vinOvervoltage _ | .overvoltageRestart _ | .pcieHotReset _ | .hostPerstn _ | .vinSupplyLoss _ => none

/-- The stamp of a command of the whole package. -/
def packageStampOf : Instr → Option PackageStamp
  | .vinPowerUp e | .vinOvervoltage e | .overvoltageRestart e | .pcieHotReset e | .hostPerstn e | .vinSupplyLoss e => some e
  | _ => none

/-- A request as a command: its opcode and op (log 8), the checks of its opcode at dispatch, and the request. -/
structure RequestRow where
  stamp : Stamp
  opcode : Nat
  op : Option Nat
  check : Lane → Request → Status
  request : Request

/-- The request that a command serves. QUEUE_FLUSH and QUEUE_DROP_REST are stated on their own: their commands carry the
progress of the queue's fronts too (log 29). -/
def requestRow : Instr → Option RequestRow
  | .nop e r => some ⟨e, 0x0000, none, nopCheck, r⟩
  | .hello e _ r => some ⟨e, 0x0001, none, helloCheck, r⟩
  | .abort e r => some ⟨e, 0x0002, none, abortCheck, r⟩
  | .cancel e r => some ⟨e, 0x0003, none, abortCheck, r⟩
  | .needleGroupSet e r => some ⟨e, 0x0004, none, groupSetCheck, r⟩
  | .needleStatus e r => some ⟨e, 0x0005, none, needleStatusCheck, r⟩
  | .streamAdd e r => some ⟨e, 0x0200, none, streamAddCheck, r⟩
  | .streamModifySet e r => some ⟨e, 0x0201, some 0, modifyCheck modifySetCheck, r⟩
  | .streamModifyAdopt e r =>
      some ⟨e, 0x0201, some 1, modifyCheck (fun s q => need (stateIs s (flowId q) .learned) .wrongMode .ok), r⟩
  | .streamModifyCfgChunk e r => some ⟨e, 0x0201, some 2, modifyCheck cfgChunkCheck, r⟩
  | .streamModifyAcceptCfg e r =>
      some ⟨e, 0x0201, some 3, modifyCheck (fun s q => need (stateIs s (flowId q) .cfgHold) .wrongMode .ok), r⟩
  | .streamModifySuspend e r => some ⟨e, 0x0201, some 4, modifyCheck (fun _ _ => .ok), r⟩
  | .streamModifyResume e r =>
      some ⟨e, 0x0201, some 5, modifyCheck (fun s q => need (stateIs s (flowId q) .suspended) .wrongMode .ok), r⟩
  | .streamRemove e r => some ⟨e, 0x0202, none, streamRemoveCheck, r⟩
  | .streamQuery e r => some ⟨e, 0x0203, none, streamQueryCheck, r⟩
  | .streamLearnSet e r => some ⟨e, 0x0204, none, learnCheck, r⟩
  | .streamAuthSet e r => some ⟨e, 0x0205, none, authSetCheck, r⟩
  | .queueSetRead e r => some ⟨e, 0x0905, some 0, queueSetCheck, r⟩
  | .queueSetSet e r => some ⟨e, 0x0905, some 1, queueSetCheck, r⟩
  | .peChannelSet e r => some ⟨e, 0x0300, none, peSetCheck, r⟩
  | .peBankLoad e r => some ⟨e, 0x0301, none, bankCheck, r⟩
  | .peBankSwap e r => some ⟨e, 0x0302, none, swapCheck, r⟩
  | .peReset e r => some ⟨e, 0x0303, none, peResetCheck, r⟩
  | .peQuery e r => some ⟨e, 0x0304, none, peQueryCheck, r⟩
  | .planeCreate e r => some ⟨e, 0x0400, none, planeCreateCheck, r⟩
  | .planeModifySet e r => some ⟨e, 0x0401, some 0, planeModifyCheck planeSetCheck, r⟩
  | .planeModifyMapWrite e r => some ⟨e, 0x0401, some 1, planeModifyCheck mapWriteCheck, r⟩
  | .planeModifyMapSwitch e r => some ⟨e, 0x0401, some 2, planeModifyCheck mapSwitchCheck, r⟩
  | .planeModifyMapClear e r => some ⟨e, 0x0401, some 3, planeModifyCheck (fun _ _ _ => .ok), r⟩
  | .planeModifyStop e r => some ⟨e, 0x0401, some 4, planeModifyCheck (fun _ _ _ => .ok), r⟩
  | .planeDelete e r => some ⟨e, 0x0402, none, planeDeleteCheck, r⟩
  | .planeQuery e r => some ⟨e, 0x0403, none, planeQueryCheck, r⟩
  | .waleRead e r => some ⟨e, 0x0404, none, waleReadCheck, r⟩
  | .arrayQuery e r => some ⟨e, 0x0506, none, arrayQueryCheck, r⟩
  | .patternLoadChunk e r => some ⟨e, 0x0500, some 0, loadChunkCheck, r⟩
  | .patternLoadLibrary e r => some ⟨e, 0x0500, some 1, loadLibraryCheck, r⟩
  | .patternLoadRelease e r => some ⟨e, 0x0500, some 2, loadReleaseCheck, r⟩
  | .patternSwap e r => some ⟨e, 0x0501, none, patSwapCheck, r⟩
  | .patternParamSet e r => some ⟨e, 0x0502, none, paramCheck, r⟩
  | .patternQuery e r => some ⟨e, 0x0503, none, patternQueryCheck, r⟩
  | .resultRead e r => some ⟨e, 0x0507, none, resultCheck, r⟩
  | .variantStageChunk e r => some ⟨e, 0x0504, some 0, variantChunkCheck, r⟩
  | .variantStageStage e r => some ⟨e, 0x0504, some 1, variantStageCheck, r⟩
  | .variantStageDelete e r => some ⟨e, 0x0504, some 2, variantDeleteCheck, r⟩
  | .variantSelect e r => some ⟨e, 0x0505, none, variantSelectCheck, r⟩
  | .alarmRouteSet e r => some ⟨e, 0x0604, none, routeCheck, r⟩
  | .goosePubSet e r => some ⟨e, 0x0603, none, gooseCheck, r⟩
  | .sessionOpen e r => some ⟨e, 0x0600, none, openCheck, r⟩
  | .sessionModify e r => some ⟨e, 0x0601, none, sessionModifyCheck, r⟩
  | .sessionClose e r => some ⟨e, 0x0602, none, closeCheck, r⟩
  | .publishQuery e r => some ⟨e, 0x0606, none, publishQueryCheck, r⟩
  | .derivedStreamCreate e r => some ⟨e, 0x0605, some 0, derivedCreateCheck, r⟩
  | .derivedStreamRemove e r => some ⟨e, 0x0605, some 1, derivedRemoveCheck, r⟩
  | .triggerSetRead e r => some ⟨e, 0x0700, some 0, triggerReadCheck, r⟩
  | .triggerSetSet e r => some ⟨e, 0x0700, some 1, triggerCheck, r⟩
  | .swatchArmArm e r => some ⟨e, 0x0701, some 0, armCheck, r⟩
  | .swatchArmDisarm e r => some ⟨e, 0x0701, some 1, disarmCheck, r⟩
  | .swatchArmRearm e r => some ⟨e, 0x0701, some 2, rearmOpCheck, r⟩
  | .swatchTrigger e r => some ⟨e, 0x0702, none, commandCheck, r⟩
  | .swatchKeep e r => some ⟨e, 0x0703, none, keepCheck, r⟩
  | .swatchDelete e r => some ⟨e, 0x0704, none, deleteCheck, r⟩
  | .swatchIndexRead e r => some ⟨e, 0x0708, none, indexReadCheck, r⟩
  | .skewTableSet e r => some ⟨e, 0x0705, none, skewCheck, r⟩
  | .markSetSet e r => some ⟨e, 0x0706, some 0, markSetCheck, r⟩
  | .markSetClear e r => some ⟨e, 0x0706, some 1, markClearCheck, r⟩
  | .markRead e r => some ⟨e, 0x0707, none, markReadCheck, r⟩
  | .timeRefSet e r => some ⟨e, 0x0800, none, timeRefCheck, r⟩
  | .ptpPortSet e r => some ⟨e, 0x0801, none, ptpPortCheck, r⟩
  | .servoSet e r => some ⟨e, 0x0802, none, servoCheck, r⟩
  | .utcOffsetSet e r => some ⟨e, 0x0803, none, utcSetCheck, r⟩
  | .timeQuery e r => some ⟨e, 0x0804, none, timeQueryCheck, r⟩
  | .portSet e r => some ⟨e, 0x0900, none, portSetCheck, r⟩
  | .classifierSet e r => some ⟨e, 0x0901, none, classCheck, r⟩
  | .wakeSet e r => some ⟨e, 0x0902, none, wakeCheck, r⟩
  | .pollTableSetRead e r => some ⟨e, 0x0903, some 0, pollCheck, r⟩
  | .pollTableSetWrite e r => some ⟨e, 0x0903, some 1, pollCheck, r⟩
  | .portCounters e r => some ⟨e, 0x0904, none, countersCheck, r⟩
  | .meshSet e _ _ r => some ⟨e, 0x0A00, none, meshSetCheck, r⟩
  | .meshNodeAdd e r => some ⟨e, 0x0A01, none, nodeAddCheck, r⟩
  | .meshNodeRemove e r => some ⟨e, 0x0A02, none, nodeRemoveCheck, r⟩
  | .meshSlotAssignAssign e r => some ⟨e, 0x0A03, some 0, assignCheck, r⟩
  | .meshSlotAssignRelease e r => some ⟨e, 0x0A03, some 1, releaseCheck, r⟩
  | .meshQuery e r => some ⟨e, 0x0A04, none, meshQueryCheck, r⟩
  | .plySet e r => some ⟨e, 0x0B00, none, plySetCheck, r⟩
  | .plyPairPair e r => some ⟨e, 0x0B01, some 1, pairCheck, r⟩
  | .plyPairUnpair e r => some ⟨e, 0x0B01, some 0, plyUnpairCheck, r⟩
  | .leaseHandover e r => some ⟨e, 0x0B02, none, handoverCheck, r⟩
  | .plyQuery e r => some ⟨e, 0x0B03, none, plyQueryCheck, r⟩
  | .witnessSet e r => some ⟨e, 0x0B04, none, witnessCheck, r⟩
  | .keyGenerate e r => some ⟨e, 0x0C00, none, keyGenCheck, r⟩
  | .keyWrite e r => some ⟨e, 0x0C01, none, keyWriteCheck, r⟩
  | .keyDerive e r => some ⟨e, 0x0C02, none, keyDeriveCheck, r⟩
  | .keyDelete e r => some ⟨e, 0x0C03, none, keyDeleteCheck, r⟩
  | .keyInvalidate e r => some ⟨e, 0x0C04, none, keyInvalidateCheck, r⟩
  | .keyAttest e r => some ⟨e, 0x0C05, none, attestCheck, r⟩
  | .roleChallenge e r => some ⟨e, 0x0C06, none, challengeCheck, r⟩
  | .roleRespondTake e r => some ⟨e, 0x0C07, some 0, respondCheck, r⟩
  | .roleRespondDrop e r => some ⟨e, 0x0C07, some 1, dropCheck, r⟩
  | .roleRespondBind e r => some ⟨e, 0x0C07, some 2, respondCheck, r⟩
  | .slvQueryStatus e r => some ⟨e, 0x0C08, some 0, slvStatusCheck, r⟩
  | .slvQuerySlots e r => some ⟨e, 0x0C08, some 1, slvSlotsCheck, r⟩
  | .slvQueryTamperSet e r => some ⟨e, 0x0C08, some 2, tamperSetCheck, r⟩
  | .slvQueryTamperAck e r => some ⟨e, 0x0C08, some 3, tamperAckCheck, r⟩
  | .modeSet e r => some ⟨e, 0x0101, none, modeSetCheck, r⟩
  | .laneResetRestart e r => some ⟨e, 0x0102, some 0, laneResetCheck, r⟩
  | .laneResetSalvage e r => some ⟨e, 0x0102, some 1, laneResetCheck, r⟩
  | .configCommit e r => some ⟨e, 0x0103, none, configCommitCheck, r⟩
  | .configRead e r => some ⟨e, 0x0104, none, configReadCheck, r⟩
  | .poolSplitSet e r => some ⟨e, 0x0105, none, poolSplitCheck, r⟩
  | .sysInfo e r => some ⟨e, 0x0100, none, sysInfoCheck, r⟩
  | .updateBegin e r => some ⟨e, 0x0D00, none, updateBeginCheck, r⟩
  | .updateChunk e r => some ⟨e, 0x0D01, none, updateChunkCheck, r⟩
  | .updateFinish e r => some ⟨e, 0x0D02, none, updateFinishCheck, r⟩
  | .updateConfirmConfirm e r => some ⟨e, 0x0D03, some 0, confirmCheck, r⟩
  | .updateConfirmReject e r => some ⟨e, 0x0D03, some 1, rejectCheck, r⟩
  | .slotSelect e r => some ⟨e, 0x0D04, none, slotSelectCheck, r⟩
  | .gaugeSet e r => some ⟨e, 0x0E00, none, gaugeSetCheck, r⟩
  | .gaugeSnapshot e r => some ⟨e, 0x0E01, none, gaugeSnapshotCheck, r⟩
  | .faultLogRead e r => some ⟨e, 0x0E02, none, faultReadCheck, r⟩
  | .drillRun e r => some ⟨e, 0x0E03, none, drillCheck, r⟩
  | .healthQuery e r => some ⟨e, 0x0E04, none, healthQueryCheck, r⟩
  | _ => none

/-- The canonical form of a tile: registers, predicates and data SRAM list nothing that is 0. -/
def Tile.wf (t : Tile) : Bool := canonical zeroLanes t.v && canonical 0 t.s && canonical 0 t.p && Memory.wf t.mem

/-- The canonical form of the array's tiles: equal contents are equal data. -/
def tilesOk (ts : Table Tile) : Prop := canonical Tile.zero ts = true ∧ ∀ e ∈ ts, e.2.wf = true

/-- The Needle's task entries: at most 4,096 (R77), and no two of one source and tag (R63). -/
def entriesOk (es : List TaskEntry) : Prop :=
  es.length ≤ 4096 ∧ es.Pairwise (fun a b => ¬(a.req.src = b.req.src ∧ a.req.tag = b.req.tag))

/-- The fault log holds at most 65,536 records (R630). -/
def logOk (log : List FaultRecord) : Prop := log.length ≤ 65536

/-- What no command may change in a lane: its identity, its free-running count, and the strap of its host interface. -/
def Lane.base (l : Lane) : LaneId × Nat × Bool := (l.id, l.tc, l.spi)

/-- The invariants of a lane whose unchanging parts are `b`: canonical tiles, sound task entries, and a fault log of at most
65,536 records (R630). -/
def Lane.Kept (b : LaneId × Nat × Bool) (l : Lane) : Prop :=
  (l.id, l.tc, l.spi) = b ∧ tilesOk l.array.tiles ∧ entriesOk l.needle.entries ∧ logOk l.health.log

/-- The invariants of a lane. -/
def Lane.Ok (l : Lane) : Prop := l.Kept l.base

/-- The invariants of the package: each lane is the lane of its place, and is sound. -/
def Machine.State.Ok (s : State) : Prop := s.laneA.id = .a ∧ s.laneB.id = .b ∧ s.laneA.Ok ∧ s.laneB.Ok

end Sys2Proof
end

