-- ==== Sys2Proof/Certificates/Slice0/Obligations.lean ====
section
/-!
DEFINITION. The statements for the provers. A clause of a `…Complete` statement gives one command's next state on a form of its
operands: `l` is the command's lane at the command (`nowOf`), and nothing else of the package changes (`setLane`). A request's clauses
stand under `accepted`: it is the named command and passes the checks made at its dispatch.
-/
open Sys2Proof Sys2Proof.Machine

/-- A step with a command at the front of the queue is that command's effect on the state with the queue's rest. -/
def Obligations.StepRunsTheFrontCommand : Prop :=
  ∀ (c : Instr) (q : List Instr) (s : State), s.pending = c :: q → step s = exec c { s with pending := q }

/-- On an empty queue the block idles: nothing changes (the model's choice, log 1). -/
def Obligations.EmptyQueueIdles : Prop :=
  ∀ s : State, s.pending = [] → step s = .next s

/-- Every command goes on in every state, and leaves the waiting commands as they are: no operand and no state ends a run. -/
def Obligations.EveryCommandGoesOn : Prop :=
  ∀ (c : Instr) (s : State), ∃ t, exec c s = .next t ∧ t.pending = s.pending

/-- A command of one lane changes only that lane (R4, R28): the next state is the old one with that lane replaced, so that the
other lane, the supervisor's overvoltage latch and the waiting commands stay. -/
def Obligations.OneLanesCommandLeavesTheOther : Prop :=
  ∀ (c : Instr) (e : Stamp) (s t : State), stampOf c = some e → exec c s = .next t → t = s.setLane e.lane (t.lane e.lane)

/-- The free-running count of a lane moves by exactly the tc cycles that a command states, in both lanes for a command of the
package; no command changes a lane's identity or its HOST_SEL strap (log 3). -/
def Obligations.TimeMovesByTheStamp : Prop :=
  (∀ (c : Instr) (e : Stamp) (s t : State), s.Ok → stampOf c = some e → exec c s = .next t →
    (t.lane e.lane).tc = (s.lane e.lane).tc + e.ticks ∧ (t.lane e.lane).id = e.lane ∧
      (t.lane e.lane).spi = (s.lane e.lane).spi) ∧
  (∀ (c : Instr) (e : PackageStamp) (s t : State), s.Ok → packageStampOf c = some e → exec c s = .next t →
    t.laneA.tc = s.laneA.tc + e.ticksA ∧ t.laneB.tc = s.laneB.tc + e.ticksB)

/-- What the package holds right after reset: both lanes released at the beginning of START with start cause 0 (R599, R660), no command
waiting, nothing driven outwards, every source at version 2.0 (R70), the weights of R82, no task entry, no fault record, empty
queues, every slot of Selvedge EMPTY, and all registers and memories of the array reading 0. -/
def Obligations.ResetState : Prop :=
  State.reset.pending = [] ∧ State.reset.overvoltage = false ∧
  ∀ i : LaneId, (State.reset.lane i).id = i ∧ (State.reset.lane i).powered = true ∧ (State.reset.lane i).mode.mode = .start ∧
    (State.reset.lane i).mode.cause = .vin ∧ (State.reset.lane i).mode.start.step = 0 ∧ (State.reset.lane i).out = [] ∧
    (∀ src, sourceVersion (State.reset.lane i) src = ⟨2, 0⟩) ∧ (State.reset.lane i).cfg.weights = [8, 4, 2, 1] ∧
    (State.reset.lane i).needle.entries = [] ∧ (∀ n, queueHeld (queueOf (State.reset.lane i) n) = 0) ∧
    (State.reset.lane i).health.log = [] ∧ (∀ n, (slotOf (State.reset.lane i) n).state = .empty) ∧
    ∀ n w r, memWord (tileOf (State.reset.lane i) n) w = 0 ∧ sreg (tileOf (State.reset.lane i) n) r = 0 ∧
      vreg (tileOf (State.reset.lane i) n) r = List.replicate 16 0

/-- The state at reset keeps the invariants of the package. -/
def Obligations.ResetIsSound : Prop := State.reset.Ok

/-- Every step keeps the invariants of the package: each lane in its place, the array's tiles in canonical form, at most 4,096 task
entries (R77) of which no two share a source and a tag (R63), and at most 65,536 records in the fault log (R630). -/
def Obligations.StepKeepsTheInvariant : Prop :=
  ∀ s t : State, s.Ok → step s = .next t → t.Ok

/-- A request that fails a check at its dispatch has no effect but its reply, which carries the status of the check that failed
and no result (R75, R22); time passes as for any command. -/
def Obligations.RefusedRequestsOnlyReply : Prop :=
  (∀ (c : Instr) (row : RequestRow) (s : State) (l : Lane), requestRow c = some row → l = nowOf row.stamp s →
    names row.opcode row.op row.request = true → serviceStatus row.check l row.request ≠ .ok →
    exec c s = .next (s.setLane row.stamp.lane (refuse row.request (serviceStatus row.check l row.request) l))) ∧
  (∀ (e : Stamp) (read written : Nat) (r : Request) (s : State) (l : Lane), l = progress (flowId r) read written (nowOf e s) →
    names 0x0906 none r = true → serviceStatus queueIdCheck l r ≠ .ok →
    exec (.queueFlush e read written r) s = .next (s.setLane e.lane (refuse r (serviceStatus queueIdCheck l r) l))) ∧
  (∀ (e : Stamp) (read written : Nat) (r : Request) (s : State) (l : Lane), l = progress (flowId r) read written (nowOf e s) →
    names 0x0907 none r = true → serviceStatus queueIdCheck l r ≠ .ok →
    exec (.queueDropRest e read written r) s = .next (s.setLane e.lane (refuse r (serviceStatus queueIdCheck l r) l)))

/-- A command that serves a request of another opcode or op changes nothing; only time passes (the model's choice, log 8). -/
def Obligations.OtherRequestsOnlyPassTime : Prop :=
  ∀ (c : Instr) (row : RequestRow) (s : State), requestRow c = some row → names row.opcode row.op row.request = false →
    exec c s = .next (s.setLane row.stamp.lane (nowOf row.stamp s))

/-- A reply touches the Needle's entries, the delivery to its source and the SUPERSEDED_INFO mark, and nothing else. -/
def Obligations.ReplyFrame : Prop :=
  ∀ (r : Request) (st : Status) (info : Bool) (result : Bytes) (l t : Lane), t = postReply r st info result l →
    t = { l with needle := { l.needle with entries := t.needle.entries }, host := t.host, queues := t.queues, peers := t.peers
                 pe := { l.pe with info := t.pe.info }, out := t.out } ∧
    (∀ n, n ≠ 52 + r.src → queueOf t n = queueOf l n) ∧ (∀ p, p ≠ r.src → tget t.peers p = tget l.peers p)

/-- A request gets one reply, of one packet: the version, the status, the flags, the tag and the result of R60, where the version of
a request refused with BAD_VERSION reads 3.2; its task entry is free afterwards (R64, R91). -/
def Obligations.ReplyIsOnePacket : Prop :=
  (∀ (r : Request) (st : Status) (info : Bool) (result : Bytes) (l t : Lane), t = postReply r st info result l →
    entryOf t r.src r.tag = none ∧ (∀ x ∈ l.needle.entries, x.req.src ≠ r.src ∨ x.req.tag ≠ r.tag → x ∈ t.needle.entries) ∧
    ∃ (flags : Nat) (rest : List Output), t.out = l.out ++ .reply r.src (replyPacket r st flags result) :: rest ∧
      ∀ (src : Nat) (p : Bytes), Output.reply src p ∉ rest) ∧
  (∀ (r : Request) (st : Status) (flags : Nat) (result : Bytes),
    (replyPacket r st flags result).length = 16 + result.length ∧
    field (replyPacket r st flags result) 0 1 = (if st = .badVersion then 3 else r.version.major % 256) ∧
    field (replyPacket r st flags result) 1 1 = (if st = .badVersion then 2 else r.version.minor % 256) ∧
    field (replyPacket r st flags result) 2 2 = st.code ∧ field (replyPacket r st flags result) 4 2 = flags % 65536 ∧
    field (replyPacket r st flags result) 8 4 = r.tag.toNat ∧
    field (replyPacket r st flags result) 12 4 = result.length % 2 ^ 32 ∧ (replyPacket r st flags result).drop 16 = result)

/-- The 192 bits of a bundle and its fields say the same (R276): no bit is dropped and none is read twice, for every bundle, well
formed or not. -/
def Obligations.BundleRoundTrip : Prop :=
  (∀ b : Bundle, decodeBundle (encodeBundle b) = b) ∧ (∀ w : BitVec 192, encodeBundle (decodeBundle w) = w)

/-- The data SRAM of a tile (R259): a word written reads back, every other word stays, and the canonical form is kept; so do the
registers, of which s0 and p0 discard writes (R250). -/
def Obligations.TileReadsWhatWasWritten : Prop :=
  (∀ (m : Table Word) (k i : Nat) (w : Word), tgetD (putWord m k w) i 0 = if i = k then w else tgetD m i 0) ∧
  (∀ (m : Table Word) (k : Nat) (w : Word), Memory.wf m = true → Memory.wf (putWord m k w) = true) ∧
  (∀ (m n : Table Word), Memory.wf m = true → Memory.wf n = true → (∀ i, tgetD m i 0 = tgetD n i 0) → m = n) ∧
  (∀ (t : Tile) (r i : Nat) (w : Word), sreg (writeDest (.sca r w) t) i = if i = r ∧ r ≠ 0 then w else sreg t i) ∧
  (∀ (t : Tile) (r i : Nat) (mask bits : BitVec 16), preg (writeDest (.prd r mask bits) t) i =
    if i = r ∧ r ≠ 0 then (bits &&& mask) ||| (preg t r &&& ~~~mask) else preg t i) ∧
  (∀ (t : Tile) (d : Dest), (writeDest d t).mem = t.mem)

/-- The fault log is a ring of 65,536 records in which the newest replaces the oldest; the sequence numbers are 32-bit and count up
by one (R630). -/
def Obligations.FaultLogKeepsTheNewest : Prop :=
  ∀ (cls : FaultClass) (res : Resource) (st obj : Nat) (al : Option Nat) (detail : Bytes) (l t : Lane), l.health.log.length ≤ 65536 →
    t = logFault cls res st obj al detail l →
    t.health.log.getLast? = some { seq := l.health.nextSeq, status := st, cls := cls, resource := res, time := nowFull l
                                   object := obj, alarm := al, detail := detail } ∧
    t.health.log.dropLast = (if l.health.log.length < 65536 then l.health.log else l.health.log.tail) ∧
    t.health.log.length = min 65536 (l.health.log.length + 1) ∧ t.health.nextSeq = (l.health.nextSeq + 1) % 2 ^ 32

/-- The window of a datagram peer (R100): it is 64 entries deep below the highest accepted sequence; an accepted sequence is a
duplicate from then on, whatever is accepted after it, and nothing else becomes a duplicate but what falls below the window. -/
def Obligations.SequenceWindow : Prop :=
  (∀ (h : Nat) (seen : List Nat) (q : Nat), isDuplicate h seen q = true ↔ q + 64 < h ∨ q ∈ seen) ∧
  (∀ (h : Nat) (seen : List Nat) (q x : Nat),
    (isDuplicate (acceptSeq h seen q).1 (acceptSeq h seen q).2 x = true ↔
      x = q ∨ isDuplicate h seen x = true ∨ x + 64 < q)) ∧
  (∀ (h : Nat) (seen : List Nat) (q : Nat), (acceptSeq h seen q).1 = max h q)

/-- Fine tags compare by the signed difference modulo 2^40 (R12): later when it is above 0, equal when it is 0, and at a difference of
-2^39 each is taken as earlier than the other. -/
def Obligations.TagComparison : Prop :=
  (∀ a b : FineTag, tagDiff a b = signed 40 (a.toNat + 2 ^ 40 - b.toNat)) ∧
  (∀ a b : FineTag, tagLater a b = true ↔ 0 < tagDiff a b) ∧ (∀ a b : FineTag, tagDiff a b = 0 ↔ a = b) ∧
  (∀ a b : FineTag, tagDiff a b = -(2 ^ 39) → tagLater a b = false ∧ tagLater b a = false ∧ a ≠ b) ∧
  (∀ a b : FineTag, tagDiff a b ≠ -(2 ^ 39) → a ≠ b → tagLater a b = !tagLater b a)

/-- The fine tag of an instant holds the low 16 bits of the TAI seconds in bits [39:24] and the top 24 bits of the fraction in bits
[23:0], so that it wraps every 65,536 s (R10). -/
def Obligations.TagOfTheTime : Prop :=
  ∀ l : Lane, (nowTag l).toNat / 2 ^ 24 = nowFull l / 2 ^ 32 % 2 ^ 16 ∧
    (nowTag l).toNat % 2 ^ 24 = nowFull l % 2 ^ 32 / 2 ^ 8 ∧ (nowTag l).toNat = nowUnits l % (65536 * 2 ^ 24)

/-- HELLO takes the highest of the four versions that lies within the source's range, and none where none does (R69). -/
def Obligations.HighestCommonVersion : Prop :=
  ∀ lo hi : Version,
    (∀ v, commonVersion lo hi = some v ↔ v ∈ versions ∧ lo.le v = true ∧ v.le hi = true ∧
      ∀ u ∈ versions, lo.le u = true → u.le hi = true → u.le v = true) ∧
    (commonVersion lo hi = none ↔ ∀ u ∈ versions, ¬(lo.le u = true ∧ u.le hi = true))

/-- Which opcodes a mode accepts (R74), and what a request meets in DORMANT: WRONG_MODE and a wake. -/
def Obligations.ModesAcceptOpcodes : Prop :=
  (∀ (m : Mode) (r : Request), modeAccepts m r = true ↔
    (m = .service ∨ m = .holdover ∨ m = .drill) ∨
    (m = .start ∧ (r.opcode / 256 = 0 ∨ r.opcode = 0x0100 ∨ (r.opcode = 0x0101 ∧ modeAsked r = 5) ∨ r.opcode = 0x0102)) ∨
    (m = .salvage ∧ (r.opcode / 256 = 0 ∨ r.opcode = 0x0100 ∨ (r.opcode = 0x0101 ∧ modeAsked r = 1) ∨ r.opcode = 0x0102 ∨
      r.opcode / 256 = 0x0D ∨ r.opcode = 0x0E02 ∨ r.opcode = 0x0E04))) ∧
  (∀ (l : Lane) (r : Request), modeAccepts l.mode.mode r = false → dispatchStatus l r = .wrongMode) ∧
  (∀ (n i : Nat) (x : Submission) (l : Lane), 16 ≤ x.reqLen → 16 ≤ x.rspLen →
    refuseDormant n i x l = completeRing n ⟨x.rspAddr, x.rspLen, i⟩
      (replyPacket (packetRequest n (.ring ⟨x.rspAddr, x.rspLen, i⟩) (fit x.reqLen x.packet)) .wrongMode 0 []) l) ∧
  (∀ (e : Stamp) (a : HostAccess) (s : State) (l : Lane), l = nowOf e s → l.mode.mode = .dormant → l.powered = true →
    l.dieOk = true → l.mode.rstnLow = false → ∃ t, exec (.hostAccessWhileDormant e a) s = .next t ∧
      (t.lane e.lane).mode.mode = .start ∧ (t.lane e.lane).mode.cause = .hostAccess)

/-- What the Needle dispatches (R79 to R83): a ready request of the visited group, the one admitted earliest of those ready. No request
of its flow is in service, no earlier request of its flow waits, and a barrier goes only when nothing is in service. -/
def Obligations.DispatchTakesTheEarliestReady : Prop :=
  ∀ (l : Lane) (fuel g credit v c : Nat) (x : TaskEntry), visitGroups l fuel g credit = some (x, v, c) →
    x ∈ l.needle.entries ∧ x.phase = .queued ∧ x.req.group = v ∧
    (∀ y ∈ inService l, flowOf y.req ≠ flowOf x.req) ∧
    (∀ y ∈ l.needle.entries, y.phase = .queued → flowOf y.req = flowOf x.req → x.joined ≤ y.joined) ∧
    (isBarrier x.req = true → inService l = []) ∧
    (∀ y ∈ inService l, isBarrier y.req = true → x.adm ≤ y.adm) ∧
    (l.needle.entries.Pairwise (fun a b => a.adm < b.adm) → ∀ y ∈ readyOf l v, x.adm ≤ y.adm)

/-- After the 1 µs tick no delay list holds an entry whose due time is at or before the current time (R84, R86), and, while no bank
swap waits to be superseded (R201), every entry not yet due keeps waiting as it was. -/
def Obligations.DelayTickEmptiesDueEntries : Prop :=
  ∀ (e : Stamp) (s t : State) (l : Lane), l = nowOf e s → exec (.delayListTick e) s = .next t →
    (∀ x ∈ (t.lane e.lane).needle.entries, x.phase = .delayed → tagLater (dueTag x.req) (nowTag l) = true) ∧
    ((∀ p ∈ l.pe.streams, p.2.held = none) → ∀ x ∈ l.needle.entries, x.phase = .delayed →
      tagLater (dueTag x.req) (nowTag l) = true → (∀ y ∈ l.needle.entries, dueNow l y = true → y.adm ≠ x.adm) →
      x ∈ (t.lane e.lane).needle.entries)

/-- Leaving service completes every request admitted and not yet dispatched with CANCELLED (R76, R593): none is left, those in service
stay, and the reply of each has been posted. -/
def Obligations.UndispatchedRequestsAreCancelled : Prop :=
  ∀ l t : Lane, entriesOk l.needle.entries → t = cancelUndispatched l →
    t.needle.entries = l.needle.entries.filter (fun x => x.phase == .inService || x.phase == .committed) ∧
    (∀ x ∈ l.needle.entries, x.phase = .delayed ∨ x.phase = .queued →
      ∃ flags, Output.reply x.req.src (replyPacket x.req .cancelled flags []) ∈ t.out) ∧
    t.cfg = l.cfg ∧ t.mode = l.mode ∧ t.keys = l.keys ∧ t.array = l.array ∧ t.streams = l.streams

/-- Zeroisation (R587): every slot becomes EMPTY, the wrap key is gone, Selvedge is ZEROISED and the key epoch is 0; the flash records
stay, and the tamper record is the newest of at most eight. -/
def Obligations.ZeroisationClearsTheKeys : Prop :=
  ∀ (sources : BitVec 10) (time : Nat) (l t : Lane), t = zeroiseState sources time l →
    (∀ n, (slotOf t n).state = .empty ∧ (slotOf t n).material = []) ∧ t.vault.wrap = none ∧ t.keys.zeroised = true ∧
    t.keys.keyEpoch = 0 ∧ t.vault.epoch = 0 ∧ t.vault.flash = l.vault.flash ∧
    t.vault.records.getLast? = some { sources := sources, mode := l.mode.mode, time := time, acknowledged := false, sibling := false } ∧
    (l.vault.records.length ≤ 8 → t.vault.records.length = min 8 (l.vault.records.length + 1)) ∧
    t = { l with keys := t.keys, vault := t.vault }

/-- Who may change keys (R579): the five key commands and TAMPER_SET and TAMPER_ACK pass their checks only with privilege, and fail
with AUTH_FAILED (or, before it, BAD_PARAM) without it; a challenge or a response from a UDP peer fails, and so does every response
for 60 s after five failed responses within 60 s. -/
def Obligations.PrivilegedKeyCommands : Prop :=
  (∀ check ∈ [keyGenCheck, keyWriteCheck, keyDeriveCheck, keyDeleteCheck, keyInvalidateCheck, tamperSetCheck, tamperAckCheck],
    ∀ (l : Lane) (r : Request), l.keys.privilege = false → check l r = .authFailed ∨ check l r = .badParam) ∧
  (∀ check ∈ [challengeCheck, respondCheck], ∀ (l : Lane) (r : Request), isPeer r.src = true →
    check l r = .authFailed ∨ check l r = .badParam) ∧
  (∀ (l : Lane) (r : Request), l.tc < l.keys.lockoutUntil → respondCheck l r = .authFailed ∨ respondCheck l r = .badParam) ∧
  (∀ (l t : Lane) (r : Request), t = failResponse r l →
    (4 ≤ (l.keys.failedAt.filter (fun x => decide (l.tc ≤ x + secTc 60))).length → t.keys.lockoutUntil = l.tc + secTc 60) ∧
    ((l.keys.failedAt.filter (fun x => decide (l.tc ≤ x + secTc 60))).length < 4 → t.keys.lockoutUntil = l.keys.lockoutUntil) ∧
    t.keys.privilege = l.keys.privilege)

/-- Streams are decoded, courses aligned and rounds run only in SERVICE, HOLDOVER and DRILL (R688): in any other mode the commands of
these blocks change nothing, and only time passes. -/
def Obligations.BlocksRunByMode : Prop :=
  (∀ l : Lane, serving l = true → l.mode.mode = .service ∨ l.mode.mode = .holdover ∨ l.mode.mode = .drill) ∧
  (∀ (e : Stamp) (port : Fin 12) (s : State), serving (nowOf e s) = false →
    exec (.pmuDataFrameDecode e port) s = .next (s.setLane e.lane (nowOf e s))) ∧
  (∀ (e : Stamp) (port : Fin 12) (s : State), serving (nowOf e s) = false →
    exec (.svFrameDecode e port) s = .next (s.setLane e.lane (nowOf e s))) ∧
  (∀ (e : Stamp) (port : Fin 12) (s : State), serving (nowOf e s) = false →
    exec (.routedSvDecode e port) s = .next (s.setLane e.lane (nowOf e s))) ∧
  (∀ (e : Stamp) (port : Fin 12) (s : State), serving (nowOf e s) = false →
    exec (.gooseSubscriptionDecode e port) s = .next (s.setLane e.lane (nowOf e s))) ∧
  (∀ (e : Stamp) (port : Fin 8) (s : State), serving (nowOf e s) = false →
    exec (.polledAsduDecode e port) s = .next (s.setLane e.lane (nowOf e s))) ∧
  (∀ (e : Stamp) (stream : Nat) (channel : Fin 8) (s : State), serving (nowOf e s) = false →
    exec (.phasorOutput e stream channel) s = .next (s.setLane e.lane (nowOf e s))) ∧
  (∀ (e : Stamp) (s : State), serving (nowOf e s) = false →
    exec (.alignerValueWrite e) s = .next (s.setLane e.lane (nowOf e s))) ∧
  (∀ (e : Stamp) (plane : Fin 4) (s : State), serving (nowOf e s) = false →
    exec (.courseInstantReached e plane) s = .next (s.setLane e.lane (nowOf e s))) ∧
  (∀ (e : Stamp) (plane : Fin 4) (s : State), serving (nowOf e s) = false →
    exec (.deadlineTick e plane) s = .next (s.setLane e.lane (nowOf e s))) ∧
  (∀ (e : Stamp) (plane : Fin 4) (s : State), serving (nowOf e s) = false →
    exec (.quorumTick e plane) s = .next (s.setLane e.lane (nowOf e s))) ∧
  (∀ (e : Stamp) (part : Fin 4) (s : State), serving (nowOf e s) = false →
    exec (.castOn e part) s = .next (s.setLane e.lane (nowOf e s))) ∧
  (∀ (e : Stamp) (part : Fin 4) (err : RowError) (s : State), serving (nowOf e s) = false →
    exec (.bundleIssue e part err) s = .next (s.setLane e.lane (nowOf e s))) ∧
  (∀ (e : Stamp) (part : Fin 4) (s : State), serving (nowOf e s) = false →
    exec (.arrayResultWrite e part) s = .next (s.setLane e.lane (nowOf e s))) ∧
  (∀ (e : Stamp) (part : Fin 4) (s : State), serving (nowOf e s) = false →
    exec (.storeMemoryWrite e part) s = .next (s.setLane e.lane (nowOf e s))) ∧
  (∀ (e : Stamp) (part : Fin 4) (bad : Option Nat) (err : Option (Nat × Nat)) (s : State), serving (nowOf e s) = false →
    exec (.bindOff e part bad err) s = .next (s.setLane e.lane (nowOf e s))) ∧
  (∀ (e : Stamp) (part : Fin 4) (failing : Option Nat) (s : State), serving (nowOf e s) = false →
    exec (.roundRetry e part failing) s = .next (s.setLane e.lane (nowOf e s)))

/-- CANCEL withdraws a target that has not been dispatched, and leaves one that has been dispatched as it is, without LATE_ABORT; in
either case CANCEL has its own reply (R89). -/
def Obligations.CancelOutcomes : Prop :=
  ∀ (e : Stamp) (r : Request) (s t : State) (l : Lane), l = nowOf e s → entriesOk l.needle.entries →
    accepted 0x0003 none abortCheck l r → entryOf l r.src r.tag = none → exec (.cancel e r) s = .next t →
    (∀ x, entryOf l (targetSrc r) (targetTag r) = some x → x.phase = .delayed ∨ x.phase = .queued →
      entryOf (t.lane e.lane) (targetSrc r) (targetTag r) = none ∧
      ∃ f g, Output.reply x.req.src (replyPacket x.req .cancelled f []) ∈ (t.lane e.lane).out ∧
        Output.reply r.src (replyPacket r .ok g (targetState 1)) ∈ (t.lane e.lane).out) ∧
    (∀ x, entryOf l (targetSrc r) (targetTag r) = some x → x.phase = .inService ∨ x.phase = .committed →
      (t.lane e.lane).needle.entries = l.needle.entries ∧
      ∃ g, Output.reply r.src (replyPacket r .okTooLate g (targetState 3)) ∈ (t.lane e.lane).out) ∧
    (entryOf l (targetSrc r) (targetTag r) = none → (t.lane e.lane).needle.entries = l.needle.entries ∧
      ∃ g, Output.reply r.src (replyPacket r .okTooLate g (targetState 4)) ∈ (t.lane e.lane).out)

/-- A producer that never waits (R162, R165): an item that fits is appended whole and counted, one that does not fit is dropped and
counted, the item whose drop a flush began is dropped without a count, and the depth never passes D; no other queue changes. After
QUEUE_FLUSH only an item that the consumer has begun remains, and QUEUE_DROP_REST without one changes nothing (R169). -/
def Obligations.QueuesDropWhatDoesNotFit : Prop :=
  (∀ (n k : Nat) (p : QPayload) (l t : Lane) (q : Queue), q = { queueOf l n with partialLen := 0 } → t = enqueueOrDrop n k p l →
    t = { l with queues := t.queues } ∧ (∀ i, i ≠ n → queueOf t i = queueOf l i) ∧
    (q.dropping = true → queueOf t n = { q with dropping := false }) ∧
    (q.dropping = false → depthLimit l n < queueHeld q + k → queueOf t n = { q with droppedFull := bump q.droppedFull }) ∧
    (q.dropping = false → queueHeld q + k ≤ depthLimit l n →
      (queueOf t n).items.map (·.payload) = q.items.map (·.payload) ++ [p] ∧ (queueOf t n).enqueued = bump q.enqueued) ∧
    (queueHeld (queueOf l n) ≤ depthLimit l n → queueHeld (queueOf t n) ≤ depthLimit l n)) ∧
  (∀ q : Queue, (flushQueue q).items = (if q.read = 0 then [] else q.items.take 1) ∧ (flushQueue q).partialLen = 0 ∧
    ((flushQueue q).dropping = true ↔ q.dropping = true ∨ q.partialLen ≠ 0)) ∧
  (∀ q : Queue, q.read = 0 → dropRest q = q)

/-- A request that reuses the tag of a request of its source that still waits for its reply is refused with BAD_PARAM, and so is one
on a host ring whose group is not the ring's number; the refusal leaves the earlier request as it is (R63, R73). -/
def Obligations.HeldTagsAreRefused : Prop :=
  (∀ (l : Lane) (src : Nat) (tag : Word), tagHeld l src tag = true ↔
    (∃ x ∈ l.needle.entries, x.req.src = src ∧ x.req.tag = tag) ∨ (∃ a ∈ l.needle.aborts, a.req.src = src ∧ a.req.tag = tag)) ∧
  (∀ (l : Lane) (r : Request) (m : Nat), versionOk l r = true → lengthOk r = true → (isPeer r.src = true → r.paramLen ≤ m) →
    opcodeOk r = true → tagHeld l r.src r.tag = true ∨ (r.src ≤ 3 ∧ r.group ≠ r.src) ∨ 3 < r.group →
    admissionStatus l r m = .badParam) ∧
  (∀ r : Request, 4 ≤ r.src → (groupOk r = true ↔ r.group ≤ 3)) ∧
  (∀ (e : Stamp) (vlan : Bool) (r : Request) (s : State) (l : Lane), l = takeFromRing r (nowOf e s) →
    admissionStatus l r (udpLimit (nowOf e s) r.src vlan) = .badParam →
    ∃ t, exec (.glegalRequestArrival e vlan r) s = .next t ∧ (t.lane e.lane).needle = l.needle ∧
      Output.reply r.src (replyPacket r .badParam 0 []) ∈ (t.lane e.lane).out)

/-- Above 19 V for 10 µs the supervisor switches the regulators of both lanes off and no journal is written; once VIN has stayed between
4.5 V and 18 V for 100 ms it restarts both lanes with start cause 0 (R658). -/
def Obligations.OvervoltageStopsBothLanes : Prop :=
  (∀ (e : PackageStamp) (s : State), ∃ t, exec (.vinOvervoltage e) s = .next t ∧ t.overvoltage = true ∧ t.laneA.powered = false ∧
    t.laneB.powered = false ∧ t.laneA.journal = s.laneA.journal ∧ t.laneB.journal = s.laneB.journal) ∧
  (∀ (e : PackageStamp) (s : State), s.overvoltage = true → s.laneA.powered = false → s.laneB.powered = false →
    ∃ t, exec (.overvoltageRestart e) s = .next t ∧ t.overvoltage = false ∧ t.laneA.powered = true ∧ t.laneB.powered = true ∧
      t.laneA.mode.mode = .start ∧ t.laneB.mode.mode = .start ∧ t.laneA.mode.cause = .vin ∧ t.laneB.mode.cause = .vin ∧
      t.laneA.journal = s.laneA.journal ∧ t.laneB.journal = s.laneB.journal)

/-- The Needle and the management port: admission, dispatch, the delay list, ABORT, datagrams (R72, R83, R84, R88, R94,
R99, R100, R101, R102). -/
def Obligations.NeedleEventsComplete : Prop :=
  (∀ (e : Stamp) (vlan : Bool) (r : Request) (s : State) (l : Lane),
    l = nowOf e s → admissionStatus (takeFromRing r l) r (udpLimit l r.src vlan) = .ok → opBypass r.opcode = false →
    exec (.glegalRequestArrival e vlan r) s = .next (s.setLane e.lane (admitTask r (takeFromRing r l)))) ∧
  (∀ (e : Stamp) (vlan : Bool) (r : Request) (s : State) (l : Lane),
    l = nowOf e s → admissionStatus (takeFromRing r l) r (udpLimit l r.src vlan) = .ok → opBypass r.opcode = true →
    exec (.glegalRequestArrival e vlan r) s = .next
      (s.setLane e.lane (serveBypass (udpLimit l r.src vlan) r (takeFromRing r l)))) ∧
  (∀ (e : Stamp) (vlan : Bool) (r : Request) (s : State) (l : Lane) (st : Status),
    l = nowOf e s → admissionStatus (takeFromRing r l) r (udpLimit l r.src vlan) = st → st ≠ .ok →
    exec (.glegalRequestArrival e vlan r) s = .next
      (s.setLane e.lane (refuseArrival r st (countBusy st (takeFromRing r l))))) ∧
  (∀ (e : Stamp) (s : State) (l : Lane) (en : TaskEntry) (g c : Nat),
    l = nowOf e s → (inService l).length < 4 → visitGroups l 5 l.needle.visit l.needle.credit = some (en, g, c) →
    dispatchStatus l en.req = .ok →
    exec (.needleDispatch e) s = .next (s.setLane e.lane { l with
          needle := { l.needle with
              visit := g, credit := c,
              entries := l.needle.entries.map (fun x => if x.adm = en.adm then
                  { x with phase := if opCommitsAtDispatch x.req.opcode then .committed else .inService } else x) } })) ∧
  (∀ (e : Stamp) (s : State) (l : Lane) (en : TaskEntry) (g c : Nat) (st : Status),
    l = nowOf e s → (inService l).length < 4 → visitGroups l 5 l.needle.visit l.needle.credit = some (en, g, c) →
    dispatchStatus l en.req = st → st ≠ .ok →
    exec (.needleDispatch e) s = .next
      (s.setLane e.lane (refuse en.req st { l with needle := { l.needle with visit := g, credit := c } }))) ∧
  (∀ (e : Stamp) (s : State) (l : Lane), l = nowOf e s →
    exec (.delayListTick e) s = .next (s.setLane e.lane
        ((dueOrder l).foldl (fun acc x => peSupersede x.req { acc with needle := joinFlow acc.needle x }) l))) ∧
  (∀ (e : Stamp) (s : State) (l : Lane) (a : PendingAbort) (rest : List PendingAbort),
    l = nowOf e s → l.needle.aborts = a :: rest → entryOf l a.targetSrc a.targetTag = none →
    exec (.abortTakesEffect e) s = .next (s.setLane e.lane
        (postReply a.req .okTooLate false (targetState 4) { l with needle := { l.needle with aborts := rest } }))) ∧
  (∀ (e : Stamp) (s : State) (l : Lane) (a : PendingAbort) (rest : List PendingAbort) (x : TaskEntry),
    l = nowOf e s → l.needle.aborts = a :: rest → entryOf l a.targetSrc a.targetTag = some x →
    (x.phase = .delayed ∨ x.phase = .queued) →
    exec (.abortTakesEffect e) s = .next (s.setLane e.lane (postReply a.req .ok false (targetState 1)
          (refuse x.req .aborted { l with needle := { l.needle with aborts := rest } })))) ∧
  (∀ (e : Stamp) (s : State) (l : Lane) (a : PendingAbort) (rest : List PendingAbort) (x : TaskEntry),
    l = nowOf e s → l.needle.aborts = a :: rest → entryOf l a.targetSrc a.targetTag = some x → x.phase = .inService →
    exec (.abortTakesEffect e) s = .next (s.setLane e.lane (postReply a.req .ok false (targetState 2)
          (refuse x.req .aborted (withdraw x.req { l with needle := { l.needle with aborts := rest } }))))) ∧
  (∀ (e : Stamp) (s : State) (l : Lane) (a : PendingAbort) (rest : List PendingAbort) (x : TaskEntry),
    l = nowOf e s → l.needle.aborts = a :: rest → entryOf l a.targetSrc a.targetTag = some x → x.phase = .committed →
    exec (.abortTakesEffect e) s = .next (s.setLane e.lane (postReply a.req .okTooLate false (targetState 3)
          { l with
            needle := { l.needle with
                aborts := rest,
                entries := l.needle.entries.map (fun y => if y.req.src == a.targetSrc && y.req.tag == a.targetTag then
                    { y with lateAbort := true } else y) } }))) ∧
  (∀ (e : Stamp) (vlan : Bool) (addr : Bytes) (fragment : Bool) (d : Bytes) (s : State) (l : Lane),
    l = nowOf e s → dieRuns l = true → fragment = true →
    exec (.glegalDatagramReceive e vlan addr fragment d) s = .next
      (s.setLane e.lane { l with needle := { l.needle with dgFragments := bump l.needle.dgFragments } })) ∧
  (∀ (e : Stamp) (vlan : Bool) (addr : Bytes) (fragment : Bool) (d : Bytes) (s : State) (l : Lane),
    l = nowOf e s → dieRuns l = true → fragment = false → peerOf l addr = none →
    exec (.glegalDatagramReceive e vlan addr fragment d) s = .next (s.setLane e.lane (dropDatagram addr l))) ∧
  (∀ (e : Stamp) (vlan : Bool) (addr : Bytes) (fragment : Bool) (d : Bytes) (s : State) (l : Lane) (n : Nat) (p : Peer),
    l = nowOf e s → dieRuns l = true → fragment = false → peerOf l addr = some (n, p) → datagramOk l p d = false →
    exec (.glegalDatagramReceive e vlan addr fragment d) s = .next (s.setLane e.lane (dropDatagram addr l))) ∧
  (∀ (e : Stamp) (vlan : Bool) (addr : Bytes) (fragment : Bool) (d : Bytes) (s : State) (l : Lane) (n : Nat) (p : Peer)
    (old : Nat × Bytes),
    l = nowOf e s → dieRuns l = true → fragment = false → peerOf l addr = some (n, p) → datagramOk l p d = true →
    isDuplicate p.highest p.seen (field d 4 8) = true → p.replies.find? (fun x => x.1 == field d 4 8) = some old →
    exec (.glegalDatagramReceive e vlan addr fragment d) s = .next (s.setLane e.lane (emit (.mgmt n old.2) l))) ∧
  (∀ (e : Stamp) (vlan : Bool) (addr : Bytes) (fragment : Bool) (d : Bytes) (s : State) (l : Lane) (n : Nat) (p : Peer),
    l = nowOf e s → dieRuns l = true → fragment = false → peerOf l addr = some (n, p) → datagramOk l p d = true →
    isDuplicate p.highest p.seen (field d 4 8) = true → p.replies.find? (fun x => x.1 == field d 4 8) = none →
    exec (.glegalDatagramReceive e vlan addr fragment d) s = .next
      (s.setLane e.lane { l with needle := { l.needle with dgDuplicates := bump l.needle.dgDuplicates } })) ∧
  (∀ (e : Stamp) (vlan : Bool) (addr : Bytes) (fragment : Bool) (d : Bytes) (s : State) (l : Lane) (n : Nat) (p : Peer),
    l = nowOf e s → dieRuns l = true → fragment = false → peerOf l addr = some (n, p) → datagramOk l p d = true →
    isDuplicate p.highest p.seen (field d 4 8) = false →
    exec (.glegalDatagramReceive e vlan addr fragment d) s = .next
      (s.setLane e.lane (arrive (udpLimit l n vlan)
          (packetRequest n (.peer (field d 4 8)) ((d.drop 12).take (d.length - 28)))
          { l with
            peers := tput l.peers n { p with
                highest := (acceptSeq p.highest p.seen (field d 4 8)).1,
                seen := (acceptSeq p.highest p.seen (field d 4 8)).2 } })))

/-- Queues, pause frames and the Ethernet ports, with the wake filters of DORMANT (R160, R163, R378, R379, R483, R485,
R486, R488, R491, R494, R495). -/
def Obligations.QueueAndPortEventsComplete : Prop :=
  (∀ (e : Stamp) (queue : Fin 58) (s : State) (l : Lane), l = nowOf e s →
    exec (.queueWriteUnblock e queue) s = .next (s.setLane e.lane (unblock queue l))) ∧
  (∀ (e : Stamp) (port : Fin 12) (s : State) (l : Lane),
    l = nowOf e s → (queueCfg l port).pauseEnable = true → dieRuns l = true → (queueCfg l port).highWm ≤ queueHeld
    (queueOf l port) → (queueOf l port).highSeen = false →
    exec (.pauseFrameSend e port) s = .next
      (s.setLane e.lane (sendPause port (queueCfg l port).pauseQuanta (some l.tc) l))) ∧
  (∀ (e : Stamp) (port : Fin 12) (s : State) (l : Lane),
    l = nowOf e s → (queueCfg l port).pauseEnable = true → dieRuns l = true → queueHeld (queueOf l port) <
    (queueCfg l port).highWm → queueHeld (queueOf l port) ≤ (queueCfg l port).lowWm → (queueOf l port).paused.isSome =
    true →
    exec (.pauseFrameSend e port) s = .next (s.setLane e.lane (sendPause port 0 none l))) ∧
  (∀ (e : Stamp) (port : Fin 12) (s : State) (l : Lane) (t : Nat),
    l = nowOf e s → (queueOf l port).paused = some t → (queueCfg l port).pauseEnable = true → (queueCfg l port).lowWm <
    queueHeld (queueOf l port) → (queueCfg l port).pauseQuanta * quantum (ethCfg l port).mode ≤ (l.tc - t) * 800 →
    dieRuns l = true →
    exec (.pauseRepeat e port) s = .next
      (s.setLane e.lane (sendPause port (queueCfg l port).pauseQuanta (some l.tc) l))) ∧
  (∀ (e : Stamp) (port : Fin 12) (s : State) (l : Lane) (t : Nat),
    l = nowOf e s → (ethRun l port).pausedUntil = some t → t ≤ l.tc →
    exec (.pauseTimerExpiry e port) s = .next (s.setLane e.lane (releaseFast port l))) ∧
  (∀ (e : Stamp) (port : Fin 12) (s : State) (l : Lane), l = nowOf e s → dieRuns l = true → (ethCfg l port).mode ≠ 0 →
    exec (.linkUp e port) s = .next
      (s.setLane e.lane (dropCond (304 + port) (setEth port { ethRun l port with up := true } l)))) ∧
  (∀ (e : Stamp) (port : Fin 12) (s : State) (l : Lane),
    l = nowOf e s → dieRuns l = true → (ethRun l port).up = true → (ethCfg l port).mode ≠ 0 →
    exec (.linkDown e port) s = .next (s.setLane e.lane (raiseCond (304 + port)
          (setEth port { ethRun l port with
              up := false,
              counters := { (ethRun l port).counters with linkDowns := bump (ethRun l port).counters.linkDowns } } l)))) ∧
  (∀ (e : Stamp) (port : Fin 12) (underrun : Bool) (s : State) (l : Lane) (n : Nat) (sp : Bool) (what : EgressItem) (len
    : Nat) (ptp : Bool) (desc : Option (Nat × Bool)),
    l = nowOf e s → dieRuns l = true → headItem l (26 + port) = some ⟨n, sp, .egress what len ptp desc⟩ →
    (ethRun l port).up = false →
    exec (.egressFrameTransmit e port underrun) s = .next
      (s.setLane e.lane
        (txWriteBack desc 2 (countEth port (fun k => { k with txLinkDown := bump k.txLinkDown }) (takeEgress port l))))) ∧
  (∀ (e : Stamp) (port : Fin 12) (underrun : Bool) (s : State) (l : Lane) (n : Nat) (sp : Bool) (what : EgressItem) (len
    : Nat) (ptp : Bool) (desc : Option (Nat × Bool)),
    l = nowOf e s → dieRuns l = true → headItem l (26 + port) = some ⟨n, sp, .egress what len ptp desc⟩ →
    (ethRun l port).up = true → (ethRun l port).pausedUntil = none → gatedItem what = true → isLeaseholder l = false →
    exec (.egressFrameTransmit e port underrun) s = .next (s.setLane e.lane (takeEgress port l))) ∧
  (∀ (e : Stamp) (port : Fin 12) (underrun : Bool) (s : State) (l : Lane) (n : Nat) (sp : Bool) (what : EgressItem) (len
    : Nat) (desc : Option (Nat × Bool)),
    l = nowOf e s → dieRuns l = true → headItem l (26 + port) = some ⟨n, sp, .egress what len false desc⟩ →
    (ethRun l port).up = true → (ethRun l port).pausedUntil = none → gatedItem what = false → hostItem what = true →
    (ethCfg l port).prp = false → maxFrame (ethCfg l port).maxFrame < len →
    exec (.egressFrameTransmit e port underrun) s = .next
      (s.setLane e.lane
        (txWriteBack desc 1 (countEth port (fun k => { k with txOversize := bump k.txOversize }) (takeEgress port l))))) ∧
  (∀ (e : Stamp) (port : Fin 12) (underrun : Bool) (s : State) (l : Lane) (n : Nat) (sp : Bool) (what : EgressItem) (len
    : Nat) (desc : Option (Nat × Bool)),
    l = nowOf e s → dieRuns l = true → headItem l (26 + port) = some ⟨n, sp, .egress what len false desc⟩ →
    (ethRun l port).up = true → (ethRun l port).pausedUntil = none → gatedItem what = false → (ethCfg l port).prp =
    false → len ≤ maxFrame (ethCfg l port).maxFrame → underrun = false →
    exec (.egressFrameTransmit e port underrun) s = .next
      (s.setLane e.lane (txWriteBack desc 0 (emit (egressOutput port what)
            (setEth port { ethRun (countEth port (fun k => { k with
                      txFrames := bump k.txFrames,
                      txBytes := (k.txBytes + wireLength (ethCfg l port) len false) % 2 ^ 64 }) (takeEgress port l))
                port with
                prpSeq := (ethRun l port).prpSeq } (sampleEgress what
                (countEth port (fun k => { k with
                      txFrames := bump k.txFrames,
                      txBytes := (k.txBytes + wireLength (ethCfg l port) len false) % 2 ^ 64 })
                  (takeEgress port l)))))))) ∧
  (∀ (e : Stamp) (port : Fin 12) (f : EthFrame) (s : State) (l : Lane) (k : Nat),
    l = nowOf e s → l.mode.mode = .dormant → (port.val = 4 ∨ port.val = 5) → (ethCfg l port).mode ≠ 0 → frameError l
    port f = none → wakeFilterOf l port f.bytes = some k → (wake .wakeFrame l).mode.mode ≠ .dormant →
    exec (.wakeFrame e port f) s = .next (s.setLane e.lane
        { wake .wakeFrame l with mode := { (wake .wakeFrame l).mode with wakePort := port, wakeFilter := k } })) ∧
  (∀ (e : Stamp) (port : Fin 12) (f : EthFrame) (s : State) (l : Lane),
    l = nowOf e s → dieRuns l = true → (ethRun l port).up = true → (ethCfg l port).mode ≠ 0 → looped l port = false →
    f.length < 64 →
    exec (.ethernetFrameReceive e port f) s = .next
      (s.setLane e.lane (countEth port (fun c => { c with runts := bump c.runts }) l))) ∧
  (∀ (e : Stamp) (port : Fin 12) (f : EthFrame) (s : State) (l : Lane),
    l = nowOf e s → dieRuns l = true → (ethRun l port).up = true → (ethCfg l port).mode ≠ 0 → looped l port = false →
    frameError l port f = none →
    exec (.ethernetFrameReceive e port f) s = .next (s.setLane e.lane
        (classify port f (countEth port
            (fun c => { c with rxFrames := bump c.rxFrames, rxBytes := (c.rxBytes + f.length) % 2 ^ 64 }) l))))

/-- Serial ports: polling, responses, timeouts, and what a standby observes (R33, R497, R500, R501, R502, R503, R504).
-/
def Obligations.SerialEventsComplete : Prop :=
  (∀ (e : Stamp) (port : Fin 8) (s : State) (l : Lane) (q q1 : PollRequest) (l0 l1 : Lane) (p : SerialRun),
    l = nowOf e s → serving l = true → isLeaseholder l = true → (serialCfg l port).framing ≠ 0 → p = pollView l port →
    p.outstanding = none → p.held = false → p.lineAt + idleNeeded l port ≤ l.tc → l0 = setSerial port p l → nextRequest
    l0 port = some q → q1 = { q with sentAt := l.tc } → l1 = setSerial port
    { p with
      outstanding := some q1, again := none, lastEntry := some q.entry, lineAt := l.tc,
      polledUnder := some (leaseEpochs l), counters := { p.counters with framesTx := bump p.counters.framesTx } } l0 →
    exec (.pollRequestSend e port) s = .next (s.setLane e.lane
        (emit (.serial port (requestFrame (serialCfg l port) (pollCfg l port q.entry).linkAddr q1))
          (setStation port q.entry (afterRequest l.tc q1 (station l1 port q.entry)) l1)))) ∧
  (∀ (e : Stamp) (port : Fin 8) (octets : Bytes) (charError : Bool) (s : State) (l : Lane),
    l = nowOf e s → serving l = true → (serialCfg l port).framing ≠ 0 → looped l (12 + port) = false →
    (serialRun l port).outstanding = none →
    exec (.serialResponseReceive e port octets charError) s = .next
      (s.setLane e.lane
        (countSerial port (fun k => { k with unsolicited := (k.unsolicited + octets.length) % 2 ^ 32 }) l))) ∧
  (∀ (e : Stamp) (port : Fin 8) (octets : Bytes) (charError : Bool) (s : State) (l : Lane) (q : PollRequest),
    l = nowOf e s → serving l = true → (serialCfg l port).framing ≠ 0 → looped l (12 + port) = false →
    (serialRun l port).outstanding = some q → charError = true →
    exec (.serialResponseReceive e port octets charError) s = .next
      (s.setLane e.lane
        (requestFails port q (countSerial port (fun k => { k with charErrors := bump k.charErrors }) l)))) ∧
  (∀ (e : Stamp) (port : Fin 8) (octets : Bytes) (charError : Bool) (s : State) (l : Lane) (q : PollRequest),
    l = nowOf e s → serving l = true → (serialCfg l port).framing ≠ 0 → looped l (12 + port) = false →
    (serialRun l port).outstanding = some q → charError = false → parseLine (serialCfg l port).framing octets =
    .badCheck →
    exec (.serialResponseReceive e port octets charError) s = .next
      (s.setLane e.lane
        (requestFails port q (countSerial port (fun k => { k with checkErrors := bump k.checkErrors }) l)))) ∧
  (∀ (e : Stamp) (port : Fin 8) (octets : Bytes) (charError : Bool) (s : State) (l : Lane) (q : PollRequest) (f :
    LineFrame),
    l = nowOf e s → serving l = true → (serialCfg l port).framing ≠ 0 → looped l (12 + port) = false →
    (serialRun l port).outstanding = some q → charError = false → parseLine (serialCfg l port).framing octets = f → f ≠
    .badChar → f ≠ .badCheck → f ≠ .badLength → (responseAddr f).all (· == (pollCfg l port q.entry).linkAddr) = true →
    exec (.serialResponseReceive e port octets charError) s = .next (s.setLane e.lane (goodResponse port q octets f l))) ∧
  (∀ (e : Stamp) (port : Fin 8) (s : State) (l : Lane) (q : PollRequest),
    l = nowOf e s → (serialRun l port).outstanding = some q → serving l = true → q.sentAt + msTc
    (serialCfg l port).respTimeoutMs ≤ l.tc →
    exec (.responseTimeout e port) s = .next
      (s.setLane e.lane (requestFails port q (countSerial port (fun k => { k with timeouts := bump k.timeouts }) l)))) ∧
  (∀ (e : Stamp) (port : Fin 8) (entry : Fin 64) (s : State) (l : Lane),
    l = nowOf e s → serving l = true → (station l port entry).state = .offline → (station l port entry).offlineAt +
    secTc (serialCfg l port).offlineRetryS ≤ l.tc →
    exec (.offlineRetryExpiry e port entry) s = .next (s.setLane e.lane
        (offlineAlarm port (setStation port entry { station l port entry with state := .resetting, step := 0 } l)))) ∧
  (∀ (e : Stamp) (port : Fin 8) (count : Nat) (s : State) (l : Lane),
    l = nowOf e s → serving l = true → (serialRun l port).outstanding = none →
    exec (.unsolicitedCharacter e port count) s = .next
      (s.setLane e.lane (countSerial port (fun k => { k with unsolicited := (k.unsolicited + count) % 2 ^ 32 }) l))) ∧
  (∀ (e : Stamp) (port : Fin 8) (octets : Bytes) (s : State) (l : Lane) (q : PollRequest),
    l = nowOf e s → serving l = true → isLeaseholder l = false → (serialCfg l port).framing ≠ 0 → observedRequest l port
    (parseLine (serialCfg l port).framing octets) = some q →
    exec (.observedPollRequest e port octets) s = .next (s.setLane e.lane
        (setStation port q.entry (afterRequest l.tc q
            { station l port q.entry with state := if q.fc = 10 ∨ q.fc = 11 then .polling else .resetting })
          (setSerial port
            { serialRun l port with outstanding := some q, again := none, lastEntry := some q.entry, lineAt := l.tc }
            l))))

/-- Alarms held, GOOSE repeats, and the PMU sessions' commands (R383, R389, R397, R398). -/
def Obligations.AlarmAndGooseEventsComplete : Prop :=
  (∀ (e : Stamp) (alarm : Fin 512) (s : State) (l : Lane), l = nowOf e s → dieRuns l = true →
    exec (.alarmHoldExpiry e alarm) s = .next (s.setLane e.lane (settleAlarm alarm l))) ∧
  (∀ (e : Stamp) (pub : Fin 32) (s : State) (l : Lane) (p : GoosePub),
    l = nowOf e s → tget l.cfg.goose pub = some p → p.enable = true → serving l = true → isLeaseholder l = true →
    (gooseRun l pub).intervalMs ≠ 0 → (gooseRun l pub).nextAt ≤ l.tc →
    exec (.gooseRepeat e pub) s = .next (s.setLane e.lane (gooseTransmit pub p
          { gooseRun l pub with sqNum := gooseNext (gooseRun l pub).sqNum }
          (min (2 * (gooseRun l pub).intervalMs) p.tMaxMs) false l))) ∧
  (∀ (e : Stamp) (session : Fin 64) (s : State) (l : Lane) (x : SessionRun) (c : SessionCfg) (t : Nat) (r : Request),
    l = nowOf e s → tget l.publish.sessions session = some x → x.announce = some (c, t, r) → t ≤ l.tc →
    exec (.sessionAnnounceCommit e session) s = .next (s.setLane e.lane
        (postReply r .ok false [] { l with
            cfg := { l.cfg with sessions := tput l.cfg.sessions session c },
            publish := { l.publish with
                sessions := tput l.publish.sessions session { x with
                    announce := none, cfgcnt := (x.cfgcnt + 1) % 65536,
                    sending := x.sending || (!c.tcp && !c.cmdAccept) } } }))) ∧
  (∀ (e : Stamp) (session : Fin 64) (idcode : Nat) (chk : Bool) (s : State) (l : Lane) (c : SessionCfg) (x : SessionRun)
    (cl : Bytes),
    l = nowOf e s → tget l.cfg.sessions session = some c → tget l.publish.sessions session = some x → serving l = true →
    chk = true → idcode = c.idcode → c.tcp = true → x.client = some cl →
    exec (.sessionDataOff e session idcode chk) s = .next (s.setLane e.lane (setSending session false l))) ∧
  (∀ (e : Stamp) (session : Fin 64) (idcode : Nat) (chk : Bool) (s : State) (l : Lane) (c : SessionCfg) (x : SessionRun)
    (cl : Bytes),
    l = nowOf e s → tget l.cfg.sessions session = some c → tget l.publish.sessions session = some x → serving l = true →
    chk = true → idcode = c.idcode → c.tcp = true → x.client = some cl →
    exec (.sessionDataOn e session idcode chk) s = .next (s.setLane e.lane (setSending session true l))) ∧
  (∀ (e : Stamp) (session : Fin 64) (idcode : Nat) (chk : Bool) (s : State) (l : Lane) (c : SessionCfg) (x : SessionRun)
    (cl : Bytes),
    l = nowOf e s → tget l.cfg.sessions session = some c → tget l.publish.sessions session = some x → serving l = true →
    chk = true → idcode = c.idcode → c.tcp = true → x.client = some cl →
    exec (.sessionSendHeader e session idcode chk) s = .next (s.setLane e.lane (sendHeader session l))) ∧
  (∀ (e : Stamp) (session : Fin 64) (idcode : Nat) (chk : Bool) (s : State) (l : Lane) (c : SessionCfg) (x : SessionRun)
    (cl : Bytes),
    l = nowOf e s → tget l.cfg.sessions session = some c → tget l.publish.sessions session = some x → serving l = true →
    chk = true → idcode = c.idcode → c.tcp = true → x.client = some cl →
    exec (.sessionSendCfg1 e session idcode chk) s = .next (s.setLane e.lane (sendConfig session 1 l))) ∧
  (∀ (e : Stamp) (session : Fin 64) (idcode : Nat) (chk : Bool) (s : State) (l : Lane) (c : SessionCfg) (x : SessionRun)
    (cl : Bytes),
    l = nowOf e s → tget l.cfg.sessions session = some c → tget l.publish.sessions session = some x → serving l = true →
    chk = true → idcode = c.idcode → c.tcp = true → x.client = some cl →
    exec (.sessionSendCfg2 e session idcode chk) s = .next (s.setLane e.lane (sendConfig session 2 l))) ∧
  (∀ (e : Stamp) (session : Fin 64) (idcode : Nat) (chk : Bool) (s : State) (l : Lane) (c : SessionCfg) (x : SessionRun)
    (cl : Bytes),
    l = nowOf e s → tget l.cfg.sessions session = some c → tget l.publish.sessions session = some x → serving l = true →
    chk = true → idcode = c.idcode → c.tcp = true → x.client = some cl →
    exec (.sessionSendCfg3 e session idcode chk) s = .next (s.setLane e.lane (sendConfig session 3 l))) ∧
  (∀ (e : Stamp) (session : Fin 64) (idcode : Nat) (chk : Bool) (s : State) (l : Lane) (c : SessionCfg) (x :
    SessionRun),
    l = nowOf e s → tget l.cfg.sessions session = some c → tget l.publish.sessions session = some x → serving l = true →
    chk = true → idcode = c.idcode → c.tcp = false → c.cmdAccept = false →
    exec (.sessionDataOn e session idcode chk) s = .next
      (s.setLane e.lane (setSession session { x with commands := bump x.commands } l))) ∧
  (∀ (e : Stamp) (session : Fin 64) (addr : Bytes) (s : State) (l : Lane) (c : SessionCfg) (x : SessionRun),
    l = nowOf e s → tget l.cfg.sessions session = some c → tget l.publish.sessions session = some x → c.tcp = true →
    serving l = true → isLeaseholder l = true → x.client = none →
    exec (.sessionTcpConnect e session addr) s = .next (s.setLane e.lane
        (setSession session
          { x with client := some (fit 16 addr), sending := c.autoStart, connections := bump x.connections } l))) ∧
  (∀ (e : Stamp) (session : Fin 64) (addr : Bytes) (s : State) (l : Lane) (c : SessionCfg) (x : SessionRun) (cl :
    Bytes),
    l = nowOf e s → tget l.cfg.sessions session = some c → tget l.publish.sessions session = some x → c.tcp = true →
    serving l = true → isLeaseholder l = true → x.client = some cl →
    exec (.sessionTcpConnect e session addr) s = .next (s.setLane e.lane (emit (.tcpReset session) l))) ∧
  (∀ (e : Stamp) (session : Fin 64) (s : State) (l : Lane) (x : SessionRun) (cl : Bytes),
    l = nowOf e s → tget l.publish.sessions session = some x → x.client = some cl →
    exec (.sessionTcpDisconnect e session) s = .next
      (s.setLane e.lane (setSession session { x with client := none, sending := false, waiting := [] } l)))

/-- The leases' timers: renewal, expiry, takeover, claims, and the witnesses (R536, R537, R538, R541, R543, R545, R546,
R560). -/
def Obligations.LeaseTimersComplete : Prop :=
  (∀ (e : Stamp) (k : LeaseKind) (s : State) (l : Lane),
    l = nowOf e s → leads l k = true → (leaseOf l k).sentAt + periodTc l k / 2 ≤ l.tc →
    exec (.renewSend e k) s = .next (s.setLane e.lane (sendRenew k (witnessUp l k) l))) ∧
  (∀ (e : Stamp) (k : LeaseKind) (s : State) (l : Lane) (l1 : Lane),
    l = nowOf e s → leads l k = true → (leaseOf l k).acked = false → (leaseOf l k).timedOut = false →
    (leaseOf l k).sentAt + periodTc l k / 8 ≤ l.tc → l1 = setLease k { leaseOf l k with timedOut := true } l →
    exec (.renewAckTimeout e k) s = .next (s.setLane e.lane
        (askWitness k 1 { l1 with
            ply := { l1.ply with ctr := { l1.ply.ctr with renewalsUnacked := bump l1.ply.ctr.renewalsUnacked } } }))) ∧
  (∀ (e : Stamp) (k : LeaseKind) (s : State) (l : Lane) (l1 : Lane),
    l = nowOf e s → leads l k = true → (leaseOf l k).until_ ≤ l.tc → l1 = loseLease k (dropHandover l) →
    exec (.leaseExpiry e k) s = .next (s.setLane e.lane (plySettle
          (setLease k { leaseOf l1 k with
              silence := some (leaseOf l k).sentAt, theirPeriod := periodTc l k, theirGuard := guardTc l k,
              awaiting := policyAvailable l k } l1)))) ∧
  (∀ (e : Stamp) (k : LeaseKind) (s : State) (l : Lane) (t z : Nat),
    l = nowOf e s → takeoverAt l k = some t → mayClaim l k = true → t ≤ l.tc → (leaseOf l k).silence = some z →
    witnessUp l k = true → (leaseOf l k).lastClaim = none →
    exec (.silenceTakeover e k) s = .next
      (s.setLane e.lane (askWitness k 2 (setLease k { leaseOf l k with lastClaim := some l.tc } l)))) ∧
  (∀ (e : Stamp) (k : LeaseKind) (s : State) (l : Lane) (t z : Nat),
    l = nowOf e s → takeoverAt l k = some t → mayClaim l k = true → t ≤ l.tc → (leaseOf l k).silence = some z →
    witnessUp l k = false → policyAvailable l k = true →
    exec (.silenceTakeover e k) s = .next (s.setLane e.lane (acquire k l))) ∧
  (∀ (e : Stamp) (k : LeaseKind) (s : State) (l : Lane) (t z : Nat),
    l = nowOf e s → takeoverAt l k = some t → mayClaim l k = true → t ≤ l.tc → (leaseOf l k).silence = some z →
    witnessUp l k = false → policyAvailable l k = false →
    exec (.silenceTakeover e k) s = .next (s.setLane e.lane (plyAlarms l))) ∧
  (∀ (e : Stamp) (k : LeaseKind) (s : State) (l : Lane) (t : Nat),
    l = nowOf e s → (leaseOf l k).lastClaim = some t → mayClaim l k = true → witnessUp l k = true → t + periodTc l k ≤
    l.tc →
    exec (.claimRepeat e k) s = .next
      (s.setLane e.lane (askWitness k 2 (setLease k { leaseOf l k with lastClaim := some l.tc } l)))) ∧
  (∀ (e : Stamp) (k : LeaseKind) (s : State) (l : Lane), l = nowOf e s →
    exec (.freeLeaseWaitExpiry e k) s = .next (s.setLane e.lane (laneFreeLease k (followPull l)))) ∧
  (∀ (e : Stamp) (s : State) (l : Lane),
    l = nowOf e s → dieRuns l = true → l.cfg.pair.isSome = true → knownDevice l = 0xFF → l.ply.lastHello + periodTc l
    .device / 2 ≤ l.tc →
    exec (.plyHelloPeriodic e) s = .next (s.setLane e.lane
        (azSendPartners 0xFF (.hello (helloBody l)) { l with ply := { l.ply with lastHello := l.tc } }))) ∧
  (∀ (e : Stamp) (k : LeaseKind) (s : State) (l : Lane),
    l = nowOf e s → takesPart l = true → (witnessOf l k).lastPing + msTc l.cfg.witness.timeoutMs / 4 ≤ l.tc →
    exec (.witnessPing e k) s = .next (s.setLane e.lane (askWitness k 0 l))) ∧
  (∀ (e : Stamp) (k : LeaseKind) (s : State) (l : Lane),
    l = nowOf e s → (witnessOf l k).available = true → (witnessOf l k).lastAnswer + msTc l.cfg.witness.timeoutMs ≤ l.tc
    →
    exec (.witnessUnavailable e k) s = .next (s.setLane e.lane (witnessLost k l))) ∧
  (∀ (e : Stamp) (k : LeaseKind) (kind : Nat) (s : State) (l : Lane),
    l = nowOf e s → witnessKind l k = 2 → kind = 0 → takesPart l = true → (witnessOf l k).lastPing + msTc
    l.cfg.witness.timeoutMs / 4 ≤ l.tc →
    exec (.plyWitnessQuery e k kind) s = .next (s.setLane e.lane (askWitness k 0 l))) ∧
  (∀ (e : Stamp) (s : State) (l : Lane) (h : Handover),
    l = nowOf e s → l.ply.handover = some h → h.sentAt + periodTc l h.lease ≤ l.tc →
    exec (.offerTimeout e) s = .next
      (s.setLane e.lane (refuse h.req .timeout { l with ply := { l.ply with handover := none } })))

/-- Ply links and Azwell: frames, losses, resends, and the periodic messages (R476, R548, R551, R552, R554, R557, R558).
-/
def Obligations.PlyLinkEventsComplete : Prop :=
  (∀ (e : Stamp) (link : Fin 2) (s : State) (l : Lane),
    l = nowOf e s → dieRuns l = true → (linkOf l link).lastSent + usTc 10 ≤ l.tc →
    exec (.plyIdleFrame e link) s = .next (s.setLane e.lane (plyFrame link none l))) ∧
  (∀ (e : Stamp) (link : Fin 2) (x : PlyRx) (bad : Option Nat) (s : State) (l : Lane) (seq : Nat),
    l = nowOf e s → dieRuns l = true → x = .again seq →
    exec (.plyFrameReceive e link x bad) s = .next (s.setLane e.lane (resendFrame link seq l))) ∧
  (∀ (e : Stamp) (link : Fin 2) (x : PlyRx) (bad : Option Nat) (s : State) (l : Lane) (seq : Nat) (msg : Option PlyMsg),
    l = nowOf e s → dieRuns l = true → x = .frame seq false msg →
    exec (.plyFrameReceive e link x bad) s = .next (s.setLane e.lane (badPlyFrame link seq l))) ∧
  (∀ (e : Stamp) (link : Fin 2) (x : PlyRx) (bad : Option Nat) (s : State) (l : Lane) (seq : Nat) (msg : Option PlyMsg),
    l = nowOf e s → dieRuns l = true → x = .frame seq true msg → (linkOf l link).rxSeen.contains seq = true →
    exec (.plyFrameReceive e link x bad) s = .next (s.setLane e.lane l)) ∧
  (∀ (e : Stamp) (link : Fin 2) (x : PlyRx) (bad : Option Nat) (s : State) (l : Lane) (seq : Nat) (msg : Option PlyMsg),
    l = nowOf e s → dieRuns l = true → x = .frame seq true msg → (linkOf l link).rxSeen.contains seq = false →
    exec (.plyFrameReceive e link x bad) s = .next
      (s.setLane e.lane (frameMessage link msg bad (goodPlyFrame link seq l)))) ∧
  (∀ (e : Stamp) (link : Fin 2) (s : State) (l : Lane),
    l = nowOf e s → dieRuns l = true → (linkOf l link).up = true → (linkOf l link).lastValid + usTc 100 ≤ l.tc →
    exec (.plyLinkLoss e link) s = .next (s.setLane e.lane (loseLink link l))) ∧
  (∀ (e : Stamp) (link : Fin 2) (s : State) (l : Lane),
    l = nowOf e s → dieRuns l = true → (linkOf l link).up = false → (linkOf l link).lastRetrain + secTc 1 ≤ l.tc →
    (linkOf (returnLink link l) link).up = true →
    exec (.plyLinkRetrain e link) s = .next (s.setLane e.lane (returnLink link l))) ∧
  (∀ (e : Stamp) (link : Fin 2) (s : State) (l : Lane),
    l = nowOf e s → dieRuns l = true → (linkOf l link).up = false → (linkOf l link).lastRetrain + secTc 1 ≤ l.tc →
    (linkOf (returnLink link l) link).up = false →
    exec (.plyLinkRetrain e link) s = .next
      (s.setLane e.lane (setLink link { linkOf l link with lastRetrain := l.tc } l))) ∧
  (∀ (e : Stamp) (d : AzDatagram) (bad : Option Nat) (s : State) (l : Lane),
    l = nowOf e s → dieRuns l = true → azOk l d = false →
    exec (.azwellDatagramReceive e d bad) s = .next (s.setLane e.lane (azDrop l))) ∧
  (∀ (e : Stamp) (d : AzDatagram) (bad : Option Nat) (s : State) (l : Lane),
    l = nowOf e s → dieRuns l = true → azOk l d = true → isDuplicate (azOf l d.sender).highest (azOf l d.sender).seen
    d.seq = true → d.rseq ≠ 0 →
    exec (.azwellDatagramReceive e d bad) s = .next (s.setLane e.lane (azAck d.sender l))) ∧
  (∀ (e : Stamp) (d : AzDatagram) (bad : Option Nat) (s : State) (l : Lane),
    l = nowOf e s → dieRuns l = true → azOk l d = true → isDuplicate (azOf l d.sender).highest (azOf l d.sender).seen
    d.seq = false →
    exec (.azwellDatagramReceive e d bad) s = .next (s.setLane e.lane (azAccept d bad l))) ∧
  (∀ (e : Stamp) (m : Nat) (s : State) (l : Lane), l = nowOf e s → dieRuns l = true → l.keys.zeroised = false →
    exec (.azwellRetransmit e m) s = .next (s.setLane e.lane
        (((azOf l m).pending.filter (fun x => azDue l x && x.resends < 8)).foldl (fun acc x => azResend m x acc) l))) ∧
  (∀ (e : Stamp) (m : Nat) (s : State) (l : Lane),
    l = nowOf e s → dieRuns l = true → (azOf l m).up = true → (azOf l m).lastValid + periodTc l .device ≤ l.tc →
    exec (.azwellLinkLoss e m) s = .next
      (s.setLane e.lane (followPull (plySettle (setAz m { azOf l m with up := false } l))))) ∧
  (∀ (e : Stamp) (s : State) (l : Lane) (own remote : List DigestEntry),
    l = nowOf e s → own = l.ply.own.filter (fun d => decide (d.at_ + msTc 100 ≤ l.tc)) → remote = l.ply.remote.filter
    (fun d => decide (d.at_ + msTc 100 ≤ l.tc)) →
    exec (.digestUnmatchedExpiry e) s = .next (s.setLane e.lane
        { l with
          ply := { l.ply with
              own := l.ply.own.filter (fun d => !decide (d.at_ + msTc 100 ≤ l.tc)),
              remote := l.ply.remote.filter (fun d => !decide (d.at_ + msTc 100 ≤ l.tc)),
              ctr := { l.ply.ctr with unmatched := (l.ply.ctr.unmatched + (own.length + remote.length)) % 2 ^ 32 } } })) ∧
  (∀ (e : Stamp) (s : State) (l : Lane) (l1 l2 l3 : Lane),
    l = nowOf e s → takesPart l = true → l.ply.lastHealth + secTc 1 ≤ l.tc → l1 =
    { l with ply := { l.ply with lastHealth := l.tc } } → l2 =
    (if inContact l1 (siblingId l1) then plySend 0xFF (.health ⟨healthBytes l1⟩) l1 else l1) → l3 =
    (partnerMembers l2).foldl (fun acc m => if inContact acc m then azSend m false
      [{ sender := memberId acc, lease := 0xFF, body := .health ⟨healthBytes acc⟩ }] acc else acc) l2 →
    exec (.healthSend e) s = .next (s.setLane e.lane
        { l3 with health := { l3.health with sramCorrected := 0, dramCorrected := 0, selfTestFail := 0 } })) ∧
  (∀ (e : Stamp) (s : State) (l : Lane),
    l = nowOf e s → l.ply.reasons.getLsbD 4 = true → l.time.lastDisagree + secTc 10 ≤ l.tc →
    exec (.timeReasonClear e) s = .next (s.setLane e.lane (plySettle (setReason 4 false l)))) ∧
  (∀ (e : Stamp) (s : State) (l : Lane),
    l = nowOf e s → dieRuns l = true → l.mode.mode ≠ .salvage → l.time.lastExchange + msTc 125 ≤ l.tc →
    exec (.laneTimeExchange e) s = .next (s.setLane e.lane (plySend 0xFF
          (.time (nowFull l) (l.time.siblingTime.getD (0, 0)).1 (l.time.siblingTime.getD (0, 0)).2)
          { l with time := { l.time with lastExchange := l.tc } })))

/-- Every Ply message from a member of the pair has its effect (R400, R476, R536, R537, R540, R543, R549, R554, R557,
R559, R560). -/
def Obligations.PlyMessagesComplete : Prop :=
  (∀ (e : Stamp) (m : Nat) (h : HelloBody) (s : State) (l : Lane),
    l = nowOf e s → dieRuns l = true → knownSender l ⟨m, 0xFF, .hello h⟩ = true →
    exec (.plyHello e m h) s = .next (s.setLane e.lane (followPull (onHello m h l)))) ∧
  (∀ (e : Stamp) (m lease epoch counter periodUs guardUs : Nat) (s : State) (l : Lane) (k : LeaseKind),
    l = nowOf e s → dieRuns l = true → knownSender l ⟨m, lease, .renew epoch counter periodUs guardUs⟩ = true →
    leaseNamed lease = some k →
    exec (.plyRenew e m lease epoch counter periodUs guardUs) s = .next
      (s.setLane e.lane (followPull (onRenew k m epoch counter periodUs guardUs l)))) ∧
  (∀ (e : Stamp) (m lease epoch counter state : Nat) (s : State) (l : Lane) (k : LeaseKind),
    l = nowOf e s → dieRuns l = true → knownSender l ⟨m, lease, .renewAck epoch counter state⟩ = true → leaseNamed lease
    = some k →
    exec (.plyRenewAck e m lease epoch counter state) s = .next
      (s.setLane e.lane (followPull (onRenewAck k m epoch counter l)))) ∧
  (∀ (e : Stamp) (m lease epoch : Nat) (s : State) (l : Lane) (k : LeaseKind),
    l = nowOf e s → dieRuns l = true → knownSender l ⟨m, lease, .yield epoch⟩ = true → leaseNamed lease = some k →
    exec (.plyYield e m lease epoch) s = .next (s.setLane e.lane (followPull (onYield k m epoch l)))) ∧
  (∀ (e : Stamp) (m lease epoch successor reason : Nat) (s : State) (l : Lane) (k : LeaseKind),
    l = nowOf e s → dieRuns l = true → knownSender l ⟨m, lease, .release epoch successor reason⟩ = true → leaseNamed
    lease = some k →
    exec (.plyRelease e m lease epoch successor reason) s = .next
      (s.setLane e.lane (followPull (onRelease k m epoch successor reason l)))) ∧
  (∀ (e : Stamp) (m lease epoch target : Nat) (s : State) (l : Lane) (k : LeaseKind),
    l = nowOf e s → dieRuns l = true → knownSender l ⟨m, lease, .offer epoch target⟩ = true → leaseNamed lease = some k
    →
    exec (.plyOffer e m lease epoch target) s = .next (s.setLane e.lane (followPull (onOffer k m epoch target l)))) ∧
  (∀ (e : Stamp) (m lease epoch target : Nat) (s : State) (l : Lane) (k : LeaseKind),
    l = nowOf e s → dieRuns l = true → knownSender l ⟨m, lease, .accept epoch target⟩ = true → leaseNamed lease = some k
    →
    exec (.plyAccept e m lease epoch target) s = .next (s.setLane e.lane (followPull (onAccept k m l)))) ∧
  (∀ (e : Stamp) (m plane swapGen absent first : Nat) (digests : List Nat) (bad : Option Nat) (s : State) (l : Lane),
    l = nowOf e s → dieRuns l = true → knownSender l ⟨m, 0xFF, .digest plane swapGen absent first digests⟩ = true →
    exec (.plyDigest e m plane swapGen absent first digests bad) s = .next
      (s.setLane e.lane (followPull (onDigest m plane swapGen absent first digests bad l)))) ∧
  (∀ (e : Stamp) (m : Nat) (b : Bytes) (s : State) (l : Lane),
    l = nowOf e s → dieRuns l = true → knownSender l ⟨m, 0xFF, .health ⟨b⟩⟩ = true →
    exec (.plyHealth e m b) s = .next (s.setLane e.lane (followPull (onHealth m b l)))) ∧
  (∀ (e : Stamp) (m tx echoTx echoRx : Nat) (s : State) (l : Lane),
    l = nowOf e s → dieRuns l = true → knownSender l ⟨m, 0xFF, .time tx echoTx echoRx⟩ = true →
    exec (.plyTime e m tx echoTx echoRx) s = .next (s.setLane e.lane (followPull (onTime m tx echoTx echoRx l)))) ∧
  (∀ (e : Stamp) (m sources time : Nat) (s : State) (l : Lane),
    l = nowOf e s → dieRuns l = true → knownSender l ⟨m, 0xFF, .tamper sources time⟩ = true →
    exec (.plyTamper e m sources time) s = .next (s.setLane e.lane (followPull (onTamper m sources time l)))) ∧
  (∀ (e : Stamp) (m : Nat) (x : MirrorKind) (s : State) (l : Lane) (p : Nat),
    l = nowOf e s → dieRuns l = true → knownSender l ⟨m, 0xFF, .mirrorPins p⟩ = true → x = .pins p →
    exec (.plyMirror e m x) s = .next (s.setLane e.lane (followPull (onMirrorPins m p l)))) ∧
  (∀ (e : Stamp) (m item offset : Nat) (s : State) (l : Lane),
    l = nowOf e s → dieRuns l = true → knownSender l ⟨m, 0xFF, .pullReq item offset⟩ = true →
    exec (.plyPullReq e m item offset) s = .next (s.setLane e.lane (followPull (onPullReq m item l)))) ∧
  (∀ (e : Stamp) (m : Nat) (c : PullItem) (total : Nat) (s : State) (l : Lane),
    l = nowOf e s → dieRuns l = true → knownSender l ⟨m, 0xFF, .pullData c total⟩ = true →
    exec (.plyPullData e m c total) s = .next (s.setLane e.lane (followPull (onPullData m c total l)))) ∧
  (∀ (e : Stamp) (m plane : Nat) (result fail : Bool) (course : Nat) (bad : Option Nat) (s : State) (l : Lane),
    l = nowOf e s → dieRuns l = true → knownSender l ⟨m, 0xFF, .check plane result fail course⟩ = true →
    exec (.plyCheck e m plane result fail course bad) s = .next
      (s.setLane e.lane (followPull (onCheck m plane result fail course bad l)))) ∧
  (∀ (e : Stamp) (q vote : Nat) (s : State) (l : Lane), l = nowOf e s → dieRuns l = true →
    exec (.plyWitnessVote e q vote) s = .next (s.setLane e.lane (followPull (onVote q vote l))))

/-- START, restarts and confirmation (R462, R594, R600, R601, R604, R605, R606, R607, R608, R672, R688). -/
def Obligations.ModeEventsComplete : Prop :=
  (∀ (e : Stamp) (s : State) (l : Lane),
    l = nowOf e s → l.mode.mode = .start → dieRuns l = true → l.mode.start.step = 7 → l.time.startSet = none →
    timeStepDone l = true →
    exec (.startTimeWaitExpiry e) s = .next (s.setLane e.lane (stepDone l))) ∧
  (∀ (e : Stamp) (built : Option BuiltImage) (s : State) (l : Lane) (q : BuildRun) (g : Staged),
    l = nowOf e s → l.mode.build = some q → l.mode.staged = some g → built = none →
    exec (.updateBuildComplete e built) s = .next
      (s.setLane e.lane (failUpdate q.req { l with mode := { l.mode with build := none } }))) ∧
  (∀ (e : Stamp) (built : Option BuiltImage) (s : State) (l : Lane) (q : BuildRun) (g : Staged) (x : BuiltImage) (b :
    BootFlash),
    l = nowOf e s → l.mode.build = some q → l.mode.staged = some g → built = some x → x.length ≤ 25165568 → b =
    setSlotIn (inactiveIsB l) (trialSlot g x) l.boot → q.restart = false →
    exec (.updateBuildComplete e built) s = .next (s.setLane e.lane
        (postReply q.req .ok false [] { l with
            mode := { l.mode with build := none },
            boot := { b with
                selectedB := inactiveIsB l, failures := 0, confirmS := q.confirmS, hostConfirm := q.hostConfirm } }))) ∧
  (∀ (e : Stamp) (built : Option BuiltImage) (s : State) (l : Lane) (q : BuildRun) (g : Staged) (x : BuiltImage) (b :
    BootFlash),
    l = nowOf e s → l.mode.build = some q → l.mode.staged = some g → built = some x → x.length ≤ 25165568 → b =
    setSlotIn (inactiveIsB l) (trialSlot g x) l.boot → q.restart = true →
    exec (.updateBuildComplete e built) s = .next (s.setLane e.lane
        (resetToStart .laneReset (postReply q.req .ok false [] { l with
              mode := { l.mode with build := none },
              boot := { b with
                  selectedB := inactiveIsB l, failures := 0, confirmS := q.confirmS, hostConfirm :=
                    q.hostConfirm } })))) ∧
  (∀ (e : Stamp) (o : StartOutcome) (s : State) (l : Lane),
    l = nowOf e s → l.mode.mode = .start → dieRuns l = true → l.mode.start.step = 0 →
    exec (.startSequence e o) s = .next (s.setLane e.lane (setCause causeStarted (stepDone l)))) ∧
  (∀ (e : Stamp) (o : StartOutcome) (s : State) (l : Lane),
    l = nowOf e s → l.mode.mode = .start → dieRuns l = true → l.mode.start.step = 1 →
    exec (.startSequence e o) s = .next (s.setLane e.lane (startBoot o l))) ∧
  (∀ (e : Stamp) (o : StartOutcome) (s : State) (l : Lane),
    l = nowOf e s → l.mode.mode = .start → dieRuns l = true → l.mode.start.step = 2 →
    exec (.startSequence e o) s = .next (s.setLane e.lane (startDram o l))) ∧
  (∀ (e : Stamp) (o : StartOutcome) (s : State) (l : Lane),
    l = nowOf e s → l.mode.mode = .start → dieRuns l = true → l.mode.start.step = 3 →
    exec (.startSequence e o) s = .next (s.setLane e.lane (stepDone l))) ∧
  (∀ (e : Stamp) (o : StartOutcome) (s : State) (l : Lane),
    l = nowOf e s → l.mode.mode = .start → dieRuns l = true → l.mode.start.step = 4 →
    exec (.startSequence e o) s = .next (s.setLane e.lane (startKeys o l))) ∧
  (∀ (e : Stamp) (o : StartOutcome) (s : State) (l : Lane),
    l = nowOf e s → l.mode.mode = .start → dieRuns l = true → l.mode.start.step = 5 →
    exec (.startSequence e o) s = .next (s.setLane e.lane (stepDone (applyStore l)))) ∧
  (∀ (e : Stamp) (o : StartOutcome) (s : State) (l : Lane),
    l = nowOf e s → l.mode.mode = .start → dieRuns l = true → l.mode.start.step = 6 →
    exec (.startSequence e o) s = .next (s.setLane e.lane (stepDone (plySend 0xFF (.hello (helloBody l)) l)))) ∧
  (∀ (e : Stamp) (o : StartOutcome) (s : State) (l : Lane),
    l = nowOf e s → l.mode.mode = .start → dieRuns l = true → l.mode.start.step = 7 → timeStepDone l = true →
    exec (.startSequence e o) s = .next (s.setLane e.lane (stepDone l))) ∧
  (∀ (e : Stamp) (first0 retry0 first1 retry1 : Bool) (s : State) (l : Lane) (l1 l2 : Lane) (src : Nat),
    l = nowOf e s → l.mode.mode = .start → dieRuns l = true → 8 ≤ l.mode.start.step → l1 = beginPull
    (setMode .service (startRecords l)) → l2 = startAlarms
    (startRadios first0 retry0 first1 retry1 (rearmStored (startStreams (startPlanes l1)))) → l2.time.startSet = some
    src →
    exec (.startComplete e first0 retry0 first1 retry1) s = .next (s.setLane e.lane l2)) ∧
  (∀ (e : Stamp) (first0 retry0 first1 retry1 : Bool) (s : State) (l : Lane) (l1 l2 : Lane),
    l = nowOf e s → l.mode.mode = .start → dieRuns l = true → 8 ≤ l.mode.start.step → l1 = beginPull
    (setMode .service (startRecords l)) → l2 = startAlarms
    (startRadios first0 retry0 first1 retry1 (rearmStored (startStreams (startPlanes l1)))) → l2.time.startSet = none →
    exec (.startComplete e first0 retry0 first1 retry1) s = .next (s.setLane e.lane (enterHoldover l2))) ∧
  (∀ (e : Stamp) (s : State) (l : Lane) (l1 : Lane),
    l = nowOf e s → l.mode.mode = .start → dieRuns l = true → l.mode.start.failed = false → l.mode.start.beganAt + secTc
    10 ≤ l.tc → l1 = { l with
      boot := { l.boot with failures := min 255 (l.boot.failures + 1) },
      mode := { l.mode with start := { l.mode.start with failed := true } } } → (activeHeader l1).state = .valid → 3 ≤
    l1.boot.failures →
    exec (.startFailureTimeout e) s = .next (s.setLane e.lane (enterSalvage l1))) ∧
  (∀ (e : Stamp) (s : State) (l : Lane) (l1 : Lane),
    l = nowOf e s → l.mode.mode = .start → dieRuns l = true → l.mode.start.failed = false → l.mode.start.beganAt + secTc
    10 ≤ l.tc → l1 = { l with
      boot := { l.boot with failures := min 255 (l.boot.failures + 1) },
      mode := { l.mode with start := { l.mode.start with failed := true } } } → l1.boot.failures < 3 →
    exec (.startFailureTimeout e) s = .next (s.setLane e.lane l1)) ∧
  (∀ (e : Stamp) (s : State) (l : Lane), l = nowOf e s → dieRuns l = true → mayConfirm l = true →
    exec (.imageConfirmation e) s = .next (s.setLane e.lane (confirmImage l))) ∧
  (∀ (e : Stamp) (s : State) (l : Lane) (t : Nat),
    l = nowOf e s → l.mode.window = some t → dieRuns l = true → t ≤ l.tc →
    exec (.confirmWindowClose e) s = .next
      (s.setLane e.lane (raiseEvent 360 { l with mode := { l.mode with window := none } }))) ∧
  (∀ (e : Stamp) (s : State) (l : Lane), l = nowOf e s → dieRuns l = true →
    exec (.watchdogExpiry e) s = .next (s.setLane e.lane (resetToStart .watchdog l))) ∧
  (∀ (e : Stamp) (low : Bool) (held : Nat) (s : State) (l : Lane),
    l = nowOf e s → l.powered = true → l.dieOk = true → low = true → 10 ≤ held →
    exec (.rstnLow e low held) s = .next
      (s.setLane e.lane { resetToStart .rstn l with mode := { (resetToStart .rstn l).mode with rstnLow := true } })) ∧
  (∀ (e : Stamp) (low : Bool) (held : Nat) (s : State) (l : Lane),
    l = nowOf e s → l.powered = true → l.dieOk = true → low = true → held < 10 →
    exec (.rstnLow e low held) s = .next (s.setLane e.lane l)) ∧
  (∀ (e : Stamp) (low : Bool) (held : Nat) (s : State) (l : Lane),
    l = nowOf e s → l.powered = true → l.dieOk = true → low = false → l.mode.rstnLow = true →
    exec (.rstnLow e low held) s = .next
      (s.setLane e.lane { l with mode := { l.mode with rstnLow := false, start := startBegin l.tc } })) ∧
  (∀ (e : Stamp) (held : Nat) (s : State) (l : Lane), l = nowOf e s → 1000 ≤ held →
    exec (.wakePin e held) s = .next (s.setLane e.lane (wake .wakePin l))) ∧
  (∀ (e : Stamp) (held : Nat) (s : State) (l : Lane), l = nowOf e s → held < 1000 →
    exec (.wakePin e held) s = .next (s.setLane e.lane l)) ∧
  (∀ (e : Stamp) (s : State) (l : Lane) (t : Nat), l = nowOf e s → l.mode.rtcWakeAt = some t → t ≤ l.tc →
    exec (.rtcWakeAlarm e) s = .next (s.setLane e.lane (wake .rtc l)))

/-- Streams: frames from the ingest queues, configuration, connections, ageing (R106, R110, R128, R130, R140, R149). -/
def Obligations.StreamEventsComplete : Prop :=
  (∀ (e : Stamp) (stream : Nat) (f : Bytes) (s : State) (l : Lane) (x : StreamRun),
    l = nowOf e s → streamRun l stream = some x → serving l = true → (x.state = .suspended ∨ x.state = .keyLost) →
    exec (.configurationFrameReceive e stream f) s = .next
      (s.setLane e.lane (countStream stream (fun c => { c with state := bump c.state }) l))) ∧
  (∀ (e : Stamp) (stream : Nat) (f : Bytes) (s : State) (l : Lane) (x : StreamRun),
    l = nowOf e s → streamRun l stream = some x → serving l = true → x.state ≠ .suspended → x.state ≠ .keyLost →
    exec (.configurationFrameReceive e stream f) s = .next (s.setLane e.lane (receiveCfg stream f l))) ∧
  (∀ (e : Stamp) (stream : Nat) (s : State) (l : Lane) (x : StreamRun) (p : PmuPart),
    l = nowOf e s → streamRun l stream = some x → (streamCfg l stream).bind pmuPart = some p → x.procedure = true →
    x.newCfg = none → p.cfgSource = 0 → serving l = true → x.requestAt + msTc p.cfgRetryMs ≤ l.tc →
    exec (.configurationRequestRetry e stream) s = .next
      (s.setLane e.lane (requestCfg stream (setRun stream { x with requestAt := l.tc } l)))) ∧
  (∀ (e : Stamp) (stream : Nat) (s : State) (l : Lane) (x : StreamRun) (p : PmuPart),
    l = nowOf e s → streamRun l stream = some x → (streamCfg l stream).bind pmuPart = some p → isTcpPmu l stream = true
    → x.connected = false → serving l = true → x.attemptAt + msTc p.cfgRetryMs ≤ l.tc →
    exec (.pmuTcpConnectAttempt e stream) s = .next
      (s.setLane e.lane (emit (.tcpConnect stream) (setRun stream { x with attemptAt := l.tc } l)))) ∧
  (∀ (e : Stamp) (stream : Nat) (s : State) (l : Lane) (x : StreamRun),
    l = nowOf e s → streamRun l stream = some x → isTcpPmu l stream = true → x.connected = false → serving l = true →
    x.procedure = false →
    exec (.pmuTcpConnectionOpen e stream) s = .next
      (s.setLane e.lane (turnOn stream (setRun stream { x with connected := true, requestAt := l.tc } l)))) ∧
  (∀ (e : Stamp) (stream : Nat) (s : State) (l : Lane) (x : StreamRun) (p : PmuPart),
    l = nowOf e s → streamRun l stream = some x → isTcpPmu l stream = true → x.connected = false → serving l = true →
    x.procedure = true → (streamCfg l stream).bind pmuPart = some p → p.cfgSource = 0 →
    exec (.pmuTcpConnectionOpen e stream) s = .next (s.setLane e.lane
        (turnOn stream (requestCfg stream (setRun stream { x with connected := true, requestAt := l.tc } l))))) ∧
  (∀ (e : Stamp) (stream : Nat) (s : State) (l : Lane) (x : StreamRun),
    l = nowOf e s → streamRun l stream = some x → x.connected = true →
    exec (.pmuTcpConnectionClose e stream) s = .next
      (s.setLane e.lane (setRun stream { x with connected := false, attemptAt := l.tc } l))) ∧
  (∀ (e : Stamp) (stream : Nat) (s : State) (l : Lane) (c : StreamCfg) (x : StreamRun) (p : LegacyPart) (st sq til :
    Nat),
    l = nowOf e s → streamCfg l stream = some c → streamRun l stream = some x → c.part = .legacy p → x.goose = some
    (st, sq, til) → serving l = true → til ≠ 0 → til ≤ l.tc →
    exec (.gooseTalExpiry e stream) s = .next (s.setLane e.lane
        (invalidatePoints stream p.points.length (setRun stream { x with goose := some (st, sq, 0) } l)))) ∧
  (∀ (e : Stamp) (stream : Nat) (s : State) (l : Lane) (x : StreamRun),
    l = nowOf e s → streamRun l stream = some x → x.state = .learned → x.lastFrameAt + secTc
    (((x.learnedBy.bind (tget l.cfg.learn)).map (·.idleS)).getD 600) ≤ l.tc →
    exec (.learnedContextIdleExpiry e stream) s = .next (s.setLane e.lane (freeStream stream l)))

/-- The decoders take the oldest item of their ingest queue (R124, R131, R137, R138, R140, R185). -/
def Obligations.DecodersComplete : Prop :=
  (∀ (e : Stamp) (port : Fin 12) (s : State) (l : Lane) (it : QItem) (id : Nat) (pt : Nat) (ar : FineTag) (af : Nat) (fr
    : EthFrame) (src : Bytes) (sp dp : Nat) (p : Bytes),
    l = nowOf e s → serving l = true → headItem l port = some it → it.payload = .ingest id pt ar af fr → fr.content =
    .udp src sp dp p →
    exec (.pmuDataFrameDecode e port) s = .next (s.setLane e.lane (pmuFrame id pt p true ar (popItem port l)))) ∧
  (∀ (e : Stamp) (port : Fin 12) (s : State) (l : Lane) (it : QItem) (id : Nat) (pt : Nat) (ar : FineTag) (af : Nat) (fr
    : EthFrame) (st : Nat) (p : Bytes),
    l = nowOf e s → serving l = true → headItem l port = some it → it.payload = .ingest id pt ar af fr → fr.content =
    .pmuTcp st p →
    exec (.pmuDataFrameDecode e port) s = .next (s.setLane e.lane (pmuFrame id pt p false ar (popItem port l)))) ∧
  (∀ (e : Stamp) (port : Fin 12) (s : State) (l : Lane) (it : QItem) (id : Nat) (pt : Nat) (ar : FineTag) (af : Nat) (fr
    : EthFrame) (g : SvFrame),
    l = nowOf e s → serving l = true → headItem l port = some it → it.payload = .ingest id pt ar af fr → fr.content =
    .sv g →
    exec (.svFrameDecode e port) s = .next (s.setLane e.lane (svChecked id pt af g none (popItem port l)))) ∧
  (∀ (e : Stamp) (port : Fin 12) (s : State) (l : Lane) (it : QItem) (id : Nat) (pt : Nat) (ar : FineTag) (af : Nat) (fr
    : EthFrame) (src : Bytes) (dp : Nat) (hd : SpduHeader) (g : SvFrame),
    l = nowOf e s → serving l = true → headItem l port = some it → it.payload = .ingest id pt ar af fr → fr.content =
    .routedSv src dp hd g → hd.svSession = true → hd.encrypted = false → hd.macSupported = true →
    exec (.routedSvDecode e port) s = .next (s.setLane e.lane (svChecked id pt af g (some hd.number) (popItem port l)))) ∧
  (∀ (e : Stamp) (port : Fin 12) (s : State) (l : Lane) (it : QItem) (id : Nat) (pt : Nat) (ar : FineTag) (af : Nat) (fr
    : EthFrame) (src : Bytes) (dp : Nat) (hd : SpduHeader) (g : SvFrame),
    l = nowOf e s → serving l = true → headItem l port = some it → it.payload = .ingest id pt ar af fr → fr.content =
    .routedSv src dp hd g → hd.encrypted = true → (streamRun (popItem port l) id).any dataAllowed = true →
    exec (.routedSvDecode e port) s = .next (s.setLane e.lane (rejectDecode id (popItem port l)))) ∧
  (∀ (e : Stamp) (port : Fin 12) (s : State) (l : Lane) (it : QItem) (id : Nat) (pt : Nat) (ar : FineTag) (af : Nat) (fr
    : EthFrame) (g : GooseMsg) (c : StreamCfg) (x : StreamRun) (p : LegacyPart) (au : Bool),
    l = nowOf e s → serving l = true → headItem l port = some it → it.payload = .ingest id pt ar af fr → fr.content =
    .goose g → streamCfg (popItem port l) id = some c → streamRun (popItem port l) id = some x → c.part = .legacy p →
    dataAllowed x = true → g.lengthsOk = true → authOutcome (popItem port l) id g.auth.isSome
    (fun k => g.auth.any (fun a => extensionOk (popItem port l) id a k)) = .accept au →
    exec (.gooseSubscriptionDecode e port) s = .next
      (s.setLane e.lane (gooseMessage id pt c p x g au ar (popItem port l)))) ∧
  (∀ (e : Stamp) (port : Fin 12) (s : State) (l : Lane) (it : QItem) (id : Nat) (pt : Nat) (ar : FineTag) (af : Nat) (fr
    : EthFrame) (g : GooseMsg) (c : StreamCfg) (x : StreamRun) (p : LegacyPart),
    l = nowOf e s → serving l = true → headItem l port = some it → it.payload = .ingest id pt ar af fr → fr.content =
    .goose g → streamCfg (popItem port l) id = some c → streamRun (popItem port l) id = some x → c.part = .legacy p →
    dataAllowed x = true → g.lengthsOk = false →
    exec (.gooseSubscriptionDecode e port) s = .next (s.setLane e.lane (rejectSize id (popItem port l)))) ∧
  (∀ (e : Stamp) (port : Fin 8) (s : State) (l : Lane) (it : QItem) (id : Nat) (ar : FineTag) (af : Nat) (b : Bytes),
    l = nowOf e s → serving l = true → headItem l (12 + port) = some it → it.payload = .serial id ar af b →
    exec (.polledAsduDecode e port) s = .next (s.setLane e.lane (polledAsdu port id b ar (popItem (12 + port) l)))) ∧
  (∀ (e : Stamp) (stream : Nat) (channel : Fin 8) (s : State) (l : Lane) (c : StreamCfg) (v : SvPart) (p : PeCfg) (x :
    PeRun) (b : PeBank) (j : Nat),
    l = nowOf e s → serving l = true → svStream l stream = some (c, v) → peCfg l stream channel = some p → peRun l
    stream channel = some x → peBank l stream x.activeSlot = some b → nextOutput c p
    (delayNow l stream channel c x p.causal) (peSettle c b) x = some (false, j) →
    exec (.phasorOutput e stream channel) s = .next (s.setLane e.lane (mainOutput stream channel c p b x j l))) ∧
  (∀ (e : Stamp) (stream : Nat) (channel : Fin 8) (s : State) (l : Lane) (c : StreamCfg) (v : SvPart) (p : PeCfg) (x :
    PeRun) (b : PeBank) (j : Nat),
    l = nowOf e s → serving l = true → svStream l stream = some (c, v) → peCfg l stream channel = some p → peRun l
    stream channel = some x → peBank l stream x.activeSlot = some b → nextOutput c p
    (delayNow l stream channel c x p.causal) (peSettle c b) x = some (true, j) →
    exec (.phasorOutput e stream channel) s = .next (s.setLane e.lane (singleOutput stream channel c p b x j l)))

/-- Skein: arrivals, openings, deadlines, quorums, and the history (R220, R224, R226, R227, R235). -/
def Obligations.SkeinEventsComplete : Prop :=
  (∀ (e : Stamp) (s : State) (l : Lane) (a : Arrival) (t : List Arrival),
    l = nowOf e s → l.streams.arrivals = a :: t → serving l = true →
    exec (.alignerValueWrite e) s = .next
      (s.setLane e.lane (alignArrival a { l with streams := { l.streams with arrivals := t } }))) ∧
  (∀ (e : Stamp) (plane : Fin 4) (s : State) (l : Lane) (c : PlaneCfg),
    l = nowOf e s → planeCfg l plane = some c → serving l = true → c.running = true → courseInstant c
    (planeRun l plane).nextOpen ≤ nowUnits l →
    exec (.courseInstantReached e plane) s = .next
      (s.setLane e.lane (openCourses plane (firstCourseFrom c (nowUnits l + 1) - 1) l))) ∧
  (∀ (e : Stamp) (plane : Fin 4) (s : State) (l : Lane) (c : Course),
    l = nowOf e s → serving l = true → dueCourse l plane (·.deadlineTick) (·.waitUs) = some c →
    exec (.deadlineTick e plane) s = .next
      (s.setLane e.lane (closeCourses plane (modCourse plane c.number (fun x => { x with deadlineTick := true }) l)))) ∧
  (∀ (e : Stamp) (plane : Fin 4) (s : State) (l : Lane) (c : Course),
    l = nowOf e s → serving l = true → dueCourse l plane (fun c => c.quorumTick || c.rules.quorumCount == 0)
    (·.quorumWaitUs) = some c →
    exec (.quorumTick e plane) s = .next
      (s.setLane e.lane (closeCourses plane (modCourse plane c.number (fun x => { x with quorumTick := true }) l)))) ∧
  (∀ (e : Stamp) (late : Option Nat) (s : State) (l : Lane) (a : Arrival) (mask : BitVec 4) (t : List (Arrival × BitVec
    4)), l = nowOf e s → late = none → l.skein.toHistory = (a, mask) :: t →
    exec (.waleHistoryWrite e late) s = .next
      (s.setLane e.lane (writeHistory a mask { l with skein := { l.skein with toHistory := t } }))) ∧
  (∀ (e : Stamp) (late : Option Nat) (s : State) (l : Lane) (p n : Nat) (sp : Bool) (a : Arrival) (mask : BitVec 4),
    l = nowOf e s → late = some p → p ≤ 3 → headItem l (22 + p) = some ⟨n, sp, .late a mask⟩ →
    exec (.waleHistoryWrite e late) s = .next (s.setLane e.lane (writeHistory a mask (popItem (22 + p) l))))

/-- The array: Cast-on, the rows, Bind-off, boundaries, retries, repairs, throttling (R248, R252, R261, R263, R279,
R280, R287, R288, R306, R310, R320). -/
def Obligations.ArrayEventsComplete : Prop :=
  (∀ (e : Stamp) (part : Fin 4) (s : State) (l : Lane) (c : ClosedCourse) (t : List ClosedCourse) (rect : Rect),
    l = nowOf e s → serving l = true → (partOf l part).phase = .idle → (partOf l part).repairing = false → changeReady l
    part = false → (partOf l part).queue = c :: t → (partOf l part).rect = some rect → activeBank (partOf l part) = none
    →
    exec (.castOn e part) s = .next
      (s.setLane e.lane (skipCourse part c 3 (setPart part { partOf l part with queue := t } l)))) ∧
  (∀ (e : Stamp) (part : Fin 4) (s : State) (l : Lane) (c : ClosedCourse) (t : List ClosedCourse) (rect : Rect) (pat :
    Pattern),
    l = nowOf e s → serving l = true → (partOf l part).phase = .idle → (partOf l part).repairing = false → changeReady l
    part = false → (partOf l part).queue = c :: t → (partOf l part).rect = some rect → activeBank (partOf l part) = some
    pat → (partOf l part).faulted = false → c.width ≠ patWidth pat →
    exec (.castOn e part) s = .next
      (s.setLane e.lane (skipCourse part c 2 (setPart part { partOf l part with queue := t } l)))) ∧
  (∀ (e : Stamp) (part : Fin 4) (s : State) (l : Lane) (c x : ClosedCourse) (t : List ClosedCourse) (rect : Rect) (pat :
    Pattern) (l1 : Lane),
    l = nowOf e s → serving l = true → (partOf l part).phase = .idle → (partOf l part).repairing = false → changeReady l
    part = false → (partOf l part).queue = c :: t → (partOf l part).rect = some rect → activeBank (partOf l part) = some
    pat → (partOf l part).faulted = false → c.width = patWidth pat → rateAllowed (patRates pat) c.rate = true →
    (partOf l part).secondDue = false → x =
    { c with status := withStatus (if l.health.throttled then 0x2000 else 0) c.status } → l1 = setPart part
    { partOf l part with
      queue := t, phase := .casting, row := 0, skipped := [], secondDue := false, portion := false,
      round := some { course := x, attempt := 0, alarms := [], violation := none } } l →
    exec (.castOn e part) s = .next (s.setLane e.lane (writeHeader part pat x 0
          ((layoutOf pat.image).foldl (fun acc en => modTile (tileAt rect en.tile) (castEntry x en) acc) l1)))) ∧
  (∀ (e : Stamp) (part : Fin 4) (err : RowError) (s : State) (l : Lane) (pat : Pattern) (rect : Rect),
    l = nowOf e s → activeBank (partOf l part) = some pat → (partOf l part).rect = some rect → serving l = true →
    (partOf l part).phase = .casting → err = .none →
    exec (.bundleIssue e part err) s = .next
      (s.setLane e.lane (issueRow part pat rect .none (startRound part pat rect l)))) ∧
  (∀ (e : Stamp) (part : Fin 4) (err : RowError) (s : State) (l : Lane) (pat : Pattern) (rect : Rect),
    l = nowOf e s → activeBank (partOf l part) = some pat → (partOf l part).rect = some rect → serving l = true →
    (partOf l part).phase = .running → errorApplies l (partOf l part) pat rect err = true → (∀ n, err ≠ .fetch n) →
    exec (.bundleIssue e part err) s = .next (s.setLane e.lane (issueRow part pat rect err l))) ∧
  (∀ (e : Stamp) (part : Fin 4) (err : RowError) (s : State) (l : Lane) (pat : Pattern) (rect : Rect) (n : Nat),
    l = nowOf e s → activeBank (partOf l part) = some pat → (partOf l part).rect = some rect → serving l = true →
    (partOf l part).phase = .running → errorApplies l (partOf l part) pat rect err = true → err = .fetch n →
    exec (.bundleIssue e part err) s = .next (s.setLane e.lane
        (settleTiles rect (memoryError part n (2 ^ 16 + (tileOf l n).pc) 7 ((partOf l part).row - 1) l)))) ∧
  (∀ (e : Stamp) (part : Fin 4) (s : State) (l : Lane) (row : Nat) (rect : Rect),
    l = nowOf e s → lastRow (partOf l part) = some row → (partOf l part).rect = some rect → serving l = true →
    exec (.arrayResultWrite e part) s = .next (s.setLane e.lane (modTiles rect (fun _ t => settleResults row t) l))) ∧
  (∀ (e : Stamp) (part : Fin 4) (s : State) (l : Lane) (row : Nat) (rect : Rect),
    l = nowOf e s → lastRow (partOf l part) = some row → (partOf l part).rect = some rect → serving l = true →
    exec (.storeMemoryWrite e part) s = .next (s.setLane e.lane (modTiles rect (fun _ t => settleStores row t) l))) ∧
  (∀ (e : Stamp) (part : Fin 4) (s : State) (l : Lane),
    l = nowOf e s → serving l = true → (partOf l part).phase = .running →
    exec (.networkLatchArrival e part) s = .next (s.setLane e.lane
        (setPart part
          { partOf l part with buses := (partOf l part).buses.filter (fun b => decide ((partOf l part).row ≤ b.at_)) }
          l))) ∧
  (∀ (e : Stamp) (part : Fin 4) (bad : Option Nat) (err : Option (Nat × Nat)) (s : State) (l : Lane) (pat : Pattern)
    (rect : Rect) (rd : Round) (c : ClosedCourse) (l1 l2 l3 l4 l5 l6 : Lane) (out : List OutLine),
    l = nowOf e s → activeBank (partOf l part) = some pat → (partOf l part).rect = some rect → (partOf l part).round =
    some rd → serving l = true → (partOf l part).phase = .binding → err = none → c = rd.course → l1 = settleTiles rect l
    → out = roundLines l1 rect (partOf l part) pat c → l2 = releaseAlarms part rd.alarms
    (cleanEnd part pat rd ((out.filter (fun x => x.1.any (fun k => k.1 == 3))).map (·.2)) l1) → l3 = gaugeSample 3 part
    (patRows pat + 8 + patOutLines pat : Nat) l2 → l4 = deliverDerived c.plane c.instant (outputBytes out 1) l3 → l5 =
    feedFeatures c.instant (outputBytes out 2) l4 → l6 = publishCourse c.plane c.number c.instant c.rate c.status
    (some (outputBytes out 0)) l5 →
    exec (.bindOff e part bad err) s = .next (s.setLane e.lane
        (produceDigest c.plane c.number (some (roundDigest pat (partOf l part).paramGen rd (out.map (·.2)))) bad l6))) ∧
  (∀ (e : Stamp) (part : Fin 4) (bad : Option Nat) (err : Option (Nat × Nat)) (s : State) (l : Lane) (pat : Pattern)
    (rect : Rect) (rd : Round) (tile word : Nat),
    l = nowOf e s → activeBank (partOf l part) = some pat → (partOf l part).rect = some rect → (partOf l part).round =
    some rd → serving l = true → (partOf l part).phase = .binding → err = some (tile, word) → inRect rect tile = true →
    exec (.bindOff e part bad err) s = .next
      (s.setLane e.lane (memoryError part tile word 6 ((partOf l part).row - 1) (settleTiles rect l)))) ∧
  (∀ (e : Stamp) (part : Fin 4) (s : State) (l : Lane) (r : Request) (bound : Nat),
    l = nowOf e s → dieRuns l = true → changeReady l part = true → (partOf l part).change = some (r, .swap bound) →
    exec (.roundBoundaryApply e part) s = .next (s.setLane e.lane
        (applySwap part (postReply r .ok false [] (setPart part { partOf l part with change := none } l))))) ∧
  (∀ (e : Stamp) (part : Fin 4) (s : State) (l : Lane) (r : Request) (off : Nat) (d : Bytes),
    l = nowOf e s → dieRuns l = true → changeReady l part = true → (partOf l part).change = some (r, .params off d) →
    exec (.roundBoundaryApply e part) s = .next (s.setLane e.lane
        (postReply r .ok false [] (applyParams part off d (setPart part { partOf l part with change := none } l))))) ∧
  (∀ (e : Stamp) (part : Fin 4) (failing : Option Nat) (s : State) (l : Lane) (pat : Pattern) (rect : Rect) (rd : Round)
    (x : ClosedCourse) (l1 : Lane),
    l = nowOf e s → activeBank (partOf l part) = some pat → (partOf l part).rect = some rect → (partOf l part).round =
    some rd → serving l = true → (partOf l part).phase = .stopped → rd.attempt = 0 → (partOf l part).queue = [] →
    (partOf l part).repairing = false → x = { rd.course with status := withStatus 0x800 rd.course.status } → l1 =
    setPart part { partOf l part with
      round := some { course := x, attempt := 1, alarms := [], violation := none },
      counters := { (partOf l part).counters with second := bump (partOf l part).counters.second } } l →
    exec (.roundRetry e part failing) s = .next
      (s.setLane e.lane (startRound part pat rect (writeHeader part pat x 1 l1)))) ∧
  (∀ (e : Stamp) (part : Fin 4) (failing : Option Nat) (s : State) (l : Lane) (pat : Pattern) (rect : Rect) (rd : Round)
    (c : ClosedCourse) (t : List ClosedCourse),
    l = nowOf e s → activeBank (partOf l part) = some pat → (partOf l part).rect = some rect → (partOf l part).round =
    some rd → serving l = true → (partOf l part).phase = .stopped → rd.attempt = 0 → (partOf l part).queue = c :: t →
    exec (.roundRetry e part failing) s = .next (s.setLane e.lane (giveUp part rd true l))) ∧
  (∀ (e : Stamp) (part : Fin 4) (failing : Option Nat) (s : State) (l : Lane) (pat : Pattern) (rect : Rect) (rd :
    Round),
    l = nowOf e s → activeBank (partOf l part) = some pat → (partOf l part).rect = some rect → (partOf l part).round =
    some rd → serving l = true → (partOf l part).phase = .stopped → rd.attempt ≠ 0 → failing = none →
    exec (.roundRetry e part failing) s = .next (s.setLane e.lane
        (markFaulted part (giveUp part rd false (lastingFault .round part
              (setPart part { partOf l part with
                  counters := { (partOf l part).counters with lasting := bump (partOf l part).counters.lasting } }
                l)))))) ∧
  (∀ (e : Stamp) (part : Fin 4) (s : State) (l : Lane) (r : Request) (image : Bytes) (f : LoadFail),
    l = nowOf e s → (partOf l part).verifying = some (r, image, none) → verifyImage l part image image.length = some f →
    exec (.patternVerificationComplete e part) s = .next (s.setLane e.lane
        (postReply r f.status false (failResult f) (setPart part { partOf l part with verifying := none } l)))) ∧
  (∀ (e : Stamp) (part : Fin 4) (s : State) (l : Lane) (r : Request) (image : Bytes) (lib : Option Nat),
    l = nowOf e s → (partOf l part).verifying = some (r, image, lib) →
    (lib ≠ none ∨ verifyImage l part image image.length = none) →
    exec (.patternVerificationComplete e part) s = .next
      (s.setLane e.lane (postReply r .ok false [] (commitImage part image lib l)))) ∧
  (∀ (e : Stamp) (lost : List Nat) (s : State) (l : Lane) (tile : Nat) (t stop : List Nat) (l1 l2 l3 : Lane),
    l = nowOf e s → l.array.repairs = tile :: t → repairReady l tile = true → l1 = modTile tile
    (fun x => { x with mem := (lost.filter (· < 65536)).foldl (fun m w => putWord m w 0) x.mem }) l → stop = partsWith
    l1 (fun x => x / 8 == tile / 8 && tile % 8 ≤ x % 8) → l2 =
    { l1 with
      array := { l1.array with repairs := t },
      health := { l1.health with retired := l1.health.retired ++ [physicalTile l tile] } } → l3 = stop.foldl
    (fun acc n => setPart n { partOf acc n with
        repairing := t.any (fun x => (partsWith l2 (fun y => y / 8 == x / 8 && x % 8 ≤ y % 8)).contains n) } acc) l2 →
    exec (.tileRepair e lost) s = .next (s.setLane e.lane
        (raiseEvent 261 (logFault .event .sram 0 tile none (le 4 (lost.filter (· < 65536)).length) l3)))) ∧
  (∀ (e : Stamp) (row : Fin 8) (s : State) (l : Lane), l = nowOf e s → dieRuns l = true → retiredColumn l row = none →
    exec (.spareSelfTestFailure e row) s = .next (s.setLane e.lane
        { l with
          health := { l.health with
              spareFailed := l.health.spareFailed ||| BitVec.ofNat 8 (2 ^ row.val),
              selfTestFail := l.health.selfTestFail + 1 } })) ∧
  (∀ (e : Stamp) (s : State) (l : Lane) (l1 : Lane),
    l = nowOf e s → dieRuns l = true → l.health.throttled = false → l1 = setJunction (max 110 l.health.junction) l →
    exec (.throttleEntry e) s = .next (s.setLane e.lane (raiseEvent 262
          { l1 with
            health := { l1.health with throttled := true },
            array := { l1.array with throttleEntries := bump l1.array.throttleEntries, throttledAt := l1.tc } }))) ∧
  (∀ (e : Stamp) (s : State) (l : Lane) (l1 : Lane),
    l = nowOf e s → dieRuns l = true → l.health.throttled = true → l.array.throttledAt + secTc 1 ≤ l.tc → l1 =
    setJunction (min 104 l.health.junction) l →
    exec (.throttleExit e) s = .next (s.setLane e.lane (raiseEvent 263
          { l1 with
            health := { l1.health with throttled := false },
            array := { l1.array with throttledTc := l1.array.throttledTc + (l1.tc - l1.array.throttledAt) } })))

/-- PTP messages received and sent (R453, R454, R456, R470). -/
def Obligations.PtpEventsComplete : Prop :=
  (∀ (e : Stamp) (m : PtpEvent) (s : State) (l : Lane),
    l = nowOf e s → ptpOn l m.port = true → ptpMine l m.port m.domain m.version = false →
    exec (.ptpSyncReceive e m) s = .next (s.setLane e.lane (dropPtp l))) ∧
  (∀ (e : Stamp) (m : PtpEvent) (s : State) (l : Lane),
    l = nowOf e s → ptpOn l m.port = true → ptpMine l m.port m.domain m.version = true → m.twoStep = true →
    exec (.ptpSyncReceive e m) s = .next (s.setLane e.lane (setPtpPort m.port
          { ptpPort l m.port with pendingSync := some (m.seq, rxNs l m.port m.rxStamp, corrNs m.correction, l.tc) } l))) ∧
  (∀ (e : Stamp) (m : PtpEvent) (s : State) (l : Lane),
    l = nowOf e s → ptpOn l m.port = true → ptpMine l m.port m.domain m.version = true → m.twoStep = false →
    exec (.ptpSyncReceive e m) s = .next
      (s.setLane e.lane (syncMeasurement m.port (rxNs l m.port m.rxStamp) (corrNs m.correction) m.originNs l))) ∧
  (∀ (e : Stamp) (m : PtpEvent) (s : State) (l : Lane) (t2 corr : Rat) (at_ : Nat),
    l = nowOf e s → ptpOn l m.port = true → ptpMine l m.port m.domain m.version = true → (ptpPort l m.port).pendingSync
    = some (m.seq, t2, corr, at_) → l.tc ≤ at_ + msTc 100 →
    exec (.ptpFollowUpReceive e m) s = .next (s.setLane e.lane
        (syncMeasurement m.port t2 (corr + corrNs m.correction) m.originNs
          (setPtpPort m.port { ptpPort l m.port with pendingSync := none } l)))) ∧
  (∀ (e : Stamp) (port : Fin 12) (domain version seq : Nat) (s : State) (l : Lane),
    l = nowOf e s → ptpOn l port = true → ptpMine l port domain version = true → (ptpCfg l port).twoStep = true →
    exec (.pdelayReqReceive e port domain version seq) s = .next
      (s.setLane e.lane (emit (.ptp port (.pdelayRespFollowUp seq)) (emit (.ptp port (.pdelayResp seq true)) l)))) ∧
  (∀ (e : Stamp) (port : Fin 12) (domain version seq : Nat) (s : State) (l : Lane),
    l = nowOf e s → ptpOn l port = true → ptpMine l port domain version = true → (ptpCfg l port).twoStep = false →
    exec (.pdelayReqReceive e port domain version seq) s = .next
      (s.setLane e.lane (emit (.ptp port (.pdelayResp seq false)) l))) ∧
  (∀ (e : Stamp) (m : PdelayAnswer) (s : State) (l : Lane) (t1 : Rat),
    l = nowOf e s → ptpOn l m.port = true → ptpMine l m.port m.domain m.version = true → (ptpPort l m.port).pdelayReq =
    some (m.seq, t1) → m.followUp = false → m.twoStep = false →
    exec (.pdelayRespReceive e m) s = .next (s.setLane e.lane
        (setPtpPort m.port
          { ptpPort l m.port with pdelay := some ((rxNs l m.port m.rxStamp - t1 - corrNs m.correction) / 2) } l))) ∧
  (∀ (e : Stamp) (m : PdelayAnswer) (s : State) (l : Lane) (t1 : Rat),
    l = nowOf e s → ptpOn l m.port = true → ptpMine l m.port m.domain m.version = true → (ptpPort l m.port).pdelayReq =
    some (m.seq, t1) → m.followUp = false → m.twoStep = true →
    exec (.pdelayRespReceive e m) s = .next (s.setLane e.lane
        (setPtpPort m.port { ptpPort l m.port with
            pdelayResp := some (m.seq, (m.originNs : Rat) - corrNs m.correction, rxNs l m.port m.rxStamp) } l))) ∧
  (∀ (e : Stamp) (m : PdelayAnswer) (s : State) (l : Lane) (t1 t2 t4 : Rat),
    l = nowOf e s → ptpOn l m.port = true → ptpMine l m.port m.domain m.version = true → (ptpPort l m.port).pdelayReq =
    some (m.seq, t1) → m.followUp = true → (ptpPort l m.port).pdelayResp = some (m.seq, t2, t4) →
    exec (.pdelayRespReceive e m) s = .next (s.setLane e.lane
        (setPtpPort m.port { ptpPort l m.port with
            pdelay := some ((t4 - t1 - ((m.originNs : Rat) - t2) - corrNs m.correction) / 2), pdelayResp := none } l))) ∧
  (∀ (e : Stamp) (a : Announce) (s : State) (l : Lane) (l1 : Lane),
    l = nowOf e s → ptpOn l a.port = true → ptpMine l a.port a.domain a.version = true → l1 = decidePorts
    (setPtpPort a.port { ptpPort l a.port with announce := some (a, l.tc) } l) → (ptpPort l1 a.port).state ≠ .slave →
    exec (.announceReceive e a) s = .next (s.setLane e.lane l1)) ∧
  (∀ (e : Stamp) (port : Fin 12) (s : State) (l : Lane) (ld l1 : Lane) (q : Nat),
    l = nowOf e s → ptpOn l port = true → ld = decidePorts l → (ptpPort ld port).state ≠ .master → q =
    ((ptpPort ld port).txSeq + 1) % 65536 → l1 = setPtpPort port
    { ptpPort ld port with
      txSeq := q, pdelayReq := some (q, fullNs (nowFull ld) + ((ptpCfg ld port).txExtraNs : Rat)), pdelayResp := none }
    ld →
    exec (.ptpMasterSend e port) s = .next (s.setLane e.lane (emit (.ptp port (.pdelayReq q)) l1))) ∧
  (∀ (e : Stamp) (port : Fin 12) (s : State) (l : Lane) (ld l1 l2 : Lane) (q : Nat) (today : Bool → Bool),
    l = nowOf e s → ptpOn l port = true → ld = decidePorts l → (ptpPort ld port).state = .master →
    (ptpCfg ld port).twoStep = false → q = ((ptpPort ld port).txSeq + 1) % 65536 → today =
    (fun del => ld.time.leap.any (fun lp => lp.deletion == del && lp.soc == endOfUtcDay ld && !ld.time.leapDone)) → l1 =
    setPtpPort port { ptpPort ld port with
      txSeq := q, pdelayReq := some (q, fullNs (nowFull ld) + ((ptpCfg ld port).txExtraNs : Rat)), pdelayResp := none }
    ld → l2 = emit (.ptp port (.sync q false)) l1 →
    exec (.ptpMasterSend e port) s = .next (s.setLane e.lane
        (emit (.ptp port (.pdelayReq q)) (emit (.ptp port (.announce (ownClass ld) (ownAccuracy ld) (ownTimeSource ld)
                (utcNow ld) true (today true) (today false) (traceable ld))) l2))))

/-- Reference inputs, holdover, the RTC and leap seconds (R449, R450, R451, R458, R459, R465, R466, R469). -/
def Obligations.TimeEventsComplete : Prop :=
  (∀ (e : Stamp) (edge : Nat) (s : State) (l : Lane), l = nowOf e s → tensionRuns l = true → l.time.compactNext = none →
    exec (.ppsEdge e edge) s = .next
      (s.setLane e.lane { l with time := { l.time with ppsEdge := some (fullNs edge, l.tc), compactNext := none } })) ∧
  (∀ (e : Stamp) (m : TodMessage) (s : State) (l : Lane) (utc at_ : Nat) (eg : Rat) (l1 : Lane),
    l = nowOf e s → tensionRuns l = true → m = .zda true utc → l.time.ppsEdge = some (eg, at_) →
    l.cfg.timeRef.todCompact = false → l.tc ≤ at_ + msTc 900 → l1 = { l with time := { l.time with ppsEdge := none } } →
    exec (.todMessageReceive e m) s = .next (s.setLane e.lane
        (ppsMeasure eg (utcToTai l utc eg)
          (setRef .pps { l1.time.pps with traceable := false, accuracyNs := 0, utc := none } l1)))) ∧
  (∀ (e : Stamp) (m : TodMessage) (s : State) (l : Lane) (b : Bytes),
    l = nowOf e s → tensionRuns l = true → m = .compact b → l.cfg.timeRef.todCompact = true → compactOk b = true →
    exec (.todMessageReceive e m) s = .next (s.setLane e.lane
        { l with
          time := { l.time with
              compactNext := some (field b 2 6, field b 8 1, bit (field b 9 1) 1, if bit (field b 9 1) 2 then some
                  (bit (field b 9 1) 3) else none, field b 10 1) } })) ∧
  (∀ (e : Stamp) (f : IrigFrame) (s : State) (l : Lane) (y sec : Nat) (l1 : Lane),
    l = nowOf e s → tensionRuns l = true → f.am = l.cfg.timeRef.irigAm → f.year = some y → l.cfg.timeRef.irig1344 =
    false → sec = utcToTai l
    ((((yearDays y + f.day - 1) * 86400 + f.second : Nat) : Int) - 60 * l.cfg.timeRef.irigTzMin).toNat (fullNs f.mark) →
    l1 = setRef .irig { l.time.irig with traceable := false, accuracyNs := 0, utc := none } l → l1.time.selected ≠ some
    .irig →
    exec (.irigFrameReceive e f) s = .next (s.setLane e.lane
        (measure .irig (fullNs f.mark - ((sec * 10 ^ 9 : Nat) : Rat) - (l.cfg.timeRef.irigDelayNs : Rat)) sec l1))) ∧
  (∀ (e : Stamp) (k : RefKind) (s : State) (l : Lane) (t : Nat),
    l = nowOf e s → (refOf l.time k).lastValid = some t → t + lossWindow l k ≤ l.tc → (refOf l.time k).qualified = true
    →
    exec (.referenceLoss e k) s = .next
      (s.setLane e.lane (deselect k (setRef k { refOf l.time k with qualified := false, consecutive := 0 } l)))) ∧
  (∀ (e : Stamp) (s : State) (l : Lane) (k : RefKind),
    l = nowOf e s → bestRef l = some k → l.cfg.timeRef.revertive = true → betterThanSelected l k = true →
    (refOf l.time k).qualifiedAt + secTc l.cfg.timeRef.revertS ≤ l.tc →
    exec (.revertExpiry e) s = .next (s.setLane e.lane (switchRef k l))) ∧
  (∀ (e : Stamp) (s : State) (l : Lane),
    l = nowOf e s → l.time.state = .holdover → estErr l = none → l.time.unlocked = false →
    exec (.unlockBoundCross e) s = .next
      (s.setLane e.lane (raiseCond 290 { l with time := { l.time with unlocked := true } }))) ∧
  (∀ (e : Stamp) (s : State) (l : Lane) (x : Rat),
    l = nowOf e s → l.time.state = .holdover → estErr l = some x → (l.cfg.servo.unlockBoundNs : Rat) < x →
    l.time.unlocked = false →
    exec (.unlockBoundCross e) s = .next
      (s.setLane e.lane (raiseCond 290 { l with time := { l.time with unlocked := true } }))) ∧
  (∀ (e : Stamp) (s : State) (l : Lane), l = nowOf e s → tensionRuns l = true → l.cfg.timeRef.ref10mEnable = true →
    exec (.ref10mQualify e) s = .next (s.setLane e.lane { l with time := { l.time with ref10m := true } })) ∧
  (∀ (e : Stamp) (s : State) (l : Lane), l = nowOf e s →
    exec (.ref10mLost e) s = .next (s.setLane e.lane { l with time := { l.time with ref10m := false } })) ∧
  (∀ (e : Stamp) (s : State) (l : Lane), l = nowOf e s → tensionRuns l = true → l.time.state = .locked → l.rtc = none →
    exec (.rtcWrite e) s = .next (s.setLane e.lane { l with rtc := some (l.time.time, l.tc) })) ∧
  (∀ (e : Stamp) (s : State) (l : Lane) (v t : Nat),
    l = nowOf e s → tensionRuns l = true → l.time.state = .locked → l.rtc = some (v, t) → t + secTc 1 ≤ l.tc →
    exec (.rtcWrite e) s = .next (s.setLane e.lane { l with rtc := some (l.time.time, l.tc) })) ∧
  (∀ (e : Stamp) (s : State) (l : Lane) (t0 i : Nat) (d : Rat) (cf : Int),
    l = nowOf e s → l.time.lockedSince = some t0 → l.cfg.servo.tempLearn = true → l.time.state = .locked → t0 + secTc
    600 ≤ l.tc → l.time.lastLearn + secTc 60 ≤ l.tc → i = (max 0 (min 15 ((l.health.junction + 45) / 10))).toNat → d =
    (histMean l (secTc 60) (fun x => freqOf x.2.1) (freqOf l.time.y) - holdoverFreq l) * 10000000000 / 16 → cf =
    saturate 16 (roundTenth ((l.cfg.servo.tempTable.getD i 0 : Rat) + d)) →
    exec (.tempTableLearn e) s = .next (s.setLane e.lane { l with
          cfg := { l.cfg with servo := { l.cfg.servo with tempTable := l.cfg.servo.tempTable.set i cf } },
          time := { l.time with lastLearn := l.tc } })) ∧
  (∀ (e : Stamp) (s : State) (l : Lane) (i : Nat),
    l = nowOf e s → leapInstant l.time = some i → i ≤ nowSec l → l.time.leapDone = false →
    exec (.leapOffsetChange e) s = .next (s.setLane e.lane { l with time := { l.time with leapDone := true } })) ∧
  (∀ (e : Stamp) (s : State) (l : Lane) (lp : Leap) (i : Nat),
    l = nowOf e s → l.time.leap = some lp → leapInstant l.time = some i → i + 86400 ≤ nowSec l →
    exec (.leapStateDiscard e) s = .next (s.setLane e.lane { l with
          time := { l.time with utcOffset := leapNewOffset l.time.utcOffset lp, leap := none, leapDone := false } }))

/-- The Picot radios: slots, frames, acknowledgements, reports, and the timers (R508, R509, R510, R515, R516, R518,
R521, R524, R525, R526, R528). -/
def Obligations.MeshEventsComplete : Prop :=
  (∀ (e : Stamp) (radio : Fin 2) (coin : Bool) (s : State) (l : Lane) (l0 : Lane),
    l = nowOf e s → serving l = true → radioRuns (meshRun l radio) = true → (meshRun l radio).state ≠ .stopped → l0 =
    meshAlarms radio l → slotNow l0 radio = none →
    exec (.meshSlotStart e radio coin) s = .next (s.setLane e.lane l0)) ∧
  (∀ (e : Stamp) (radio : Fin 2) (coin : Bool) (s : State) (l : Lane) (l0 : Lane) (n : Nat) (into : Rat) (r1 : MeshRun),
    l = nowOf e s → serving l = true → radioRuns (meshRun l radio) = true → (meshRun l radio).state ≠ .stopped → l0 =
    meshAlarms radio l → slotNow l0 radio = some (n, into) → (meshRun l0 radio).slot ≠ some n → (meshRun l0 radio).state
    = .root → (meshRun l0 radio).pending = none → r1 = { meshRun l0 radio with slot := some n, pending := none } →
    exec (.meshSlotStart e radio coin) s = .next (s.setLane e.lane
        (rootSlotStart radio (n % slotsPer (meshCfg l radio)) (eventOf (meshCfg l radio) n) into
          (setMesh radio r1 l0)))) ∧
  (∀ (e : Stamp) (radio : Fin 2) (coin : Bool) (s : State) (l : Lane) (l0 : Lane) (n : Nat) (into : Rat) (r1 : MeshRun),
    l = nowOf e s → serving l = true → radioRuns (meshRun l radio) = true → (meshRun l radio).state ≠ .stopped → l0 =
    meshAlarms radio l → slotNow l0 radio = some (n, into) → (meshRun l0 radio).slot ≠ some n → (meshRun l0 radio).state
    = .joined → (meshRun l0 radio).pending = none → r1 = { meshRun l0 radio with slot := some n, pending := none } →
    exec (.meshSlotStart e radio coin) s = .next (s.setLane e.lane
        (memberSlotStart radio (n % slotsPer (meshCfg l radio)) (eventOf (meshCfg l radio) n) into coin
          (setMesh radio r1 l0)))) ∧
  (∀ (e : Stamp) (radio : Fin 2) (ok : Bool) (psdu : Bytes) (riseAgo fallAgo : Nat) (s : State) (l : Lane),
    l = nowOf e s → serving l = true → (meshRun l radio).state = .root → ok = false →
    exec (.picotFrameReceive e radio ok psdu riseAgo fallAgo) s = .next
      (s.setLane e.lane (countMesh radio (fun k => { k with crc := bump k.crc }) l))) ∧
  (∀ (e : Stamp) (radio : Fin 2) (ok : Bool) (psdu : Bytes) (riseAgo fallAgo : Nat) (s : State) (l : Lane),
    l = nowOf e s → serving l = true → (meshRun l radio).state = .root → ok = true → inRange 12 1023 psdu.length = false
    →
    exec (.picotFrameReceive e radio ok psdu riseAgo fallAgo) s = .next
      (s.setLane e.lane (countMesh radio (fun k => { k with length := bump k.length }) l))) ∧
  (∀ (e : Stamp) (radio : Fin 2) (ok : Bool) (psdu : Bytes) (riseAgo fallAgo : Nat) (s : State) (l : Lane),
    l = nowOf e s → serving l = true → (meshRun l radio).state = .root → ok = true → inRange 12 1023 psdu.length = true
    → (parsePicot psdu).pan ≠ (meshCfg l radio).panId →
    exec (.picotFrameReceive e radio ok psdu riseAgo fallAgo) s = .next
      (s.setLane e.lane (countMesh radio (fun k => { k with foreign := bump k.foreign }) l))) ∧
  (∀ (e : Stamp) (radio : Fin 2) (ok : Bool) (psdu : Bytes) (riseAgo fallAgo : Nat) (s : State) (l : Lane) (f : PicotRx)
    (l2 : Lane),
    l = nowOf e s → serving l = true → (meshRun l radio).state = .root → ok = true → inRange 12 1023 psdu.length = true
    → f = parsePicot psdu → f.control = 0xA841 → f.pan = (meshCfg l radio).panId → inRange 1
    (meshCfg l radio).maxVersion f.version = true → picotRoom psdu f = true → bodyExact f = true → picotForUs l radio f
    = true → micOk l radio f = true → (meshCfg l radio).role = 1 → isRelayed f.type = false → l2 = meshAlarms radio
    (heardNode radio f.src l) → picotRoomOk l2 radio f = true →
    exec (.picotFrameReceive e radio ok psdu riseAgo fallAgo) s = .next
      (s.setLane e.lane (ackDue radio f fallAgo (picotEffect radio f riseAgo l2)))) ∧
  (∀ (e : Stamp) (radio : Fin 2) (s : State) (l : Lane) (dest seq version : Nat) (at_ : Rat) (l1 : Lane),
    l = nowOf e s → (meshRun l radio).ack = some (dest, seq, version, at_) → at_ ≤ (l.tc : Rat) → l1 = setMesh radio
    { meshRun l radio with ack := none } l → mayTransmit l radio = true →
    exec (.meshAckSend e radio) s = .next (s.setLane e.lane
        (radioSend radio seq {
            dest := dest, ackReq := false, version := version, type := 2, origin := 0, oseq := 0, ttl := 0, body := [],
            stamp := false } l1))) ∧
  (∀ (e : Stamp) (radio : Fin 2) (s : State) (l : Lane) (it : QItem) (origin : Nat) (ar : FineTag) (af : Nat) (b :
    Bytes),
    l = nowOf e s → serving l = true → headItem l (20 + radio) = some it → it.payload = .mesh origin ar af b →
    meshStream (popItem (20 + radio) l) radio origin = none →
    exec (.meshReportDelivery e radio) s = .next (s.setLane e.lane (popItem (20 + radio) l))) ∧
  (∀ (e : Stamp) (radio : Fin 2) (s : State) (l : Lane) (it : QItem) (origin id : Nat) (ar : FineTag) (af : Nat) (b :
    Bytes) (l1 l3 : Lane) (c : StreamCfg) (x : StreamRun),
    l = nowOf e s → serving l = true → headItem l (20 + radio) = some it → it.payload = .mesh origin ar af b → l1 =
    popItem (20 + radio) l → meshStream l1 radio origin = some id → streamCfg l1 id = some c → streamRun l1 id = some x
    → dataAllowed x = true → tget (meshRun l1 radio).reports origin = none → l3 = countStream id
    (fun k => { k with missing := (k.missing + 0) % 2 ^ 32 })
    (setMesh radio { meshRun l1 radio with reports := tput (meshRun l1 radio).reports origin (field b 0 2) } l1) →
    exec (.meshReportDelivery e radio) s = .next (s.setLane e.lane
        (deliverValues id (BitVec.ofNat 40 (field b 2 5)) ar (reportValues c b)
          (acceptFrame id 0 (BitVec.ofNat 40 (field b 2 5)) none l3)))) ∧
  (∀ (e : Stamp) (radio : Fin 2) (s : State) (l : Lane) (n : Nat) (into : Rat) (x : MemberSt) (l1 : Lane),
    l = nowOf e s → slotNow l radio = some (n, into) → serving l = true → (meshRun l radio).state = .joined →
    (meshRun l radio).member.beaconSf ≠ some (n / slotsPer (meshCfg l radio)) → windowClose l radio
    (meshRun l radio).member into (n % slotsPer (meshCfg l radio)) ≤ (l.tc : Rat) → x =
    { (meshRun l radio).member with
      beaconSf := some (n / slotsPer (meshCfg l radio)), misses := (meshRun l radio).member.misses + 1 } → l1 = setMesh
    radio { meshRun l radio with
      member := x, counters := { (meshRun l radio).counters with missed := bump (meshRun l radio).counters.missed } } l
    →
    exec (.meshBeaconMiss e radio) s = .next (s.setLane e.lane (if x.misses = 3 then loseParent radio l1 else l1))) ∧
  (∀ (e : Stamp) (radio : Fin 2) (s : State) (l : Lane),
    l = nowOf e s → serving l = true → (meshRun l radio).state = .scanning → (meshRun l radio).member.candidate = none →
    (meshRun l radio).member.scanAt + (slotsPer (meshCfg l radio) + 1) * slotTc (meshCfg l radio) ≤ l.tc →
    exec (.meshScanChannelExpiry e radio) s = .next (s.setLane e.lane
        (setMesh radio { meshRun l radio with
            member := { (meshRun l radio).member with
                scanIndex := ((meshRun l radio).member.scanIndex + 1) % (mapChannels (meshRun l radio).map).length,
                scanAt := l.tc } } l))) ∧
  (∀ (e : Stamp) (radio : Fin 2) (child : Option Nat) (s : State) (l : Lane) (tm : Nat),
    l = nowOf e s → serving l = true → child = none → (meshRun l radio).state = .joined →
    (meshRun l radio).unacked.isSome = true → tm = (meshCfg l radio).supervisionSf * slotsPer (meshCfg l radio) * slotTc
    (meshCfg l radio) → (meshRun l radio).member.lastAck + tm ≤ l.tc →
    exec (.meshSupervisionTimeout e radio child) s = .next (s.setLane e.lane (loseParent radio l))) ∧
  (∀ (e : Stamp) (radio : Fin 2) (child : Option Nat) (s : State) (l : Lane) (a : Nat) (n : NodeRun) (tm : Nat),
    l = nowOf e s → serving l = true → child = some a → tget (meshRun l radio).nodes a = some n →
    (meshRun l radio).state = .root → n.joined = true → n.lost = false → tm = (meshCfg l radio).supervisionSf * slotsPer
    (meshCfg l radio) * slotTc (meshCfg l radio) → n.lastHeard + tm ≤ l.tc →
    exec (.meshSupervisionTimeout e radio child) s = .next
      (s.setLane e.lane (meshAlarms radio
          (setMesh radio { meshRun l radio with nodes := tput (meshRun l radio).nodes a { n with lost := true } } l)))) ∧
  (∀ (e : Stamp) (radio : Fin 2) (s : State) (l : Lane) (t : Nat),
    l = nowOf e s → (meshRun l radio).member.request = some t → serving l = true → (meshRun l radio).state = .scanning →
    t + 4 * slotsPer (meshCfg l radio) * slotTc (meshCfg l radio) ≤ l.tc →
    exec (.joinResponseWaitExpiry e radio) s = .next (s.setLane e.lane
        (setMesh radio { meshRun l radio with
            unacked := none,
            member :=
              { (meshRun l radio).member with candidate := none, request := none, scanIndex := 0, scanAt := l.tc } }
          l))) ∧
  (∀ (e : Stamp) (radio : Fin 2) (s : State) (l : Lane), l = nowOf e s →
    exec (.seenCacheExpiry e radio) s = .next (s.setLane e.lane
        (setMesh radio
          { meshRun l radio with seen := (meshRun l radio).seen.filter (fun x => decide (l.tc ≤ x.2.2 + secTc 30)) }
          l)))

/-- The Swatch recorder: triggers, samples, rows, re-arming, and the write buffer (R414, R416, R417, R426, R427, R430,
R431). -/
def Obligations.SwatchEventsComplete : Prop :=
  (∀ (e : Stamp) (s : State) (l : Lane) (f : Feed) (t : List Feed),
    l = nowOf e s → l.swatch.trigFeed = f :: t → dieRuns l = true →
    exec (.triggerValueEvaluate e) s = .next
      (s.setLane e.lane (l.cfg.triggers.foldl (evalTrigger f) { l with swatch := { l.swatch with trigFeed := t } }))) ∧
  (∀ (e : Stamp) (pin : Fin 2) (level : Bool) (held : Nat) (s : State) (l : Lane) (k : Nat) (t : TriggerCfg) (l0 :
    Lane),
    l = nowOf e s → dieRuns l = true → l.cfg.triggers = [(k, t)] → t.enable = true → t.type = 6 → t.object = pin.val →
    level = t.falling → l0 = { l with
      swatch := { l.swatch with
          pinLevels := if level then l.swatch.pinLevels ||| BitVec.ofNat 2 (2 ^ pin.val) else l.swatch.pinLevels &&&
            ~~~(BitVec.ofNat 2 (2 ^ pin.val)) } } →
    exec (.swtPinEdge e pin level held) s = .next
      (s.setLane e.lane (setTrigger k { triggerRun l0 k with state := 2 } l0))) ∧
  (∀ (e : Stamp) (pin : Fin 2) (level : Bool) (held : Nat) (s : State) (l : Lane) (k : Nat) (t : TriggerCfg) (at_ : Int)
    (l0 : Lane),
    l = nowOf e s → dieRuns l = true → l.cfg.triggers = [(k, t)] → t.enable = true → t.type = 6 → t.object = pin.val →
    level ≠ t.falling → l0 = { l with
      swatch := { l.swatch with
          pinLevels := if level then l.swatch.pinLevels ||| BitVec.ofNat 2 (2 ^ pin.val) else l.swatch.pinLevels &&&
            ~~~(BitVec.ofNat 2 (2 ^ pin.val)) } } → (triggerRun l0 k).state = 2 → t.hold ≤ held → at_ =
    ((l.time.time - tickInc l.time.y * usTc held) / 2 ^ 40 : Nat) →
    exec (.swtPinEdge e pin level held) s = .next
      (s.setLane e.lane (fire k t at_ none (setTrigger k { triggerRun l0 k with state := 3 } l0)))) ∧
  (∀ (e : Stamp) (s : State) (l : Lane) (f : Feed) (t : List Feed),
    l = nowOf e s → l.swatch.rowFeed = f :: t → dieRuns l = true →
    exec (.swatchSampleArrival e) s = .next
      (s.setLane e.lane (l.cfg.profiles.foldl (feedProfile f) { l with swatch := { l.swatch with rowFeed := t } }))) ∧
  (∀ (e : Stamp) (profile : Fin 16) (s : State) (l : Lane) (c : ProfileCfg),
    l = nowOf e s → profileCfg l profile = some c → dieRuns l = true → formsRows (profileRun l profile) = true →
    rowInstant c.rate c.avgN (profileRun l profile).nextRow + (usUnits (1000 * c.rowWaitMs) : Nat) ≤ (nowUnits l : Nat)
    →
    exec (.swatchRowWaitExpiry e profile) s = .next
      (s.setLane e.lane (formRows profile c (profileRun l profile).inputs.length (formRow profile c l)))) ∧
  (∀ (e : Stamp) (profile : Fin 16) (s : State) (l : Lane) (c : ProfileCfg) (l1 : Lane),
    l = nowOf e s → profileCfg l profile = some c → dieRuns l = true → awaitsRearm (profileRun l profile) = true → l1 =
    emptyRing profile l → takeRing profile c (ringSegments l1 c - (profileRun l profile).ring.length) l1 = none →
    exec (.profileRearm e profile) s = .next (s.setLane e.lane
        (setProfile profile { profileRun l profile with state := .waiting, inputs := [], half := [] } l))) ∧
  (∀ (e : Stamp) (profile : Fin 16) (s : State) (l : Lane) (c : ProfileCfg) (l1 l2 : Lane),
    l = nowOf e s → profileCfg l profile = some c → dieRuns l = true → awaitsRearm (profileRun l profile) = true →
    (profileRun l profile).state ≠ .waiting → l1 = emptyRing profile l → takeRing profile c
    (ringSegments l1 c - (profileRun l profile).ring.length) l1 = some l2 →
    exec (.profileRearm e profile) s = .next (s.setLane e.lane
        (actHeld profile (profileRun l profile).held
          (setProfile profile { profileRun l2 profile with state := .armed, held := [] } l2)))) ∧
  (∀ (e : Stamp) (level : Nat) (s : State) (l : Lane), l = nowOf e s → level ≤ 384 * 1024 →
    exec (.writeBufferHalving e level) s = .next (s.setLane e.lane (setBuffer level l))) ∧
  (∀ (e : Stamp) (level : Nat) (s : State) (l : Lane) (l2 : Lane) (p : Nat),
    l = nowOf e s → dieRuns l = true → 384 * 1024 < level → l.swatch.halvedAt = none → l2 =
    { setBuffer level l with swatch := { (setBuffer level l).swatch with halvedAt := some l.tc } } → busiest l2 = some p
    →
    exec (.writeBufferHalving e level) s = .next
      (s.setLane e.lane (setProfile p { profileRun l2 p with shift := (profileRun l2 p).shift + 1 } l2))) ∧
  (∀ (e : Stamp) (level : Nat) (s : State) (l : Lane) (t : Nat) (l1 : Lane),
    l = nowOf e s → l1 = setBuffer level l → l1.swatch.lowSince = some t → dieRuns l = true → t + msTc 100 ≤ l.tc →
    exec (.rowRateRestore e level) s = .next (s.setLane e.lane
        { l1 with
          swatch := { l1.swatch with
              lowSince := some l.tc,
              profiles := l1.swatch.profiles.map (fun x => (x.1, { x.2 with shift := x.2.shift - 1 })) } }))

/-- Selvedge: lockout, self-test, tamper sources, and the keep-alive supply (R540, R571, R579, R585, R587, R588, R661,
R687). -/
def Obligations.KeyEventsComplete : Prop :=
  (∀ (e : Stamp) (s : State) (l : Lane), l = nowOf e s → l.keys.lockoutUntil ≤ l.tc →
    exec (.roleLockoutExpiry e) s = .next
      (s.setLane e.lane { l with keys := { l.keys with lockoutUntil := 0, failedAt := [] } })) ∧
  (∀ (e : Stamp) (first retry : Bool) (s : State) (l : Lane),
    l = nowOf e s → dieRuns l = true → l.keys.lastTest + secTc 10 ≤ l.tc → first = true →
    exec (.selvedgeSelfTest e first retry) s = .next
      (s.setLane e.lane { l with keys := { l.keys with lastTest := l.tc } })) ∧
  (∀ (e : Stamp) (first retry : Bool) (s : State) (l : Lane),
    l = nowOf e s → dieRuns l = true → l.keys.lastTest + secTc 10 ≤ l.tc → first = false → retry = true →
    exec (.selvedgeSelfTest e first retry) s = .next
      (s.setLane e.lane (transientFault .keyEngine 0 { l with keys := { l.keys with lastTest := l.tc } }))) ∧
  (∀ (e : Stamp) (first retry : Bool) (s : State) (l : Lane),
    l = nowOf e s → dieRuns l = true → l.keys.lastTest + secTc 10 ≤ l.tc → first = false → retry = false →
    exec (.selvedgeSelfTest e first retry) s = .next (s.setLane e.lane
        (declareUnhealthy 5 (raiseCond 355
            (lastingFault .keyEngine 0 { l with keys := { l.keys with lastTest := l.tc, engineFault := true } }))))) ∧
  (∀ (e : Stamp) (sources : BitVec 10) (s : State) (l : Lane) (l1 : Lane),
    l = nowOf e s → l1 = { l with keys := { l.keys with inputs := l.keys.inputs ||| sources } } → l.dieOk = true →
    l.powered = true → l.mode.mode ≠ .dormant → l.mode.mode ≠ .start → sources &&& enabledSources l ≠ 0 →
    exec (.tamperDetect e sources) s = .next (s.setLane e.lane (zeroise (sources &&& enabledSources l) l1))) ∧
  (∀ (e : Stamp) (sources : BitVec 10) (s : State) (l : Lane) (l1 : Lane),
    l = nowOf e s → l1 = { l with keys := { l.keys with inputs := l.keys.inputs ||| sources } } → l.dieOk = true →
    l.powered = true → l.mode.mode = .start → sources &&& enabledSources l ≠ 0 →
    exec (.tamperDetect e sources) s = .next (s.setLane e.lane (zeroiseInStart (sources &&& enabledSources l) l1))) ∧
  (∀ (e : Stamp) (sources : BitVec 10) (s : State) (l : Lane) (l1 : Lane),
    l = nowOf e s → l1 = { l with keys := { l.keys with inputs := l.keys.inputs ||| sources } } → l.dieOk = true →
    l.powered = true → l.mode.mode = .dormant → sources &&& enabledSources l &&& dormantSources ≠ 0 →
    exec (.tamperDetect e sources) s = .next
      (s.setLane e.lane (wake .tamper (zeroiseAsleep (sources &&& enabledSources l &&& dormantSources) l1)))) ∧
  (∀ (e : Stamp) (sources : BitVec 10) (s : State) (l : Lane) (l1 : Lane),
    l = nowOf e s → l1 = { l with keys := { l.keys with inputs := l.keys.inputs ||| sources } } → l.dieOk = true →
    l.powered = true → l.mode.mode ≠ .dormant → sources &&& enabledSources l = 0 →
    exec (.tamperDetect e sources) s = .next (s.setLane e.lane l1)) ∧
  (∀ (e : Stamp) (source : Fin 10) (s : State) (l : Lane) (m : BitVec 10) (d : BitVec 6),
    l = nowOf e s → m = BitVec.ofNat 10 (2 ^ source.val) → d = l.keys.deferred &&& m.setWidth 6 →
    exec (.tamperInputNormal e source) s = .next (s.setLane e.lane
        { l with
          keys := { l.keys with inputs := l.keys.inputs &&& ~~~m, deferred := l.keys.deferred &&& ~~~d },
          vault := { l.vault with kaEnable := l.vault.kaEnable ||| d } })) ∧
  (∀ (e : Stamp) (s : State) (l : Lane), l = nowOf e s → s.overvoltage = false → l.powered = false →
    exec (.keepAliveSupplyLoss e) s = .next
      (s.setLane e.lane { l with rtc := none, vault := { l.vault with wrap := none, supplyLost := true } })) ∧
  (∀ (e : Stamp) (s : State) (l : Lane), l = nowOf e s → s.overvoltage = false → l.powered = true →
    exec (.keepAliveSupplyLoss e) s = .next (s.setLane e.lane l)) ∧
  (∀ (e : Stamp) (s : State) (l : Lane), l = nowOf e s →
    exec (.laneDieFailure e) s = .next (s.setLane e.lane { l with dieOk := false }))

/-- The supply: early warning, ride-through, restart, overheating (R615, R616, R617, R658, R660, R665, R681, R688). -/
def Obligations.SupplyEventsComplete : Prop :=
  (∀ (e : Stamp) (mv : Nat) (s : State) (l : Lane),
    l = nowOf e s → l.powered = true → l.dieOk = true → l.mode.supply.armed = true → l.mode.mode ≠ .start → dieRuns l =
    true →
    exec (.vinWarning e mv) s = .next (s.setLane e.lane
        (writeJournal mv { l with mode := { l.mode with supply := { l.mode.supply with armed := false } } }))) ∧
  (∀ (e : Stamp) (mv : Nat) (s : State) (l : Lane) (l2 : Lane),
    l = nowOf e s → l.powered = true → l.dieOk = true → l.mode.supply.armed = true → l.mode.mode = .start →
    l.mode.start.step < 6 → l2 = freshLane .start .vin
    (leave 2 false { l with mode := { l.mode with supply := { l.mode.supply with armed := false } } }) →
    exec (.vinWarning e mv) s = .next
      (s.setLane e.lane { l2 with mode := { l2.mode with supply := { l2.mode.supply with heldAt := some l.tc } } })) ∧
  (∀ (e : Stamp) (s : State) (l : Lane) (t : Nat) (ended : OutageReport → OutageReport) (l1 : Lane),
    l = nowOf e s → l.mode.supply.warnAt = some t → dieRuns l = true → t + msTc 100 ≤ l.tc → ended =
    (fun x => { x with flags := x.flags + b2n (!bit x.flags 0), returnTime := some (nowFull l) }) → l1 =
    { l with
      mode := { l.mode with supply := { l.mode.supply with warnAt := none } },
      journal := l.journal.map (fun (j : Journal) => { j with report := ended j.report }) } →
    exec (.rideThrough e) s = .next (s.setLane e.lane (raiseEvent 364
          ((l1.cfg.profiles.filter (fun x => x.2.armed)).foldl (fun acc x => armProfile x.1 x.2 acc) l1)))) ∧
  (∀ (e : Stamp) (s : State) (l : Lane), l = nowOf e s → l.powered = true → l.dieOk = true →
    exec (.vinWarningArm e) s = .next
      (s.setLane e.lane (armAlarm { l with mode := { l.mode with supply := { l.mode.supply with armed := true } } }))) ∧
  (∀ (e : Stamp) (s : State) (l : Lane) (t : Nat),
    l = nowOf e s → l.mode.supply.heldAt = some t → l.powered = true → l.dieOk = true → t + msTc 100 ≤ l.tc →
    exec (.earlyWarningRestart e) s = .next (s.setLane e.lane (freshLane .start .vin l))) ∧
  (∀ (e : Stamp) (celsius : Int) (s : State) (l : Lane), l = nowOf e s → dieRuns l = true → 120 ≤ celsius →
    exec (.junctionOverheat e celsius) s = .next
      (s.setLane e.lane (declareUnhealthy junctionUnhealthy (raiseCond 376 (setOverheat celsius true l))))) ∧
  (∀ (e : Stamp) (celsius : Int) (s : State) (l : Lane),
    l = nowOf e s → dieRuns l = true → celsius ≤ 110 → l.health.overheat = true →
    exec (.junctionOverheatClear e celsius) s = .next
      (s.setLane e.lane (clearUnhealthy junctionUnhealthy (dropCond 376 (setOverheat celsius false l))))) ∧
  (∀ (e : PackageStamp) (s : State), s.overvoltage = false → exec (.vinPowerUp e) s = .next
      { s with laneA := powerOn (advance e.ticksA s.laneA), laneB := powerOn (advance e.ticksB s.laneB) }) ∧
  (∀ (e : PackageStamp) (s : State), s.overvoltage = true → exec (.vinPowerUp e) s = .next
      { s with laneA := advance e.ticksA s.laneA, laneB := advance e.ticksB s.laneB }) ∧
  (∀ (e : PackageStamp) (s : State), exec (.vinOvervoltage e) s = .next
      { s with
        laneA := powerOff (advance e.ticksA s.laneA), laneB := powerOff (advance e.ticksB s.laneB), overvoltage :=
          true }) ∧
  (∀ (e : PackageStamp) (s : State), s.overvoltage = true → exec (.overvoltageRestart e) s = .next
      { s with
        laneA := powerOn (advance e.ticksA s.laneA), laneB := powerOn (advance e.ticksB s.laneB), overvoltage :=
          false }) ∧
  (∀ (e : PackageStamp) (s : State), exec (.vinSupplyLoss e) s = .next
      { s with
        laneA := powerOff (advance e.ticksA s.laneA), laneB := powerOff (advance e.ticksB s.laneB),
        overvoltage := false }) ∧
  (∀ (e : PackageStamp) (s : State), exec (.pcieHotReset e) s = .next
      { s with laneA := lanePcieReset (advance e.ticksA s.laneA), laneB := lanePcieReset (advance e.ticksB s.laneB) }) ∧
  (∀ (e : PackageStamp) (s : State), exec (.hostPerstn e) s = .next
      { s with laneA := lanePerstn (advance e.ticksA s.laneA), laneB := lanePerstn (advance e.ticksB s.laneB) })

/-- Drills, gauges, error retries and scrubbing (R621, R622, R624, R625, R626, R634). -/
def Obligations.HealthEventsComplete : Prop :=
  (∀ (e : Stamp) (v : DrillVerdict) (s : State) (l : Lane) (d : DrillRun) (l1 : Lane),
    l = nowOf e s → l.health.drill = some d → l.mode.mode = .drill → dieRuns l = true → drillStatus d v = .ok →
    d.exitOnDone = false → l1 = raiseEvent 370
    { l with health := { l.health with drill := none, lastDrill := drillResult d v } } →
    exec (.drillVerdict e v) s = .next (s.setLane e.lane (postReply d.req .ok false (drillResult d v) l1))) ∧
  (∀ (e : Stamp) (v : DrillVerdict) (s : State) (l : Lane) (d : DrillRun) (l1 : Lane) (st : Status),
    l = nowOf e s → l.health.drill = some d → l.mode.mode = .drill → dieRuns l = true → drillStatus d v = st → st ≠ .ok
    → d.exitOnDone = false → l1 = raiseEvent 371
    { l with health := { l.health with drill := none, lastDrill := drillResult d v } } →
    exec (.drillVerdict e v) s = .next (s.setLane e.lane (postReply d.req st false (drillResult d v) l1))) ∧
  (∀ (e : Stamp) (gauge : Fin 64) (reading : Int) (s : State) (l : Lane) (c : GaugeCfg),
    l = nowOf e s → tget l.cfg.gauges gauge = some c → serving l = true → (gaugeVal l gauge).lastSample + usTc
    c.intervalUs ≤ l.tc → c.source = 5 →
    exec (.gaugeIntervalSample e gauge reading) s = .next
      (s.setLane e.lane (sampleGauge gauge c (queueHeld (queueOf l c.object) : Nat) l))) ∧
  (∀ (e : Stamp) (gauge : Fin 64) (reading : Int) (s : State) (l : Lane) (c : GaugeCfg),
    l = nowOf e s → tget l.cfg.gauges gauge = some c → serving l = true → (gaugeVal l gauge).lastSample + usTc
    c.intervalUs ≤ l.tc → c.source = 7 →
    exec (.gaugeIntervalSample e gauge reading) s = .next (s.setLane e.lane (sampleGauge gauge c reading l))) ∧
  (∀ (e : Stamp) (gauge : Fin 64) (reading : Int) (s : State) (l : Lane) (c : GaugeCfg),
    l = nowOf e s → tget l.cfg.gauges gauge = some c → serving l = true → (gaugeVal l gauge).lastSample + usTc
    c.intervalUs ≤ l.tc → c.source = 8 →
    exec (.gaugeIntervalSample e gauge reading) s = .next
      (s.setLane e.lane (sampleGauge gauge c reading (setJunction reading l)))) ∧
  (∀ (e : Stamp) (site : ErrorSite) (repeatOk : Bool) (covered : List (Nat × Word)) (s : State) (l : Lane),
    l = nowOf e s → dieRuns l = true → repeatOk = true →
    exec (.errorRetry e site repeatOk covered) s = .next
      (s.setLane e.lane (markTransient covered (transientFault (siteResource site).1 (siteResource site).2 l)))) ∧
  (∀ (e : Stamp) (site : ErrorSite) (repeatOk : Bool) (covered : List (Nat × Word)) (s : State) (l : Lane),
    l = nowOf e s → dieRuns l = true → repeatOk = false →
    exec (.errorRetry e site repeatOk covered) s = .next
      (s.setLane e.lane (lastingAction site (lastingFault (siteResource site).1 (siteResource site).2 l)))) ∧
  (∀ (e : Stamp) (site : ErrorSite) (corrected repeatOk : Bool) (s : State) (l : Lane) (a : Nat),
    l = nowOf e s → dieRuns l = true → corrected = true → site = .sram a →
    exec (.scrubErrorFound e site corrected repeatOk) s = .next
      (s.setLane e.lane { l with health := { l.health with sramCorrected := l.health.sramCorrected + 1 } })) ∧
  (∀ (e : Stamp) (site : ErrorSite) (corrected repeatOk : Bool) (s : State) (l : Lane) (p : Nat) (o : DramPage),
    l = nowOf e s → dieRuns l = true → corrected = true → site = .dram p o →
    exec (.scrubErrorFound e site corrected repeatOk) s = .next
      (s.setLane e.lane { l with health := { l.health with dramCorrected := l.health.dramCorrected + 1 } })) ∧
  (∀ (e : Stamp) (site : ErrorSite) (corrected repeatOk : Bool) (s : State) (l : Lane) (a : Nat),
    l = nowOf e s → dieRuns l = true → corrected = false → site = .sram a → repeatOk = true →
    exec (.scrubErrorFound e site corrected repeatOk) s = .next
      (s.setLane e.lane (markTransient [] (transientFault .sram a l))))

/-- The hub and the host: heartbeat, resets of the function, registers, doorbells, mailbox (R17, R34, R35, R577, R636,
R642, R644, R648, R652, R654, R655). -/
def Obligations.HubAndHostRegistersComplete : Prop :=
  (∀ (e : Stamp) (s : State) (l : Lane), l = nowOf e s → dieRuns l = true → l.mode.hubPresent = true →
    exec (.hubHeartbeatSend e) s = .next (s.setLane e.lane { l with mode := { l.mode with hubSeenAt := l.tc } })) ∧
  (∀ (e : Stamp) (s : State) (l : Lane) (l1 : Lane),
    l = nowOf e s → dieRuns l = true → l.mode.hubPresent = true → l.mode.hubSeenAt + msTc 1 ≤ l.tc → l1 =
    { l with
      mode := { l.mode with hubPresent := false, hubLostAt := l.tc }, keys := { l.keys with privilege := false },
      host := { l.host with wq := none } } →
    exec (.hubLost e) s = .next
      (s.setLane e.lane (plySettle (raiseCond 256 (hostWitnessLost .device (hostWitnessLost .lane l1)))))) ∧
  (∀ (e : Stamp) (s : State) (l : Lane), l = nowOf e s → dieRuns l = true → l.mode.hubPresent = false →
    exec (.hubReturn e) s = .next (s.setLane e.lane (plySettle
          (resumeHost (logFault .event .none 0 0 (some 256) (le 8 (4 * (l.tc - l.mode.hubLostAt)))
              (dropCond 256 { l with mode := { l.mode with hubPresent := true, hubSeenAt := l.tc } })))))) ∧
  (∀ (e : Stamp) (s : State) (l : Lane), l = nowOf e s → l.powered = true → l.dieOk = true → l.spi = false →
    exec (.functionLevelReset e) s = .next (s.setLane e.lane (functionReset l))) ∧
  (∀ (e : Stamp) (s : State) (l : Lane), l = nowOf e s → l.spi = true →
    exec (.functionLevelReset e) s = .next (s.setLane e.lane l)) ∧
  (∀ (e : Stamp) (a : HostAccess) (s : State) (l : Lane),
    l = nowOf e s → l.mode.mode = .dormant → l.powered = true → l.dieOk = true →
    exec (.hostAccessWhileDormant e a) s = .next (s.setLane e.lane (wake .hostAccess (answerDormant a l)))) ∧
  (∀ (e : Stamp) (vector : Fin 11) (s : State) (l : Lane),
    l = nowOf e s → dieRuns l = true → l.host.heldMsg.contains vector.val = true → l.mode.hubPresent = true →
    holdoffPassed l vector = true → l.host.intCause.getLsbD vector = true →
    exec (.intHoldoffExpiry e vector) s = .next (s.setLane e.lane
        (signalCause vector { l with host := { l.host with heldMsg := l.host.heldMsg.filter (· != vector.val) } }))) ∧
  (∀ (e : Stamp) (v : Word) (s : State) (l : Lane),
    l = nowOf e s → l.mode.mode ≠ .dormant → dieRuns l = true → l.mode.hubPresent = true → resetKey v = 0xA5 → resetOp v
    = 1 →
    exec (.sysResetRestart e v) s = .next (s.setLane e.lane (resetToStart .hostReset l))) ∧
  (∀ (e : Stamp) (v : Word) (s : State) (l : Lane),
    l = nowOf e s → l.mode.mode ≠ .dormant → dieRuns l = true → l.mode.hubPresent = true → resetKey v = 0xA5 → resetOp v
    = 2 →
    exec (.sysResetSalvage e v) s = .next (s.setLane e.lane (resetToSalvage .hostReset l))) ∧
  (∀ (e : Stamp) (ring : Fin 4) (v : Word) (s : State) (l : Lane),
    l = nowOf e s → l.mode.mode ≠ .dormant → dieRuns l = true → l.mode.hubPresent = true → l.spi = false → v.getLsbD 0 =
    true →
    exec (.glgRingEnable e ring v) s = .next (s.setLane e.lane (ringCtrl ring v l))) ∧
  (∀ (e : Stamp) (ring : Fin 4) (index : Nat) (entries : List (Option Submission)) (s : State) (l : Lane),
    l = nowOf e s → l.mode.mode ≠ .dormant → dieRuns l = true → l.mode.hubPresent = true → l.spi = false →
    exec (.glgSqDoorbell e ring index entries) s = .next (s.setLane e.lane (ringDoorbell ring (index % 256) entries l))) ∧
  (∀ (e : Stamp) (ring : Fin 4) (index : Nat) (s : State) (l : Lane),
    l = nowOf e s → l.mode.mode ≠ .dormant → dieRuns l = true → l.mode.hubPresent = true → l.spi = false →
    exec (.glgCqHeadWrite e ring index) s = .next (s.setLane e.lane (ringCqHead ring (index % 256) l))) ∧
  (∀ (e : Stamp) (index : Nat) (descs : List (Option TxDescriptor)) (s : State) (l : Lane),
    l = nowOf e s → l.mode.mode ≠ .dormant → dieRuns l = true → l.mode.hubPresent = true → l.spi = false →
    exec (.hfrTxDoorbell e index descs) s = .next (s.setLane e.lane (txDoorbell (index % 4096) descs l))) ∧
  (∀ (e : Stamp) (index : Nat) (addrs : List (Option Nat)) (s : State) (l : Lane),
    l = nowOf e s → l.mode.mode ≠ .dormant → dieRuns l = true → l.mode.hubPresent = true → l.spi = false →
    exec (.hfrRxTailWrite e index addrs) s = .next (s.setLane e.lane (rxTail (index % 4096) addrs l))) ∧
  (∀ (e : Stamp) (s : State) (l : Lane),
    l = nowOf e s → l.mode.mode ≠ .dormant → dieRuns l = true → l.mode.hubPresent = true → l.spi = false →
    exec (.hfrRxDropRead e) s = .next
      (s.setLane e.lane (emit (.regRead offRxDrop l.host.rxDrop) { l with host := { l.host with rxDrop := 0 } }))) ∧
  (∀ (e : Stamp) (v : Word) (s : State) (l : Lane),
    l = nowOf e s → l.mode.mode ≠ .dormant → dieRuns l = true → l.mode.hubPresent = true → v.getLsbD 0 = true →
    exec (.tnsLatch e v) s = .next (s.setLane e.lane (latchTime l))) ∧
  (∀ (e : Stamp) (gauge : Fin 64) (s : State) (l : Lane),
    l = nowOf e s → l.mode.mode ≠ .dormant → dieRuns l = true → l.mode.hubPresent = true →
    exec (.gauSelSnapshot e gauge) s = .next (s.setLane e.lane (copyGauge gauge l))) ∧
  (∀ (e : Stamp) (gauge : Fin 64) (s : State) (l : Lane),
    l = nowOf e s → l.mode.mode ≠ .dormant → dieRuns l = true → l.mode.hubPresent = true →
    exec (.gauSelSnapshotClear e gauge) s = .next (s.setLane e.lane (clearGauge gauge (copyGauge gauge l)))) ∧
  (∀ (e : Stamp) (v : Word) (s : State) (l : Lane),
    l = nowOf e s → l.mode.mode ≠ .dormant → dieRuns l = true → l.mode.hubPresent = true →
    exec (.plyWitnessWrite e v) s = .next (s.setLane e.lane (witnessWrite v l))) ∧
  (∀ (e : Stamp) (v : Word) (s : State) (l : Lane),
    l = nowOf e s → l.mode.mode ≠ .dormant → dieRuns l = true → l.mode.hubPresent = true → l.spi = true → doorbellBypass
    v = false →
    exec (.mbxDoorbell e v) s = .next (s.setLane e.lane (mailboxSubmit v l))) ∧
  (∀ (e : Stamp) (v : Word) (s : State) (l : Lane),
    l = nowOf e s → l.mode.mode ≠ .dormant → dieRuns l = true → l.mode.hubPresent = true → l.spi = true → doorbellBypass
    v = true →
    exec (.mbxDoorbellBypass e v) s = .next (s.setLane e.lane (mailboxBypass v l))) ∧
  (∀ (e : Stamp) (off : Nat) (v : Word) (s : State) (l : Lane),
    l = nowOf e s → l.mode.mode ≠ .dormant → dieRuns l = true → l.mode.hubPresent = true →
    exec (.registerWrite e off v) s = .next (s.setLane e.lane (writeReg off v l)))

/-- The requests of the Needle and the queues complete (R67, R69, R82, R88, R89, R94, R157, R158, R165, R169). -/
def Obligations.NeedleAndQueueRequestsComplete : Prop :=
  (∀ (e : Stamp) (r : Request) (s : State) (l : Lane), l = nowOf e s → accepted 0x0000 none nopCheck l r →
    exec (.nop e r) s = .next (s.setLane e.lane (postReply r .ok false [] l))) ∧
  (∀ (e : Stamp) (vlan : Bool) (r : Request) (s : State) (l : Lane) (v : Version),
    l = nowOf e s → accepted 0x0001 none helloCheck l r → v = (commonVersion (helloMin r) (helloMax r)).getD ⟨2, 0⟩ →
    exec (.hello e vlan r) s = .next (s.setLane e.lane (postReply r .ok false
          (le 1 v.major ++ le 1 v.minor ++ le 1 l.id.code ++ le 1 l.mode.mode.code ++ le 4 (firmware l) ++ le 4
            (maxParamLen r.src (udpLimit l r.src vlan)) ++ le 2 (needleFree l) ++ zeros 2)
          { l with needle := { l.needle with versions := tput l.needle.versions r.src v } }))) ∧
  (∀ (e : Stamp) (r : Request) (s : State) (l : Lane), l = nowOf e s → accepted 0x0002 none abortCheck l r →
    exec (.abort e r) s = .next (s.setLane e.lane { l with
          needle := { l.needle with
              aborts := l.needle.aborts ++ [{ req := r, targetTag := targetTag r, targetSrc := targetSrc r }] } })) ∧
  (∀ (e : Stamp) (r : Request) (s : State) (l : Lane),
    l = nowOf e s → accepted 0x0003 none abortCheck l r → entryOf l (targetSrc r) (targetTag r) = none →
    exec (.cancel e r) s = .next (s.setLane e.lane (postReply r .okTooLate false (targetState 4) l))) ∧
  (∀ (e : Stamp) (r : Request) (s : State) (l : Lane) (x : TaskEntry),
    l = nowOf e s → accepted 0x0003 none abortCheck l r → entryOf l (targetSrc r) (targetTag r) = some x →
    (x.phase = .delayed ∨ x.phase = .queued) →
    exec (.cancel e r) s = .next (s.setLane e.lane (postReply r .ok false (targetState 1) (refuse x.req .cancelled l)))) ∧
  (∀ (e : Stamp) (r : Request) (s : State) (l : Lane) (x : TaskEntry),
    l = nowOf e s → accepted 0x0003 none abortCheck l r → entryOf l (targetSrc r) (targetTag r) = some x →
    (x.phase = .inService ∨ x.phase = .committed) →
    exec (.cancel e r) s = .next (s.setLane e.lane (postReply r .okTooLate false (targetState 3) l))) ∧
  (∀ (e : Stamp) (r : Request) (s : State) (l : Lane), l = nowOf e s → accepted 0x0004 none groupSetCheck l r →
    exec (.needleGroupSet e r) s = .next (s.setLane e.lane
        (postReply r .ok false [] { l with cfg := { l.cfg with weights := (slice (body r) 0 4).map (·.toNat) } }))) ∧
  (∀ (e : Stamp) (r : Request) (s : State) (l : Lane), l = nowOf e s → accepted 0x0005 none needleStatusCheck l r →
    exec (.needleStatus e r) s = .next (s.setLane e.lane (postReply r .ok false (needleStatus l) l))) ∧
  (∀ (e : Stamp) (r : Request) (s : State) (l : Lane), l = nowOf e s → accepted 0x0905 (some 0) queueSetCheck l r →
    exec (.queueSetRead e r) s = .next (s.setLane e.lane (postReply r .ok false (queueReply (flowId r) l).2
          (setQueue (flowId r) { queueOf l (flowId r) with maxDepth := queueHeld (queueOf l (flowId r)) } l)))) ∧
  (∀ (e : Stamp) (r : Request) (s : State) (l : Lane) (l1 : Lane),
    l = nowOf e s → accepted 0x0905 (some 1) queueSetCheck l r → l1 = noteDepth (flowId r)
    { l with
      cfg := { l.cfg with queues := tput l.cfg.queues (flowId r) (queueAsked r) },
      queueSizes := tput l.queueSizes (flowId r) (queueInForce l (flowId r)) } →
    exec (.queueSetSet e r) s = .next (s.setLane e.lane (postReply r .ok false (queueReply (flowId r) l1).2
          (setQueue (flowId r) { queueOf l1 (flowId r) with maxDepth := queueHeld (queueOf l1 (flowId r)) } l1)))) ∧
  (∀ (e : Stamp) (read written : Nat) (r : Request) (s : State) (l : Lane) (l1 : Lane) (n : Nat),
    l = nowOf e s → n = flowId r → l1 = progress n read written l → accepted 0x0906 none queueIdCheck l1 r →
    exec (.queueFlush e read written r) s = .next (s.setLane e.lane
        (postReply r .ok false (flushResult (queueOf l1 n))
          (unblock n (noteDepth n (setQueue n (flushQueue (queueOf l1 n)) l1)))))) ∧
  (∀ (e : Stamp) (read written : Nat) (r : Request) (s : State) (l : Lane) (l1 : Lane) (n : Nat),
    l = nowOf e s → n = flowId r → l1 = progress n read written l → accepted 0x0907 none queueIdCheck l1 r →
    exec (.queueDropRest e read written r) s = .next (s.setLane e.lane
        (postReply r .ok false (dropRestResult (queueOf l1 n))
          (unblock n (noteDepth n (setQueue n (dropRest (queueOf l1 n)) l1))))))

/-- The stream requests complete (R114, R116, R117, R118, R143, R147). -/
def Obligations.StreamRequestsComplete : Prop :=
  (∀ (e : Stamp) (r : Request) (s : State) (l : Lane) (c : StreamCfg),
    l = nowOf e s → accepted 0x0200 none streamAddCheck l r → c = streamAsked (body r) →
    exec (.streamAdd e r) s = .next (s.setLane e.lane (postReply r .ok false []
          (startProcedure (flowId r) (setRun (flowId r)
              (.new (if isPmu c then .pendingCfg else .active) (confRevOf c) l.tc)
              { l with cfg := { l.cfg with streams := tput l.cfg.streams (flowId r) c } }))))) ∧
  (∀ (e : Stamp) (r : Request) (s : State) (l : Lane) (c old : StreamCfg),
    l = nowOf e s → accepted 0x0201 (some 0) (modifyCheck modifySetCheck) l r → c = streamAsked (modBody r) → streamCfg
    l (flowId r) = some old → (pmuPart old).map (fun p => (p.idcode, p.srcAddr)) = (pmuPart c).map
    (fun p => (p.idcode, p.srcAddr)) →
    exec (.streamModifySet e r) s = .next (s.setLane e.lane
        (postReply r .ok false [] { l with cfg := { l.cfg with streams := tput l.cfg.streams (flowId r) c } }))) ∧
  (∀ (e : Stamp) (r : Request) (s : State) (l : Lane) (c old : StreamCfg) (x : StreamRun),
    l = nowOf e s → accepted 0x0201 (some 0) (modifyCheck modifySetCheck) l r → c = streamAsked (modBody r) → streamCfg
    l (flowId r) = some old → (pmuPart old).map (fun p => (p.idcode, p.srcAddr)) ≠ (pmuPart c).map
    (fun p => (p.idcode, p.srcAddr)) → streamRun l (flowId r) = some x → x.state ≠ .suspended →
    exec (.streamModifySet e r) s = .next (s.setLane e.lane
        (postReply r .ok false [] (startProcedure (flowId r) (enterState (flowId r) .pendingCfg
              (setRun (flowId r)
                { x with cfg := none, newCfg := none, heldCfg := none, procedure := false, resume := .pendingCfg }
                { l with cfg := { l.cfg with streams := tput l.cfg.streams (flowId r) c } })))))) ∧
  (∀ (e : Stamp) (r : Request) (s : State) (l : Lane) (c : StreamCfg) (x : StreamRun) (l1 : Lane),
    l = nowOf e s → accepted 0x0201 (some 1)
    (modifyCheck (fun s q => need (stateIs s (flowId q) .learned) .wrongMode .ok)) l r → streamCfg l (flowId r) = some c
    → streamRun l (flowId r) = some x → l1 = enterState (flowId r) (servingState c x)
    (setRun (flowId r) { x with learnedBy := none } l) →
    exec (.streamModifyAdopt e r) s = .next (s.setLane e.lane
        (postReply r .ok false [] (if servingState c x = .pendingCfg then startProcedure (flowId r) l1 else l1)))) ∧
  (∀ (e : Stamp) (r : Request) (s : State) (l : Lane) (d : Bytes) (x : StreamRun) (p : PmuPart),
    l = nowOf e s → accepted 0x0201 (some 2) (modifyCheck cfgChunkCheck) l r → streamRun l (flowId r) = some x →
    (streamCfg l (flowId r)).bind pmuPart = some p → d = chunkData x.chunk (chunkOffset (body r)) ((body r).drop 16) →
    d.length ≠ chunkTotal (body r) →
    exec (.streamModifyCfgChunk e r) s = .next (s.setLane e.lane
        (postReply r .ok false [] (setRun (flowId r) { x with chunk := some (chunkTotal (body r), d) } l)))) ∧
  (∀ (e : Stamp) (r : Request) (s : State) (l : Lane) (d : Bytes) (x : StreamRun) (p : PmuPart) (k : PmuConfig) (l1 :
    Lane),
    l = nowOf e s → accepted 0x0201 (some 2) (modifyCheck cfgChunkCheck) l r → streamRun l (flowId r) = some x →
    (streamCfg l (flowId r)).bind pmuPart = some p → d = chunkData x.chunk (chunkOffset (body r)) ((body r).drop 16) →
    d.length = chunkTotal (body r) → usableCfg d p.cfgKind p.idcode = some k → l1 = setRun (flowId r)
    { x with chunk := none } l →
    exec (.streamModifyCfgChunk e r) s = .next (s.setLane e.lane
        (postReply r .ok false [] (receiveCfg (flowId r) d (startProcedure (flowId r)
              { l1 with cfg := { l1.cfg with hostCfg := tput l.cfg.hostCfg (flowId r) k } }))))) ∧
  (∀ (e : Stamp) (r : Request) (s : State) (l : Lane) (x : StreamRun) (k : PmuConfig),
    l = nowOf e s → accepted 0x0201 (some 3)
    (modifyCheck (fun s q => need (stateIs s (flowId q) .cfgHold) .wrongMode .ok)) l r → streamRun l (flowId r) = some x
    → x.heldCfg = some k →
    exec (.streamModifyAcceptCfg e r) s = .next (s.setLane e.lane
        (postReply r .ok false []
          (turnOn (flowId r) (enterState (flowId r) .active (setRun (flowId r) (applyCfg k x) l)))))) ∧
  (∀ (e : Stamp) (r : Request) (s : State) (l : Lane) (x : StreamRun),
    l = nowOf e s → accepted 0x0201 (some 3)
    (modifyCheck (fun s q => need (stateIs s (flowId q) .cfgHold) .wrongMode .ok)) l r → streamRun l (flowId r) = some x
    → x.heldCfg = none →
    exec (.streamModifyAcceptCfg e r) s = .next (s.setLane e.lane
        (postReply r .ok false [] (turnOn (flowId r) (enterState (flowId r) .active
              (setRun (flowId r)
                { x with procedure := false, confRev := x.heldConfRev.getD x.confRev, heldConfRev := none } l)))))) ∧
  (∀ (e : Stamp) (r : Request) (s : State) (l : Lane) (x : StreamRun),
    l = nowOf e s → accepted 0x0201 (some 4) (modifyCheck (fun _ _ => .ok)) l r → streamRun l (flowId r) = some x →
    x.state ≠ .suspended →
    exec (.streamModifySuspend e r) s = .next (s.setLane e.lane
        (postReply r .ok false []
          (enterState (flowId r) .suspended (setRun (flowId r) { x with resume := x.state } l))))) ∧
  (∀ (e : Stamp) (r : Request) (s : State) (l : Lane) (x : StreamRun),
    l = nowOf e s → accepted 0x0201 (some 5)
    (modifyCheck (fun s q => need (stateIs s (flowId q) .suspended) .wrongMode .ok)) l r → streamRun l (flowId r) = some
    x →
    exec (.streamModifyResume e r) s = .next
      (s.setLane e.lane (postReply r .ok false [] (enterState (flowId r) x.resume l)))) ∧
  (∀ (e : Stamp) (r : Request) (s : State) (l : Lane), l = nowOf e s → accepted 0x0202 none streamRemoveCheck l r →
    exec (.streamRemove e r) s = .next (s.setLane e.lane (postReply r .ok false [] (freeStream (flowId r) l)))) ∧
  (∀ (e : Stamp) (r : Request) (s : State) (l : Lane), l = nowOf e s → accepted 0x0203 none streamQueryCheck l r →
    exec (.streamQuery e r) s = .next (s.setLane e.lane (postReply r .ok false (streamResult l (flowId r)) l))) ∧
  (∀ (e : Stamp) (r : Request) (s : State) (l : Lane), l = nowOf e s → accepted 0x0204 none learnCheck l r →
    exec (.streamLearnSet e r) s = .next (s.setLane e.lane (postReply r .ok false []
          { l with cfg := { l.cfg with learn := tput l.cfg.learn (field (body r) 0 1) (learnAsked (body r)) } }))) ∧
  (∀ (e : Stamp) (r : Request) (s : State) (l : Lane) (p : AuthPolicy) (l1 : Lane),
    l = nowOf e s → accepted 0x0205 none authSetCheck l r → p = authAsked (body r) → l1 =
    { l with cfg := { l.cfg with auth := tput l.cfg.auth (flowId r) p } } → stateIs l (flowId r) .keyLost = false →
    exec (.streamAuthSet e r) s = .next (s.setLane e.lane (postReply r .ok false [] l1))) ∧
  (∀ (e : Stamp) (r : Request) (s : State) (l : Lane) (p : AuthPolicy) (l1 : Lane),
    l = nowOf e s → accepted 0x0205 none authSetCheck l r → p = authAsked (body r) → l1 =
    { l with cfg := { l.cfg with auth := tput l.cfg.auth (flowId r) p } } → stateIs l (flowId r) .keyLost = true →
    p.mode = 0 →
    exec (.streamAuthSet e r) s = .next
      (s.setLane e.lane (postReply r .ok false [] (enterState (flowId r) .active l1))))

/-- The requests of the Pick Engine and of Skein complete (R175, R188, R196, R209, R210, R239, R240, R243, R244, R245).
-/
def Obligations.PickAndSkeinRequestsComplete : Prop :=
  (∀ (e : Stamp) (r : Request) (s : State) (l : Lane) (p : PeCfg) (id ch : Nat),
    l = nowOf e s → accepted 0x0300 none peSetCheck l r → id = flowId r → ch = field (body r) 0 1 → p = peAsked (body r)
    → p.enable = true → (peCfg l id ch).any (·.enable) = false →
    exec (.peChannelSet e r) s = .next
      (s.setLane e.lane (postReply r .ok false [] (setPeRun id ch (peStart p.bankSlot) (withPeCfg (8 * id + ch) p l))))) ∧
  (∀ (e : Stamp) (r : Request) (s : State) (l : Lane) (p : PeCfg) (id ch : Nat) (l2 : Lane),
    l = nowOf e s → accepted 0x0300 none peSetCheck l r → id = flowId r → ch = field (body r) 0 1 → p = peAsked (body r)
    → p.enable = false → l2 = settleSwaps id ch (withPeCfg (8 * id + ch) p l) →
    exec (.peChannelSet e r) s = .next (s.setLane e.lane
        (postReply r .ok false [] { l2 with pe := { l2.pe with channels := tdel l2.pe.channels (8 * id + ch) } }))) ∧
  (∀ (e : Stamp) (r : Request) (s : State) (l : Lane), l = nowOf e s → accepted 0x0301 none bankCheck l r →
    exec (.peBankLoad e r) s = .next (s.setLane e.lane (postReply r .ok false []
          { l with
            cfg := { l.cfg with
                banks := tput l.cfg.banks (4 * (flowId r) + field (body r) 0 1)
                  (if field (body r) 1 1 = 0 then bankAsked (body r) else bankLibrary (field (body r) 2 1)
                    (((svStream l (flowId r)).map (fun c => midRate c.1 / c.1.freq)).getD 1)
                    (field (body r) 6 2)) } }))) ∧
  (∀ (e : Stamp) (r : Request) (s : State) (l : Lane) (id : Nat),
    l = nowOf e s → accepted 0x0302 none swapCheck l r → id = flowId r → (peStream l id).fade.isSome = true →
    exec (.peBankSwap e r) s = .next
      (s.setLane e.lane (setPeStream id { peStream l id with held := some (swapAsked r) } l))) ∧
  (∀ (e : Stamp) (r : Request) (s : State) (l : Lane) (id : Nat),
    l = nowOf e s → accepted 0x0302 none swapCheck l r → id = flowId r → (peStream l id).fade = none → maskSettles l id
    (swapAsked r).mask = false →
    exec (.peBankSwap e r) s = .next (s.setLane e.lane (setPeStream id { peStream l id with fade := some (swapAsked r) }
          { l with
            pe := { l.pe with
                channels := l.pe.channels.map
                  (fun x => if x.1 / 8 = id then (x.1, { x.2 with fadeDone := 0 }) else x) } }))) ∧
  (∀ (e : Stamp) (r : Request) (s : State) (l : Lane), l = nowOf e s → accepted 0x0303 none peResetCheck l r →
    exec (.peReset e r) s = .next (s.setLane e.lane (postReply r .ok false []
          ((maskList (field (body r) 0 1)).foldl (fun acc c => match peRun acc (flowId r) c with
                | some x => setPeRun (flowId r) c { x with resetMarked := true } acc
                | none => acc) l)))) ∧
  (∀ (e : Stamp) (r : Request) (s : State) (l : Lane), l = nowOf e s → accepted 0x0304 none peQueryCheck l r →
    exec (.peQuery e r) s = .next
      (s.setLane e.lane (postReply r .ok false (peResult l (flowId r) (field (body r) 0 1)) l))) ∧
  (∀ (e : Stamp) (r : Request) (s : State) (l : Lane), l = nowOf e s → accepted 0x0400 none planeCreateCheck l r →
    exec (.planeCreate e r) s = .next (s.setLane e.lane (postReply r .ok false []
          (setPlane (flowId r) .new
            ({ l with cfg := { l.cfg with planes := tput l.cfg.planes (flowId r) (planeAsked (body r)) } }))))) ∧
  (∀ (e : Stamp) (r : Request) (s : State) (l : Lane),
    l = nowOf e s → accepted 0x0401 (some 0) (planeModifyCheck planeSetCheck) l r →
    exec (.planeModifySet e r) s = .next (s.setLane e.lane (postReply r .ok false []
          { l with
            cfg := { l.cfg with
                planes := (tmod l.cfg.planes (flowId r)
                    (fun c => { (planeAsked ((body r).drop 4)) with running := c.running, map := c.map })) } }))) ∧
  (∀ (e : Stamp) (r : Request) (s : State) (l : Lane) (sh : Table MapEntry),
    l = nowOf e s → accepted 0x0401 (some 1) (planeModifyCheck mapWriteCheck) l r → sh =
    (List.range (mapCount (body r))).foldl (fun t i => if (mapEntryAt (body r) (12 + 8 * i)).stream = 0 then tdel t
      (mapFirst (body r) + i) else tput t (mapFirst (body r) + i) (mapEntryAt (body r) (12 + 8 * i)))
    (planeRun l (flowId r)).shadow →
    exec (.planeModifyMapWrite e r) s = .next
      (s.setLane e.lane (postReply r .ok false [] (setPlane (flowId r) { planeRun l (flowId r) with shadow := sh } l)))) ∧
  (∀ (e : Stamp) (r : Request) (s : State) (l : Lane) (p : Nat) (c : PlaneCfg) (first gen : Nat),
    l = nowOf e s → accepted 0x0401 (some 2) (planeModifyCheck mapSwitchCheck) l r → p = flowId r → planeCfg l p = some
    c → first = (if c.running then (planeRun l p).nextOpen else firstCourseFrom c (nowUnits l)) → gen = bump
    (planeRun l p).mapGen →
    exec (.planeModifyMapSwitch e r) s = .next (s.setLane e.lane
        (postReply r .ok false (le 8 first ++ le 4 gen ++ zeros 4)
          (setPlane p { planeRun l p with
              mapGen := gen, nextOpen := first, oldest := if c.running then (planeRun l p).oldest else first }
            { l with
              cfg := { l.cfg with
                  planes := tput l.cfg.planes p
                    { c with running := true, width := field (body r) 4 4, map := (planeRun l p).shadow } } })))) ∧
  (∀ (e : Stamp) (r : Request) (s : State) (l : Lane),
    l = nowOf e s → accepted 0x0401 (some 3) (planeModifyCheck (fun _ _ _ => .ok)) l r →
    exec (.planeModifyMapClear e r) s = .next
      (s.setLane e.lane (postReply r .ok false [] (setPlane (flowId r) { planeRun l (flowId r) with shadow := [] } l)))) ∧
  (∀ (e : Stamp) (r : Request) (s : State) (l : Lane) (p : Nat),
    l = nowOf e s → accepted 0x0401 (some 4) (planeModifyCheck (fun _ _ _ => .ok)) l r → p = flowId r →
    exec (.planeModifyStop e r) s = .next (s.setLane e.lane
        (postReply r .ok false [] (setPlane p { planeRun l p with courses := [] }
            { l with cfg := { l.cfg with planes := tmod l.cfg.planes p (fun c => { c with running := false }) } })))) ∧
  (∀ (e : Stamp) (r : Request) (s : State) (l : Lane) (p : Nat),
    l = nowOf e s → accepted 0x0402 none planeDeleteCheck l r → p = flowId r →
    exec (.planeDelete e r) s = .next (s.setLane e.lane (postReply r .ok false []
          { l with
            cfg := { l.cfg with planes := tdel l.cfg.planes p },
            skein := { l.skein with planes := tdel l.skein.planes p } }))) ∧
  (∀ (e : Stamp) (r : Request) (s : State) (l : Lane), l = nowOf e s → accepted 0x0403 none planeQueryCheck l r →
    exec (.planeQuery e r) s = .next (s.setLane e.lane (postReply r .ok false (planeResult l (flowId r)) l))) ∧
  (∀ (e : Stamp) (r : Request) (s : State) (l : Lane) (w : Wale) (t : Int) (rs : List WaleRecord),
    l = nowOf e s → accepted 0x0404 none waleReadCheck l r → w = waleOf l (flowId r) → t = joinTag l
    (BitVec.ofNat 40 (field (body r) 0 8)) → rs = (w.records.filter (fun x => decide (t ≤ x.at_))).take
    (field (body r) 10 2) →
    exec (.waleRead e r) s = .next (s.setLane e.lane (postReply r .ok false
          (le 2 rs.length ++ le 2 (recordSize (field (body r) 9 1)) ++ le 1
            (b2n (w.records.head?.any (fun x => decide (t < x.at_)))) ++ zeros 3 ++ le 8
            ((w.records.head?.map (·.tag.toNat)).getD 0) ++ le 4 w.disorder ++ zeros 4 ++ rs.flatMap
            (recordBytes (field (body r) 8 1) (field (body r) 9 1))) l)))

/-- The pattern, variant and array requests complete (R291, R305, R309, R311, R312, R323, R324, R338, R339, R340). -/
def Obligations.PatternRequestsComplete : Prop :=
  (∀ (e : Stamp) (r : Request) (s : State) (l : Lane), l = nowOf e s → accepted 0x0506 none arrayQueryCheck l r →
    exec (.arrayQuery e r) s = .next (s.setLane e.lane (postReply r .ok false (arrayResult l) l))) ∧
  (∀ (e : Stamp) (r : Request) (s : State) (l : Lane) (n : Nat) (d : Bytes),
    l = nowOf e s → accepted 0x0500 (some 0) loadChunkCheck l r → n = flowId r → d = chunkData (partOf l n).staged
    (chunkOffset (body r)) ((body r).drop 20) → d.length = chunkTotal (body r) →
    exec (.patternLoadChunk e r) s = .next
      (s.setLane e.lane (setPart n { partOf l n with staged := none, verifying := some (r, d, none) } l))) ∧
  (∀ (e : Stamp) (r : Request) (s : State) (l : Lane) (n : Nat) (d : Bytes),
    l = nowOf e s → accepted 0x0500 (some 0) loadChunkCheck l r → n = flowId r → d = chunkData (partOf l n).staged
    (chunkOffset (body r)) ((body r).drop 20) → d.length ≠ chunkTotal (body r) →
    exec (.patternLoadChunk e r) s = .next (s.setLane e.lane
        (postReply r .ok false [] (setPart n { partOf l n with staged := some (chunkTotal (body r), d) } l)))) ∧
  (∀ (e : Stamp) (r : Request) (s : State) (l : Lane) (n id : Nat) (x : Nat × Nat),
    l = nowOf e s → accepted 0x0500 (some 1) loadLibraryCheck l r → n = flowId r → shapeOf (partOf l n) = some x → id =
    field (body r) 16 2 →
    exec (.patternLoadLibrary e r) s = .next
      (s.setLane e.lane (setPart n { partOf l n with verifying := some (r, libraryImage id x.1 x.2, some id) } l))) ∧
  (∀ (e : Stamp) (r : Request) (s : State) (l : Lane) (n : Nat) (rect : Rect),
    l = nowOf e s → accepted 0x0500 (some 2) loadReleaseCheck l r → n = flowId r → (partOf l n).rect = some rect →
    exec (.patternLoadRelease e r) s = .next (s.setLane e.lane
        (postReply r .ok false [] (setPart n { Part.empty with
              staged := (partOf l n).staged, variants := (partOf l n).variants, varChunk := (partOf l n).varChunk }
            { l with array := { l.array with tiles := l.array.tiles.filter (fun x => !inRect rect x.1) } })))) ∧
  (∀ (e : Stamp) (r : Request) (s : State) (l : Lane) (n : Nat),
    l = nowOf e s → accepted 0x0501 none patSwapCheck l r → n = flowId r → planeOf l n = none → (partOf l n).phase =
    .idle →
    exec (.patternSwap e r) s = .next (s.setLane e.lane (applySwap n (postReply r .ok false [] l)))) ∧
  (∀ (e : Stamp) (r : Request) (s : State) (l : Lane) (n : Nat),
    l = nowOf e s → accepted 0x0501 none patSwapCheck l r → n = flowId r → (partOf l n).phase ≠ .idle →
    exec (.patternSwap e r) s = .next
      (s.setLane e.lane (setPart n { partOf l n with change := some (r, .swap (swapFrom r)) } l))) ∧
  (∀ (e : Stamp) (r : Request) (s : State) (l : Lane) (n : Nat),
    l = nowOf e s → accepted 0x0502 none paramCheck l r → n = flowId r → field (body r) 0 1 = 0 →
    exec (.patternParamSet e r) s = .next (s.setLane e.lane
        (setPart n { partOf l n with change := some (r, .params (field (body r) 4 4) ((body r).drop 12)) } l))) ∧
  (∀ (e : Stamp) (r : Request) (s : State) (l : Lane) (n : Nat) (pat : Pattern),
    l = nowOf e s → accepted 0x0502 none paramCheck l r → n = flowId r → field (body r) 0 1 ≠ 0 → inactiveBank
    (partOf l n) = some pat →
    exec (.patternParamSet e r) s = .next (s.setLane e.lane
        (postReply r .ok false [] (setPart n (setInactive
              (some { pat with params := splice pat.params (field (body r) 4 4) ((body r).drop 12) }) (partOf l n))
            l)))) ∧
  (∀ (e : Stamp) (r : Request) (s : State) (l : Lane), l = nowOf e s → accepted 0x0503 none patternQueryCheck l r →
    exec (.patternQuery e r) s = .next (s.setLane e.lane (postReply r .ok false (patternResult l (flowId r))
          (setPart (flowId r) { (partOf l (flowId r)) with queueMax := placesHeld (partOf l (flowId r)) } l)))) ∧
  (∀ (e : Stamp) (r : Request) (s : State) (l : Lane),
    l = nowOf e s → accepted 0x0507 none resultCheck l r → resultEntry (partOf l (flowId r)) (field (body r) 0 8) = none
    →
    exec (.resultRead e r) s = .next
      (s.setLane e.lane (postReply r .noResource false (resultRange (partOf l (flowId r))) l))) ∧
  (∀ (e : Stamp) (r : Request) (s : State) (l : Lane) (x : RoundResult) (lines : List Bytes),
    l = nowOf e s → accepted 0x0507 none resultCheck l r → resultEntry (partOf l (flowId r)) (field (body r) 0 8) = some
    x → lines = (x.lines.drop (field (body r) 8 4)).take (field (body r) 12 2) →
    exec (.resultRead e r) s = .next (s.setLane e.lane (postReply r .ok false
          (le 8 x.course ++ le 8 x.instant ++ le 4 x.lines.length ++ le 2 lines.length ++ zeros 2 ++ le 4 x.patternId ++
            le 4 x.paramGen ++ lines.flatten) l))) ∧
  (∀ (e : Stamp) (r : Request) (s : State) (l : Lane) (p : Part) (d : Bytes),
    l = nowOf e s → accepted 0x0504 (some 0) variantChunkCheck l r → p = partOf l (flowId r) → d = chunkData
    (p.varChunk.bind (fun x => if x.1 = varId r then some x.2 else none)) (chunkOffset (body r)) ((body r).drop 16) →
    d.length ≠ chunkTotal (body r) →
    exec (.variantStageChunk e r) s = .next (s.setLane e.lane
        (postReply r .ok false []
          (setPart (flowId r) { p with varChunk := some (varId r, chunkTotal (body r), d) } l)))) ∧
  (∀ (e : Stamp) (r : Request) (s : State) (l : Lane) (p : Part) (d : Bytes),
    l = nowOf e s → accepted 0x0504 (some 0) variantChunkCheck l r → p = partOf l (flowId r) → d = chunkData
    (p.varChunk.bind (fun x => if x.1 = varId r then some x.2 else none)) (chunkOffset (body r)) ((body r).drop 16) →
    d.length = chunkTotal (body r) →
    exec (.variantStageChunk e r) s = .next (s.setLane e.lane
        ((match variantFail l d (chunkTotal (body r)) with
              | some f => postReply r f.status false (failResult f) (setPart (flowId r) { p with varChunk := none } l)
              | none => postReply r .ok false []
                  (setPart (flowId r) { p with varChunk := none, variants := tput p.variants (varId r) d } l))))) ∧
  (∀ (e : Stamp) (r : Request) (s : State) (l : Lane) (n v : Nat) (rect : Rect) (img : Bytes),
    l = nowOf e s → accepted 0x0504 (some 1) variantStageCheck l r → n = flowId r → v = varId r → resident (partOf l n)
    v = false → planeOf l n = none → (partOf l n).rect = some rect → tget (partOf l n).variants v = some img →
    exec (.variantStageStage e r) s = .next (s.setLane e.lane
        (postReply r .ok false [] (writeSlot rect img (inactiveSlot (partOf l n)) 0 (varLines img)
            (setPart n
              (setSlot (inactiveSlot (partOf l n)) (some v) (openSlot (inactiveSlot (partOf l n)) (partOf l n))) l))))) ∧
  (∀ (e : Stamp) (r : Request) (s : State) (l : Lane),
    l = nowOf e s → accepted 0x0504 (some 1) variantStageCheck l r → resident (partOf l (flowId r)) (varId r) = true →
    exec (.variantStageStage e r) s = .next (s.setLane e.lane (postReply r .ok false [] l))) ∧
  (∀ (e : Stamp) (r : Request) (s : State) (l : Lane) (n v : Nat) (p : Nat × PlaneCfg),
    l = nowOf e s → accepted 0x0504 (some 1) variantStageCheck l r → n = flowId r → v = varId r → resident (partOf l n)
    v = false → planeOf l n = some p →
    exec (.variantStageStage e r) s = .next
      (s.setLane e.lane (setPart n { partOf l n with change := some (r, .stage v 0) } l))) ∧
  (∀ (e : Stamp) (r : Request) (s : State) (l : Lane), l = nowOf e s → accepted 0x0504 (some 2) variantDeleteCheck l r →
    exec (.variantStageDelete e r) s = .next (s.setLane e.lane
        (postReply r .ok false [] (setPart (flowId r)
            { (partOf l (flowId r)) with variants := tdel (partOf l (flowId r)).variants (varId r) } l)))) ∧
  (∀ (e : Stamp) (r : Request) (s : State) (l : Lane), l = nowOf e s → accepted 0x0505 none variantSelectCheck l r →
    exec (.variantSelect e r) s = .next (s.setLane e.lane (setPart (flowId r)
          { (partOf l (flowId r)) with
            change := some (r, .select (selectedVariant r) (field (body r) 1 1 == 1) (field (body r) 4 8)) } l)))

/-- The publishing requests complete (R384, R387, R391, R398, R399, R404, R406). -/
def Obligations.PublishRequestsComplete : Prop :=
  (∀ (e : Stamp) (r : Request) (s : State) (l : Lane), l = nowOf e s → accepted 0x0604 none routeCheck l r →
    exec (.alarmRouteSet e r) s = .next (s.setLane e.lane (postReply r .ok false []
          (refreshPins { l with
              cfg := { l.cfg with
                  routes := ((List.range (field (body r) 2 2)).foldl
                      (fun t i => tput t (field (body r) 0 2 + i) (routeEntry (body r) i)) l.cfg.routes) } })))) ∧
  (∀ (e : Stamp) (r : Request) (s : State) (l : Lane) (n : Nat) (p : GoosePub) (l1 l2 : Lane),
    l = nowOf e s → accepted 0x0603 none gooseCheck l r → n = flowId r → p = gooseAsked (body r) → l1 =
    { l with cfg := { l.cfg with goose := tput l.cfg.goose n p } } → l2 =
    (if p.enable && tget l.cfg.goose n != some p then gooseStart n p false l1 else l1) →
    exec (.goosePubSet e r) s = .next (s.setLane e.lane (postReply r .ok false
          (le 4 (gooseRun l2 n).stNum ++ le 4 (gooseRun l2 n).sqNum ++ le 4 (gooseRun l2 n).framesSent ++ zeros 4) l2))) ∧
  (∀ (e : Stamp) (r : Request) (s : State) (l : Lane) (n : Nat) (c : SessionCfg),
    l = nowOf e s → accepted 0x0600 none openCheck l r → n = flowId r → c = sessionAsked (body r) →
    exec (.sessionOpen e r) s = .next (s.setLane e.lane (postReply r .ok false []
          { l with
            cfg := { l.cfg with sessions := tput l.cfg.sessions n c },
            publish := { l.publish with sessions := tput l.publish.sessions n (.opened (!c.tcp)) } }))) ∧
  (∀ (e : Stamp) (r : Request) (s : State) (l : Lane), l = nowOf e s → accepted 0x0601 none sessionModifyCheck l r →
    exec (.sessionModify e r) s = .next (s.setLane e.lane { l with
          publish := { l.publish with
              sessions := tmod l.publish.sessions (flowId r) (fun s =>
                  { s with
                    announce := some (sessionAsked ((body r).drop 4), l.tc + secTc (field (body r) 1 1), r) }) } })) ∧
  (∀ (e : Stamp) (r : Request) (s : State) (l : Lane) (n : Nat) (l1 : Lane),
    l = nowOf e s → accepted 0x0602 none closeCheck l r → n = flowId r → l1 =
    (if (tget l.publish.sessions n).any (·.client.isSome) then emit (.tcpFin n) l else l) →
    exec (.sessionClose e r) s = .next (s.setLane e.lane (postReply r .ok false []
          { l1 with
            cfg := { l1.cfg with sessions := tdel l1.cfg.sessions n },
            publish := { l1.publish with sessions := tdel l1.publish.sessions n } }))) ∧
  (∀ (e : Stamp) (r : Request) (s : State) (l : Lane), l = nowOf e s → accepted 0x0606 none publishQueryCheck l r →
    exec (.publishQuery e r) s = .next (s.setLane e.lane (postReply r .ok false (publishResult l (flowId r)) l))) ∧
  (∀ (e : Stamp) (r : Request) (s : State) (l : Lane) (p : Nat) (c : StreamCfg),
    l = nowOf e s → accepted 0x0605 (some 0) derivedCreateCheck l r → p = field (body r) 1 1 → c =
    {
      transport := 0, portMask := 0, rate := ((tget l.cfg.planes p).map (·.rate)).getD 0, freq := 0,
      acceptTest := false, rejectUnsync := false, acceptErr01 := false, cmdEnable := false, tqLimit := 0,
      unlockLimit := 0, historyMs := 2000, part := .derived p (derivedKinds (body r)) } →
    exec (.derivedStreamCreate e r) s = .next (s.setLane e.lane
        (postReply r .ok false [] (setRun (flowId r) (.new .active 0 l.tc)
            { l with cfg := { l.cfg with streams := tput l.cfg.streams (flowId r) c } })))) ∧
  (∀ (e : Stamp) (r : Request) (s : State) (l : Lane), l = nowOf e s → accepted 0x0605 (some 1) derivedRemoveCheck l r →
    exec (.derivedStreamRemove e r) s = .next (s.setLane e.lane (postReply r .ok false [] (freeStream (flowId r) l))))

/-- The Swatch requests complete (R412, R413, R415, R420, R436, R438, R439, R440, R442, R444). -/
def Obligations.SwatchRequestsComplete : Prop :=
  (∀ (e : Stamp) (r : Request) (s : State) (l : Lane), l = nowOf e s → accepted 0x0700 (some 0) triggerReadCheck l r →
    exec (.triggerSetRead e r) s = .next (s.setLane e.lane (postReply r .ok false (triggerResult l (flowId r)) l))) ∧
  (∀ (e : Stamp) (r : Request) (s : State) (l : Lane) (i : Nat) (t : TriggerCfg) (l2 : Lane),
    l = nowOf e s → accepted 0x0700 (some 1) triggerCheck l r → i = flowId r → t = triggerAsked (body r) → l2 =
    setTrigger i
    { triggerRun l i with state := triggerStart l t, holdCount := 0, past := [], firstTrue := none, lastFalse := none }
    { l with cfg := { l.cfg with triggers := tput l.cfg.triggers i t } } →
    exec (.triggerSetSet e r) s = .next (s.setLane e.lane (postReply r .ok false (triggerResult l2 i) l2))) ∧
  (∀ (e : Stamp) (r : Request) (s : State) (l : Lane), l = nowOf e s → accepted 0x0701 (some 0) armCheck l r →
    exec (.swatchArmArm e r) s = .next
      (s.setLane e.lane (postReply r .ok false [] (armProfile (flowId r) (profileAsked (body r)) l)))) ∧
  (∀ (e : Stamp) (r : Request) (s : State) (l : Lane) (p : Nat) (c : ProfileCfg) (l1 : Lane),
    l = nowOf e s → accepted 0x0701 (some 1) disarmCheck l r → p = flowId r → profileCfg l p = some c → l1 = freeRing p
    { l with cfg := { l.cfg with profiles := tput l.cfg.profiles p { c with armed := false } } } →
    (profileRun l p).record = none →
    exec (.swatchArmDisarm e r) s = .next (s.setLane e.lane
        (postReply r .ok false [] ((profileRun l p).held.foldl missHeld
            (setProfile p { profileRun l1 p with state := .disarmed, inputs := [], half := [], held := [] } l1))))) ∧
  (∀ (e : Stamp) (r : Request) (s : State) (l : Lane) (c : ProfileCfg),
    l = nowOf e s → accepted 0x0701 (some 2) rearmOpCheck l r → profileCfg l (flowId r) = some c →
    exec (.swatchArmRearm e r) s = .next (s.setLane e.lane (postReply r .ok false [] (armProfile (flowId r) c l)))) ∧
  (∀ (e : Stamp) (r : Request) (s : State) (l : Lane) (i : Nat) (t : TriggerCfg),
    l = nowOf e s → accepted 0x0702 none commandCheck l r → i = flowId r → tget l.cfg.triggers i = some t → qualified l
    t (commandInstant l r) = true → t.profile = 0xFF →
    exec (.swatchTrigger e r) s = .next
      (s.setLane e.lane (postReply r .ok false (zeros 8) (fire i t (commandInstant l r) none l)))) ∧
  (∀ (e : Stamp) (r : Request) (s : State) (l : Lane) (i : Nat) (t : TriggerCfg),
    l = nowOf e s → accepted 0x0702 none commandCheck l r → i = flowId r → tget l.cfg.triggers i = some t → qualified l
    t (commandInstant l r) = true → t.profile ≠ 0xFF → (profileRun l t.profile).state ≠ .disarmed →
    (profileRun l t.profile).state ≠ .waiting →
    exec (.swatchTrigger e r) s = .next (s.setLane e.lane (fire i t (commandInstant l r) (some r) l))) ∧
  (∀ (e : Stamp) (r : Request) (s : State) (l : Lane) (i : Nat) (t : TriggerCfg),
    l = nowOf e s → accepted 0x0702 none commandCheck l r → i = flowId r → tget l.cfg.triggers i = some t → qualified l
    t (commandInstant l r) = false →
    exec (.swatchTrigger e r) s = .next
      (s.setLane e.lane (refuse r .noResource (fire i t (commandInstant l r) none l)))) ∧
  (∀ (e : Stamp) (r : Request) (s : State) (l : Lane) (x : Record),
    l = nowOf e s → accepted 0x0703 none keepCheck l r → recordOf l r = some x → x.opened = true →
    exec (.swatchKeep e r) s = .next
      (s.setLane e.lane (postReply r .ok false [] (setRecord { x with keepAtEnd := field (body r) 4 1 == 1 } l)))) ∧
  (∀ (e : Stamp) (r : Request) (s : State) (l : Lane) (x : Record),
    l = nowOf e s → accepted 0x0703 none keepCheck l r → recordOf l r = some x → x.opened = false → field (body r) 4 1 =
    1 →
    exec (.swatchKeep e r) s = .next (s.setLane e.lane
        (postReply r .ok false [] (setRecord { x with flags := x.flags ||| 0x20 } (sealSegs x .kept l))))) ∧
  (∀ (e : Stamp) (r : Request) (s : State) (l : Lane) (x : Record),
    l = nowOf e s → accepted 0x0703 none keepCheck l r → recordOf l r = some x → x.opened = false → field (body r) 4 1 =
    0 →
    exec (.swatchKeep e r) s = .next (s.setLane e.lane
        (postReply r .ok false [] (setRecord { x with flags := x.flags &&& 0xFFDF } (sealSegs x .done l))))) ∧
  (∀ (e : Stamp) (r : Request) (s : State) (l : Lane), l = nowOf e s → accepted 0x0704 none deleteCheck l r →
    exec (.swatchDelete e r) s = .next
      (s.setLane e.lane (postReply r .ok false [] (dropRecord (field (body r) 0 4) l)))) ∧
  (∀ (e : Stamp) (r : Request) (s : State) (l : Lane), l = nowOf e s → accepted 0x0708 none indexReadCheck l r →
    exec (.swatchIndexRead e r) s = .next
      (s.setLane e.lane (postReply r .ok false (indexResult l (field (body r) 0 4) (field (body r) 4 2)) l))) ∧
  (∀ (e : Stamp) (r : Request) (s : State) (l : Lane), l = nowOf e s → accepted 0x0705 none skewCheck l r →
    exec (.skewTableSet e r) s = .next (s.setLane e.lane (postReply r .ok false []
          { l with
            cfg := { l.cfg with
                skews := tput l.cfg.skews (flowId r) {
                    stream := skewAt (body r) 0,
                    channels := ((List.range (field (body r) 5 1)).foldl
                        (fun acc i => tput acc (field (body r) 4 1 + i) (skewAt (body r) (8 + 4 * i)))
                        (tgetD l.cfg.skews (flowId r) .zero).channels) } } }))) ∧
  (∀ (e : Stamp) (r : Request) (s : State) (l : Lane) (m : Mark),
    l = nowOf e s → accepted 0x0706 (some 0) markSetCheck l r → markPlace l (flowId r) (field (body r) 4 8) = some m →
    exec (.markSetSet e r) s = .next (s.setLane e.lane (postReply r .ok false []
          { l with swatch := { l.swatch with marks := tput l.swatch.marks (markKey r (field (body r) 0 1)) m } }))) ∧
  (∀ (e : Stamp) (r : Request) (s : State) (l : Lane),
    l = nowOf e s → accepted 0x0706 (some 0) markSetCheck l r → markPlace l (flowId r) (field (body r) 4 8) = none →
    exec (.markSetSet e r) s = .next
      (s.setLane e.lane (postReply r .markLost false (lostResult l (flowId r) (markKey r (field (body r) 0 1))) l))) ∧
  (∀ (e : Stamp) (r : Request) (s : State) (l : Lane), l = nowOf e s → accepted 0x0706 (some 1) markClearCheck l r →
    exec (.markSetClear e r) s = .next (s.setLane e.lane (postReply r .ok false []
          { l with swatch := { l.swatch with marks := tdel l.swatch.marks (markKey r (field (body r) 0 1)) } }))) ∧
  (∀ (e : Stamp) (r : Request) (s : State) (l : Lane) (m : Mark) (k n : Nat) (rs : List WaleRecord) (x : WaleRecord),
    l = nowOf e s → accepted 0x0707 none markReadCheck l r → k = markKey r (field (body r) 0 1) → n = field (body r) 3 1
    → (tget l.swatch.marks k).filter (·.valid) = some m → rs =
    ((waleOf l (flowId r)).records.filter (fun y => decide (m.at_ ≤ y.at_))).take (field (body r) 4 2) → rs.getLast? =
    some x → field (body r) 1 1 = 1 →
    exec (.markRead e r) s = .next (s.setLane e.lane (postReply r .ok false
          (le 2 rs.length ++ le 2 (recordSize n) ++ le 1 0 ++ zeros 3 ++ le 8
            (((waleOf l (flowId r)).records.head?.map (·.tag.toNat)).getD 0) ++ le 4 (waleOf l (flowId r)).disorder ++
            zeros 4 ++ rs.flatMap (recordBytes (field (body r) 2 1) n))
          { l with
            swatch := { l.swatch with
                marks := tput l.swatch.marks k { m with at_ := x.at_ + 1, tag := tagOfFull (x.at_ + 1) } } }))) ∧
  (∀ (e : Stamp) (r : Request) (s : State) (l : Lane) (k : Nat),
    l = nowOf e s → accepted 0x0707 none markReadCheck l r → k = markKey r (field (body r) 0 1) →
    (tget l.swatch.marks k).filter (·.valid) = none →
    exec (.markRead e r) s = .next (s.setLane e.lane (postReply r .markLost false (lostResult l (flowId r) k) l)))

/-- The time and port requests complete (R452, R457, R463, R473, R478, R482, R492, R493, R495, R499). -/
def Obligations.TimeAndPortRequestsComplete : Prop :=
  (∀ (e : Stamp) (r : Request) (s : State) (l : Lane) (l1 l2 : Lane) (k : RefKind),
    l = nowOf e s → accepted 0x0800 none timeRefCheck l r → l1 =
    { l with cfg := { l.cfg with timeRef := timeRefOf (body r) } } → l2 =
    (if (timeRefOf (body r)).ref10mEnable then l1 else { l1 with time := { l1.time with ref10m := false } }) →
    l2.time.selected = some k →
    exec (.timeRefSet e r) s = .next
      (s.setLane e.lane (postReply r .ok false [] (if priorityOf l2 k = 0xFF then deselect k l2 else l2)))) ∧
  (∀ (e : Stamp) (r : Request) (s : State) (l : Lane) (l1 l2 : Lane),
    l = nowOf e s → accepted 0x0800 none timeRefCheck l r → l1 =
    { l with cfg := { l.cfg with timeRef := timeRefOf (body r) } } → l2 =
    (if (timeRefOf (body r)).ref10mEnable then l1 else { l1 with time := { l1.time with ref10m := false } }) →
    l2.time.selected = none →
    exec (.timeRefSet e r) s = .next (s.setLane e.lane
        (postReply r .ok false [] (reselect ((bestRef l2).bind (fun k => (refOf l2.time k).lastValid)) l2)))) ∧
  (∀ (e : Stamp) (r : Request) (s : State) (l : Lane), l = nowOf e s → accepted 0x0801 none ptpPortCheck l r →
    exec (.ptpPortSet e r) s = .next (s.setLane e.lane (postReply r .ok false []
          (decidePorts
            { l with cfg := { l.cfg with ptpPorts := tput l.cfg.ptpPorts (flowId r) (ptpPortOf (body r)) } })))) ∧
  (∀ (e : Stamp) (r : Request) (s : State) (l : Lane) (l1 : Lane),
    l = nowOf e s → accepted 0x0802 none servoCheck l r → l1 =
    { l with cfg := { l.cfg with servo := servoOf (body r) } } →
    exec (.servoSet e r) s = .next
      (s.setLane e.lane (postReply r .ok false [] (if l1.time.state == .holdover then retune l1 else l1)))) ∧
  (∀ (e : Stamp) (r : Request) (s : State) (l : Lane), l = nowOf e s → accepted 0x0803 none utcSetCheck l r →
    exec (.utcOffsetSet e r) s = .next (s.setLane e.lane
        (postReply r .ok false [] (refreshUtc false { l with cfg := { l.cfg with utc := some (utcSetOf (body r)) } })))) ∧
  (∀ (e : Stamp) (r : Request) (s : State) (l : Lane), l = nowOf e s → accepted 0x0804 none timeQueryCheck l r →
    exec (.timeQuery e r) s = .next (s.setLane e.lane (postReply r .ok false (timeQuery l) l))) ∧
  (∀ (e : Stamp) (r : Request) (s : State) (l : Lane),
    l = nowOf e s → accepted 0x0900 none portSetCheck l r → flowId r ≤ 11 →
    exec (.portSet e r) s = .next (s.setLane e.lane (postReply r .ok false [] (ethSetApply (flowId r) (body r) l)))) ∧
  (∀ (e : Stamp) (r : Request) (s : State) (l : Lane),
    l = nowOf e s → accepted 0x0900 none portSetCheck l r → 11 < flowId r →
    exec (.portSet e r) s = .next (s.setLane e.lane (postReply r .ok false []
          { l with cfg := { l.cfg with serial := tput l.cfg.serial (flowId r - 12) (serialAsked (body r)) } }))) ∧
  (∀ (e : Stamp) (r : Request) (s : State) (l : Lane), l = nowOf e s → accepted 0x0901 none classCheck l r →
    exec (.classifierSet e r) s = .next (s.setLane e.lane (postReply r .ok false []
          { l with cfg := { l.cfg with classes := tput l.cfg.classes (flowId r) (classAsked (body r)) } }))) ∧
  (∀ (e : Stamp) (r : Request) (s : State) (l : Lane), l = nowOf e s → accepted 0x0902 none wakeCheck l r →
    exec (.wakeSet e r) s = .next (s.setLane e.lane (postReply r .ok false []
          { l with cfg := { l.cfg with wake := tput l.cfg.wake (flowId r) (wakeAsked (body r)) } }))) ∧
  (∀ (e : Stamp) (r : Request) (s : State) (l : Lane), l = nowOf e s → accepted 0x0903 (some 0) pollCheck l r →
    exec (.pollTableSetRead e r) s = .next (s.setLane e.lane (postReply r .ok false (pollResult r l) l))) ∧
  (∀ (e : Stamp) (r : Request) (s : State) (l : Lane) (n : Nat) (l1 l2 : Lane),
    l = nowOf e s → accepted 0x0903 (some 1) pollCheck l r → n = flowId r - 12 → l1 = (List.range (pollCount r)).foldl
    (fun (acc : Lane) j => setStation n (pollFirst r + j) (.new (pollAsked (body r) j).enable)
      { acc with
        cfg := { acc.cfg with poll := tput acc.cfg.poll (64 * n + (pollFirst r + j)) (pollAsked (body r) j) } }) l → l2
    = (if (serialRun l1 n).again.any (fun q => pollFirst r ≤ q.entry && q.entry < pollFirst r + pollCount r) then
      setSerial n { serialRun l1 n with again := none } l1 else l1) →
    exec (.pollTableSetWrite e r) s = .next
      (s.setLane e.lane (postReply r .ok false (pollResult r l2) (offlineAlarm n l2)))) ∧
  (∀ (e : Stamp) (r : Request) (s : State) (l : Lane), l = nowOf e s → accepted 0x0904 none countersCheck l r →
    exec (.portCounters e r) s = .next (s.setLane e.lane
        (postReply r .ok false (if flowId r ≤ 11 then ethResult l (flowId r) else serialResult l (flowId r - 12)) l)))

/-- The mesh and Ply requests complete (R528, R529, R530, R531, R543, R563, R564, R565, R566). -/
def Obligations.MeshAndPlyRequestsComplete : Prop :=
  (∀ (e : Stamp) (first retry : Bool) (r : Request) (s : State) (l : Lane) (m : Nat) (c : MeshCfg) (l1 : Lane),
    l = nowOf e s → accepted 0x0A00 none meshSetCheck l r → m = radioOf r → c = meshAsked (body r) → l1 =
    { l with cfg := { l.cfg with mesh := tput l.cfg.mesh m c } } → (meshRun l m).state = .root →
    { meshCfg l m with map := c.map } = c → (meshCfg l m).map ≠ c.map →
    exec (.meshSet e first retry r) s = .next (s.setLane e.lane
        (postReply r .ok false []
          (setMesh m { meshRun l m with pending := some (c.map, (eventNow l m + 8) % 65536) } l1)))) ∧
  (∀ (e : Stamp) (first retry : Bool) (r : Request) (s : State) (l : Lane) (m : Nat) (c : MeshCfg) (l1 : Lane),
    l = nowOf e s → accepted 0x0A00 none meshSetCheck l r → m = radioOf r → c = meshAsked (body r) → l1 =
    { l with cfg := { l.cfg with mesh := tput l.cfg.mesh m c } } → (meshRun l m).state ≠ .root → radioRuns (meshRun l m)
    = false →
    exec (.meshSet e first retry r) s = .next
      (s.setLane e.lane (postReply r .ok false [] (meshInit m first retry (meshBegin m l1))))) ∧
  (∀ (e : Stamp) (r : Request) (s : State) (l : Lane), l = nowOf e s → accepted 0x0A01 none nodeAddCheck l r →
    exec (.meshNodeAdd e r) s = .next (s.setLane e.lane (postReply r .ok false []
          { l with
            cfg := { l.cfg with
                nodes := tput l.cfg.nodes (65536 * radioOf r + (nodeAsked (body r)).shortAddr)
                  (nodeAsked (body r)) } }))) ∧
  (∀ (e : Stamp) (r : Request) (s : State) (l : Lane) (m a : Nat) (gone : Grant → Bool),
    l = nowOf e s → accepted 0x0A02 none nodeRemoveCheck l r → m = radioOf r → a = field (body r) 0 2 → gone =
    (fun g => g.radio == m && g.node == a) →
    exec (.meshNodeRemove e r) s = .next (s.setLane e.lane (postReply r .ok false []
          (meshAlarms m (setMesh m { meshRun l m with
                nodes := tdel (meshRun l m).nodes a, reports := tdel (meshRun l m).reports a,
                instants := tdel (meshRun l m).instants a,
                suspended := (meshRun l m).suspended.filter (fun g => !gone g) }
              { l with
                cfg := { l.cfg with
                    nodes := tdel l.cfg.nodes (65536 * m + a), grants := l.cfg.grants.filter (fun g => !gone g) } }))))) ∧
  (∀ (e : Stamp) (r : Request) (s : State) (l : Lane) (m : Nat) (g : Grant),
    l = nowOf e s → accepted 0x0A03 (some 0) assignCheck l r → m = radioOf r → g = grantAsked r →
    exec (.meshSlotAssignAssign e r) s = .next (s.setLane e.lane
        (postReply r .ok false [] (sendGrants m g.node (setMesh m
              { meshRun l m with suspended := (meshRun l m).suspended.filter (· != g) }
              { l with
                cfg :=
                  { l.cfg with grants := if l.cfg.grants.contains g then l.cfg.grants else l.cfg.grants ++ [g] } }))))) ∧
  (∀ (e : Stamp) (r : Request) (s : State) (l : Lane) (m : Nat) (g : Grant),
    l = nowOf e s → accepted 0x0A03 (some 1) releaseCheck l r → m = radioOf r → g = grantAsked r →
    exec (.meshSlotAssignRelease e r) s = .next (s.setLane e.lane
        (postReply r .ok false [] (sendGrants m g.node (setMesh m
              { meshRun l m with suspended := (meshRun l m).suspended.filter (· != g) }
              { l with cfg := { l.cfg with grants := l.cfg.grants.filter (· != g) } }))))) ∧
  (∀ (e : Stamp) (r : Request) (s : State) (l : Lane), l = nowOf e s → accepted 0x0A04 none meshQueryCheck l r →
    exec (.meshQuery e r) s = .next (s.setLane e.lane (postReply r .ok false (meshResult l (radioOf r)) l))) ∧
  (∀ (e : Stamp) (r : Request) (s : State) (l : Lane) (l1 : Lane),
    l = nowOf e s → accepted 0x0B00 none plySetCheck l r → l1 =
    { l with cfg := { l.cfg with ply := plyCfgOf (body r) } } →
    exec (.plySet e r) s = .next (s.setLane e.lane (postReply r .ok false []
          (plySettle (l1.ply.compare.foldl (fun acc x => if x.2.suspended then endSuspension x.1 acc else acc) l1))))) ∧
  (∀ (e : Stamp) (r : Request) (s : State) (l : Lane) (c : PairCfg),
    l = nowOf e s → accepted 0x0B01 (some 1) pairCheck l r → c = pairOf (body r) →
    exec (.plyPairPair e r) s = .next (s.setLane e.lane (postReply r .ok false []
          (plySettle (sendHello (leaseChange (fun x => if x.cfg.pair.map (·.deviceIndex) = some c.deviceIndex then
                  { x with cfg := { x.cfg with pair := some c } } else pairBegin c x) l)))))) ∧
  (∀ (e : Stamp) (r : Request) (s : State) (l : Lane), l = nowOf e s → accepted 0x0B01 (some 0) plyUnpairCheck l r →
    exec (.plyPairUnpair e r) s = .next
      (s.setLane e.lane (postReply r .ok false [] (plySettle (leaseChange unpaired l))))) ∧
  (∀ (e : Stamp) (r : Request) (s : State) (l : Lane) (t : Nat),
    l = nowOf e s → accepted 0x0B02 none handoverCheck l r → t = field (body r) 0 1 → handoverLease l t = .lane →
    memberAtLeast l t 2 = true →
    exec (.leaseHandover e r) s = .next (s.setLane e.lane (plySend 0 (.offer (leaseOf l .lane).epoch t)
          { l with ply := { l.ply with handover := some { req := r, target := t, lease := .lane, sentAt := l.tc } } }))) ∧
  (∀ (e : Stamp) (r : Request) (s : State) (l : Lane) (t : Nat),
    l = nowOf e s → accepted 0x0B02 none handoverCheck l r → t = field (body r) 0 1 → handoverLease l t = .lane →
    memberAtLeast l t 2 = false →
    exec (.leaseHandover e r) s = .next
      (s.setLane e.lane (commitHandover { req := r, target := t, lease := .lane, sentAt := l.tc } l))) ∧
  (∀ (e : Stamp) (r : Request) (s : State) (l : Lane), l = nowOf e s → accepted 0x0B03 none plyQueryCheck l r →
    exec (.plyQuery e r) s = .next (s.setLane e.lane (postReply r .ok false (plyQuery l) l))) ∧
  (∀ (e : Stamp) (r : Request) (s : State) (l : Lane) (c : WitnessCfg),
    l = nowOf e s → accepted 0x0B04 none witnessCheck l r → c = witnessCfgOf (body r) →
    exec (.witnessSet e r) s = .next (s.setLane e.lane (postReply r .ok false []
          (plySettle (changeWitness l.cfg.witness c .device
              (changeWitness l.cfg.witness c .lane { l with cfg := { l.cfg with witness := c } }))))))

/-- The Selvedge requests complete (R577, R578, R580, R581, R582, R583, R584, R586). -/
def Obligations.KeyRequestsComplete : Prop :=
  (∀ (e : Stamp) (r : Request) (s : State) (l : Lane) (g : Bytes × Lane) (k : KeySlot),
    l = nowOf e s → accepted 0x0C00 none keyGenCheck l r → g = generateMaterial (reqType r) (leaveZeroised l) → k =
    {
      state := .valid, type := reqType r, usage := reqUsage r, persistent := bit (field (body r) 2 1) 0,
      generated := true, keyId := field (body r) 4 4, generation := 0, parent := none, material := g.1 } →
    exec (.keyGenerate e r) s = .next (s.setLane e.lane (postReply r .ok false
          (le 2 (publicLen (reqType r)) ++ zeros 2 ++ kcv k ++ slotPublic k ++ zeros 3)
          (plySettle (fillSlot (flowId r) k g.2))))) ∧
  (∀ (e : Stamp) (r : Request) (s : State) (l : Lane) (k : KeySlot) (l1 : Lane) (epoch : Nat),
    l = nowOf e s → accepted 0x0C01 none keyWriteCheck l r → k =
    {
      state := .valid, type := reqType r, usage := reqUsage r, persistent := bit (field (body r) 2 1) 0,
      generated := false, keyId := field (body r) 4 4, generation := 0, parent := none, material := writeMaterial r } →
    l1 = fillSlot (flowId r) k (leaveZeroised l) → epoch =
    (if field (body r) 8 4 = 0 then l1.keys.keyEpoch else field (body r) 8 4) →
    exec (.keyWrite e r) s = .next (s.setLane e.lane (postReply r .ok false (kcv k)
          (plySettle
            { l1 with keys := { l1.keys with keyEpoch := epoch }, vault := { l1.vault with epoch := epoch } })))) ∧
  (∀ (e : Stamp) (r : Request) (s : State) (l : Lane) (p k : KeySlot),
    l = nowOf e s → accepted 0x0C02 none keyDeriveCheck l r → p = slotOf l (deriveParent r) → k =
    {
      state := .valid, type := deriveType r, usage := deriveUsage r, persistent := bit (field (body r) 3 1) 0,
      generated := false, keyId := field (body r) 4 4, generation := 0, parent := some (deriveParent r, p.generation),
      material := hkdf (deriveIkm p (derivePeer r)) (deriveSalt r) (deriveInfo r) (generatedLen (deriveType r)) } →
    exec (.keyDerive e r) s = .next
      (s.setLane e.lane (postReply r .ok false (kcv k) (plySettle (fillSlot (flowId r) k (leaveZeroised l)))))) ∧
  (∀ (e : Stamp) (r : Request) (s : State) (l : Lane) (n : Nat),
    l = nowOf e s → accepted 0x0C03 none keyDeleteCheck l r → n = flowId r →
    exec (.keyDelete e r) s = .next (s.setLane e.lane (postReply r .ok false []
          { l with
            keys := { l.keys with
                slots := tput l.keys.slots n { KeySlot.dflt with generation := bump (slotOf l n).generation } },
            vault := { l.vault with flash := tdel l.vault.flash n } }))) ∧
  (∀ (e : Stamp) (r : Request) (s : State) (l : Lane) (n : Nat) (k : KeySlot),
    l = nowOf e s → accepted 0x0C04 none keyInvalidateCheck l r → n = flowId r → k =
    { slotOf l n with state := .invalid, material := [], generation := bump (slotOf l n).generation } →
    exec (.keyInvalidate e r) s = .next (s.setLane e.lane (postReply r .ok false []
          { l with
            keys := { l.keys with slots := tput l.keys.slots n k },
            vault := { l.vault with
                flash := if k.persistent then tput l.vault.flash n ⟨k, l.vault.wrap.getD 0⟩ else l.vault.flash } }))) ∧
  (∀ (e : Stamp) (r : Request) (s : State) (l : Lane), l = nowOf e s → accepted 0x0C05 none attestCheck l r →
    exec (.keyAttest e r) s = .next (s.setLane e.lane
        (postReply r .ok false ((statement r l) ++ attestSign r l (statement r l)) { l with fresh := l.fresh + 1 }))) ∧
  (∀ (e : Stamp) (r : Request) (s : State) (l : Lane), l = nowOf e s → accepted 0x0C06 none challengeCheck l r →
    exec (.roleChallenge e r) s = .next (s.setLane e.lane (postReply r .ok false (drawRandom 32 l).1
          { (drawRandom 32 l).2 with
            keys := { (drawRandom 32 l).2.keys with challenge := some ((drawRandom 32 l).1, l.tc) } }))) ∧
  (∀ (e : Stamp) (r : Request) (s : State) (l : Lane), l = nowOf e s → accepted 0x0C07 (some 0) respondCheck l r →
    exec (.roleRespondTake e r) s = .next (s.setLane e.lane
        ((if respondVerifies l r = true ∧ l.vault.owners.contains (sha256 (respondPublic r)) = true then postReply r .ok
            false [] { l with keys := { l.keys with privilege := true } } else failResponse r l)))) ∧
  (∀ (e : Stamp) (r : Request) (s : State) (l : Lane), l = nowOf e s → accepted 0x0C07 (some 1) dropCheck l r →
    exec (.roleRespondDrop e r) s = .next
      (s.setLane e.lane (postReply r .ok false [] { l with keys := { l.keys with privilege := false } }))) ∧
  (∀ (e : Stamp) (r : Request) (s : State) (l : Lane),
    l = nowOf e s → accepted 0x0C07 (some 2) respondCheck l r → (l.vault.owners = [] ∨ l.keys.privilege = true) →
    l.vault.owners.length < 4 →
    exec (.roleRespondBind e r) s = .next (s.setLane e.lane
        ((if respondVerifies l r = true then postReply r .ok false []
            { l with
              vault := { l.vault with owners := l.vault.owners ++ [sha256 (respondPublic r)] },
              keys := { l.keys with privilege := true } } else failResponse r l)))) ∧
  (∀ (e : Stamp) (r : Request) (s : State) (l : Lane),
    l = nowOf e s → accepted 0x0C07 (some 2) respondCheck l r → l.vault.owners ≠ [] → l.keys.privilege = false →
    exec (.roleRespondBind e r) s = .next (s.setLane e.lane (failResponse r l))) ∧
  (∀ (e : Stamp) (r : Request) (s : State) (l : Lane), l = nowOf e s → accepted 0x0C08 (some 0) slvStatusCheck l r →
    exec (.slvQueryStatus e r) s = .next (s.setLane e.lane (postReply r .ok false (slvStatus l) l))) ∧
  (∀ (e : Stamp) (r : Request) (s : State) (l : Lane), l = nowOf e s → accepted 0x0C08 (some 1) slvSlotsCheck l r →
    exec (.slvQuerySlots e r) s = .next (s.setLane e.lane (postReply r .ok false
          ((List.range (field (body r) 2 1)).flatMap (fun i => slotEntry l (field (body r) 1 1 + i))) l))) ∧
  (∀ (e : Stamp) (r : Request) (s : State) (l : Lane) (en : BitVec 6),
    l = nowOf e s → accepted 0x0C08 (some 2) tamperSetCheck l r → en = BitVec.ofNat 6 (field (body r) 4 2) →
    exec (.slvQueryTamperSet e r) s = .next (s.setLane e.lane
        (postReply r .ok false [] { l with
            cfg := { l.cfg with tamperEnable := en, debounceUs := field (body r) 6 2 },
            keys := { l.keys with deferred := 0 }, vault := { l.vault with kaEnable := en } }))) ∧
  (∀ (e : Stamp) (r : Request) (s : State) (l : Lane), l = nowOf e s → accepted 0x0C08 (some 3) tamperAckCheck l r →
    exec (.slvQueryTamperAck e r) s = .next (s.setLane e.lane
        (postReply r .ok false [] { l with
            vault := { l.vault with records := l.vault.records.map (fun x => { x with acknowledged := true }) } })))

/-- The mode, configuration, update, gauge, fault log, drill and health requests complete (R591, R605, R606, R609, R610,
R611, R613, R614, R619, R620, R627). -/
def Obligations.ModeAndHealthRequestsComplete : Prop :=
  (∀ (e : Stamp) (r : Request) (s : State) (l : Lane) (m : Mode),
    l = nowOf e s → accepted 0x0101 none modeSetCheck l r → Mode.ofCode (modeAsked r) = some m →
    exec (.modeSet e r) s = .next (s.setLane e.lane (changeMode m (rtcWakeS r) (postReply r .ok false [] l)))) ∧
  (∀ (e : Stamp) (r : Request) (s : State) (l : Lane), l = nowOf e s → accepted 0x0102 (some 0) laneResetCheck l r →
    exec (.laneResetRestart e r) s = .next (s.setLane e.lane (resetToStart .laneReset (postReply r .ok false [] l)))) ∧
  (∀ (e : Stamp) (r : Request) (s : State) (l : Lane), l = nowOf e s → accepted 0x0102 (some 1) laneResetCheck l r →
    exec (.laneResetSalvage e r) s = .next (s.setLane e.lane (resetToSalvage .laneReset (postReply r .ok false [] l)))) ∧
  (∀ (e : Stamp) (r : Request) (s : State) (l : Lane), l = nowOf e s → accepted 0x0103 none configCommitCheck l r →
    exec (.configCommit e r) s = .next
      (s.setLane e.lane (postReply r .ok false (le 4 (bump l.mode.configGen)) (writeStore (runningConfig l) l)))) ∧
  (∀ (e : Stamp) (r : Request) (s : State) (l : Lane), l = nowOf e s → accepted 0x0104 none configReadCheck l r →
    exec (.configRead e r) s = .next (s.setLane e.lane (postReply r .ok false
          (le 4 l.mode.configGen ++ le 2 l.mode.configFormat ++ zeros 2 ++ le 4 (configBytes l).length ++ zeros 4 ++
            slice (configBytes l) (field (body r) 0 4) (field (body r) 4 4)) l))) ∧
  (∀ (e : Stamp) (r : Request) (s : State) (l : Lane) (split : RunConfig → RunConfig),
    l = nowOf e s → accepted 0x0105 none poolSplitCheck l r → split =
    (fun c => { c with swatchMib := field (body r) 0 4, segShift := field (body r) 4 1 }) →
    exec (.poolSplitSet e r) s = .next (s.setLane e.lane (postReply r .ok false []
          (writeStore (split (((storeInForce (activeHeader l).configFormat l.store).map (·.2.2)).getD .dflt))
            { l with cfg := split l.cfg })))) ∧
  (∀ (e : Stamp) (r : Request) (s : State) (l : Lane), l = nowOf e s → accepted 0x0100 none sysInfoCheck l r →
    exec (.sysInfo e r) s = .next (s.setLane e.lane (postReply r .ok false (sysInfo l) l))) ∧
  (∀ (e : Stamp) (r : Request) (s : State) (l : Lane), l = nowOf e s → accepted 0x0D00 none updateBeginCheck l r →
    exec (.updateBegin e r) s = .next (s.setLane e.lane (postReply r .ok false []
          { l with
            mode := { l.mode with
                staged := some {
                    totalLen := field (body r) 0 4, fromHash := slice (body r) 4 32, toHash := slice (body r) 36 32,
                    data := [] } } }))) ∧
  (∀ (e : Stamp) (r : Request) (s : State) (l : Lane) (x : Staged),
    l = nowOf e s → accepted 0x0D01 none updateChunkCheck l r → l.mode.staged = some x →
    exec (.updateChunk e r) s = .next (s.setLane e.lane (postReply r .ok false []
          { l with
            mode := { l.mode with
                staged := some
                  { x with data := chunkData (stagedBytes x) (field (body r) 0 4) ((body r).drop 8) } } }))) ∧
  (∀ (e : Stamp) (r : Request) (s : State) (l : Lane) (l1 : Lane),
    l = nowOf e s → accepted 0x0D02 none updateFinishCheck l r → l1 = emptyInactive l →
    exec (.updateFinish e r) s = .next (s.setLane e.lane ((if packageOk l = true then
            { l1 with
              mode := { l1.mode with
                  build := some {
                      req := r, confirmS := field (body r) 0 4, hostConfirm := bit (field (body r) 4 1) 0,
                      restart := bit (field (body r) 4 1) 1 } } } else refuse r .imageInvalid l1)))) ∧
  (∀ (e : Stamp) (r : Request) (s : State) (l : Lane),
    l = nowOf e s → accepted 0x0D03 (some 0) confirmCheck l r → (activeHeader l).state = .testing →
    exec (.updateConfirmConfirm e r) s = .next (s.setLane e.lane (postReply r .ok false [] (confirmImage l)))) ∧
  (∀ (e : Stamp) (r : Request) (s : State) (l : Lane),
    l = nowOf e s → accepted 0x0D03 (some 0) confirmCheck l r → (activeHeader l).state ≠ .testing →
    exec (.updateConfirmConfirm e r) s = .next (s.setLane e.lane (postReply r .ok false [] l))) ∧
  (∀ (e : Stamp) (r : Request) (s : State) (l : Lane), l = nowOf e s → accepted 0x0D03 (some 1) rejectCheck l r →
    exec (.updateConfirmReject e r) s = .next (s.setLane e.lane
        (resetToStart .laneReset { (setActiveState .failed (postReply r .ok false [] l)) with
            boot := { (setActiveState .failed (postReply r .ok false [] l)).boot with selectedB := inactiveIsB l } }))) ∧
  (∀ (e : Stamp) (r : Request) (s : State) (l : Lane) (isB : Bool) (boot : BootFlash),
    l = nowOf e s → accepted 0x0D04 none slotSelectCheck l r → isB = (field (body r) 0 1 == 1) →
    (slotIn l.boot (!isB)).state ≠ .testing → boot = { l.boot with selectedB := isB, failures := 0 } → bit
    (field (body r) 1 1) 0 = false →
    exec (.slotSelect e r) s = .next (s.setLane e.lane (postReply r .ok false [] { l with boot := boot }))) ∧
  (∀ (e : Stamp) (r : Request) (s : State) (l : Lane) (isB : Bool) (boot : BootFlash) (l1 : Lane),
    l = nowOf e s → accepted 0x0D04 none slotSelectCheck l r → isB = (field (body r) 0 1 == 1) →
    (slotIn l.boot (!isB)).state ≠ .testing → boot = { l.boot with selectedB := isB, failures := 0 } → bit
    (field (body r) 1 1) 0 = true → l1 = postReply r .ok false [] { l with boot := boot } →
    exec (.slotSelect e r) s = .next
      (s.setLane e.lane (resetToStart (if l.mode.mode == .salvage then .salvageExit else .laneReset) l1))) ∧
  (∀ (e : Stamp) (r : Request) (s : State) (l : Lane) (n : Nat),
    l = nowOf e s → accepted 0x0E00 none gaugeSetCheck l r → n = flowId r →
    exec (.gaugeSet e r) s = .next (s.setLane e.lane (postReply r .ok false []
          { l with
            cfg := { l.cfg with gauges := tput l.cfg.gauges n (gaugeAsked (body r)) },
            health := { l.health with gauges := tput l.health.gauges n (.cleared l.tc) } }))) ∧
  (∀ (e : Stamp) (r : Request) (s : State) (l : Lane),
    l = nowOf e s → accepted 0x0E01 none gaugeSnapshotCheck l r → field (body r) 0 1 = 1 →
    exec (.gaugeSnapshot e r) s = .next
      (s.setLane e.lane (postReply r .ok false (gaugeBytes l (flowId r)) (clearGauge (flowId r) l)))) ∧
  (∀ (e : Stamp) (r : Request) (s : State) (l : Lane),
    l = nowOf e s → accepted 0x0E01 none gaugeSnapshotCheck l r → field (body r) 0 1 ≠ 1 →
    exec (.gaugeSnapshot e r) s = .next (s.setLane e.lane (postReply r .ok false (gaugeBytes l (flowId r)) l))) ∧
  (∀ (e : Stamp) (r : Request) (s : State) (l : Lane), l = nowOf e s → accepted 0x0E02 none faultReadCheck l r →
    exec (.faultLogRead e r) s = .next (s.setLane e.lane (postReply r .ok false (faultRead r l) l))) ∧
  (∀ (e : Stamp) (r : Request) (s : State) (l : Lane) (d : DrillRun),
    l = nowOf e s → accepted 0x0E03 none drillCheck l r → d =
    {
      req := r, tests := field (body r) 0 1, scenario := field (body r) 1 1, exitOnDone := bit (field (body r) 2 1) 0,
      repeats := field (body r) 3 1, portMask := BitVec.ofNat 32 (field (body r) 4 4) } →
    exec (.drillRun e r) s = .next (s.setLane e.lane { l with health := { l.health with drill := some d } })) ∧
  (∀ (e : Stamp) (r : Request) (s : State) (l : Lane), l = nowOf e s → accepted 0x0E04 none healthQueryCheck l r →
    exec (.healthQuery e r) s = .next (s.setLane e.lane (postReply r .ok false (healthResult l) l)))
end

