-- ==== Sys2Proof/Laws/Tables.lean ====
section
/-!
SUPPORT. Tables: reading after a write, and the canonical form that every table operation keeps.
-/
namespace Sys2Proof.Machine

variable {α : Type}

theorem trising_iff (t : Table α) : trising t = true ↔ t.Pairwise (fun a b => a.1 < b.1) := by
  induction t with
  | nil => simp [trising]
  | cons a t ih =>
    cases t with
    | nil => simp [trising]
    | cons b t =>
      simp only [trising, Bool.and_eq_true, decide_eq_true_eq, ih, List.pairwise_cons, List.mem_cons]
      constructor
      · rintro ⟨hab, hb, ht⟩
        refine ⟨?_, hb, ht⟩
        rintro x (rfl | hx)
        · exact hab
        · exact Nat.lt_trans hab (hb x hx)
      · rintro ⟨ha, hb, ht⟩
        exact ⟨ha b (Or.inl rfl), hb, ht⟩

theorem tget_tput_same (t : Table α) (k : Nat) (v : α) : tget (tput t k v) k = some v := by
  induction t with
  | nil => simp [tput, tget]
  | cons e t ih =>
    obtain ⟨k', v'⟩ := e
    simp only [tput]
    split
    · simp [tget]
    · split
      · simp [tget]
      · simp only [tget]
        rw [if_neg (by omega)]
        exact ih

theorem tget_tput_other (t : Table α) (k i : Nat) (v : α) (h : i ≠ k) : tget (tput t k v) i = tget t i := by
  induction t with
  | nil => simp [tput, tget, h.symm]
  | cons e t ih =>
    obtain ⟨k', v'⟩ := e
    simp only [tput]
    split
    · simp [tget, h.symm]
    · split
      · rename_i h2
        subst h2
        simp [tget, h.symm]
      · simp only [tget, ih]

theorem tget_tdel_same (t : Table α) (k : Nat) : tget (tdel t k) k = none := by
  induction t with
  | nil => rfl
  | cons e t ih =>
    obtain ⟨k', v'⟩ := e
    by_cases h : k' = k
    · subst h
      simpa [tdel] using ih
    · have : tdel ((k', v') :: t) k = (k', v') :: tdel t k := by simp [tdel, h]
      rw [this]
      simp [tget, h, ih]

theorem tget_tdel_other (t : Table α) (k i : Nat) (h : i ≠ k) : tget (tdel t k) i = tget t i := by
  induction t with
  | nil => rfl
  | cons e t ih =>
    obtain ⟨k', v'⟩ := e
    by_cases hk : k' = k
    · subst hk
      have : tdel ((k', v') :: t) k' = tdel t k' := by simp [tdel]
      rw [this, ih]
      simp [tget, h.symm]
    · have : tdel ((k', v') :: t) k = (k', v') :: tdel t k := by simp [tdel, hk]
      rw [this]
      simp only [tget, ih]

theorem mem_tput {t : Table α} {k : Nat} {v : α} {e : Nat × α} (h : e ∈ tput t k v) : e = (k, v) ∨ e ∈ t := by
  induction t with
  | nil => exact Or.inl (by simpa [tput] using h)
  | cons x t ih =>
    obtain ⟨k', v'⟩ := x
    simp only [tput] at h
    split at h
    · rcases List.mem_cons.1 h with h | h
      · exact Or.inl h
      · exact Or.inr h
    · split at h
      · rcases List.mem_cons.1 h with h | h
        · exact Or.inl h
        · exact Or.inr (List.mem_cons_of_mem _ h)
      · rcases List.mem_cons.1 h with h | h
        · exact Or.inr (h ▸ List.mem_cons_self)
        · rcases ih h with h | h
          · exact Or.inl h
          · exact Or.inr (List.mem_cons_of_mem _ h)

theorem trising_tput (t : Table α) (k : Nat) (v : α) (h : trising t = true) : trising (tput t k v) = true := by
  rw [trising_iff] at h ⊢
  induction t with
  | nil => simp [tput]
  | cons e t ih =>
    obtain ⟨k', v'⟩ := e
    rw [List.pairwise_cons] at h
    simp only [tput]
    split
    · rename_i h1
      refine List.pairwise_cons.2 ⟨?_, List.pairwise_cons.2 h⟩
      intro a ha
      rcases List.mem_cons.1 ha with ha | ha
      · exact ha ▸ h1
      · exact Nat.lt_trans h1 (h.1 a ha)
    · split
      · rename_i h2
        subst h2
        exact List.pairwise_cons.2 h
      · refine List.pairwise_cons.2 ⟨?_, ih h.2⟩
        intro a ha
        rcases mem_tput ha with ha | ha
        · subst ha
          show k' < k
          omega
        · exact h.1 a ha

theorem trising_filter (t : Table α) (p : Nat × α → Bool) (h : trising t = true) : trising (t.filter p) = true := by
  rw [trising_iff] at h ⊢
  exact h.filter p

theorem canonical_filter [DecidableEq α] {d : α} {t : Table α} (p : Nat × α → Bool) (h : canonical d t = true) :
    canonical d (t.filter p) = true := by
  simp only [canonical, Bool.and_eq_true, List.all_eq_true] at h ⊢
  exact ⟨trising_filter t p h.1, fun e he => h.2 e (List.mem_filter.1 he).1⟩

/-- A write keeps the canonical form. -/
theorem canonical_putD [DecidableEq α] {d : α} {t : Table α} (k : Nat) (v : α) (h : canonical d t = true) :
    canonical d (putD d t k v) = true := by
  unfold putD
  split
  · exact canonical_filter _ h
  · rename_i hv
    simp only [canonical, Bool.and_eq_true, List.all_eq_true] at h ⊢
    refine ⟨trising_tput t k v h.1, fun e he => ?_⟩
    rcases mem_tput he with rfl | he
    · simpa using hv
    · exact h.2 e he

/-- Reading after a write of the same key. -/
theorem tgetD_putD_same [DecidableEq α] (d : α) (t : Table α) (k : Nat) (v : α) : tgetD (putD d t k v) k d = v := by
  unfold putD tgetD
  split
  · rename_i h
    rw [tget_tdel_same, h]
    rfl
  · rw [tget_tput_same]
    rfl

/-- Reading after a write of another key. -/
theorem tgetD_putD_other [DecidableEq α] (d : α) (t : Table α) (k i : Nat) (v : α) (h : i ≠ k) :
    tgetD (putD d t k v) i d = tgetD t i d := by
  unfold putD tgetD
  split
  · rw [tget_tdel_other _ _ _ h]
  · rw [tget_tput_other _ _ _ _ h]

theorem mem_of_tget {t : Table α} {k : Nat} {v : α} (h : tget t k = some v) : (k, v) ∈ t := by
  induction t with
  | nil => simp [tget] at h
  | cons e t ih =>
    obtain ⟨k', v'⟩ := e
    simp only [tget] at h
    split at h
    · rename_i hk
      cases h
      exact hk ▸ List.mem_cons_self
    · exact List.mem_cons_of_mem _ (ih h)

end Sys2Proof.Machine
end

