-- ==== Sys2Proof/Laws/Tiles.lean ====
section
/-!
SUPPORT. The canonical form of tiles and of the array's tile table, the soundness of the Needle's task entries, and the
folding lemmas that the frames of `Laws/Kept` use.
-/
namespace Sys2Proof
open Sys2Proof.Machine

variable {B : LaneId × Nat × Bool}

/-! ### Tiles -/

theorem zero_wf : Tile.zero.wf = true := by decide

theorem Tile.wf_iff (t : Tile) : t.wf = true ↔
    canonical zeroLanes t.v = true ∧ canonical 0 t.s = true ∧ canonical 0 t.p = true ∧ Memory.wf t.mem = true := by
  simp [Tile.wf, and_assoc]

/-- Every write of the data SRAM keeps its canonical form. -/
theorem Memory.wf_putWord {m : Table Word} (k : Nat) (w : Word) (h : Memory.wf m = true) : Memory.wf (putWord m k w) = true :=
  canonical_putD k w h

theorem Memory.wf_foldl {α : Type} {f : Table Word → α → Table Word} (xs : List α) {m : Table Word} (h : Memory.wf m = true)
    (hf : ∀ y a, Memory.wf y = true → Memory.wf (f y a) = true) : Memory.wf (xs.foldl f m) = true := by
  induction xs generalizing m with
  | nil => exact h
  | cons a t ih => exact ih (hf m a h)

theorem Tile.wf_foldl {α : Type} {f : Tile → α → Tile} (xs : List α) {t : Tile} (h : t.wf = true)
    (hf : ∀ y a, y.wf = true → (f y a).wf = true) : (xs.foldl f t).wf = true := by
  induction xs generalizing t with
  | nil => exact h
  | cons a xs ih => exact ih (hf t a h)

/-- A tile whose data SRAM alone is replaced by one in canonical form. -/
theorem Tile.wf_mem {t : Tile} {m : Table Word} (h : t.wf = true) (hm : Memory.wf m = true) : ({ t with mem := m } : Tile).wf = true := by
  rw [Tile.wf_iff] at h ⊢
  exact ⟨h.1, h.2.1, h.2.2.1, hm⟩

theorem writeBytes_wf (w : Nat) (b : Bytes) (t : Tile) (h : t.wf = true) : (writeBytes w b t).wf = true := by
  have hm := ((Tile.wf_iff t).1 h).2.2.2
  exact Tile.wf_mem h (Memory.wf_foldl _ hm (fun _ _ hy => Memory.wf_putWord _ _ hy))

theorem castEntry_wf (c : ClosedCourse) (e : LayoutEntry) (t : Tile) (h : t.wf = true) : (castEntry c e t).wf = true := by
  unfold castEntry
  exact Tile.wf_foldl _ (Tile.wf_foldl _ h (fun _ _ hy => writeBytes_wf _ _ _ hy)) (fun _ _ hy => writeBytes_wf _ _ _ hy)

theorem writeDest_wf (d : Dest) (t : Tile) (h : t.wf = true) : (writeDest d t).wf = true := by
  rw [Tile.wf_iff] at h
  cases d with
  | vec r mask lanes => exact (Tile.wf_iff _).2 ⟨canonical_putD _ _ h.1, h.2⟩
  | sca r w =>
    simp only [writeDest]
    split
    · exact (Tile.wf_iff _).2 h
    · exact (Tile.wf_iff _).2 ⟨h.1, canonical_putD _ _ h.2.1, h.2.2⟩
  | prd r mask bits =>
    simp only [writeDest]
    split
    · exact (Tile.wf_iff _).2 h
    · exact (Tile.wf_iff _).2 ⟨h.1, h.2.1, canonical_putD _ _ h.2.2.1, h.2.2.2⟩

theorem settleResults_wf (row : Nat) (t : Tile) (h : t.wf = true) : (settleResults row t).wf = true := by
  unfold settleResults
  exact Tile.wf_foldl _ h (fun _ _ hy => writeDest_wf _ _ hy)

theorem settleStores_wf (row : Nat) (t : Tile) (h : t.wf = true) : (settleStores row t).wf = true := by
  unfold settleStores
  refine Tile.wf_foldl _ h (fun y _ hy => ?_)
  exact Tile.wf_mem hy (Memory.wf_foldl _ ((Tile.wf_iff y).1 hy).2.2.2 (fun _ _ hz => Memory.wf_putWord _ _ hz))

theorem settleAll_wf (t : Tile) (h : t.wf = true) : (settleAll t).wf = true :=
  settleStores_wf _ _ (settleResults_wf _ _ h)

theorem issueBundle_wf (row : Nat) (b : Bundle) (recv : List Result) (t : Tile) (h : t.wf = true) :
    (issueBundle row b recv t).wf = true := h

theorem tile_cleared_wf {t : Tile} {pc : Nat} (h : t.wf = true) :
    ({ t with v := [], s := [], p := [], pc := pc, loops := [], results := [], stores := [] } : Tile).wf = true :=
  (Tile.wf_iff _).2 ⟨rfl, rfl, rfl, ((Tile.wf_iff t).1 h).2.2.2⟩

/-! ### The table of tiles -/

theorem tilesOk_nil : tilesOk [] := ⟨rfl, fun _ h => nomatch h⟩

theorem tilesOk_filter {ts : Table Tile} (p : Nat × Tile → Bool) (h : tilesOk ts) : tilesOk (ts.filter p) :=
  ⟨canonical_filter p h.1, fun e he => h.2 e (List.mem_filter.1 he).1⟩

theorem tilesOk_putD {ts : Table Tile} (n : Nat) {t : Tile} (ht : t.wf = true) (h : tilesOk ts) :
    tilesOk (putD Tile.zero ts n t) := by
  refine ⟨canonical_putD _ _ h.1, fun e he => ?_⟩
  unfold putD at he
  split at he
  · exact h.2 e (List.mem_filter.1 he).1
  · rcases mem_tput he with rfl | he
    · exact ht
    · exact h.2 e he

theorem tileOf_wf {l : Lane} {n : Nat} (h : tilesOk l.array.tiles) : (tileOf l n).wf = true := by
  unfold tileOf tgetD
  cases e : tget l.array.tiles n with
  | none => exact zero_wf
  | some t => exact h.2 _ (mem_of_tget e)

theorem rowTiles_wf {l : Lane} (p : Part) (pat : Pattern) (rect : Rect) (h : tilesOk l.array.tiles) :
    ∀ x ∈ rowTiles l p pat rect, x.tile.wf = true := by
  intro x hx
  unfold rowTiles at hx
  obtain ⟨i, _, rfl⟩ := List.mem_map.1 hx
  dsimp only
  split
  · exact tileOf_wf h
  · exact settleStores_wf _ _ (settleResults_wf _ _ (tileOf_wf h))

/-! ### Task entries -/

theorem entriesOk_nil : entriesOk [] := ⟨Nat.zero_le _, List.Pairwise.nil⟩

/-- A change of entries that leaves their requests' sources and tags alone. -/
theorem entriesOk_map {es : List TaskEntry} (f : TaskEntry → TaskEntry)
    (hf : ∀ e, (f e).req.src = e.req.src ∧ (f e).req.tag = e.req.tag) (h : entriesOk es) : entriesOk (es.map f) := by
  refine ⟨by rw [List.length_map]; exact h.1, List.pairwise_map.2 (h.2.imp ?_)⟩
  intro a b hab hc
  rw [(hf a).1, (hf b).1, (hf a).2, (hf b).2] at hc
  exact hab hc

/-- A request of a tag that is not held joins the entries (R63, R77). -/
theorem entriesOk_admit {l : Lane} {r : Request} (hn : l.needle.entries.length < 4096) (ht : tagHeld l r.src r.tag = false)
    (h : entriesOk l.needle.entries) (e : TaskEntry) (he : e.req = r) : entriesOk (l.needle.entries ++ [e]) := by
  refine ⟨by rw [List.length_append]; exact hn, ?_⟩
  rw [List.pairwise_append]
  refine ⟨h.2, List.pairwise_singleton _ _, ?_⟩
  intro a ha b hb
  rw [List.mem_singleton] at hb
  subst hb
  rw [he]
  intro hc
  unfold tagHeld at ht
  rw [Bool.or_eq_false_iff, List.any_eq_false] at ht
  have := ht.1 a ha
  simp [hc.1, hc.2] at this

/-- What admission has checked of a request that it admits (R72, R77, R78). -/
theorem admissionStatus_ok {l : Lane} {r : Request} {m : Nat} (hs : admissionStatus l r m = .ok)
    (hb : ¬opBypass r.opcode = true) : l.needle.entries.length < 4096 ∧ tagHeld l r.src r.tag = false := by
  unfold admissionStatus need at hs
  split at hs <;> try contradiction
  split at hs <;> try contradiction
  split at hs <;> try contradiction
  split at hs <;> try contradiction
  rename_i h4
  split at hs <;> try contradiction
  split at hs <;> try contradiction
  split at hs <;> try contradiction
  rename_i h7
  refine ⟨?_, ?_⟩
  · simp only [roomOk, Bool.or_eq_true, Bool.and_eq_true, decide_eq_true_eq] at h7
    rcases h7 with h7 | h7
    · exact absurd h7 hb
    · exact h7.1
  · simp only [fieldsOk, Bool.and_eq_true, Bool.not_eq_true'] at h4
    exact h4.1.1.2

/-! ### The fault log -/

theorem logOk_nil : logOk [] := Nat.zero_le _

/-- The log after a record: the newest 65,536 records (R630). -/
theorem logOk_drop (xs : List FaultRecord) : logOk (xs.drop (xs.length - 65536)) := by
  unfold logOk
  rw [List.length_drop]
  omega

/-! ### Folds -/

theorem Lane.kept_ite {c : Prop} [Decidable c] {x y : Lane} (hx : x.Kept B) (hy : y.Kept B) : (if c then x else y).Kept B := by
  split
  · exact hx
  · exact hy

theorem Lane.kept_foldl {α : Type} {f : Lane → α → Lane} (xs : List α) (l : Lane) (h : l.Kept B)
    (hf : ∀ x a, x.Kept B → (f x a).Kept B) : (xs.foldl f l).Kept B := by
  induction xs generalizing l with
  | nil => exact h
  | cons x t ih => exact ih _ (hf l x h)

theorem kept_foldl_fst {α β : Type} {f : Lane × β → α → Lane × β} (xs : List α) (p : Lane × β) (h : p.1.Kept B)
    (hf : ∀ (x : Lane × β) a, x.1.Kept B → (f x a).1.Kept B) : (xs.foldl f p).1.Kept B := by
  induction xs generalizing p with
  | nil => exact h
  | cons x t ih => exact ih _ (hf p x h)

end Sys2Proof
end

