-- ==== Sys2Proof/Laws/Kept1.lean ====
section
/-!
SUPPORT. The lane functions of the model keep a lane's invariants (`Lane.Kept`), part 1 of 5: each lemma says that one
    function keeps
the lane's identity, its count and its strap, canonical tiles, sound task entries and a bounded fault log. Functions stand in
    the
order in which they call one another.
-/
set_option linter.unusedSimpArgs false

namespace Sys2Proof
open Sys2Proof.Machine
variable {B : LaneId × Nat × Bool}
theorem Lane.kept_mk (id : LaneId) (tc : Nat) (fresh : Nat) (powered : Bool) (dieOk : Bool) (spi : Bool) (mode : ModeSt) (boot
    : BootFlash) (cfg : RunConfig) (store : ConfigStore) (journal : Option Journal) (rtc : Option (Nat × Nat)) (flashEpochs :
    Nat × Nat) (keys : KeysSt) (vault : KeyStore) (peers : Table Peer) (mgmtPort : Nat) (mgmtUdp : Nat) (needle : NeedleSt)
    (host : HostSt) (health : HealthSt) (publish : PublishSt) (time : TimeSt) (ply : PlySt) (ports : PortsSt) (queues : Table
    Queue) (queueSizes : Table (Nat × Nat)) (streams : StreamsSt) (pe : PeSt) (skein : SkeinSt) (array : ArraySt) (mesh :
    Table MeshRun) (swatch : SwatchSt) (out : List Output) :
    (Lane.mk id tc fresh powered dieOk spi mode boot cfg store journal rtc flashEpochs keys vault peers mgmtPort mgmtUdp
      needle host health publish time ply ports queues queueSizes streams pe skein array mesh swatch out).Kept B =
      ((id, tc, spi) = B ∧ tilesOk array.tiles ∧ entriesOk needle.entries ∧ logOk health.log) := rfl
theorem Lane.kept_fold (l : Lane) : ((l.id, l.tc, l.spi) = B ∧ tilesOk l.array.tiles ∧ entriesOk l.needle.entries ∧ logOk
    l.health.log) = l.Kept B := rfl
end Sys2Proof
namespace Sys2Proof.Machine
variable {B : LaneId × Nat × Bool}

theorem abortStart_kept a0 l (h : l.Kept B) : (abortStart a0 l).Kept B := by
  unfold abortStart
  repeat' with_reducible first
    | assumption | simp only [↓Lane.kept_mk, ↓Lane.kept_fold] | split | intro _
theorem emit_kept a0 l (h : l.Kept B) : (emit a0 l).Kept B := by
  unfold emit
  repeat' with_reducible first
    | assumption | simp only [↓Lane.kept_mk, ↓Lane.kept_fold] | split | intro _
theorem plyFrame_kept a0 a1 l (h : l.Kept B) : (plyFrame a0 a1 l).Kept B := by
  unfold plyFrame
  repeat' with_reducible first
    | assumption | apply emit_kept | simp only [↓Lane.kept_mk, ↓Lane.kept_fold] | split | intro _
theorem plySend_kept a0 a1 l (h : l.Kept B) : (plySend a0 a1 l).Kept B := by
  unfold plySend
  repeat' with_reducible first
    | assumption | apply plyFrame_kept | simp only [↓Lane.kept_mk, ↓Lane.kept_fold] | split | intro _
theorem azSend_kept a0 a1 a2 l (h : l.Kept B) : (azSend a0 a1 a2 l).Kept B := by
  unfold azSend
  repeat' with_reducible first
    | assumption | apply emit_kept | simp only [↓Lane.kept_mk, ↓Lane.kept_fold] | split | intro _
theorem partnerAgent_kept a0 a1 l (h : l.Kept B) : (partnerAgent a0 a1 l).Kept B := by
  unfold partnerAgent
  repeat' with_reducible first
    | assumption | apply azSend_kept | simp only [↓Lane.kept_mk, ↓Lane.kept_fold] | split | intro _
theorem setCompare_kept a0 a1 l (h : l.Kept B) : (setCompare a0 a1 l).Kept B := by
  unfold setCompare
  repeat' with_reducible first
    | assumption | simp only [↓Lane.kept_mk, ↓Lane.kept_fold] | split | intro _
theorem signalCause_kept a0 l (h : l.Kept B) : (signalCause a0 l).Kept B := by
  unfold signalCause
  repeat' with_reducible first
    | assumption | apply emit_kept | simp only [↓Lane.kept_mk, ↓Lane.kept_fold] | split | intro _
theorem setCause_kept a0 l (h : l.Kept B) : (setCause a0 l).Kept B := by
  unfold setCause
  repeat' with_reducible first
    | assumption | apply signalCause_kept | simp only [↓Lane.kept_mk, ↓Lane.kept_fold] | split | intro _
theorem logged_kept (l : Lane) (log : List FaultRecord) (n : Nat) (hl : logOk log) (h : l.Kept B) :
    ({ l with health := { l.health with log := log, nextSeq := n } } : Lane).Kept B := ⟨h.1, h.2.1, h.2.2.1, hl⟩
theorem logFaultAt_kept a0 a1 a2 a3 a4 a5 a6 l (h : l.Kept B) : (logFaultAt a0 a1 a2 a3 a4 a5 a6 l).Kept B := by
  unfold logFaultAt
  simp only []
  split
  · apply setCause_kept
    exact logged_kept _ _ _ (logOk_drop _) h
  · exact logged_kept _ _ _ (logOk_drop _) h
theorem logFault_kept a0 a1 a2 a3 a4 a5 l (h : l.Kept B) : (logFault a0 a1 a2 a3 a4 a5 l).Kept B := by
  unfold logFault
  repeat' with_reducible first
    | assumption | apply logFaultAt_kept | simp only [↓Lane.kept_mk, ↓Lane.kept_fold] | split | intro _
theorem setQueue_kept a0 a1 l (h : l.Kept B) : (setQueue a0 a1 l).Kept B := by
  unfold setQueue
  repeat' with_reducible first
    | assumption | simp only [↓Lane.kept_mk, ↓Lane.kept_fold] | split | intro _
theorem enqueueOrWait_kept a0 a1 a2 l (h : l.Kept B) : (enqueueOrWait a0 a1 a2 l).Kept B := by
  unfold enqueueOrWait
  repeat' with_reducible first
    | assumption | apply setQueue_kept | simp only [↓Lane.kept_mk, ↓Lane.kept_fold] | split | intro _
theorem sendGoose_kept a0 a1 l (h : l.Kept B) : (sendGoose a0 a1 l).Kept B := by
  unfold sendGoose
  repeat' with_reducible first
    | assumption | apply emit_kept | apply enqueueOrWait_kept | simp only [↓Lane.kept_mk, ↓Lane.kept_fold] | split | intro _
theorem gooseTransmit_kept a0 a1 a2 a3 a4 l (h : l.Kept B) : (gooseTransmit a0 a1 a2 a3 a4 l).Kept B := by
  unfold gooseTransmit
  repeat' with_reducible first
    | assumption | apply sendGoose_kept | apply plySend_kept | simp only [↓Lane.kept_mk, ↓Lane.kept_fold] | split | intro _
theorem gooseStart_kept a0 a1 a2 l (h : l.Kept B) : (gooseStart a0 a1 a2 l).Kept B := by
  unfold gooseStart
  repeat' with_reducible first
    | assumption | apply gooseTransmit_kept | simp only [↓Lane.kept_mk, ↓Lane.kept_fold] | split | intro _
theorem gooseEvent_kept a0 a1 l (h : l.Kept B) : (gooseEvent a0 a1 l).Kept B := by
  unfold gooseEvent
  repeat' with_reducible first
    | assumption | apply gooseStart_kept | apply Lane.kept_foldl | simp only [↓Lane.kept_mk, ↓Lane.kept_fold] | split |
      intro _
theorem refreshPins_kept l (h : l.Kept B) : (refreshPins l).Kept B := by
  unfold refreshPins
  repeat' with_reducible first
    | assumption | apply plySend_kept | simp only [↓Lane.kept_mk, ↓Lane.kept_fold] | split | intro _
theorem alarmRecord_kept a0 a1 l (h : l.Kept B) : (alarmRecord a0 a1 l).Kept B := by
  unfold alarmRecord
  repeat' with_reducible first
    | assumption | apply setCause_kept | apply logFault_kept | simp only [↓Lane.kept_mk, ↓Lane.kept_fold] | split | intro _
theorem alarmOn_kept a0 a1 l (h : l.Kept B) : (alarmOn a0 a1 l).Kept B := by
  unfold alarmOn
  repeat' with_reducible first
    | assumption | apply refreshPins_kept | apply alarmRecord_kept | simp only [↓Lane.kept_mk, ↓Lane.kept_fold] | split |
      intro _
theorem activate_kept a0 a1 l (h : l.Kept B) : (activate a0 a1 l).Kept B :=
  gooseEvent_kept _ _ _ (alarmOn_kept _ _ _ h)
theorem raiseEvent_kept a0 l (h : l.Kept B) : (raiseEvent a0 l).Kept B := by
  unfold raiseEvent
  repeat' with_reducible first
    | assumption | apply activate_kept | simp only [↓Lane.kept_mk, ↓Lane.kept_fold] | split | intro _
theorem transientFault_kept a0 a1 l (h : l.Kept B) : (transientFault a0 a1 l).Kept B := by
  unfold transientFault
  repeat' with_reducible first
    | assumption | apply logFault_kept | apply raiseEvent_kept | simp only [↓Lane.kept_mk, ↓Lane.kept_fold] | split | intro _
theorem lastingFault_kept a0 a1 l (h : l.Kept B) : (lastingFault a0 a1 l).Kept B := by
  unfold lastingFault
  repeat' with_reducible first
    | assumption | apply logFault_kept | apply raiseEvent_kept | simp only [↓Lane.kept_mk, ↓Lane.kept_fold] | split | intro _
theorem setPart_kept a0 a1 l (h : l.Kept B) : (setPart a0 a1 l).Kept B := by
  unfold setPart
  repeat' with_reducible first
    | assumption | simp only [↓Lane.kept_mk, ↓Lane.kept_fold] | split | intro _
theorem raiseCond_kept a0 l (h : l.Kept B) : (raiseCond a0 l).Kept B := by
  unfold raiseCond
  repeat' with_reducible first
    | assumption | apply activate_kept | simp only [↓Lane.kept_mk, ↓Lane.kept_fold] | split | intro _
theorem clearActive_kept a0 l (h : l.Kept B) : (clearActive a0 l).Kept B := by
  unfold clearActive
  repeat' with_reducible first
    | assumption | apply refreshPins_kept | apply alarmRecord_kept | simp only [↓Lane.kept_mk, ↓Lane.kept_fold] | split |
      intro _
theorem deactivate_kept a0 l (h : l.Kept B) : (deactivate a0 l).Kept B :=
  gooseEvent_kept _ _ _ (clearActive_kept _ _ h)
theorem settleAlarm_kept a0 l (h : l.Kept B) : (settleAlarm a0 l).Kept B := by
  unfold settleAlarm
  repeat' with_reducible first
    | assumption | apply deactivate_kept | simp only [↓Lane.kept_mk, ↓Lane.kept_fold] | split | intro _
theorem dropCond_kept a0 l (h : l.Kept B) : (dropCond a0 l).Kept B := by
  unfold dropCond
  repeat' with_reducible first
    | assumption | apply settleAlarm_kept | simp only [↓Lane.kept_mk, ↓Lane.kept_fold] | split | intro _
theorem condAlarm_kept a0 a1 l (h : l.Kept B) : (condAlarm a0 a1 l).Kept B := by
  unfold condAlarm
  repeat' with_reducible first
    | assumption | apply raiseCond_kept | apply dropCond_kept | simp only [↓Lane.kept_mk, ↓Lane.kept_fold] | split | intro _
theorem plyAlarms_kept l (h : l.Kept B) : (plyAlarms l).Kept B := by
  unfold plyAlarms
  repeat' with_reducible first
    | assumption | apply condAlarm_kept | simp only [↓Lane.kept_mk, ↓Lane.kept_fold] | split | intro _
theorem azSendPartners_kept a0 a1 l (h : l.Kept B) : (azSendPartners a0 a1 l).Kept B := by
  unfold azSendPartners
  repeat' with_reducible first
    | assumption | apply azSend_kept | apply Lane.kept_foldl | simp only [↓Lane.kept_mk, ↓Lane.kept_fold] | split | intro _
theorem sendHello_kept l (h : l.Kept B) : (sendHello l).Kept B := by
  unfold sendHello
  repeat' with_reducible first
    | assumption | apply azSendPartners_kept | apply plySend_kept | simp only [↓Lane.kept_mk, ↓Lane.kept_fold] | split |
      intro _
theorem announce_kept l (h : l.Kept B) : (announce l).Kept B := by
  unfold announce
  repeat' with_reducible first
    | assumption | apply sendHello_kept | simp only [↓Lane.kept_mk, ↓Lane.kept_fold] | split | intro _
theorem gooseTakeover_kept a0 a1 l (h : l.Kept B) : (gooseTakeover a0 a1 l).Kept B := by
  unfold gooseTakeover
  repeat' with_reducible first
    | assumption | apply gooseTransmit_kept | simp only [↓Lane.kept_mk, ↓Lane.kept_fold] | split | intro _
theorem queueSession_kept a0 a1 a2 l (h : l.Kept B) : (queueSession a0 a1 a2 l).Kept B := by
  unfold queueSession
  repeat' with_reducible first
    | assumption | apply enqueueOrWait_kept | apply plySend_kept | simp only [↓Lane.kept_mk, ↓Lane.kept_fold] | split |
      intro _
theorem sendSession_kept a0 a1 a2 l (h : l.Kept B) : (sendSession a0 a1 a2 l).Kept B := by
  unfold sendSession
  repeat' with_reducible first
    | assumption | apply queueSession_kept | simp only [↓Lane.kept_mk, ↓Lane.kept_fold] | split | intro _
theorem sessionCatchup_kept a0 l (h : l.Kept B) : (sessionCatchup a0 l).Kept B := by
  unfold sessionCatchup
  repeat' with_reducible first
    | assumption | apply sendSession_kept | apply Lane.kept_foldl | simp only [↓Lane.kept_mk, ↓Lane.kept_fold] | split |
      intro _
theorem takeOver_kept l (h : l.Kept B) : (takeOver l).Kept B := by
  unfold takeOver
  repeat' with_reducible first
    | assumption | apply refreshPins_kept | apply gooseTakeover_kept | apply emit_kept | apply sessionCatchup_kept | apply
      Lane.kept_foldl | simp only [↓Lane.kept_mk, ↓Lane.kept_fold] | split | intro _
theorem stepDown_kept l (h : l.Kept B) : (stepDown l).Kept B := by
  unfold stepDown
  repeat' with_reducible first
    | assumption | apply emit_kept | apply refreshPins_kept | apply Lane.kept_foldl | simp only [↓Lane.kept_mk,
      ↓Lane.kept_fold] | split | intro _
theorem leaseChange_kept a0 l (hf : ∀ x : Lane, x.Kept B → (a0 x).Kept B) (h : l.Kept B) : (leaseChange a0 l).Kept B := by
  unfold leaseChange
  simp only []
  repeat' with_reducible first
    | assumption | apply hf | apply takeOver_kept | apply stepDown_kept | apply refreshPins_kept | split
theorem setLease_kept a0 a1 l (h : l.Kept B) : (setLease a0 a1 l).Kept B := by
  unfold setLease
  repeat' with_reducible first
    | assumption | simp only [↓Lane.kept_mk, ↓Lane.kept_fold] | split | intro _
theorem loseLease_kept a0 l (h : l.Kept B) : (loseLease a0 l).Kept B := by
  unfold loseLease
  repeat' with_reducible first
    | assumption | apply leaseChange_kept | apply setLease_kept | simp only [↓Lane.kept_mk, ↓Lane.kept_fold] | split | intro _
theorem writeCompletion_kept a0 a1 a2 a3 l (h : l.Kept B) : (writeCompletion a0 a1 a2 a3 l).Kept B := by
  unfold writeCompletion
  repeat' with_reducible first
    | assumption | apply emit_kept | apply setCause_kept | simp only [↓Lane.kept_mk, ↓Lane.kept_fold] | split | intro _
theorem completeRing_kept a0 a1 a2 l (h : l.Kept B) : (completeRing a0 a1 a2 l).Kept B := by
  unfold completeRing
  repeat' with_reducible first
    | assumption | apply writeCompletion_kept | apply emit_kept | simp only [↓Lane.kept_mk, ↓Lane.kept_fold] | split | intro _
theorem deliverRing_kept a0 a1 a2 l (h : l.Kept B) : (deliverRing a0 a1 a2 l).Kept B := by
  unfold deliverRing
  repeat' with_reducible first
    | assumption | apply enqueueOrWait_kept | apply completeRing_kept | simp only [↓Lane.kept_mk, ↓Lane.kept_fold] | split
      | intro _
theorem deliverMailbox_kept a0 a1 l (h : l.Kept B) : (deliverMailbox a0 a1 l).Kept B := by
  unfold deliverMailbox
  repeat' with_reducible first
    | assumption | apply setCause_kept | simp only [↓Lane.kept_mk, ↓Lane.kept_fold] | split | intro _
theorem deliverBypass_kept a0 a1 l (h : l.Kept B) : (deliverBypass a0 a1 l).Kept B := by
  unfold deliverBypass
  repeat' with_reducible first
    | assumption | apply setCause_kept | simp only [↓Lane.kept_mk, ↓Lane.kept_fold] | split | intro _
theorem deliverPeer_kept a0 a1 a2 l (h : l.Kept B) : (deliverPeer a0 a1 a2 l).Kept B := by
  unfold deliverPeer
  repeat' with_reducible first
    | assumption | apply emit_kept | simp only [↓Lane.kept_mk, ↓Lane.kept_fold] | split | intro _
theorem deliver_kept a0 a1 l (h : l.Kept B) : (deliver a0 a1 l).Kept B := by
  unfold deliver
  repeat' with_reducible first
    | assumption | apply deliverRing_kept | apply deliverMailbox_kept | apply deliverBypass_kept | apply deliverPeer_kept |
      simp only [↓Lane.kept_mk, ↓Lane.kept_fold] | split | intro _
theorem freeEntry_kept a0 a1 l (h : l.Kept B) : (freeEntry a0 a1 l).Kept B :=
  ⟨h.1, h.2.1, ⟨Nat.le_trans (List.length_filter_le ..) h.2.2.1.1, h.2.2.1.2.filter _⟩, h.2.2.2⟩
theorem postReply_kept a0 a1 a2 a3 l (h : l.Kept B) : (postReply a0 a1 a2 a3 l).Kept B := by
  unfold postReply
  repeat' with_reducible first
    | assumption | apply deliver_kept | apply freeEntry_kept | apply emit_kept | simp only [↓Lane.kept_mk, ↓Lane.kept_fold]
      | split | intro _
theorem refuse_kept a0 a1 l (h : l.Kept B) : (refuse a0 a1 l).Kept B := by
  unfold refuse
  repeat' with_reducible first
    | assumption | apply postReply_kept | simp only [↓Lane.kept_mk, ↓Lane.kept_fold] | split | intro _
theorem dropHandover_kept l (h : l.Kept B) : (dropHandover l).Kept B := by
  unfold dropHandover
  repeat' with_reducible first
    | assumption | apply refuse_kept | simp only [↓Lane.kept_mk, ↓Lane.kept_fold] | split | intro _
theorem sendLease_kept a0 a1 l (h : l.Kept B) : (sendLease a0 a1 l).Kept B := by
  unfold sendLease
  repeat' with_reducible first
    | assumption | apply plySend_kept | apply azSendPartners_kept | simp only [↓Lane.kept_mk, ↓Lane.kept_fold] | split |
      intro _
theorem releaseLease_kept a0 a1 a2 l (h : l.Kept B) : (releaseLease a0 a1 a2 l).Kept B := by
  unfold releaseLease
  repeat' with_reducible first
    | assumption | apply loseLease_kept | apply dropHandover_kept | apply setLease_kept | apply announce_kept | apply
      sendLease_kept | simp only [↓Lane.kept_mk, ↓Lane.kept_fold] | split | intro _
theorem handToSibling_kept a0 l (h : l.Kept B) : (handToSibling a0 l).Kept B := by
  unfold handToSibling
  repeat' with_reducible first
    | assumption | apply releaseLease_kept | simp only [↓Lane.kept_mk, ↓Lane.kept_fold] | split | intro _
theorem autoHandover_kept l (h : l.Kept B) : (autoHandover l).Kept B := by
  unfold autoHandover
  repeat' with_reducible first
    | assumption | apply releaseLease_kept | apply handToSibling_kept | simp only [↓Lane.kept_mk, ↓Lane.kept_fold] | split
      | intro _
theorem setReason_kept a0 a1 l (h : l.Kept B) : (setReason a0 a1 l).Kept B := by
  unfold setReason
  repeat' with_reducible first
    | assumption | simp only [↓Lane.kept_mk, ↓Lane.kept_fold] | split | intro _
theorem refreshReasons_kept l (h : l.Kept B) : (refreshReasons l).Kept B := by
  unfold refreshReasons
  repeat' with_reducible first
    | assumption | apply setReason_kept | simp only [↓Lane.kept_mk, ↓Lane.kept_fold] | split | intro _
theorem plySettle_kept l (h : l.Kept B) : (plySettle l).Kept B := by
  unfold plySettle
  repeat' with_reducible first
    | assumption | apply plyAlarms_kept | apply announce_kept | apply autoHandover_kept | apply refreshReasons_kept | simp
      only [↓Lane.kept_mk, ↓Lane.kept_fold] | split | intro _
theorem declareUnhealthy_kept a0 l (h : l.Kept B) : (declareUnhealthy a0 l).Kept B := by
  unfold declareUnhealthy
  repeat' with_reducible first
    | assumption | apply plySettle_kept | simp only [↓Lane.kept_mk, ↓Lane.kept_fold] | split | intro _
theorem markFaulted_kept a0 l (h : l.Kept B) : (markFaulted a0 l).Kept B := by
  unfold markFaulted
  repeat' with_reducible first
    | assumption | apply raiseEvent_kept | apply setPart_kept | simp only [↓Lane.kept_mk, ↓Lane.kept_fold] | split | intro _
theorem tileLasting_kept a0 l (h : l.Kept B) : (tileLasting a0 l).Kept B := by
  unfold tileLasting
  repeat' with_reducible first
    | assumption | apply lastingFault_kept | apply setPart_kept | apply declareUnhealthy_kept | apply markFaulted_kept |
      apply Lane.kept_foldl | simp only [↓Lane.kept_mk, ↓Lane.kept_fold] | split | intro _
theorem failTile_kept a0 a1 l (h : l.Kept B) : (failTile a0 a1 l).Kept B := by
  unfold failTile
  repeat' with_reducible first
    | assumption | apply tileLasting_kept | simp only [↓Lane.kept_mk, ↓Lane.kept_fold] | split | intro _
theorem sendTo_kept a0 a1 l (h : l.Kept B) : (sendTo a0 a1 l).Kept B := by
  unfold sendTo
  repeat' with_reducible first
    | assumption | apply plySend_kept | apply azSend_kept | simp only [↓Lane.kept_mk, ↓Lane.kept_fold] | split | intro _
theorem startCheck_kept a0 a1 a2 l (h : l.Kept B) : (startCheck a0 a1 a2 l).Kept B := by
  unfold startCheck
  repeat' with_reducible first
    | assumption | apply lastingFault_kept | apply setCompare_kept | apply failTile_kept | apply sendTo_kept | simp only
      [↓Lane.kept_mk, ↓Lane.kept_fold] | split | intro _
theorem compareCourse_kept a0 a1 a2 a3 a4 l (h : l.Kept B) : (compareCourse a0 a1 a2 a3 a4 l).Kept B := by
  unfold compareCourse
  repeat' with_reducible first
    | assumption | apply setCompare_kept | apply transientFault_kept | apply raiseEvent_kept | apply startCheck_kept | simp
      only [↓Lane.kept_mk, ↓Lane.kept_fold] | split | intro _
theorem produceDigest_kept a0 a1 a2 a3 l (h : l.Kept B) : (produceDigest a0 a1 a2 a3 l).Kept B := by
  unfold produceDigest
  repeat' with_reducible first
    | assumption | apply plySend_kept | apply partnerAgent_kept | apply compareCourse_kept | simp only [↓Lane.kept_mk,
      ↓Lane.kept_fold] | split | intro _
theorem placeFrame_kept a0 a1 a2 a3 l (h : l.Kept B) : (placeFrame a0 a1 a2 a3 l).Kept B := by
  unfold placeFrame
  repeat' with_reducible first
    | assumption | apply sendSession_kept | simp only [↓Lane.kept_mk, ↓Lane.kept_fold] | split | intro _
theorem setSession_kept a0 a1 l (h : l.Kept B) : (setSession a0 a1 l).Kept B := by
  unfold setSession
  repeat' with_reducible first
    | assumption | simp only [↓Lane.kept_mk, ↓Lane.kept_fold] | split | intro _
theorem publishSession_kept a0 a1 a2 a3 a4 a5 a6 l (h : l.Kept B) : (publishSession a0 a1 a2 a3 a4 a5 a6 l).Kept B := by
  unfold publishSession
  repeat' with_reducible first
    | assumption | apply placeFrame_kept | apply setSession_kept | simp only [↓Lane.kept_mk, ↓Lane.kept_fold] | split |
      intro _
theorem publishCourse_kept a0 a1 a2 a3 a4 a5 l (h : l.Kept B) : (publishCourse a0 a1 a2 a3 a4 a5 l).Kept B := by
  unfold publishCourse
  repeat' with_reducible first
    | assumption | apply publishSession_kept | apply Lane.kept_foldl | simp only [↓Lane.kept_mk, ↓Lane.kept_fold] | split |
      intro _
theorem absentCourse_kept a0 l (h : l.Kept B) : (absentCourse a0 l).Kept B := by
  unfold absentCourse
  repeat' with_reducible first
    | assumption | apply produceDigest_kept | apply publishCourse_kept | simp only [↓Lane.kept_mk, ↓Lane.kept_fold] | split
      | intro _
theorem pmuCommand_kept a0 a1 l (h : l.Kept B) : (pmuCommand a0 a1 l).Kept B := by
  unfold pmuCommand
  repeat' with_reducible first
    | assumption | apply emit_kept | simp only [↓Lane.kept_mk, ↓Lane.kept_fold] | split | intro _
theorem turnOn_kept a0 l (h : l.Kept B) : (turnOn a0 l).Kept B := by
  unfold turnOn
  repeat' with_reducible first
    | assumption | apply pmuCommand_kept | simp only [↓Lane.kept_mk, ↓Lane.kept_fold] | split | intro _
theorem setRun_kept a0 a1 l (h : l.Kept B) : (setRun a0 a1 l).Kept B := by
  unfold setRun
  repeat' with_reducible first
    | assumption | simp only [↓Lane.kept_mk, ↓Lane.kept_fold] | split | intro _
theorem markResets_kept a0 l (h : l.Kept B) : (markResets a0 l).Kept B := by
  unfold markResets
  repeat' with_reducible first
    | assumption | simp only [↓Lane.kept_mk, ↓Lane.kept_fold] | split | intro _
theorem dropRequired_kept a0 l (h : l.Kept B) : (dropRequired a0 l).Kept B := by
  unfold dropRequired
  repeat' with_reducible first
    | assumption | simp only [↓Lane.kept_mk, ↓Lane.kept_fold] | split | intro _
theorem enterState_kept a0 a1 l (h : l.Kept B) : (enterState a0 a1 l).Kept B := by
  unfold enterState
  repeat' with_reducible first
    | assumption | apply setRun_kept | apply markResets_kept | apply dropRequired_kept | simp only [↓Lane.kept_mk,
      ↓Lane.kept_fold] | split | intro _
theorem acceptApply_kept a0 l (h : l.Kept B) : (acceptApply a0 l).1.Kept B := by
  unfold acceptApply
  repeat' with_reducible first
    | assumption | apply turnOn_kept | apply enterState_kept | apply setRun_kept | simp only [↓Lane.kept_mk,
      ↓Lane.kept_fold] | split | intro _
theorem acceptFrame_kept a0 a1 a2 a3 l (h : l.Kept B) : (acceptFrame a0 a1 a2 a3 l).Kept B := by
  unfold acceptFrame
  repeat' with_reducible first
    | assumption | apply setRun_kept | simp only [↓Lane.kept_mk, ↓Lane.kept_fold] | split | intro _
theorem setMesh_kept a0 a1 l (h : l.Kept B) : (setMesh a0 a1 l).Kept B := by
  unfold setMesh
  repeat' with_reducible first
    | assumption | simp only [↓Lane.kept_mk, ↓Lane.kept_fold] | split | intro _
theorem ackDue_kept a0 a1 a2 l (h : l.Kept B) : (ackDue a0 a1 a2 l).Kept B := by
  unfold ackDue
  repeat' with_reducible first
    | assumption | apply setMesh_kept | simp only [↓Lane.kept_mk, ↓Lane.kept_fold] | split | intro _
theorem inheritDevice_kept l (h : l.Kept B) : (inheritDevice l).Kept B := by
  unfold inheritDevice
  repeat' with_reducible first
    | assumption | apply setLease_kept | simp only [↓Lane.kept_mk, ↓Lane.kept_fold] | split | intro _
theorem sendRenew_kept a0 a1 l (h : l.Kept B) : (sendRenew a0 a1 l).Kept B := by
  unfold sendRenew
  repeat' with_reducible first
    | assumption | apply sendLease_kept | apply setLease_kept | simp only [↓Lane.kept_mk, ↓Lane.kept_fold] | split | intro _
theorem acquire_kept a0 l (h : l.Kept B) : (acquire a0 l).Kept B := by
  unfold acquire
  repeat' with_reducible first
    | assumption | apply leaseChange_kept | apply inheritDevice_kept | apply setLease_kept | apply announce_kept | apply
      sendRenew_kept | apply raiseEvent_kept | simp only [↓Lane.kept_mk, ↓Lane.kept_fold] | split | intro _
theorem setTrigger_kept a0 a1 l (h : l.Kept B) : (setTrigger a0 a1 l).Kept B := by
  unfold setTrigger
  repeat' with_reducible first
    | assumption | simp only [↓Lane.kept_mk, ↓Lane.kept_fold] | split | intro _
theorem countTrigger_kept a0 a1 l (h : l.Kept B) : (countTrigger a0 a1 l).Kept B := by
  unfold countTrigger
  repeat' with_reducible first
    | assumption | apply setTrigger_kept | simp only [↓Lane.kept_mk, ↓Lane.kept_fold] | split | intro _
theorem setSeg_kept a0 a1 l (h : l.Kept B) : (setSeg a0 a1 l).Kept B := by
  unfold setSeg
  repeat' with_reducible first
    | assumption | simp only [↓Lane.kept_mk, ↓Lane.kept_fold] | split | intro _
theorem chainSegs_kept a0 a1 a2 l (h : l.Kept B) : (chainSegs a0 a1 a2 l).Kept B := by
  unfold chainSegs
  repeat' with_reducible first
    | assumption | apply setSeg_kept | apply Lane.kept_foldl | simp only [↓Lane.kept_mk, ↓Lane.kept_fold] | split | intro _
theorem withRecords_kept a0 l (h : l.Kept B) : (withRecords a0 l).Kept B := by
  unfold withRecords
  repeat' with_reducible first
    | assumption | simp only [↓Lane.kept_mk, ↓Lane.kept_fold] | split | intro _
theorem setRecord_kept a0 l (h : l.Kept B) : (setRecord a0 l).Kept B := by
  unfold setRecord
  repeat' with_reducible first
    | assumption | apply withRecords_kept | simp only [↓Lane.kept_mk, ↓Lane.kept_fold] | split | intro _
theorem setProfile_kept a0 a1 l (h : l.Kept B) : (setProfile a0 a1 l).Kept B := by
  unfold setProfile
  repeat' with_reducible first
    | assumption | simp only [↓Lane.kept_mk, ↓Lane.kept_fold] | split | intro _
theorem answerCommands_kept a0 l (h : l.Kept B) : (answerCommands a0 l).Kept B := by
  unfold answerCommands
  repeat' with_reducible first
    | assumption | apply postReply_kept | apply Lane.kept_foldl | simp only [↓Lane.kept_mk, ↓Lane.kept_fold] | split | intro _
theorem freeSegs_kept a0 l (h : l.Kept B) : (freeSegs a0 l).Kept B := by
  unfold freeSegs
  repeat' with_reducible first
    | assumption | simp only [↓Lane.kept_mk, ↓Lane.kept_fold] | split | intro _
theorem freeRing_kept a0 l (h : l.Kept B) : (freeRing a0 l).Kept B := by
  unfold freeRing
  repeat' with_reducible first
    | assumption | apply setProfile_kept | apply freeSegs_kept | simp only [↓Lane.kept_mk, ↓Lane.kept_fold] | split | intro _
theorem afterRecord_kept a0 l (h : l.Kept B) : (afterRecord a0 l).Kept B := by
  unfold afterRecord
  repeat' with_reducible first
    | assumption | apply freeRing_kept | apply setProfile_kept | simp only [↓Lane.kept_mk, ↓Lane.kept_fold] | split | intro _
theorem sealSegs_kept a0 a1 l (h : l.Kept B) : (sealSegs a0 a1 l).Kept B := by
  unfold sealSegs
  repeat' with_reducible first
    | assumption | apply setSeg_kept | apply Lane.kept_foldl | simp only [↓Lane.kept_mk, ↓Lane.kept_fold] | split | intro _
theorem finishRecord_kept a0 a1 l (h : l.Kept B) : (finishRecord a0 a1 l).Kept B := by
  unfold finishRecord
  repeat' with_reducible first
    | assumption | apply answerCommands_kept | apply afterRecord_kept | apply setRecord_kept | apply sealSegs_kept | apply
      Lane.kept_foldl | simp only [↓Lane.kept_mk, ↓Lane.kept_fold] | split | intro _
theorem endIfDone_kept a0 a1 l (h : l.Kept B) : (endIfDone a0 a1 l).Kept B := by
  unfold endIfDone
  repeat' with_reducible first
    | assumption | apply finishRecord_kept | simp only [↓Lane.kept_mk, ↓Lane.kept_fold] | split | intro _
theorem openRecord_kept a0 a1 a2 a3 l (h : l.Kept B) : (openRecord a0 a1 a2 a3 l).Kept B := by
  unfold openRecord
  repeat' with_reducible first
    | assumption | apply chainSegs_kept | apply setRecord_kept | apply setProfile_kept | apply endIfDone_kept | simp only
      [↓Lane.kept_mk, ↓Lane.kept_fold] | split | intro _
theorem waitFor_kept a0 a1 a2 l (h : l.Kept B) : (waitFor a0 a1 a2 l).Kept B := by
  unfold waitFor
  repeat' with_reducible first
    | assumption | simp only [↓Lane.kept_mk, ↓Lane.kept_fold] | split | intro _
theorem actFire_kept a0 a1 a2 a3 l (h : l.Kept B) : (actFire a0 a1 a2 a3 l).Kept B := by
  unfold actFire
  repeat' with_reducible first
    | assumption | apply countTrigger_kept | apply openRecord_kept | apply waitFor_kept | apply setRecord_kept | apply
      setProfile_kept | simp only [↓Lane.kept_mk, ↓Lane.kept_fold] | split | intro _
theorem actHeld_kept a0 a1 l (h : l.Kept B) : (actHeld a0 a1 l).Kept B := by
  unfold actHeld
  repeat' with_reducible first
    | assumption | apply actFire_kept | apply Lane.kept_foldl | simp only [↓Lane.kept_mk, ↓Lane.kept_fold] | split | intro _
theorem countTile_kept a0 a1 l (h : l.Kept B) : (countTile a0 a1 l).Kept B := by
  unfold countTile
  repeat' with_reducible first
    | assumption | simp only [↓Lane.kept_mk, ↓Lane.kept_fold] | split | intro _
theorem transientRound_kept a0 l (h : l.Kept B) : (transientRound a0 l).Kept B := by
  unfold transientRound
  repeat' with_reducible first
    | assumption | apply transientFault_kept | apply countTile_kept | apply setPart_kept | simp only [↓Lane.kept_mk,
      ↓Lane.kept_fold] | split | intro _
theorem setTile_kept a0 a1 l (hw : a1.wf = true) (h : l.Kept B) : (setTile a0 a1 l).Kept B :=
  ⟨h.1, tilesOk_putD _ hw h.2.1, h.2.2⟩
theorem modTile_kept a0 a1 l (hf : ∀ t : Tile, t.wf = true → (a1 t).wf = true) (h : l.Kept B) : (modTile a0 a1 l).Kept B :=
  setTile_kept _ _ _ (hf _ (tileOf_wf h.2.1)) h
theorem writeRegion_kept a0 a1 a2 l (h : l.Kept B) : (writeRegion a0 a1 a2 l).Kept B := by
  unfold writeRegion
  repeat' with_reducible first
    | assumption | apply modTile_kept | apply writeBytes_wf | apply castEntry_wf | simp only [↓Lane.kept_mk,
      ↓Lane.kept_fold] | split | intro _
theorem writeRegions_kept a0 a1 a2 l (h : l.Kept B) : (writeRegions a0 a1 a2 l).Kept B := by
  unfold writeRegions
  repeat' with_reducible first
    | assumption | apply writeRegion_kept | apply Lane.kept_foldl | simp only [↓Lane.kept_mk, ↓Lane.kept_fold] | split |
      intro _
theorem activatePattern_kept a0 l (h : l.Kept B) : (activatePattern a0 l).Kept B := by
  unfold activatePattern
  repeat' with_reducible first
    | assumption | apply setPart_kept | apply transientRound_kept | apply writeRegions_kept | simp only [↓Lane.kept_mk,
      ↓Lane.kept_fold] | split | intro _
theorem addRow_kept a0 a1 a2 l (h : l.Kept B) : (addRow a0 a1 a2 l).Kept B := by
  unfold addRow
  repeat' with_reducible first
    | assumption | apply setSeg_kept | simp only [↓Lane.kept_mk, ↓Lane.kept_fold] | split | intro _
theorem peSupersede_kept a0 l (h : l.Kept B) : (peSupersede a0 l).Kept B := by
  unfold peSupersede
  repeat' with_reducible first
    | assumption | apply refuse_kept | simp only [↓Lane.kept_mk, ↓Lane.kept_fold] | split | intro _
theorem admitTask_kept a0 l (hn : l.needle.entries.length < 4096) (ht : tagHeld l a0.src a0.tag = false) (h : l.Kept B) :
    (admitTask a0 l).Kept B := by
  have key := entriesOk_admit (r := a0) hn ht h.2.2.1
  unfold admitTask
  split
  · exact ⟨h.1, h.2.1, key _ rfl, h.2.2.2⟩
  · apply peSupersede_kept
    exact ⟨h.1, h.2.1, key _ rfl, h.2.2.2⟩
theorem requestCfg_kept a0 l (h : l.Kept B) : (requestCfg a0 l).Kept B := by
  unfold requestCfg
  repeat' with_reducible first
    | assumption | apply pmuCommand_kept | simp only [↓Lane.kept_mk, ↓Lane.kept_fold] | split | intro _
theorem startProcedure_kept a0 l (h : l.Kept B) : (startProcedure a0 l).Kept B := by
  unfold startProcedure
  repeat' with_reducible first
    | assumption | apply setRun_kept | apply requestCfg_kept | simp only [↓Lane.kept_mk, ↓Lane.kept_fold] | split | intro _
theorem adoptApply_kept a0 l (h : l.Kept B) : (adoptApply a0 l).1.Kept B := by
  unfold adoptApply
  repeat' with_reducible first
    | assumption | apply enterState_kept | apply setRun_kept | apply startProcedure_kept | simp only [↓Lane.kept_mk,
      ↓Lane.kept_fold] | split | intro _
theorem noteRecent_kept a0 l (h : l.Kept B) : (noteRecent a0 l).Kept B := by
  unfold noteRecent
  repeat' with_reducible first
    | assumption | apply Lane.kept_foldl | simp only [↓Lane.kept_mk, ↓Lane.kept_fold] | split | intro _
theorem setPlane_kept a0 a1 l (h : l.Kept B) : (setPlane a0 a1 l).Kept B := by
  unfold setPlane
  repeat' with_reducible first
    | assumption | simp only [↓Lane.kept_mk, ↓Lane.kept_fold] | split | intro _
theorem openUpTo_kept a0 a1 a2 a3 l (h : l.Kept B) : (openUpTo a0 a1 a2 a3 l).Kept B := by
  induction a3 generalizing l with
  | zero => exact h
  | succ n ih =>
    unfold openUpTo
    simp only []
    split
    · exact ih _ (setPlane_kept _ _ _ h)
    · exact h
theorem openCourses_kept a0 a1 l (h : l.Kept B) : (openCourses a0 a1 l).Kept B := by
  unfold openCourses
  repeat' with_reducible first
    | assumption | apply openUpTo_kept | simp only [↓Lane.kept_mk, ↓Lane.kept_fold] | split | intro _
theorem gaugeSample_kept a0 a1 a2 l (h : l.Kept B) : (gaugeSample a0 a1 a2 l).Kept B := by
  unfold gaugeSample
  repeat' with_reducible first
    | assumption | apply Lane.kept_foldl | simp only [↓Lane.kept_mk, ↓Lane.kept_fold] | split | intro _
theorem writeValue_kept a0 a1 a2 a3 a4 l (h : l.Kept B) : (writeValue a0 a1 a2 a3 a4 l).1.Kept B := by
  unfold writeValue
  repeat' with_reducible first
    | assumption | apply setPlane_kept | apply openCourses_kept | apply gaugeSample_kept | simp only [↓Lane.kept_mk,
      ↓Lane.kept_fold] | split | intro _
theorem writeValues_kept a0 a1 l (h : l.Kept B) : (writeValues a0 a1 l).1.Kept B := by
  unfold writeValues
  exact kept_foldl_fst _ _ h (fun x a hx => writeValue_kept _ _ _ _ _ _ hx)
theorem skipCourse_kept a0 a1 a2 l (h : l.Kept B) : (skipCourse a0 a1 a2 l).Kept B := by
  unfold skipCourse
  repeat' with_reducible first
    | assumption | apply setPart_kept | apply raiseEvent_kept | apply absentCourse_kept | simp only [↓Lane.kept_mk,
      ↓Lane.kept_fold] | split | intro _
theorem castOffer_kept a0 a1 l (h : l.Kept B) : (castOffer a0 a1 l).Kept B := by
  unfold castOffer
  repeat' with_reducible first
    | assumption | apply skipCourse_kept | apply setPart_kept | simp only [↓Lane.kept_mk, ↓Lane.kept_fold] | split | intro _
theorem closeCourse_kept a0 a1 a2 a3 l (h : l.Kept B) : (closeCourse a0 a1 a2 a3 l).Kept B := by
  unfold closeCourse
  repeat' with_reducible first
    | assumption | apply gaugeSample_kept | apply setPlane_kept | apply castOffer_kept | simp only [↓Lane.kept_mk,
      ↓Lane.kept_fold] | split | intro _
theorem closePass_kept a0 a1 a2 l (h : l.Kept B) : (closePass a0 a1 a2 l).Kept B := by
  induction a1 generalizing a2 l with
  | nil => exact h
  | cons c t ih =>
    unfold closePass
    split
    · exact ih _ _ h
    · simp only []
      split
      · exact ih _ _ (setPlane_kept _ _ _ h)
      · exact ih _ _ (closeCourse_kept _ _ _ _ _ h)
theorem closeCourses_kept a0 l (h : l.Kept B) : (closeCourses a0 l).Kept B := by
  unfold closeCourses
  repeat' with_reducible first
    | assumption | apply closePass_kept | simp only [↓Lane.kept_mk, ↓Lane.kept_fold] | split | intro _
theorem enqueueOrDrop_kept a0 a1 a2 l (h : l.Kept B) : (enqueueOrDrop a0 a1 a2 l).Kept B := by
  unfold enqueueOrDrop
  repeat' with_reducible first
    | assumption | apply setQueue_kept | simp only [↓Lane.kept_mk, ↓Lane.kept_fold] | split | intro _
theorem sendLate_kept a0 a1 a2 l (h : l.Kept B) : (sendLate a0 a1 a2 l).Kept B := by
  unfold sendLate
  repeat' with_reducible first
    | assumption | apply enqueueOrDrop_kept | simp only [↓Lane.kept_mk, ↓Lane.kept_fold] | split | intro _
theorem alignArrival_kept a0 l (h : l.Kept B) : (alignArrival a0 l).Kept B := by
  unfold alignArrival
  split
  · have key : ∀ (xs : List Nat) (acc : Lane × List Nat × Bool), acc.1.Kept B →
        (xs.foldl (fun (acc : Lane × List Nat × Bool) p =>
          (if (writeValues a0 p acc.1).2.contains .written then closeCourses p (writeValues a0 p acc.1).1
            else (writeValues a0 p acc.1).1,
           if (writeValues a0 p acc.1).2.contains .late then acc.2.1 ++ [p] else acc.2.1,
           acc.2.2 || (writeValues a0 p acc.1).2.any placedOnTime || planeMaps (noteRecent a0 l) p a0 true)) acc).1.Kept B
             := by
      intro xs acc hacc
      refine kept_foldl_fst _ _ hacc (fun x a hx => ?_)
      have hw := writeValues_kept a0 a x.1 hx
      show (if _ then _ else _ : Lane).Kept B
      split
      · exact closeCourses_kept _ _ hw
      · exact hw
    have hr := key [0, 1, 2, 3] (noteRecent a0 l, [], false) (noteRecent_kept _ _ h)
    simp only []
    split
    · exact sendLate_kept _ _ _ _ hr
    · exact hr
  · exact h
theorem announceStart_kept a0 l (h : l.Kept B) : (announceStart a0 l).Kept B := by
  unfold announceStart
  repeat' with_reducible first
    | assumption | simp only [↓Lane.kept_mk, ↓Lane.kept_fold] | split | intro _
theorem refuseDormant_kept a0 a1 a2 l (h : l.Kept B) : (refuseDormant a0 a1 a2 l).Kept B := by
  unfold refuseDormant
  repeat' with_reducible first
    | assumption | apply completeRing_kept | simp only [↓Lane.kept_mk, ↓Lane.kept_fold] | split | intro _
theorem setRing_kept a0 a1 l (h : l.Kept B) : (setRing a0 a1 l).Kept B := by
  unfold setRing
  repeat' with_reducible first
    | assumption | simp only [↓Lane.kept_mk, ↓Lane.kept_fold] | split | intro _
theorem refuseAllDormant_kept a0 a1 l (h : l.Kept B) : (refuseAllDormant a0 a1 l).Kept B := by
  induction a1 generalizing l with
  | nil => exact h
  | cons x t ih =>
    cases x with
    | none => exact h
    | some s =>
      unfold refuseAllDormant
      simp only []
      split
      · exact ih _ (refuseDormant_kept _ _ _ _ (setRing_kept _ _ _ h))
      · exact h
theorem answerDormant_kept a0 l (h : l.Kept B) : (answerDormant a0 l).Kept B := by
  unfold answerDormant
  repeat' with_reducible first
    | assumption | apply emit_kept | apply refuseAllDormant_kept | simp only [↓Lane.kept_mk, ↓Lane.kept_fold] | split |
      intro _
theorem modTiles_kept a0 a1 l (hf : ∀ (n : Nat) (t : Tile), t.wf = true → (a1 n t).wf = true) (h : l.Kept B) :
    (modTiles a0 a1 l).Kept B := by
  unfold modTiles
  apply Lane.kept_foldl _ _ h
  intro x a hx
  exact modTile_kept _ _ _ (hf a) hx
theorem writeSlot_kept a0 a1 a2 a3 a4 l (h : l.Kept B) : (writeSlot a0 a1 a2 a3 a4 l).Kept B := by
  unfold writeSlot
  repeat' with_reducible first
    | assumption | apply modTiles_kept | apply writeBytes_wf | apply castEntry_wf | simp only [↓Lane.kept_mk,
      ↓Lane.kept_fold] | split | intro _
theorem stagePortion_kept a0 a1 a2 l (h : l.Kept B) : (stagePortion a0 a1 a2 l).1.Kept B := by
  unfold stagePortion
  repeat' with_reducible first
    | assumption | apply writeSlot_kept | apply setPart_kept | simp only [↓Lane.kept_mk, ↓Lane.kept_fold] | split | intro _
theorem applyAuto_kept a0 a1 l (h : l.Kept B) : (applyAuto a0 a1 l).Kept B := by
  unfold applyAuto
  repeat' with_reducible first
    | assumption | apply setPart_kept | apply stagePortion_kept | simp only [↓Lane.kept_mk, ↓Lane.kept_fold] | split | intro _
theorem applyParams_kept a0 a1 a2 l (h : l.Kept B) : (applyParams a0 a1 a2 l).Kept B := by
  unfold applyParams
  repeat' with_reducible first
    | assumption | apply setPart_kept | apply modTile_kept | apply Lane.kept_foldl | apply writeBytes_wf | apply
      castEntry_wf | simp only [↓Lane.kept_mk, ↓Lane.kept_fold] | split | intro _
theorem applyPart_kept a0 a1 l (h : l.Kept B) : (applyPart a0 a1 l).Kept B := by
  unfold applyPart
  repeat' with_reducible first
    | assumption | apply writeRegions_kept | apply setPart_kept | simp only [↓Lane.kept_mk, ↓Lane.kept_fold] | split | intro _
theorem applyParts_kept l (h : l.Kept B) : (applyParts l).Kept B := by
  unfold applyParts
  repeat' with_reducible first
    | assumption | apply applyPart_kept | apply Lane.kept_foldl | simp only [↓Lane.kept_mk, ↓Lane.kept_fold] | split | intro _
theorem applyPe_kept l (h : l.Kept B) : (applyPe l).Kept B := by
  unfold applyPe
  repeat' with_reducible first
    | assumption | simp only [↓Lane.kept_mk, ↓Lane.kept_fold] | split | intro _
theorem setSerial_kept a0 a1 l (h : l.Kept B) : (setSerial a0 a1 l).Kept B := by
  unfold setSerial
  repeat' with_reducible first
    | assumption | simp only [↓Lane.kept_mk, ↓Lane.kept_fold] | split | intro _
theorem setStation_kept a0 a1 a2 l (h : l.Kept B) : (setStation a0 a1 a2 l).Kept B := by
  unfold setStation
  repeat' with_reducible first
    | assumption | apply setSerial_kept | simp only [↓Lane.kept_mk, ↓Lane.kept_fold] | split | intro _
theorem applyPoll_kept l (h : l.Kept B) : (applyPoll l).Kept B := by
  unfold applyPoll
  repeat' with_reducible first
    | assumption | apply setStation_kept | apply Lane.kept_foldl | simp only [↓Lane.kept_mk, ↓Lane.kept_fold] | split |
      intro _
theorem dropRecord_kept a0 l (h : l.Kept B) : (dropRecord a0 l).Kept B := by
  unfold dropRecord
  repeat' with_reducible first
    | assumption | apply freeSegs_kept | apply withRecords_kept | simp only [↓Lane.kept_mk, ↓Lane.kept_fold] | split | intro _
theorem takeSegment_kept {b : Bool} {l l1 : Lane} {u : Nat} (h : l.Kept B) (e : takeSegment b l = some (u, l1)) : l1.Kept B :=
    by
  unfold takeSegment at e
  split at e
  · cases e
    exact h
  · split at e
    · split at e
      · obtain ⟨s, _, hs⟩ := Option.map_eq_some_iff.1 e
        cases hs
        exact dropRecord_kept _ _ h
      · exact nomatch e
    · exact nomatch e
theorem takeRing_kept {p : Nat} {c : ProfileCfg} {k : Nat} {l x : Lane} (h : l.Kept B) (e : takeRing p c k l = some x) :
    x.Kept B := by
  induction k generalizing l with
  | zero => exact Option.some.inj e ▸ h
  | succ k ih =>
    unfold takeRing at e
    split at e
    · exact nomatch e
    · rename_i s l1 hs
      exact ih (setProfile_kept _ _ _ (setSeg_kept _ _ _ (takeSegment_kept h hs))) e
theorem armProfile_kept a0 a1 l (h : l.Kept B) : (armProfile a0 a1 l).Kept B := by
  have h2 := setProfile_kept a0 { ProfileRun.zero with state := .armed, nextRow := rowFrom a1 (nowUnits l : Nat) } _
    (freeRing_kept a0 { l with cfg := { l.cfg with profiles := tput l.cfg.profiles a0 { a1 with armed := true } } } h)
  unfold armProfile
  apply actHeld_kept
  simp only []
  cases e : takeRing a0 a1 (ringSegments l a1)
      (setProfile a0 { ProfileRun.zero with state := .armed, nextRow := rowFrom a1 (nowUnits l : Nat) }
        (freeRing a0 { l with cfg := { l.cfg with profiles := tput l.cfg.profiles a0 { a1 with armed := true } } })) with
  | none => exact h2
  | some x => exact takeRing_kept h2 e
theorem rearmStored_kept l (h : l.Kept B) : (rearmStored l).Kept B := by
  unfold rearmStored
  repeat' with_reducible first
    | assumption | apply armProfile_kept | apply Lane.kept_foldl | simp only [↓Lane.kept_mk, ↓Lane.kept_fold] | split |
      intro _
theorem applyRecorder_kept l (h : l.Kept B) : (applyRecorder l).Kept B := by
  unfold applyRecorder
  repeat' with_reducible first
    | assumption | apply freeRing_kept | apply rearmStored_kept | apply Lane.kept_foldl | simp only [↓Lane.kept_mk,
      ↓Lane.kept_fold] | split | intro _
theorem applyTamper_kept l (h : l.Kept B) : (applyTamper l).Kept B := by
  unfold applyTamper
  repeat' with_reducible first
    | assumption | simp only [↓Lane.kept_mk, ↓Lane.kept_fold] | split | intro _
theorem applyStreams_kept l (h : l.Kept B) : (applyStreams l).Kept B := by
  unfold applyStreams
  repeat' with_reducible first
    | assumption | simp only [↓Lane.kept_mk, ↓Lane.kept_fold] | split | intro _
theorem refreshUtc_kept a0 l (h : l.Kept B) : (refreshUtc a0 l).Kept B := by
  unfold refreshUtc
  repeat' with_reducible first
    | assumption | apply raiseEvent_kept | simp only [↓Lane.kept_mk, ↓Lane.kept_fold] | split | intro _
theorem startStreams_kept l (h : l.Kept B) : (startStreams l).Kept B := by
  unfold startStreams
  repeat' with_reducible first
    | assumption | apply startProcedure_kept | apply Lane.kept_foldl | simp only [↓Lane.kept_mk, ↓Lane.kept_fold] | split |
      intro _
theorem startPlanes_kept l (h : l.Kept B) : (startPlanes l).Kept B := by
  unfold startPlanes
  repeat' with_reducible first
    | assumption | apply setPlane_kept | apply Lane.kept_foldl | simp only [↓Lane.kept_mk, ↓Lane.kept_fold] | split | intro _
theorem applyRunning_kept a0 l (h : l.Kept B) : (applyRunning a0 l).Kept B := by
  unfold applyRunning
  simp only []
  repeat' with_reducible first
    | apply applyRecorder_kept | apply startStreams_kept | apply startPlanes_kept | apply applyTamper_kept
    | apply applyPoll_kept | apply applyParts_kept | apply applyPe_kept | apply applyStreams_kept | apply refreshUtc_kept
  exact ⟨h.1, tilesOk_nil, h.2.2⟩
theorem readJournal_kept l (h : l.Kept B) : (readJournal l).Kept B := by
  unfold readJournal
  repeat' with_reducible first
    | assumption | apply logFaultAt_kept | simp only [↓Lane.kept_mk, ↓Lane.kept_fold] | split | intro _
theorem applySwatch_kept l (h : l.Kept B) : (applySwatch l).Kept B := by
  unfold applySwatch
  repeat' with_reducible first
    | assumption | apply withRecords_kept | apply Lane.kept_foldl | simp only [↓Lane.kept_mk, ↓Lane.kept_fold] | split |
      intro _
theorem applyStore_kept l (h : l.Kept B) : (applyStore l).Kept B := by
  unfold applyStore
  repeat' with_reducible first
    | assumption | apply readJournal_kept | apply applySwatch_kept | apply applyTamper_kept | apply applyPoll_kept | apply
      applyParts_kept | apply applyPe_kept | apply applyStreams_kept | apply refreshUtc_kept | simp only [↓Lane.kept_mk,
        ↓Lane.kept_fold] | split | intro _
theorem endSuspension_kept a0 l (h : l.Kept B) : (endSuspension a0 l).Kept B := by
  unfold endSuspension
  repeat' with_reducible first
    | assumption | apply setCompare_kept | apply dropCond_kept | simp only [↓Lane.kept_mk, ↓Lane.kept_fold] | split | intro _
theorem swapPlane_kept a0 l (h : l.Kept B) : (swapPlane a0 l).Kept B := by
  unfold swapPlane
  repeat' with_reducible first
    | assumption | apply endSuspension_kept | simp only [↓Lane.kept_mk, ↓Lane.kept_fold] | split | intro _
theorem applySwap_kept a0 l (h : l.Kept B) : (applySwap a0 l).Kept B := by
  unfold applySwap
  repeat' with_reducible first
    | assumption | apply activatePattern_kept | apply swapPlane_kept | simp only [↓Lane.kept_mk, ↓Lane.kept_fold] | split |
      intro _
theorem armAlarm_kept l (h : l.Kept B) : (armAlarm l).Kept B := by
  unfold armAlarm
  repeat' with_reducible first
    | assumption | apply condAlarm_kept | simp only [↓Lane.kept_mk, ↓Lane.kept_fold] | split | intro _
theorem armApply_kept a0 l (h : l.Kept B) : (armApply a0 l).1.Kept B := by
  unfold armApply
  repeat' with_reducible first
    | assumption | apply armProfile_kept | simp only [↓Lane.kept_mk, ↓Lane.kept_fold] | split | intro _
theorem arrayQueryApply_kept a0 l (h : l.Kept B) : (arrayQueryApply a0 l).1.Kept B := by
  unfold arrayQueryApply
  repeat' with_reducible first
    | assumption | simp only [↓Lane.kept_mk, ↓Lane.kept_fold] | split | intro _
theorem serve_kept a0 a1 a2 a3 a4 l (hf : ∀ x : Lane, x.Kept B → (a3 a4 x).1.Kept B) (h : l.Kept B) :
    (serve a0 a1 a2 a3 a4 l).Kept B := by
  unfold serve
  split
  · split
    · exact postReply_kept _ _ _ _ _ (hf l h)
    · exact refuse_kept _ _ _ h
  · exact h
theorem helloApply_kept a0 a1 l (h : l.Kept B) : (helloApply a0 a1 l).1.Kept B := by
  unfold helloApply
  repeat' with_reducible first
    | assumption | simp only [↓Lane.kept_mk, ↓Lane.kept_fold] | split | intro _
theorem laneHello_kept a0 a1 l (h : l.Kept B) : (laneHello a0 a1 l).Kept B := by
  unfold laneHello
  repeat' with_reducible first
    | assumption | apply serve_kept | apply helloApply_kept | simp only [↓Lane.kept_mk, ↓Lane.kept_fold] | split | intro _
theorem serveHeld_kept a0 a1 a2 a3 a4 l (hf : ∀ x : Lane, x.Kept B → (a3 a4 x).Kept B) (h : l.Kept B) :
    (serveHeld a0 a1 a2 a3 a4 l).Kept B := by
  unfold serveHeld
  split
  · split
    · exact hf l h
    · exact refuse_kept _ _ _ h
  · exact h
theorem laneAbort_kept a0 l (h : l.Kept B) : (laneAbort a0 l).Kept B := by
  unfold laneAbort
  repeat' with_reducible first
    | assumption | apply serveHeld_kept | apply abortStart_kept | simp only [↓Lane.kept_mk, ↓Lane.kept_fold] | split | intro _
theorem cancelTarget_kept a0 l (h : l.Kept B) : (cancelTarget a0 l).Kept B := by
  unfold cancelTarget
  repeat' with_reducible first
    | assumption | apply postReply_kept | apply refuse_kept | simp only [↓Lane.kept_mk, ↓Lane.kept_fold] | split | intro _
theorem laneCancel_kept a0 l (h : l.Kept B) : (laneCancel a0 l).Kept B := by
  unfold laneCancel
  repeat' with_reducible first
    | assumption | apply serveHeld_kept | apply cancelTarget_kept | simp only [↓Lane.kept_mk, ↓Lane.kept_fold] | split |
      intro _
theorem serveBypass_kept a0 a1 l (h : l.Kept B) : (serveBypass a0 a1 l).Kept B := by
  unfold serveBypass
  repeat' with_reducible first
    | assumption | apply laneHello_kept | apply laneAbort_kept | apply laneCancel_kept | simp only [↓Lane.kept_mk,
      ↓Lane.kept_fold] | split | intro _
theorem refuseArrival_kept a0 a1 l (h : l.Kept B) : (refuseArrival a0 a1 l).Kept B := by
  unfold refuseArrival
  repeat' with_reducible first
    | assumption | apply deliver_kept | apply emit_kept | simp only [↓Lane.kept_mk, ↓Lane.kept_fold] | split | intro _
theorem countBusy_kept a0 l (h : l.Kept B) : (countBusy a0 l).Kept B := by
  unfold countBusy
  repeat' with_reducible first
    | assumption | simp only [↓Lane.kept_mk, ↓Lane.kept_fold] | split | intro _
theorem arrive_kept a0 a1 l (h : l.Kept B) : (arrive a0 a1 l).Kept B := by
  unfold arrive
  simp only []
  split
  · rename_i hs
    split
    · exact serveBypass_kept _ _ _ h
    · rename_i hb
      obtain ⟨hn, ht⟩ := admissionStatus_ok hs hb
      exact admitTask_kept _ _ hn ht h
  · exact refuseArrival_kept _ _ _ (countBusy_kept _ _ h)
theorem setWitness_kept a0 a1 l (h : l.Kept B) : (setWitness a0 a1 l).Kept B := by
  unfold setWitness
  repeat' with_reducible first
    | assumption | simp only [↓Lane.kept_mk, ↓Lane.kept_fold] | split | intro _
theorem dropPing_kept a0 l (h : l.Kept B) : (dropPing a0 l).Kept B := by
  unfold dropPing
  repeat' with_reducible first
    | assumption | apply setWitness_kept | simp only [↓Lane.kept_mk, ↓Lane.kept_fold] | split | intro _
theorem askWitness_kept a0 a1 l (h : l.Kept B) : (askWitness a0 a1 l).Kept B := by
  unfold askWitness
  repeat' with_reducible first
    | assumption | apply setWitness_kept | apply dropPing_kept | apply setCause_kept | apply azSend_kept | simp only
      [↓Lane.kept_mk, ↓Lane.kept_fold] | split | intro _
theorem originate_kept a0 a1 a2 a3 a4 a5 a6 l (h : l.Kept B) : (originate a0 a1 a2 a3 a4 a5 a6 l).1.Kept B := by
  unfold originate
  repeat' with_reducible first
    | assumption | simp only [↓Lane.kept_mk, ↓Lane.kept_fold] | split | intro _
theorem radioQueue_kept a0 a1 l (h : l.Kept B) : (radioQueue a0 a1 l).Kept B := by
  unfold radioQueue
  repeat' with_reducible first
    | assumption | apply enqueueOrWait_kept | simp only [↓Lane.kept_mk, ↓Lane.kept_fold] | split | intro _
theorem sendGrants_kept a0 a1 l (h : l.Kept B) : (sendGrants a0 a1 l).Kept B := by
  unfold sendGrants
  repeat' with_reducible first
    | assumption | apply originate_kept | apply radioQueue_kept | simp only [↓Lane.kept_mk, ↓Lane.kept_fold] | split | intro _
theorem assignApply_kept a0 l (h : l.Kept B) : (assignApply a0 l).1.Kept B := by
  unfold assignApply
  repeat' with_reducible first
    | assumption | apply sendGrants_kept | apply setMesh_kept | simp only [↓Lane.kept_mk, ↓Lane.kept_fold] | split | intro _

end Sys2Proof.Machine
end

