-- ==== Sys2Proof/Laws/Kept2.lean ====
section
/-!
SUPPORT. The lane functions of the model keep a lane's invariants (`Lane.Kept`), part 2 of 5: each lemma says that one
    function keeps
the lane's identity, its count and its strap, canonical tiles, sound task entries and a bounded fault log. Functions stand in
    the
order in which they call one another.
-/
set_option linter.unusedSimpArgs false

namespace Sys2Proof.Machine
variable {B : LaneId × Nat × Bool}

theorem attestApply_kept a0 l (h : l.Kept B) : (attestApply a0 l).1.Kept B := by
  unfold attestApply
  repeat' with_reducible first
    | assumption | simp only [↓Lane.kept_mk, ↓Lane.kept_fold] | split | intro _
theorem authSetApply_kept a0 l (h : l.Kept B) : (authSetApply a0 l).1.Kept B := by
  unfold authSetApply
  repeat' with_reducible first
    | assumption | apply enterState_kept | simp only [↓Lane.kept_mk, ↓Lane.kept_fold] | split | intro _
theorem setAz_kept a0 a1 l (h : l.Kept B) : (setAz a0 a1 l).Kept B := by
  unfold setAz
  repeat' with_reducible first
    | assumption | simp only [↓Lane.kept_mk, ↓Lane.kept_fold] | split | intro _
theorem noteFrame_kept a0 l (h : l.Kept B) : (noteFrame a0 l).Kept B := by
  unfold noteFrame
  repeat' with_reducible first
    | assumption | simp only [↓Lane.kept_mk, ↓Lane.kept_fold] | split | intro _
theorem dropMessage_kept l (h : l.Kept B) : (dropMessage l).Kept B := by
  unfold dropMessage
  repeat' with_reducible first
    | assumption | simp only [↓Lane.kept_mk, ↓Lane.kept_fold] | split | intro _
theorem freeLease_kept a0 l (h : l.Kept B) : (freeLease a0 l).Kept B := by
  unfold freeLease
  repeat' with_reducible first
    | assumption | apply acquire_kept | simp only [↓Lane.kept_mk, ↓Lane.kept_fold] | split | intro _
theorem finishPull_kept l (h : l.Kept B) : (finishPull l).Kept B := by
  unfold finishPull
  repeat' with_reducible first
    | assumption | apply setReason_kept | apply plySettle_kept | apply freeLease_kept | simp only [↓Lane.kept_mk,
      ↓Lane.kept_fold] | split | intro _
theorem requestItem_kept a0 a1 l (h : l.Kept B) : (requestItem a0 a1 l).Kept B := by
  unfold requestItem
  repeat' with_reducible first
    | assumption | apply plySend_kept | apply azSend_kept | simp only [↓Lane.kept_mk, ↓Lane.kept_fold] | split | intro _
theorem followPull_kept l (h : l.Kept B) : (followPull l).Kept B := by
  unfold followPull
  repeat' with_reducible first
    | assumption | apply finishPull_kept | apply requestItem_kept | simp only [↓Lane.kept_mk, ↓Lane.kept_fold] | split |
      intro _
theorem noteContact_kept a0 l (h : l.Kept B) : (noteContact a0 l).Kept B := by
  unfold noteContact
  repeat' with_reducible first
    | assumption | simp only [↓Lane.kept_mk, ↓Lane.kept_fold] | split | intro _
theorem yieldLease_kept a0 l (h : l.Kept B) : (yieldLease a0 l).Kept B := by
  unfold yieldLease
  repeat' with_reducible first
    | assumption | apply loseLease_kept | apply dropHandover_kept | apply announce_kept | simp only [↓Lane.kept_mk,
      ↓Lane.kept_fold] | split | intro _
theorem learnHolder_kept a0 a1 a2 l (h : l.Kept B) : (learnHolder a0 a1 a2 l).Kept B := by
  unfold learnHolder
  repeat' with_reducible first
    | assumption | apply yieldLease_kept | apply setLease_kept | simp only [↓Lane.kept_mk, ↓Lane.kept_fold] | split | intro _
theorem learnDevice_kept a0 a1 l (h : l.Kept B) : (learnDevice a0 a1 l).Kept B := by
  unfold learnDevice
  repeat' with_reducible first
    | assumption | apply setLease_kept | simp only [↓Lane.kept_mk, ↓Lane.kept_fold] | split | intro _
theorem onHello_kept a0 a1 l (h : l.Kept B) : (onHello a0 a1 l).Kept B := by
  unfold onHello
  repeat' with_reducible first
    | assumption | apply noteContact_kept | apply learnHolder_kept | apply learnDevice_kept | apply plySettle_kept | apply
      freeLease_kept | apply refreshReasons_kept | simp only [↓Lane.kept_mk, ↓Lane.kept_fold] | split | intro _
theorem withLease_kept a0 a1 l (hf : ∀ (k : LeaseKind) (x : Lane), x.Kept B → (a1 k x).Kept B) (h : l.Kept B) :
    (withLease a0 a1 l).Kept B := by
  unfold withLease
  split
  · exact hf _ _ h
  · exact dropMessage_kept _ h
theorem clearAwaiting_kept a0 l (h : l.Kept B) : (clearAwaiting a0 l).Kept B := by
  unfold clearAwaiting
  repeat' with_reducible first
    | assumption | apply setLease_kept | simp only [↓Lane.kept_mk, ↓Lane.kept_fold] | split | intro _
theorem onRenew_kept a0 a1 a2 a3 a4 a5 l (h : l.Kept B) : (onRenew a0 a1 a2 a3 a4 a5 l).Kept B := by
  unfold onRenew
  repeat' with_reducible first
    | assumption | apply clearAwaiting_kept | apply noteContact_kept | apply sendLease_kept | apply learnHolder_kept |
      apply refreshReasons_kept | apply setLease_kept | apply plySettle_kept | simp only [↓Lane.kept_mk, ↓Lane.kept_fold] |
        split | intro _
theorem onRenewAck_kept a0 a1 a2 a3 l (h : l.Kept B) : (onRenewAck a0 a1 a2 a3 l).Kept B := by
  unfold onRenewAck
  repeat' with_reducible first
    | assumption | apply clearAwaiting_kept | apply noteContact_kept | apply setLease_kept | simp only [↓Lane.kept_mk,
      ↓Lane.kept_fold] | split | intro _
theorem onYield_kept a0 a1 a2 l (h : l.Kept B) : (onYield a0 a1 a2 l).Kept B := by
  unfold onYield
  repeat' with_reducible first
    | assumption | apply clearAwaiting_kept | apply noteContact_kept | apply yieldLease_kept | apply plySettle_kept | apply
      setLease_kept | simp only [↓Lane.kept_mk, ↓Lane.kept_fold] | split | intro _
theorem onRelease_kept a0 a1 a2 a3 a4 l (h : l.Kept B) : (onRelease a0 a1 a2 a3 a4 l).Kept B := by
  unfold onRelease
  repeat' with_reducible first
    | assumption | apply clearAwaiting_kept | apply noteContact_kept | apply plySettle_kept | apply setLease_kept | apply
      acquire_kept | apply freeLease_kept | simp only [↓Lane.kept_mk, ↓Lane.kept_fold] | split | intro _
theorem onOffer_kept a0 a1 a2 a3 l (h : l.Kept B) : (onOffer a0 a1 a2 a3 l).Kept B := by
  unfold onOffer
  repeat' with_reducible first
    | assumption | apply clearAwaiting_kept | apply noteContact_kept | apply sendLease_kept | simp only [↓Lane.kept_mk,
      ↓Lane.kept_fold] | split | intro _
theorem markCommitted_kept a0 l (h : l.Kept B) : (markCommitted a0 l).Kept B :=
  ⟨h.1, h.2.1, entriesOk_map _ (fun e => by split <;> exact ⟨rfl, rfl⟩) h.2.2.1, h.2.2.2⟩
theorem commitHandover_kept a0 l (h : l.Kept B) : (commitHandover a0 l).Kept B := by
  unfold commitHandover
  repeat' with_reducible first
    | assumption | apply plySettle_kept | apply postReply_kept | apply releaseLease_kept | apply markCommitted_kept | simp
      only [↓Lane.kept_mk, ↓Lane.kept_fold] | split | intro _
theorem onAccept_kept a0 a1 l (h : l.Kept B) : (onAccept a0 a1 l).Kept B := by
  unfold onAccept
  repeat' with_reducible first
    | assumption | apply clearAwaiting_kept | apply noteContact_kept | apply commitHandover_kept | simp only
      [↓Lane.kept_mk, ↓Lane.kept_fold] | split | intro _
theorem takeDigest_kept a0 a1 a2 a3 l (h : l.Kept B) : (takeDigest a0 a1 a2 a3 l).Kept B := by
  unfold takeDigest
  repeat' with_reducible first
    | assumption | apply compareCourse_kept | simp only [↓Lane.kept_mk, ↓Lane.kept_fold] | split | intro _
theorem onDigest_kept a0 a1 a2 a3 a4 a5 a6 l (h : l.Kept B) : (onDigest a0 a1 a2 a3 a4 a5 a6 l).Kept B := by
  unfold onDigest
  repeat' with_reducible first
    | assumption | apply noteContact_kept | apply endSuspension_kept | apply setCompare_kept | apply plySend_kept | apply
      takeDigest_kept | apply Lane.kept_foldl | simp only [↓Lane.kept_mk, ↓Lane.kept_fold] | split | intro _
theorem onHealth_kept a0 a1 l (h : l.Kept B) : (onHealth a0 a1 l).Kept B := by
  unfold onHealth
  repeat' with_reducible first
    | assumption | apply noteContact_kept | apply plySettle_kept | apply freeLease_kept | simp only [↓Lane.kept_mk,
      ↓Lane.kept_fold] | split | intro _
theorem moveTime_kept a0 l (h : l.Kept B) : (moveTime a0 l).Kept B := by
  unfold moveTime
  repeat' with_reducible first
    | assumption | simp only [↓Lane.kept_mk, ↓Lane.kept_fold] | split | intro _
theorem timeDisagreement_kept l (h : l.Kept B) : (timeDisagreement l).Kept B := by
  unfold timeDisagreement
  repeat' with_reducible first
    | assumption | apply lastingFault_kept | apply raiseEvent_kept | apply plySettle_kept | apply setReason_kept | simp
      only [↓Lane.kept_mk, ↓Lane.kept_fold] | split | intro _
theorem onTime_kept a0 a1 a2 a3 l (h : l.Kept B) : (onTime a0 a1 a2 a3 l).Kept B := by
  unfold onTime
  repeat' with_reducible first
    | assumption | apply noteContact_kept | apply moveTime_kept | apply timeDisagreement_kept | apply transientFault_kept |
      simp only [↓Lane.kept_mk, ↓Lane.kept_fold] | split | intro _
theorem onTamper_kept a0 a1 a2 l (h : l.Kept B) : (onTamper a0 a1 a2 l).Kept B := by
  unfold onTamper
  repeat' with_reducible first
    | assumption | apply noteContact_kept | apply raiseEvent_kept | apply logFault_kept | simp only [↓Lane.kept_mk,
      ↓Lane.kept_fold] | split | intro _
theorem onMirrorPins_kept a0 a1 l (h : l.Kept B) : (onMirrorPins a0 a1 l).Kept B := by
  unfold onMirrorPins
  repeat' with_reducible first
    | assumption | apply noteContact_kept | apply refreshPins_kept | simp only [↓Lane.kept_mk, ↓Lane.kept_fold] | split |
      intro _
theorem onMirrorGoose_kept a0 a1 a2 a3 a4 a5 l (h : l.Kept B) : (onMirrorGoose a0 a1 a2 a3 a4 a5 l).Kept B := by
  unfold onMirrorGoose
  repeat' with_reducible first
    | assumption | apply noteContact_kept | simp only [↓Lane.kept_mk, ↓Lane.kept_fold] | split | intro _
theorem onMirrorCourse_kept a0 a1 a2 l (h : l.Kept B) : (onMirrorCourse a0 a1 a2 l).Kept B := by
  unfold onMirrorCourse
  repeat' with_reducible first
    | assumption | apply noteContact_kept | simp only [↓Lane.kept_mk, ↓Lane.kept_fold] | split | intro _
theorem onPullReq_kept a0 a1 l (h : l.Kept B) : (onPullReq a0 a1 l).Kept B := by
  unfold onPullReq
  repeat' with_reducible first
    | assumption | apply noteContact_kept | apply sendTo_kept | simp only [↓Lane.kept_mk, ↓Lane.kept_fold] | split | intro _
theorem takeConfig_kept a0 l (h : l.Kept B) : (takeConfig a0 l).Kept B := by
  unfold takeConfig
  split
  · exact h
  · split
    · exact setReason_kept _ _ _ h
    · split
      · exact setReason_kept _ _ _ h
      · apply applyRunning_kept
        have k := logFault_kept .event .none 0 l.mode.configGen none [] _ (setReason_kept 6 false _ h)
        exact ⟨k.1, k.2.1, k.2.2.1, k.2.2.2⟩
theorem tellEpoch_kept a0 l (h : l.Kept B) : (tellEpoch a0 l).Kept B := by
  unfold tellEpoch
  repeat' with_reducible first
    | assumption | simp only [↓Lane.kept_mk, ↓Lane.kept_fold] | split | intro _
theorem commitImage_kept a0 a1 a2 l (h : l.Kept B) : (commitImage a0 a1 a2 l).Kept B := by
  unfold commitImage
  repeat' with_reducible first
    | assumption | apply writeRegions_kept | apply setPart_kept | simp only [↓Lane.kept_mk, ↓Lane.kept_fold] | split | intro _
theorem takePattern_kept a0 a1 l (h : l.Kept B) : (takePattern a0 a1 l).Kept B := by
  unfold takePattern
  repeat' with_reducible first
    | assumption | apply commitImage_kept | apply setPart_kept | simp only [↓Lane.kept_mk, ↓Lane.kept_fold] | split | intro _
theorem takePart_kept a0 a1 l (h : l.Kept B) : (takePart a0 a1 l).Kept B := by
  unfold takePart
  repeat' with_reducible first
    | assumption | apply activatePattern_kept | apply takePattern_kept | apply setPart_kept | apply Lane.kept_foldl | simp
      only [↓Lane.kept_mk, ↓Lane.kept_fold] | split | intro _
theorem takePlane_kept a0 a1 l (h : l.Kept B) : (takePlane a0 a1 l).Kept B := by
  unfold takePlane
  repeat' with_reducible first
    | assumption | apply setPlane_kept | apply setCompare_kept | simp only [↓Lane.kept_mk, ↓Lane.kept_fold] | split | intro _
theorem takeAlarms_kept a0 a1 a2 l (h : l.Kept B) : (takeAlarms a0 a1 a2 l).Kept B := by
  unfold takeAlarms
  repeat' with_reducible first
    | assumption | apply refreshPins_kept | apply Lane.kept_foldl | simp only [↓Lane.kept_mk, ↓Lane.kept_fold] | split |
      intro _
theorem takeSessions_kept a0 l (h : l.Kept B) : (takeSessions a0 l).Kept B := by
  unfold takeSessions
  repeat' with_reducible first
    | assumption | apply Lane.kept_foldl | simp only [↓Lane.kept_mk, ↓Lane.kept_fold] | split | intro _
theorem takeItem_kept a0 l (h : l.Kept B) : (takeItem a0 l).Kept B := by
  unfold takeItem
  repeat' with_reducible first
    | assumption | apply takeConfig_kept | apply setReason_kept | apply tellEpoch_kept | apply takePart_kept | apply
      takePlane_kept | apply takeAlarms_kept | apply takeSessions_kept | apply Lane.kept_foldl | simp only [↓Lane.kept_mk,
        ↓Lane.kept_fold] | split | intro _
theorem onPullData_kept a0 a1 a2 l (h : l.Kept B) : (onPullData a0 a1 a2 l).Kept B := by
  unfold onPullData
  repeat' with_reducible first
    | assumption | apply noteContact_kept | apply takeItem_kept | apply finishPull_kept | apply requestItem_kept | simp
      only [↓Lane.kept_mk, ↓Lane.kept_fold] | split | intro _
theorem settleCheck_kept a0 l (h : l.Kept B) : (settleCheck a0 l).Kept B := by
  unfold settleCheck
  repeat' with_reducible first
    | assumption | apply raiseCond_kept | apply setCompare_kept | simp only [↓Lane.kept_mk, ↓Lane.kept_fold] | split | intro _
theorem onCheck_kept a0 a1 a2 a3 a4 a5 l (h : l.Kept B) : (onCheck a0 a1 a2 a3 a4 a5 l).Kept B := by
  unfold onCheck
  repeat' with_reducible first
    | assumption | apply noteContact_kept | apply settleCheck_kept | apply setCompare_kept | apply failTile_kept | apply
      sendTo_kept | simp only [↓Lane.kept_mk, ↓Lane.kept_fold] | split | intro _
theorem witnessHeard_kept a0 l (h : l.Kept B) : (witnessHeard a0 l).Kept B := by
  unfold witnessHeard
  repeat' with_reducible first
    | assumption | apply clearAwaiting_kept | apply setWitness_kept | simp only [↓Lane.kept_mk, ↓Lane.kept_fold] | split |
      intro _
theorem witnessAnswer_kept a0 a1 a2 l (h : l.Kept B) : (witnessAnswer a0 a1 a2 l).Kept B := by
  unfold witnessAnswer
  repeat' with_reducible first
    | assumption | apply witnessHeard_kept | apply setLease_kept | apply acquire_kept | simp only [↓Lane.kept_mk,
      ↓Lane.kept_fold] | split | intro _
theorem onVote_kept a0 a1 l (h : l.Kept B) : (onVote a0 a1 l).Kept B := by
  unfold onVote
  repeat' with_reducible first
    | assumption | apply dropMessage_kept | apply plySettle_kept | apply witnessAnswer_kept | simp only [↓Lane.kept_mk,
      ↓Lane.kept_fold] | split | intro _
theorem onMessage_kept a0 a1 a2 l (h : l.Kept B) : (onMessage a0 a1 a2 l).Kept B := by
  unfold onMessage
  repeat' with_reducible first
    | assumption | apply onHello_kept | apply withLease_kept | apply onRenew_kept | apply onRenewAck_kept | apply
      onYield_kept | apply onRelease_kept | apply onOffer_kept | apply onAccept_kept | apply onDigest_kept | apply
        onHealth_kept | apply dropMessage_kept | apply onTime_kept | apply onTamper_kept | apply onMirrorPins_kept | apply
          onMirrorGoose_kept | apply onMirrorCourse_kept | apply onPullReq_kept | apply onPullData_kept | apply
            onCheck_kept | apply onVote_kept | simp only [↓Lane.kept_mk, ↓Lane.kept_fold] | split | intro _
theorem deliverMessage_kept a0 a1 a2 l (h : l.Kept B) : (deliverMessage a0 a1 a2 l).Kept B := by
  unfold deliverMessage
  repeat' with_reducible first
    | assumption | apply dropMessage_kept | apply followPull_kept | apply onMessage_kept | simp only [↓Lane.kept_mk,
      ↓Lane.kept_fold] | split | intro _
theorem azDeliver_kept a0 a1 l (h : l.Kept B) : (azDeliver a0 a1 l).Kept B := by
  unfold azDeliver
  repeat' with_reducible first
    | assumption | apply deliverMessage_kept | apply Lane.kept_foldl | simp only [↓Lane.kept_mk, ↓Lane.kept_fold] | split |
      intro _
theorem azAck_kept a0 l (h : l.Kept B) : (azAck a0 l).Kept B := by
  unfold azAck
  repeat' with_reducible first
    | assumption | apply azSend_kept | simp only [↓Lane.kept_mk, ↓Lane.kept_fold] | split | intro _
theorem azHeld_kept a0 a1 a2 l (h : l.Kept B) : (azHeld a0 a1 a2 l).Kept B := by
  induction a2 generalizing l with
  | zero => exact h
  | succ n ih =>
    unfold azHeld
    simp only []
    split
    · exact h
    · exact ih _ (azDeliver_kept _ _ _ (setAz_kept _ _ _ h))
theorem azReliableIn_kept a0 a1 l (h : l.Kept B) : (azReliableIn a0 a1 l).Kept B := by
  unfold azReliableIn
  repeat' with_reducible first
    | assumption | apply azAck_kept | apply azDeliver_kept | apply setAz_kept | apply azHeld_kept | simp only
      [↓Lane.kept_mk, ↓Lane.kept_fold] | split | intro _
theorem azAccept_kept a0 a1 l (h : l.Kept B) : (azAccept a0 a1 l).Kept B := by
  unfold azAccept
  repeat' with_reducible first
    | assumption | apply setAz_kept | apply noteFrame_kept | apply azDeliver_kept | apply azReliableIn_kept | simp only
      [↓Lane.kept_mk, ↓Lane.kept_fold] | split | intro _
theorem azDrop_kept l (h : l.Kept B) : (azDrop l).Kept B := by
  unfold azDrop
  repeat' with_reducible first
    | assumption | simp only [↓Lane.kept_mk, ↓Lane.kept_fold] | split | intro _
theorem azResend_kept a0 a1 l (h : l.Kept B) : (azResend a0 a1 l).Kept B := by
  unfold azResend
  repeat' with_reducible first
    | assumption | apply setAz_kept | apply emit_kept | simp only [↓Lane.kept_mk, ↓Lane.kept_fold] | split | intro _
theorem setLink_kept a0 a1 l (h : l.Kept B) : (setLink a0 a1 l).Kept B := by
  unfold setLink
  repeat' with_reducible first
    | assumption | simp only [↓Lane.kept_mk, ↓Lane.kept_fold] | split | intro _
theorem loseLink_kept a0 l (h : l.Kept B) : (loseLink a0 l).Kept B := by
  unfold loseLink
  repeat' with_reducible first
    | assumption | apply setLink_kept | apply plySettle_kept | apply logFault_kept | simp only [↓Lane.kept_mk,
      ↓Lane.kept_fold] | split | intro _
theorem badPlyFrame_kept a0 a1 l (h : l.Kept B) : (badPlyFrame a0 a1 l).Kept B := by
  unfold badPlyFrame
  repeat' with_reducible first
    | assumption | apply lastingFault_kept | apply loseLink_kept | apply emit_kept | apply setLink_kept | simp only
      [↓Lane.kept_mk, ↓Lane.kept_fold] | split | intro _
theorem bankApply_kept a0 l (h : l.Kept B) : (bankApply a0 l).1.Kept B := by
  unfold bankApply
  repeat' with_reducible first
    | assumption | simp only [↓Lane.kept_mk, ↓Lane.kept_fold] | split | intro _
theorem beginPull_kept l (h : l.Kept B) : (beginPull l).Kept B := by
  unfold beginPull
  repeat' with_reducible first
    | assumption | apply requestItem_kept | apply setReason_kept | simp only [↓Lane.kept_mk, ↓Lane.kept_fold] | split |
      intro _
theorem failResponse_kept a0 l (h : l.Kept B) : (failResponse a0 l).Kept B := by
  unfold failResponse
  repeat' with_reducible first
    | assumption | apply refuse_kept | simp only [↓Lane.kept_mk, ↓Lane.kept_fold] | split | intro _
theorem grantPrivilege_kept a0 l (h : l.Kept B) : (grantPrivilege a0 l).Kept B := by
  unfold grantPrivilege
  repeat' with_reducible first
    | assumption | apply postReply_kept | simp only [↓Lane.kept_mk, ↓Lane.kept_fold] | split | intro _
theorem bindStart_kept a0 l (h : l.Kept B) : (bindStart a0 l).Kept B := by
  unfold bindStart
  repeat' with_reducible first
    | assumption | apply failResponse_kept | apply refuse_kept | apply grantPrivilege_kept | simp only [↓Lane.kept_mk,
      ↓Lane.kept_fold] | split | intro _
theorem cancelUndispatched_kept l (h : l.Kept B) : (cancelUndispatched l).Kept B := by
  unfold cancelUndispatched
  repeat' with_reducible first
    | assumption | apply refuse_kept | apply Lane.kept_foldl | simp only [↓Lane.kept_mk, ↓Lane.kept_fold] | split | intro _
theorem countStream_kept a0 a1 l (h : l.Kept B) : (countStream a0 a1 l).Kept B := by
  unfold countStream
  repeat' with_reducible first
    | assumption | apply setRun_kept | simp only [↓Lane.kept_mk, ↓Lane.kept_fold] | split | intro _
theorem takeCfg_kept a0 a1 l (h : l.Kept B) : (takeCfg a0 a1 l).Kept B := by
  unfold takeCfg
  repeat' with_reducible first
    | assumption | apply enterState_kept | apply setRun_kept | apply turnOn_kept | apply raiseEvent_kept | simp only
      [↓Lane.kept_mk, ↓Lane.kept_fold] | split | intro _
theorem receiveCfg_kept a0 a1 l (h : l.Kept B) : (receiveCfg a0 a1 l).Kept B := by
  unfold receiveCfg
  repeat' with_reducible first
    | assumption | apply countStream_kept | apply takeCfg_kept | simp only [↓Lane.kept_mk, ↓Lane.kept_fold] | split | intro _
theorem cfgChunkApply_kept a0 l (h : l.Kept B) : (cfgChunkApply a0 l).1.Kept B := by
  unfold cfgChunkApply
  repeat' with_reducible first
    | assumption | apply setRun_kept | apply receiveCfg_kept | apply startProcedure_kept | simp only [↓Lane.kept_mk,
      ↓Lane.kept_fold] | split | intro _
theorem challengeApply_kept a0 l (h : l.Kept B) : (challengeApply a0 l).1.Kept B := h
theorem setMode_kept a0 l (h : l.Kept B) : (setMode a0 l).Kept B := by
  unfold setMode
  repeat' with_reducible first
    | assumption | apply plySettle_kept | apply refreshPins_kept | apply setCause_kept | simp only [↓Lane.kept_mk,
      ↓Lane.kept_fold] | split | intro _
theorem leaveDrill_kept l (h : l.Kept B) : (leaveDrill l).Kept B := by
  unfold leaveDrill
  repeat' with_reducible first
    | assumption | apply setMode_kept | simp only [↓Lane.kept_mk, ↓Lane.kept_fold] | split | intro _
theorem leaveService_kept a0 l (h : l.Kept B) : (leaveService a0 l).Kept B := by
  unfold leaveService
  repeat' with_reducible first
    | assumption | apply releaseLease_kept | apply plySend_kept | apply azSendPartners_kept | simp only [↓Lane.kept_mk,
      ↓Lane.kept_fold] | split | intro _
theorem emptyQueues_kept l (h : l.Kept B) : (emptyQueues l).Kept B := by
  unfold emptyQueues
  repeat' with_reducible first
    | assumption | simp only [↓Lane.kept_mk, ↓Lane.kept_fold] | split | intro _
theorem drainReplies_kept a0 a1 l (h : l.Kept B) : (drainReplies a0 a1 l).Kept B := by
  induction a1 generalizing l with
  | nil => exact h
  | cons i t ih =>
    unfold drainReplies
    split
    · split
      · exact h
      · exact ih _ (completeRing_kept _ _ _ _ h)
    · exact ih _ h
theorem drainAllReplies_kept l (h : l.Kept B) : (drainAllReplies l).Kept B := by
  unfold drainAllReplies
  repeat' with_reducible first
    | assumption | apply drainReplies_kept | apply Lane.kept_foldl | simp only [↓Lane.kept_mk, ↓Lane.kept_fold] | split |
      intro _
theorem leave_kept a0 a1 l (h : l.Kept B) : (leave a0 a1 l).Kept B := by
  unfold leave
  repeat' with_reducible first
    | assumption | apply cancelUndispatched_kept | apply leaveService_kept | apply emptyQueues_kept | apply
      drainAllReplies_kept | simp only [↓Lane.kept_mk, ↓Lane.kept_fold] | split | intro _
theorem enterDormant_kept a0 l (h : l.Kept B) : (enterDormant a0 l).Kept B := by
  unfold enterDormant
  repeat' with_reducible first
    | assumption | apply leave_kept | apply setMode_kept | simp only [↓Lane.kept_mk, ↓Lane.kept_fold] | split | intro _
theorem enterSalvage_kept l (h : l.Kept B) : (enterSalvage l).Kept B := by
  unfold enterSalvage
  repeat' with_reducible first
    | assumption | apply leave_kept | apply setMode_kept | simp only [↓Lane.kept_mk, ↓Lane.kept_fold] | split | intro _
theorem freshLane_tiles (m : Mode) (c : StartCause) (l : Lane) : tilesOk (freshLane m c l).array.tiles := tilesOk_nil
theorem freshLane_entries (m : Mode) (c : StartCause) (l : Lane) : entriesOk (freshLane m c l).needle.entries := entriesOk_nil
theorem freshLane_log (m : Mode) (c : StartCause) (l : Lane) : logOk (freshLane m c l).health.log := logOk_nil
theorem freshLane_kept a0 a1 l (h : l.Kept B) : (freshLane a0 a1 l).Kept B :=
  ⟨h.1, freshLane_tiles .., freshLane_entries .., freshLane_log ..⟩
theorem resetToStart_kept a0 l (h : l.Kept B) : (resetToStart a0 l).Kept B := by
  unfold resetToStart
  repeat' with_reducible first
    | assumption | apply freshLane_kept | apply leave_kept | simp only [↓Lane.kept_mk, ↓Lane.kept_fold] | split | intro _
theorem changeMode_kept a0 a1 l (h : l.Kept B) : (changeMode a0 a1 l).Kept B := by
  unfold changeMode
  repeat' with_reducible first
    | assumption | apply setMode_kept | apply leaveDrill_kept | apply enterDormant_kept | apply enterSalvage_kept | apply
      resetToStart_kept | simp only [↓Lane.kept_mk, ↓Lane.kept_fold] | split | intro _
theorem witnessLost_kept a0 l (h : l.Kept B) : (witnessLost a0 l).Kept B := by
  unfold witnessLost
  repeat' with_reducible first
    | assumption | apply setWitness_kept | apply plySettle_kept | apply setLease_kept | simp only [↓Lane.kept_mk,
      ↓Lane.kept_fold] | split | intro _
theorem changeWitness_kept a0 a1 a2 l (h : l.Kept B) : (changeWitness a0 a1 a2 l).Kept B := by
  unfold changeWitness
  repeat' with_reducible first
    | assumption | apply setWitness_kept | apply witnessLost_kept | simp only [↓Lane.kept_mk, ↓Lane.kept_fold] | split |
      intro _
theorem rejectDecode_kept a0 l (h : l.Kept B) : (rejectDecode a0 l).Kept B := by
  unfold rejectDecode
  repeat' with_reducible first
    | assumption | apply countStream_kept | simp only [↓Lane.kept_mk, ↓Lane.kept_fold] | split | intro _
theorem dropState_kept a0 l (h : l.Kept B) : (dropState a0 l).Kept B := by
  unfold dropState
  repeat' with_reducible first
    | assumption | apply countStream_kept | simp only [↓Lane.kept_mk, ↓Lane.kept_fold] | split | intro _
theorem enterKeyLost_kept a0 l (h : l.Kept B) : (enterKeyLost a0 l).Kept B := by
  unfold enterKeyLost
  repeat' with_reducible first
    | assumption | apply dropState_kept | apply enterState_kept | simp only [↓Lane.kept_mk, ↓Lane.kept_fold] | split | intro _
theorem rejectAuth_kept a0 l (h : l.Kept B) : (rejectAuth a0 l).Kept B := by
  unfold rejectAuth
  repeat' with_reducible first
    | assumption | apply countStream_kept | simp only [↓Lane.kept_mk, ↓Lane.kept_fold] | split | intro _
theorem countDuplicate_kept a0 l (h : l.Kept B) : (countDuplicate a0 l).Kept B := by
  unfold countDuplicate
  repeat' with_reducible first
    | assumption | apply countStream_kept | simp only [↓Lane.kept_mk, ↓Lane.kept_fold] | split | intro _
theorem deliverValues_kept a0 a1 a2 a3 l (h : l.Kept B) : (deliverValues a0 a1 a2 a3 l).Kept B := by
  unfold deliverValues
  repeat' with_reducible first
    | assumption | simp only [↓Lane.kept_mk, ↓Lane.kept_fold] | split | intro _
theorem decodeData_kept a0 a1 a2 a3 a4 a5 a6 l (h : l.Kept B) : (decodeData a0 a1 a2 a3 a4 a5 a6 l).Kept B := by
  unfold decodeData
  repeat' with_reducible first
    | assumption | apply rejectDecode_kept | apply acceptFrame_kept | apply setRun_kept | apply startProcedure_kept | apply
      deliverValues_kept | simp only [↓Lane.kept_mk, ↓Lane.kept_fold] | split | intro _
theorem checkData_kept a0 a1 a2 a3 a4 a5 a6 a7 l (h : l.Kept B) : (checkData a0 a1 a2 a3 a4 a5 a6 a7 l).Kept B := by
  unfold checkData
  repeat' with_reducible first
    | assumption | apply rejectDecode_kept | apply enterKeyLost_kept | apply rejectAuth_kept | apply countDuplicate_kept |
      apply setRun_kept | apply turnOn_kept | apply decodeData_kept | simp only [↓Lane.kept_mk, ↓Lane.kept_fold] | split |
        intro _
theorem classifierSetApply_kept a0 l (h : l.Kept B) : (classifierSetApply a0 l).1.Kept B := by
  unfold classifierSetApply
  repeat' with_reducible first
    | assumption | simp only [↓Lane.kept_mk, ↓Lane.kept_fold] | split | intro _
theorem setEth_kept a0 a1 l (h : l.Kept B) : (setEth a0 a1 l).Kept B := by
  unfold setEth
  repeat' with_reducible first
    | assumption | simp only [↓Lane.kept_mk, ↓Lane.kept_fold] | split | intro _
theorem countEth_kept a0 a1 l (h : l.Kept B) : (countEth a0 a1 l).Kept B := by
  unfold countEth
  repeat' with_reducible first
    | assumption | apply setEth_kept | simp only [↓Lane.kept_mk, ↓Lane.kept_fold] | split | intro _
theorem releaseFast_kept a0 l (h : l.Kept B) : (releaseFast a0 l).Kept B := by
  unfold releaseFast
  repeat' with_reducible first
    | assumption | apply setEth_kept | apply emit_kept | apply countEth_kept | apply Lane.kept_foldl | simp only
      [↓Lane.kept_mk, ↓Lane.kept_fold] | split | intro _
theorem receivePause_kept a0 a1 l (h : l.Kept B) : (receivePause a0 a1 l).Kept B := by
  unfold receivePause
  repeat' with_reducible first
    | assumption | apply countEth_kept | apply releaseFast_kept | apply setEth_kept | simp only [↓Lane.kept_mk,
      ↓Lane.kept_fold] | split | intro _
theorem ingest_kept a0 a1 a2 l (h : l.Kept B) : (ingest a0 a1 a2 l).Kept B := by
  unfold ingest
  repeat' with_reducible first
    | assumption | apply setRun_kept | apply enqueueOrDrop_kept | simp only [↓Lane.kept_mk, ↓Lane.kept_fold] | split | intro _
theorem rxToHost_kept a0 a1 a2 a3 a4 a5 a6 l (h : l.Kept B) : (rxToHost a0 a1 a2 a3 a4 a5 a6 l).Kept B := by
  unfold rxToHost
  repeat' with_reducible first
    | assumption | apply setCause_kept | apply emit_kept | simp only [↓Lane.kept_mk, ↓Lane.kept_fold] | split | intro _
theorem unblock_kept a0 l (h : l.Kept B) : (unblock a0 l).Kept B := by
  unfold unblock
  repeat' with_reducible first
    | assumption | apply setQueue_kept | simp only [↓Lane.kept_mk, ↓Lane.kept_fold] | split | intro _
theorem noteDepth_kept a0 l (h : l.Kept B) : (noteDepth a0 l).Kept B := by
  unfold noteDepth
  repeat' with_reducible first
    | assumption | apply setQueue_kept | simp only [↓Lane.kept_mk, ↓Lane.kept_fold] | split | intro _
theorem popItem_kept a0 l (h : l.Kept B) : (popItem a0 l).Kept B := by
  unfold popItem
  repeat' with_reducible first
    | assumption | apply unblock_kept | apply noteDepth_kept | apply setQueue_kept | simp only [↓Lane.kept_mk,
      ↓Lane.kept_fold] | split | intro _
theorem drainRx_kept a0 l (h : l.Kept B) : (drainRx a0 l).Kept B := by
  induction a0 generalizing l with
  | zero => exact h
  | succ n ih =>
    unfold drainRx
    split
    · exact h
    · split
      · exact ih _ (rxToHost_kept _ _ _ _ _ _ _ _ (popItem_kept _ _ h))
      · exact h
theorem toHost_kept a0 a1 a2 a3 l (h : l.Kept B) : (toHost a0 a1 a2 a3 l).Kept B := by
  unfold toHost
  repeat' with_reducible first
    | assumption | apply countEth_kept | apply enqueueOrDrop_kept | apply setEth_kept | apply drainRx_kept | simp only
      [↓Lane.kept_mk, ↓Lane.kept_fold] | split | intro _
theorem learnFrame_kept a0 a1 l (h : l.Kept B) : (learnFrame a0 a1 l).1.Kept B := by
  unfold learnFrame
  repeat' with_reducible first
    | assumption | apply startProcedure_kept | apply raiseEvent_kept | simp only [↓Lane.kept_mk, ↓Lane.kept_fold] | split |
      intro _
theorem classifyUnknown_kept a0 a1 l (h : l.Kept B) : (classifyUnknown a0 a1 l).Kept B := by
  unfold classifyUnknown
  repeat' with_reducible first
    | assumption | apply learnFrame_kept | apply countEth_kept | simp only [↓Lane.kept_mk, ↓Lane.kept_fold] | split | intro _
theorem classifyRest_kept a0 a1 l (h : l.Kept B) : (classifyRest a0 a1 l).Kept B := by
  unfold classifyRest
  repeat' with_reducible first
    | assumption | apply countEth_kept | apply ingest_kept | apply toHost_kept | apply classifyUnknown_kept | simp only
      [↓Lane.kept_mk, ↓Lane.kept_fold] | split | intro _
theorem classify_kept a0 a1 l (h : l.Kept B) : (classify a0 a1 l).Kept B := by
  unfold classify
  repeat' with_reducible first
    | assumption | apply receivePause_kept | apply countEth_kept | apply classifyRest_kept | simp only [↓Lane.kept_mk,
      ↓Lane.kept_fold] | split | intro _
theorem cleanEnd_kept a0 a1 a2 a3 l (h : l.Kept B) : (cleanEnd a0 a1 a2 a3 l).Kept B := by
  unfold cleanEnd
  repeat' with_reducible first
    | assumption | apply setPart_kept | apply transientRound_kept | apply raiseEvent_kept | simp only [↓Lane.kept_mk,
      ↓Lane.kept_fold] | split | intro _
theorem clearGauge_kept a0 l (h : l.Kept B) : (clearGauge a0 l).Kept B := by
  unfold clearGauge
  repeat' with_reducible first
    | assumption | simp only [↓Lane.kept_mk, ↓Lane.kept_fold] | split | intro _
theorem clearUnhealthy_kept a0 l (h : l.Kept B) : (clearUnhealthy a0 l).Kept B := by
  unfold clearUnhealthy
  repeat' with_reducible first
    | assumption | apply plySettle_kept | simp only [↓Lane.kept_mk, ↓Lane.kept_fold] | split | intro _
theorem closeApply_kept a0 l (h : l.Kept B) : (closeApply a0 l).1.Kept B := by
  unfold closeApply
  repeat' with_reducible first
    | assumption | apply emit_kept | simp only [↓Lane.kept_mk, ↓Lane.kept_fold] | split | intro _
theorem fire_kept a0 a1 a2 a3 l (h : l.Kept B) : (fire a0 a1 a2 a3 l).Kept B := by
  unfold fire
  repeat' with_reducible first
    | assumption | apply countTrigger_kept | apply actFire_kept | simp only [↓Lane.kept_mk, ↓Lane.kept_fold] | split | intro _
theorem commandStart_kept a0 l (h : l.Kept B) : (commandStart a0 l).Kept B := by
  unfold commandStart
  repeat' with_reducible first
    | assumption | apply refuse_kept | apply fire_kept | apply postReply_kept | simp only [↓Lane.kept_mk, ↓Lane.kept_fold]
      | split | intro _
theorem writeStore_kept a0 l (h : l.Kept B) : (writeStore a0 l).Kept B := by
  unfold writeStore
  repeat' with_reducible first
    | assumption | simp only [↓Lane.kept_mk, ↓Lane.kept_fold] | split | intro _
theorem configCommitApply_kept a0 l (h : l.Kept B) : (configCommitApply a0 l).1.Kept B := by
  unfold configCommitApply
  repeat' with_reducible first
    | assumption | apply writeStore_kept | simp only [↓Lane.kept_mk, ↓Lane.kept_fold] | split | intro _
theorem configReadApply_kept a0 l (h : l.Kept B) : (configReadApply a0 l).1.Kept B := by
  unfold configReadApply
  repeat' with_reducible first
    | assumption | simp only [↓Lane.kept_mk, ↓Lane.kept_fold] | split | intro _
theorem setActiveState_kept a0 l (h : l.Kept B) : (setActiveState a0 l).Kept B := by
  unfold setActiveState
  repeat' with_reducible first
    | assumption | simp only [↓Lane.kept_mk, ↓Lane.kept_fold] | split | intro _
theorem confirmImage_kept l (h : l.Kept B) : (confirmImage l).Kept B := by
  unfold confirmImage
  repeat' with_reducible first
    | assumption | apply setActiveState_kept | apply raiseEvent_kept | simp only [↓Lane.kept_mk, ↓Lane.kept_fold] | split |
      intro _
theorem copyGauge_kept a0 l (h : l.Kept B) : (copyGauge a0 l).Kept B := by
  unfold copyGauge
  repeat' with_reducible first
    | assumption | simp only [↓Lane.kept_mk, ↓Lane.kept_fold] | split | intro _
theorem countFull_kept a0 a1 l (h : l.Kept B) : (countFull a0 a1 l).Kept B := by
  unfold countFull
  repeat' with_reducible first
    | assumption | apply setQueue_kept | simp only [↓Lane.kept_mk, ↓Lane.kept_fold] | split | intro _
theorem setRef_kept a0 a1 l (h : l.Kept B) : (setRef a0 a1 l).Kept B := by
  unfold setRef
  repeat' with_reducible first
    | assumption | simp only [↓Lane.kept_mk, ↓Lane.kept_fold] | split | intro _
theorem countMeasurement_kept a0 a1 l (h : l.Kept B) : (countMeasurement a0 a1 l).Kept B := by
  unfold countMeasurement
  repeat' with_reducible first
    | assumption | apply setRef_kept | simp only [↓Lane.kept_mk, ↓Lane.kept_fold] | split | intro _
theorem countMesh_kept a0 a1 l (h : l.Kept B) : (countMesh a0 a1 l).Kept B := by
  unfold countMesh
  repeat' with_reducible first
    | assumption | apply setMesh_kept | simp only [↓Lane.kept_mk, ↓Lane.kept_fold] | split | intro _
theorem countSerial_kept a0 a1 l (h : l.Kept B) : (countSerial a0 a1 l).Kept B := by
  unfold countSerial
  repeat' with_reducible first
    | assumption | apply setSerial_kept | simp only [↓Lane.kept_mk, ↓Lane.kept_fold] | split | intro _
theorem criticalFault_kept l (h : l.Kept B) : (criticalFault l).Kept B := by
  unfold criticalFault
  repeat' with_reducible first
    | assumption | apply enterSalvage_kept | simp only [↓Lane.kept_mk, ↓Lane.kept_fold] | split | intro _
theorem radioSend_kept a0 a1 a2 l (h : l.Kept B) : (radioSend a0 a1 a2 l).Kept B := by
  unfold radioSend
  repeat' with_reducible first
    | assumption | apply countMesh_kept | apply emit_kept | simp only [↓Lane.kept_mk, ↓Lane.kept_fold] | split | intro _
theorem sendData_kept a0 a1 a2 a3 a4 l (h : l.Kept B) : (sendData a0 a1 a2 a3 a4 l).Kept B := by
  unfold sendData
  repeat' with_reducible first
    | assumption | apply radioSend_kept | apply setMesh_kept | simp only [↓Lane.kept_mk, ↓Lane.kept_fold] | split | intro _
theorem dataSlot_kept a0 a1 l (h : l.Kept B) : (dataSlot a0 a1 l).Kept B := by
  unfold dataSlot
  repeat' with_reducible first
    | assumption | apply setMesh_kept | apply sendData_kept | apply countMesh_kept | apply popItem_kept | simp only
      [↓Lane.kept_mk, ↓Lane.kept_fold] | split | intro _
theorem setPtpPort_kept a0 a1 l (h : l.Kept B) : (setPtpPort a0 a1 l).Kept B := by
  unfold setPtpPort
  repeat' with_reducible first
    | assumption | simp only [↓Lane.kept_mk, ↓Lane.kept_fold] | split | intro _
theorem decidePorts_kept l (h : l.Kept B) : (decidePorts l).Kept B := by
  unfold decidePorts
  repeat' with_reducible first
    | assumption | apply setPtpPort_kept | apply Lane.kept_foldl | simp only [↓Lane.kept_mk, ↓Lane.kept_fold] | split |
      intro _
theorem deliverDerived_kept a0 a1 a2 l (h : l.Kept B) : (deliverDerived a0 a1 a2 l).Kept B := by
  unfold deliverDerived
  repeat' with_reducible first
    | assumption | apply deliverValues_kept | apply Lane.kept_foldl | simp only [↓Lane.kept_mk, ↓Lane.kept_fold] | split |
      intro _
theorem deliverResponse_kept a0 a1 a2 a3 l (h : l.Kept B) : (deliverResponse a0 a1 a2 a3 l).Kept B := by
  unfold deliverResponse
  repeat' with_reducible first
    | assumption | apply countSerial_kept | apply setStation_kept | apply enqueueOrDrop_kept | apply Lane.kept_foldl | simp
      only [↓Lane.kept_mk, ↓Lane.kept_fold] | split | intro _
theorem derivedCreateApply_kept a0 l (h : l.Kept B) : (derivedCreateApply a0 l).1.Kept B := by
  unfold derivedCreateApply
  repeat' with_reducible first
    | assumption | apply setRun_kept | simp only [↓Lane.kept_mk, ↓Lane.kept_fold] | split | intro _
theorem freeStream_kept a0 l (h : l.Kept B) : (freeStream a0 l).Kept B := by
  unfold freeStream
  repeat' with_reducible first
    | assumption | apply dropRequired_kept | simp only [↓Lane.kept_mk, ↓Lane.kept_fold] | split | intro _
theorem derivedRemoveApply_kept a0 l (h : l.Kept B) : (derivedRemoveApply a0 l).1.Kept B := by
  unfold derivedRemoveApply
  repeat' with_reducible first
    | assumption | apply freeStream_kept | simp only [↓Lane.kept_mk, ↓Lane.kept_fold] | split | intro _
theorem switchRef_kept a0 l (h : l.Kept B) : (switchRef a0 l).Kept B := by
  unfold switchRef
  repeat' with_reducible first
    | assumption | apply raiseEvent_kept | apply refreshUtc_kept | simp only [↓Lane.kept_mk, ↓Lane.kept_fold] | split |
      intro _
theorem setFreq_kept a0 l (h : l.Kept B) : (setFreq a0 l).Kept B := by
  unfold setFreq
  repeat' with_reducible first
    | assumption | simp only [↓Lane.kept_mk, ↓Lane.kept_fold] | split | intro _
theorem retune_kept l (h : l.Kept B) : (retune l).Kept B := by
  unfold retune
  repeat' with_reducible first
    | assumption | apply setFreq_kept | simp only [↓Lane.kept_mk, ↓Lane.kept_fold] | split | intro _
theorem enterHoldover_kept l (h : l.Kept B) : (enterHoldover l).Kept B := by
  unfold enterHoldover
  repeat' with_reducible first
    | assumption | apply retune_kept | apply condAlarm_kept | apply refreshUtc_kept | apply raiseEvent_kept | apply
      setMode_kept | simp only [↓Lane.kept_mk, ↓Lane.kept_fold] | split | intro _
theorem deselect_kept a0 l (h : l.Kept B) : (deselect a0 l).Kept B := by
  unfold deselect
  repeat' with_reducible first
    | assumption | apply switchRef_kept | apply enterHoldover_kept | simp only [↓Lane.kept_mk, ↓Lane.kept_fold] | split |
      intro _
theorem disableRing_kept a0 a1 l (h : l.Kept B) : (disableRing a0 a1 l).Kept B := by
  unfold disableRing
  repeat' with_reducible first
    | assumption | apply setRing_kept | apply setQueue_kept | simp only [↓Lane.kept_mk, ↓Lane.kept_fold] | split | intro _
theorem disableRx_kept a0 l (h : l.Kept B) : (disableRx a0 l).Kept B := by
  unfold disableRx
  repeat' with_reducible first
    | assumption | simp only [↓Lane.kept_mk, ↓Lane.kept_fold] | split | intro _
theorem disableTx_kept a0 l (h : l.Kept B) : (disableTx a0 l).Kept B := by
  unfold disableTx
  repeat' with_reducible first
    | assumption | simp only [↓Lane.kept_mk, ↓Lane.kept_fold] | split | intro _
theorem missHeld_kept l a1 (h : l.Kept B) : (missHeld l a1).Kept B := by
  unfold missHeld
  repeat' with_reducible first
    | assumption | apply countTrigger_kept | apply refuse_kept | simp only [↓Lane.kept_mk, ↓Lane.kept_fold] | split | intro _
theorem disarmApply_kept a0 l (h : l.Kept B) : (disarmApply a0 l).1.Kept B := by
  unfold disarmApply
  repeat' with_reducible first
    | assumption | apply freeRing_kept | apply setProfile_kept | apply missHeld_kept | apply Lane.kept_foldl | simp only
      [↓Lane.kept_mk, ↓Lane.kept_fold] | split | intro _
theorem discardRecord_kept a0 l (h : l.Kept B) : (discardRecord a0 l).Kept B := by
  unfold discardRecord
  repeat' with_reducible first
    | assumption | apply dropRecord_kept | apply setProfile_kept | simp only [↓Lane.kept_mk, ↓Lane.kept_fold] | split |
      intro _
theorem dispatch_kept a0 l (h : l.Kept B) : (dispatch a0 l).Kept B := by
  unfold dispatch
  split
  · exact ⟨h.1, h.2.1, entriesOk_map _ (fun e => by split <;> exact ⟨rfl, rfl⟩) h.2.2.1, h.2.2.2⟩
  · exact refuse_kept _ _ _ h
theorem drainRing_kept a0 a1 l (h : l.Kept B) : (drainRing a0 a1 l).Kept B := by
  induction a1 generalizing l with
  | zero => exact h
  | succ n ih =>
    unfold drainRing
    split
    · exact h
    · split
      · exact ih _ (completeRing_kept _ _ _ _ (popItem_kept _ _ h))
      · exact h
theorem drainWaiting_kept a0 a1 a2 l (h : l.Kept B) : (drainWaiting a0 a1 a2 l).Kept B := by
  induction a2 generalizing l with
  | nil => exact h
  | cons f t ih =>
    unfold drainWaiting
    split
    · exact ih _ (queueSession_kept _ _ _ _ h)
    · exact h
theorem drainSessions_kept a0 l (h : l.Kept B) : (drainSessions a0 l).Kept B := by
  unfold drainSessions
  repeat' with_reducible first
    | assumption | apply drainWaiting_kept | apply Lane.kept_foldl | simp only [↓Lane.kept_mk, ↓Lane.kept_fold] | split |
      intro _
theorem drillStart_kept a0 l (h : l.Kept B) : (drillStart a0 l).Kept B := by
  unfold drillStart
  repeat' with_reducible first
    | assumption | simp only [↓Lane.kept_mk, ↓Lane.kept_fold] | split | intro _
theorem dropCopy_kept a0 a1 l (h : l.Kept B) : (dropCopy a0 a1 l).Kept B := by
  unfold dropCopy
  repeat' with_reducible first
    | assumption | simp only [↓Lane.kept_mk, ↓Lane.kept_fold] | split | intro _
theorem dropDatagram_kept a0 l (h : l.Kept B) : (dropDatagram a0 l).Kept B := by
  unfold dropDatagram
  repeat' with_reducible first
    | assumption | apply raiseEvent_kept | simp only [↓Lane.kept_mk, ↓Lane.kept_fold] | split | intro _
theorem dropSpillItem_kept a0 a1 l (h : l.Kept B) : (dropSpillItem a0 a1 l).Kept B := by
  unfold dropSpillItem
  repeat' with_reducible first
    | assumption | apply unblock_kept | apply setQueue_kept | simp only [↓Lane.kept_mk, ↓Lane.kept_fold] | split | intro _
theorem dropSegment_kept a0 l (h : l.Kept B) : (dropSegment a0 l).Kept B := by
  unfold dropSegment
  repeat' with_reducible first
    | assumption | apply setSeg_kept | simp only [↓Lane.kept_mk, ↓Lane.kept_fold] | split | intro _
theorem dropWale_kept a0 a1 a2 l (h : l.Kept B) : (dropWale a0 a1 a2 l).Kept B := by
  unfold dropWale
  repeat' with_reducible first
    | assumption | simp only [↓Lane.kept_mk, ↓Lane.kept_fold] | split | intro _
theorem dropPage_kept a0 l (h : l.Kept B) : (dropPage a0 l).Kept B := by
  unfold dropPage
  repeat' with_reducible first
    | assumption | apply dropSpillItem_kept | apply dropSegment_kept | apply dropWale_kept | simp only [↓Lane.kept_mk,
      ↓Lane.kept_fold] | split | intro _
theorem dropPtp_kept l (h : l.Kept B) : (dropPtp l).Kept B := by
  unfold dropPtp
  repeat' with_reducible first
    | assumption | simp only [↓Lane.kept_mk, ↓Lane.kept_fold] | split | intro _
theorem dropQueued_kept a0 l (h : l.Kept B) : (dropQueued a0 l).Kept B := by
  unfold dropQueued
  repeat' with_reducible first
    | assumption | apply setMesh_kept | apply setQueue_kept | simp only [↓Lane.kept_mk, ↓Lane.kept_fold] | split | intro _
theorem dropRestApply_kept a0 l (h : l.Kept B) : (dropRestApply a0 l).1.Kept B := by
  unfold dropRestApply
  repeat' with_reducible first
    | assumption | apply unblock_kept | apply noteDepth_kept | apply setQueue_kept | simp only [↓Lane.kept_mk,
      ↓Lane.kept_fold] | split | intro _
theorem emptyInactive_kept l (h : l.Kept B) : (emptyInactive l).Kept B := by
  unfold emptyInactive
  repeat' with_reducible first
    | assumption | simp only [↓Lane.kept_mk, ↓Lane.kept_fold] | split | intro _
theorem emptyRing_kept a0 l (h : l.Kept B) : (emptyRing a0 l).Kept B := by
  unfold emptyRing
  repeat' with_reducible first
    | assumption | apply setSeg_kept | apply Lane.kept_foldl | simp only [↓Lane.kept_mk, ↓Lane.kept_fold] | split | intro _
theorem setPeRun_kept a0 a1 a2 l (h : l.Kept B) : (setPeRun a0 a1 a2 l).Kept B := by
  unfold setPeRun
  repeat' with_reducible first
    | assumption | simp only [↓Lane.kept_mk, ↓Lane.kept_fold] | split | intro _
theorem setPeStream_kept a0 a1 l (h : l.Kept B) : (setPeStream a0 a1 l).Kept B := by
  unfold setPeStream
  repeat' with_reducible first
    | assumption | simp only [↓Lane.kept_mk, ↓Lane.kept_fold] | split | intro _
theorem promoteHeld_kept a0 l (h : l.Kept B) : (promoteHeld a0 l).Kept B := by
  unfold promoteHeld
  repeat' with_reducible first
    | assumption | apply setPeStream_kept | simp only [↓Lane.kept_mk, ↓Lane.kept_fold] | split | intro _
theorem endFade_kept a0 a1 a2 a3 a4 l (h : l.Kept B) : (endFade a0 a1 a2 a3 a4 l).Kept B := by
  unfold endFade
  repeat' with_reducible first
    | assumption | apply setPeRun_kept | apply setPeStream_kept | apply promoteHeld_kept | simp only [↓Lane.kept_mk,
      ↓Lane.kept_fold] | split | intro _
theorem endOpenRecords_kept a0 l (h : l.Kept B) : (endOpenRecords a0 l).Kept B := by
  unfold endOpenRecords
  repeat' with_reducible first
    | assumption | apply finishRecord_kept | apply Lane.kept_foldl | simp only [↓Lane.kept_mk, ↓Lane.kept_fold] | split |
      intro _
theorem ethSetApply_kept a0 a1 l (h : l.Kept B) : (ethSetApply a0 a1 l).Kept B := by
  unfold ethSetApply
  repeat' with_reducible first
    | assumption | apply setEth_kept | apply condAlarm_kept | simp only [↓Lane.kept_mk, ↓Lane.kept_fold] | split | intro _
theorem evalValue_kept a0 a1 a2 a3 l (h : l.Kept B) : (evalValue a0 a1 a2 a3 l).Kept B := by
  unfold evalValue
  repeat' with_reducible first
    | assumption | apply setTrigger_kept | apply fire_kept | simp only [↓Lane.kept_mk, ↓Lane.kept_fold] | split | intro _
theorem evalTrigger_kept a0 l a2 (h : l.Kept B) : (evalTrigger a0 l a2).Kept B := by
  unfold evalTrigger
  repeat' with_reducible first
    | assumption | apply fire_kept | apply evalValue_kept | simp only [↓Lane.kept_mk, ↓Lane.kept_fold] | split | intro _
theorem failUpdate_kept a0 l (h : l.Kept B) : (failUpdate a0 l).Kept B := by
  unfold failUpdate
  repeat' with_reducible first
    | assumption | apply refuse_kept | apply emptyInactive_kept | simp only [↓Lane.kept_mk, ↓Lane.kept_fold] | split | intro _
theorem faultLogReadApply_kept a0 l (h : l.Kept B) : (faultLogReadApply a0 l).1.Kept B := by
  unfold faultLogReadApply
  repeat' with_reducible first
    | assumption | simp only [↓Lane.kept_mk, ↓Lane.kept_fold] | split | intro _
theorem feedFeatures_kept a0 a1 l (h : l.Kept B) : (feedFeatures a0 a1 l).Kept B := by
  unfold feedFeatures
  repeat' with_reducible first
    | assumption | apply Lane.kept_foldl | simp only [↓Lane.kept_mk, ↓Lane.kept_fold] | split | intro _
theorem writeRecord_kept a0 a1 a2 a3 l (h : l.Kept B) : (writeRecord a0 a1 a2 a3 l).Kept B := by
  unfold writeRecord
  split
  · exact h
  · split
    · exact setRecord_kept _ _ h
    · split
      · split
        · exact addRow_kept _ _ _ _ h
        · split
          · exact finishRecord_kept _ _ _ h
          · rename_i hs
            have h1 := takeSegment_kept h hs
            apply addRow_kept
            apply setRecord_kept
            apply setSeg_kept
            split
            · exact setSeg_kept _ _ _ h1
            · exact h1
      · split
        · exact finishRecord_kept _ _ _ h
        · rename_i hs
          exact addRow_kept _ _ _ _ (setRecord_kept _ _ (setSeg_kept _ _ _ (takeSegment_kept h hs)))
theorem writeRing_kept a0 a1 a2 a3 l (h : l.Kept B) : (writeRing a0 a1 a2 a3 l).Kept B := by
  unfold writeRing
  repeat' with_reducible first
    | assumption | apply addRow_kept | apply setSeg_kept | apply setProfile_kept | simp only [↓Lane.kept_mk,
      ↓Lane.kept_fold] | split | intro _
theorem putRow_kept a0 a1 a2 a3 l (h : l.Kept B) : (putRow a0 a1 a2 a3 l).Kept B := by
  unfold putRow
  repeat' with_reducible first
    | assumption | apply endIfDone_kept | apply writeRecord_kept | apply writeRing_kept | simp only [↓Lane.kept_mk,
      ↓Lane.kept_fold] | split | intro _
theorem formRow_kept a0 a1 l (h : l.Kept B) : (formRow a0 a1 l).Kept B := by
  unfold formRow
  repeat' with_reducible first
    | assumption | apply setProfile_kept | apply putRow_kept | simp only [↓Lane.kept_mk, ↓Lane.kept_fold] | split | intro _
theorem formRows_kept a0 a1 a2 l (h : l.Kept B) : (formRows a0 a1 a2 l).Kept B := by
  induction a2 generalizing l with
  | zero => exact h
  | succ n ih =>
    unfold formRows
    simp only []
    split
    · exact ih _ (formRow_kept _ _ _ h)
    · exact h
theorem feedProfile_kept a0 l a2 (h : l.Kept B) : (feedProfile a0 l a2).Kept B := by
  unfold feedProfile
  repeat' with_reducible first
    | assumption | apply formRows_kept | apply setProfile_kept | simp only [↓Lane.kept_mk, ↓Lane.kept_fold] | split | intro _
theorem fetchEntry_kept a0 a1 a2 l (h : l.Kept B) : (fetchEntry a0 a1 a2 l).Kept B := by
  unfold fetchEntry
  repeat' with_reducible first
    | assumption | apply disableRing_kept | apply setRing_kept | apply deliverRing_kept | apply enqueueOrWait_kept | simp
      only [↓Lane.kept_mk, ↓Lane.kept_fold] | split | intro _
theorem fetchAll_kept a0 a1 a2 l (h : l.Kept B) : (fetchAll a0 a1 a2 l).Kept B := by
  induction a1 generalizing a2 l with
  | zero => exact h
  | succ n ih =>
    unfold fetchAll
    split
    · exact h
    · exact ih _ _ (fetchEntry_kept _ _ _ _ h)

end Sys2Proof.Machine
end

