-- ==== Sys2Proof/Laws/Kept3.lean ====
section
/-!
SUPPORT. The lane functions of the model keep a lane's invariants (`Lane.Kept`), part 3 of 5: each lemma says that one
    function keeps
the lane's identity, its count and its strap, canonical tiles, sound task entries and a bounded fault log. Functions stand in
    the
order in which they call one another.
-/
set_option linter.unusedSimpArgs false

namespace Sys2Proof.Machine
variable {B : LaneId × Nat × Bool}

theorem fillSlot_kept a0 a1 l (h : l.Kept B) : (fillSlot a0 a1 l).Kept B := by
  unfold fillSlot
  repeat' with_reducible first
    | assumption | simp only [↓Lane.kept_mk, ↓Lane.kept_fold] | split | intro _
theorem flushApply_kept a0 l (h : l.Kept B) : (flushApply a0 l).1.Kept B := by
  unfold flushApply
  repeat' with_reducible first
    | assumption | apply unblock_kept | apply noteDepth_kept | apply setQueue_kept | simp only [↓Lane.kept_mk,
      ↓Lane.kept_fold] | split | intro _
theorem flushTx_kept a0 l (h : l.Kept B) : (flushTx a0 l).Kept B := by
  induction a0 generalizing l with
  | zero => exact h
  | succ n ih =>
    unfold flushTx
    split
    · exact h
    · exact ih _ (setCause_kept _ _ (emit_kept _ _ h))
theorem forwardHost_kept a0 l (h : l.Kept B) : (forwardHost a0 l).Kept B := by
  induction a0 generalizing l with
  | zero => exact h
  | succ n ih =>
    unfold forwardHost
    split
    · simp only []
      split
      · exact ih _ (enqueueOrWait_kept _ _ _ _ (popItem_kept _ _ h))
      · exact h
    · exact h
theorem noteIdle_kept l (h : l.Kept B) : (noteIdle l).Kept B := by
  unfold noteIdle
  repeat' with_reducible first
    | assumption | apply noteFrame_kept | simp only [↓Lane.kept_mk, ↓Lane.kept_fold] | split | intro _
theorem noteCopy_kept a0 a1 l (h : l.Kept B) : (noteCopy a0 a1 l).Kept B := by
  unfold noteCopy
  repeat' with_reducible first
    | assumption | simp only [↓Lane.kept_mk, ↓Lane.kept_fold] | split | intro _
theorem frameMessage_kept a0 a1 a2 l (h : l.Kept B) : (frameMessage a0 a1 a2 l).Kept B := by
  unfold frameMessage
  repeat' with_reducible first
    | assumption | apply noteIdle_kept | apply dropCopy_kept | apply deliverMessage_kept | apply noteCopy_kept | simp only
      [↓Lane.kept_mk, ↓Lane.kept_fold] | split | intro _
theorem functionReset_kept l (h : l.Kept B) : (functionReset l).Kept B := by
  unfold functionReset
  repeat' with_reducible first
    | assumption | apply disableRing_kept | apply disableRx_kept | apply disableTx_kept | apply Lane.kept_foldl | simp only
      [↓Lane.kept_mk, ↓Lane.kept_fold] | split | intro _
theorem gaugeSetApply_kept a0 l (h : l.Kept B) : (gaugeSetApply a0 l).1.Kept B := by
  unfold gaugeSetApply
  repeat' with_reducible first
    | assumption | simp only [↓Lane.kept_mk, ↓Lane.kept_fold] | split | intro _
theorem gaugeSnapshotApply_kept a0 l (h : l.Kept B) : (gaugeSnapshotApply a0 l).1.Kept B := by
  unfold gaugeSnapshotApply
  repeat' with_reducible first
    | assumption | apply clearGauge_kept | simp only [↓Lane.kept_mk, ↓Lane.kept_fold] | split | intro _
theorem giveUp_kept a0 a1 a2 l (h : l.Kept B) : (giveUp a0 a1 a2 l).Kept B := by
  unfold giveUp
  repeat' with_reducible first
    | assumption | apply absentCourse_kept | apply setPart_kept | simp only [↓Lane.kept_mk, ↓Lane.kept_fold] | split | intro _
theorem returnLink_kept a0 l (h : l.Kept B) : (returnLink a0 l).Kept B := by
  unfold returnLink
  repeat' with_reducible first
    | assumption | apply plySettle_kept | apply setLink_kept | simp only [↓Lane.kept_mk, ↓Lane.kept_fold] | split | intro _
theorem goodPlyFrame_kept a0 a1 l (h : l.Kept B) : (goodPlyFrame a0 a1 l).Kept B := by
  unfold goodPlyFrame
  repeat' with_reducible first
    | assumption | apply setLink_kept | apply transientFault_kept | apply returnLink_kept | simp only [↓Lane.kept_mk,
      ↓Lane.kept_fold] | split | intro _
theorem noteTransient_kept a0 a1 l (h : l.Kept B) : (noteTransient a0 a1 l).Kept B := by
  unfold noteTransient
  repeat' with_reducible first
    | assumption | apply transientFault_kept | apply countSerial_kept | apply setStation_kept | simp only [↓Lane.kept_mk,
      ↓Lane.kept_fold] | split | intro _
theorem goodResponse_kept a0 a1 a2 a3 l (h : l.Kept B) : (goodResponse a0 a1 a2 a3 l).Kept B := by
  unfold goodResponse
  repeat' with_reducible first
    | assumption | apply setSerial_kept | apply noteTransient_kept | apply countSerial_kept | apply setStation_kept | apply
      deliverResponse_kept | simp only [↓Lane.kept_mk, ↓Lane.kept_fold] | split | intro _
theorem gooseApply_kept a0 l (h : l.Kept B) : (gooseApply a0 l).1.Kept B := by
  unfold gooseApply
  repeat' with_reducible first
    | assumption | apply gooseStart_kept | simp only [↓Lane.kept_mk, ↓Lane.kept_fold] | split | intro _
theorem gooseMessage_kept a0 a1 a2 a3 a4 a5 a6 a7 l (h : l.Kept B) : (gooseMessage a0 a1 a2 a3 a4 a5 a6 a7 l).Kept B := by
  unfold gooseMessage
  repeat' with_reducible first
    | assumption | apply rejectDecode_kept | apply setRun_kept | apply raiseEvent_kept | apply enterState_kept | apply
      countDuplicate_kept | apply acceptFrame_kept | apply deliverValues_kept | simp only [↓Lane.kept_mk, ↓Lane.kept_fold]
        | split | intro _
theorem groupSetApply_kept a0 l (h : l.Kept B) : (groupSetApply a0 l).1.Kept B := by
  unfold groupSetApply
  repeat' with_reducible first
    | assumption | simp only [↓Lane.kept_mk, ↓Lane.kept_fold] | split | intro _
theorem handoverStart_kept a0 l (h : l.Kept B) : (handoverStart a0 l).Kept B := by
  unfold handoverStart
  repeat' with_reducible first
    | assumption | apply sendLease_kept | apply commitHandover_kept | simp only [↓Lane.kept_mk, ↓Lane.kept_fold] | split |
      intro _
theorem healthQueryApply_kept a0 l (h : l.Kept B) : (healthQueryApply a0 l).1.Kept B := by
  unfold healthQueryApply
  repeat' with_reducible first
    | assumption | simp only [↓Lane.kept_mk, ↓Lane.kept_fold] | split | intro _
theorem hearAck_kept a0 a1 a2 l (h : l.Kept B) : (hearAck a0 a1 a2 l).Kept B := by
  unfold hearAck
  repeat' with_reducible first
    | assumption | apply setMesh_kept | simp only [↓Lane.kept_mk, ↓Lane.kept_fold] | split | intro _
theorem hearBeacon_kept a0 a1 a2 l (h : l.Kept B) : (hearBeacon a0 a1 a2 l).Kept B := by
  unfold hearBeacon
  repeat' with_reducible first
    | assumption | apply setMesh_kept | simp only [↓Lane.kept_mk, ↓Lane.kept_fold] | split | intro _
theorem hearGrant_kept a0 a1 l (h : l.Kept B) : (hearGrant a0 a1 l).Kept B := by
  unfold hearGrant
  repeat' with_reducible first
    | assumption | apply setMesh_kept | simp only [↓Lane.kept_mk, ↓Lane.kept_fold] | split | intro _
theorem meshAlarms_kept a0 l (h : l.Kept B) : (meshAlarms a0 l).Kept B := by
  unfold meshAlarms
  repeat' with_reducible first
    | assumption | apply condAlarm_kept | simp only [↓Lane.kept_mk, ↓Lane.kept_fold] | split | intro _
theorem hearJoinResponse_kept a0 a1 l (h : l.Kept B) : (hearJoinResponse a0 a1 l).Kept B := by
  unfold hearJoinResponse
  repeat' with_reducible first
    | assumption | apply meshAlarms_kept | apply setMesh_kept | simp only [↓Lane.kept_mk, ↓Lane.kept_fold] | split | intro _
theorem heardNode_kept a0 a1 l (h : l.Kept B) : (heardNode a0 a1 l).Kept B := by
  unfold heardNode
  repeat' with_reducible first
    | assumption | apply setMesh_kept | simp only [↓Lane.kept_mk, ↓Lane.kept_fold] | split | intro _
theorem wake_kept a0 l (h : l.Kept B) : (wake a0 l).Kept B := by
  unfold wake
  repeat' with_reducible first
    | assumption | apply freshLane_kept | simp only [↓Lane.kept_mk, ↓Lane.kept_fold] | split | intro _
theorem hostOp_kept a0 l (hf : ∀ x : Lane, x.Kept B → (a0 x).Kept B) (h : l.Kept B) : (hostOp a0 l).Kept B := by
  unfold hostOp
  split
  · exact wake_kept _ _ h
  · split
    · exact hf _ h
    · exact h
theorem hostWitnessLost_kept a0 l (h : l.Kept B) : (hostWitnessLost a0 l).Kept B := by
  unfold hostWitnessLost
  repeat' with_reducible first
    | assumption | apply witnessLost_kept | apply setWitness_kept | simp only [↓Lane.kept_mk, ↓Lane.kept_fold] | split |
      intro _
theorem indexReadApply_kept a0 l (h : l.Kept B) : (indexReadApply a0 l).1.Kept B := by
  unfold indexReadApply
  repeat' with_reducible first
    | assumption | simp only [↓Lane.kept_mk, ↓Lane.kept_fold] | split | intro _
theorem invalidatePoints_kept a0 a1 l (h : l.Kept B) : (invalidatePoints a0 a1 l).Kept B := by
  unfold invalidatePoints
  repeat' with_reducible first
    | assumption | apply deliverValues_kept | simp only [↓Lane.kept_mk, ↓Lane.kept_fold] | split | intro _
theorem raisePattern_kept a0 a1 l (h : l.Kept B) : (raisePattern a0 a1 l).Kept B := by
  unfold raisePattern
  repeat' with_reducible first
    | assumption | apply alarmOn_kept | simp only [↓Lane.kept_mk, ↓Lane.kept_fold] | split | intro _
theorem rowAlarms_kept a0 a1 a2 l (h : l.Kept B) : (rowAlarms a0 a1 a2 l).Kept B := by
  unfold rowAlarms
  repeat' with_reducible first
    | assumption | apply gooseEvent_kept | apply raisePattern_kept | apply setPart_kept | apply Lane.kept_foldl | simp only
      [↓Lane.kept_mk, ↓Lane.kept_fold] | split | intro _
theorem issueTiles_kept a0 a1 a2 l (ha : ∀ x ∈ a2, x.tile.wf = true) (h : l.Kept B) : (issueTiles a0 a1 a2 l).Kept B := by
  unfold issueTiles
  induction a2 generalizing l with
  | nil => exact h
  | cons x t ih =>
    exact ih _ (fun y hy => ha y (List.mem_cons_of_mem _ hy))
      (setTile_kept _ _ _ (issueBundle_wf _ _ _ _ (ha x List.mem_cons_self)) h)
theorem settleTiles_kept a0 l (h : l.Kept B) : (settleTiles a0 l).Kept B :=
  modTiles_kept _ _ _ (fun _ t ht => settleAll_wf t ht) h
theorem violate_kept a0 a1 l (h : l.Kept B) : (violate a0 a1 l).Kept B := by
  unfold violate
  repeat' with_reducible first
    | assumption | apply setPart_kept | apply logFault_kept | apply countTile_kept | apply raiseEvent_kept | simp only
      [↓Lane.kept_mk, ↓Lane.kept_fold] | split | intro _
theorem memoryError_kept a0 a1 a2 a3 a4 l (h : l.Kept B) : (memoryError a0 a1 a2 a3 a4 l).Kept B := by
  unfold memoryError
  repeat' with_reducible first
    | assumption | apply violate_kept | apply tileLasting_kept | simp only [↓Lane.kept_mk, ↓Lane.kept_fold] | split | intro _
theorem issueRow_kept a0 a1 a2 a3 l (h : l.Kept B) : (issueRow a0 a1 a2 a3 l).Kept B := by
  have hts : ∀ x ∈ (if a1.library.isSome then [] else rowTiles l (partOf l a0) a1 a2), x.tile.wf = true := by
    split
    · exact fun _ hx => nomatch hx
    · exact rowTiles_wf _ _ _ h.2.1
  unfold issueRow
  simp only []
  have h1 := fun ids => rowAlarms_kept a0 (((partOf l a0).round.map (·.course.number)).getD 0) ids _
    (issueTiles_kept (partOf l a0) a2 _ l hts h)
  split
  · exact settleTiles_kept _ _ (violate_kept _ _ _ (h1 _))
  · exact settleTiles_kept _ _ (memoryError_kept _ _ _ _ _ _ (h1 _))
  · exact setPart_kept _ _ _ (countTile_kept _ _ _ (h1 _))
  · exact setPart_kept _ _ _ (h1 _)
theorem nodeJoins_kept a0 a1 a2 a3 l (h : l.Kept B) : (nodeJoins a0 a1 a2 a3 l).Kept B := by
  unfold nodeJoins
  repeat' with_reducible first
    | assumption | apply setMesh_kept | simp only [↓Lane.kept_mk, ↓Lane.kept_fold] | split | intro _
theorem joinRequest_kept a0 a1 a2 l (h : l.Kept B) : (joinRequest a0 a1 a2 l).Kept B := by
  unfold joinRequest
  repeat' with_reducible first
    | assumption | apply meshAlarms_kept | apply nodeJoins_kept | apply countMesh_kept | apply logFault_kept | apply
      originate_kept | apply radioQueue_kept | apply sendGrants_kept | simp only [↓Lane.kept_mk, ↓Lane.kept_fold] | split |
        intro _
theorem keepApply_kept a0 l (h : l.Kept B) : (keepApply a0 l).1.Kept B := by
  unfold keepApply
  repeat' with_reducible first
    | assumption | apply setRecord_kept | apply sealSegs_kept | simp only [↓Lane.kept_mk, ↓Lane.kept_fold] | split | intro _
theorem keyDeleteApply_kept a0 l (h : l.Kept B) : (keyDeleteApply a0 l).1.Kept B := by
  unfold keyDeleteApply
  repeat' with_reducible first
    | assumption | simp only [↓Lane.kept_mk, ↓Lane.kept_fold] | split | intro _
theorem leaveZeroised_kept l (h : l.Kept B) : (leaveZeroised l).Kept B := by
  unfold leaveZeroised
  repeat' with_reducible first
    | assumption | apply dropCond_kept | simp only [↓Lane.kept_mk, ↓Lane.kept_fold] | split | intro _
theorem keyDeriveApply_kept a0 l (h : l.Kept B) : (keyDeriveApply a0 l).1.Kept B := by
  unfold keyDeriveApply
  repeat' with_reducible first
    | assumption | apply plySettle_kept | apply fillSlot_kept | apply leaveZeroised_kept | simp only [↓Lane.kept_mk,
      ↓Lane.kept_fold] | split | intro _
theorem keyGenApply_kept a0 l (h : l.Kept B) : (keyGenApply a0 l).1.Kept B := by
  unfold keyGenApply
  apply plySettle_kept
  apply fillSlot_kept
  unfold generateMaterial
  simp only []
  split <;> exact leaveZeroised_kept _ h
theorem keyInvalidateApply_kept a0 l (h : l.Kept B) : (keyInvalidateApply a0 l).1.Kept B := by
  unfold keyInvalidateApply
  repeat' with_reducible first
    | assumption | simp only [↓Lane.kept_mk, ↓Lane.kept_fold] | split | intro _
theorem keyWriteApply_kept a0 l (h : l.Kept B) : (keyWriteApply a0 l).1.Kept B := by
  unfold keyWriteApply
  repeat' with_reducible first
    | assumption | apply fillSlot_kept | apply leaveZeroised_kept | apply plySettle_kept | simp only [↓Lane.kept_mk,
      ↓Lane.kept_fold] | split | intro _
theorem withdrawTrigger_kept a0 l (h : l.Kept B) : (withdrawTrigger a0 l).Kept B := by
  unfold withdrawTrigger
  repeat' with_reducible first
    | assumption | apply discardRecord_kept | apply setRecord_kept | simp only [↓Lane.kept_mk, ↓Lane.kept_fold] | split |
      intro _
theorem withdraw_kept a0 l (h : l.Kept B) : (withdraw a0 l).Kept B :=
  have k := withdrawTrigger_kept a0 l h
  ⟨k.1, h.2.1, k.2.2.1, h.2.2.2⟩
theorem takeAbort_kept a0 l (h : l.Kept B) : (takeAbort a0 l).Kept B := by
  unfold takeAbort
  split
  · exact postReply_kept _ _ _ _ _ h
  · split
    · exact postReply_kept _ _ _ _ _ (refuse_kept _ _ _ h)
    · exact postReply_kept _ _ _ _ _ (refuse_kept _ _ _ h)
    · exact postReply_kept _ _ _ _ _ (refuse_kept _ _ _ (withdraw_kept _ _ h))
    · exact postReply_kept _ _ _ _ _
        ⟨h.1, h.2.1, entriesOk_map _ (fun e => by split <;> exact ⟨rfl, rfl⟩) h.2.2.1, h.2.2.2⟩
theorem laneAbortTakesEffect_kept l (h : l.Kept B) : (laneAbortTakesEffect l).Kept B := by
  unfold laneAbortTakesEffect
  repeat' with_reducible first
    | assumption | apply takeAbort_kept | simp only [↓Lane.kept_mk, ↓Lane.kept_fold] | split | intro _
theorem laneAckSend_kept a0 l (h : l.Kept B) : (laneAckSend a0 l).Kept B := by
  unfold laneAckSend
  repeat' with_reducible first
    | assumption | apply setMesh_kept | apply radioSend_kept | simp only [↓Lane.kept_mk, ↓Lane.kept_fold] | split | intro _
theorem laneAlarmHold_kept a0 l (h : l.Kept B) : (laneAlarmHold a0 l).Kept B := by
  unfold laneAlarmHold
  repeat' with_reducible first
    | assumption | apply settleAlarm_kept | simp only [↓Lane.kept_mk, ↓Lane.kept_fold] | split | intro _
theorem routeApply_kept a0 l (h : l.Kept B) : (routeApply a0 l).1.Kept B := by
  unfold routeApply
  repeat' with_reducible first
    | assumption | apply refreshPins_kept | apply Lane.kept_foldl | simp only [↓Lane.kept_mk, ↓Lane.kept_fold] | split |
      intro _
theorem laneAlarmRoute_kept a0 l (h : l.Kept B) : (laneAlarmRoute a0 l).Kept B := by
  unfold laneAlarmRoute
  repeat' with_reducible first
    | assumption | apply serve_kept | apply routeApply_kept | simp only [↓Lane.kept_mk, ↓Lane.kept_fold] | split | intro _
theorem laneAlignerWrite_kept l (h : l.Kept B) : (laneAlignerWrite l).Kept B := by
  unfold laneAlignerWrite
  repeat' with_reducible first
    | assumption | apply alignArrival_kept | simp only [↓Lane.kept_mk, ↓Lane.kept_fold] | split | intro _
theorem laneAnnounce_kept a0 l (h : l.Kept B) : (laneAnnounce a0 l).Kept B := by
  unfold laneAnnounce
  repeat' with_reducible first
    | assumption | apply dropPtp_kept | apply decidePorts_kept | apply setPtpPort_kept | apply setRef_kept | apply
      refreshUtc_kept | simp only [↓Lane.kept_mk, ↓Lane.kept_fold] | split | intro _
theorem laneAnnounceCommit_kept a0 l (h : l.Kept B) : (laneAnnounceCommit a0 l).Kept B := by
  unfold laneAnnounceCommit
  repeat' with_reducible first
    | assumption | apply postReply_kept | simp only [↓Lane.kept_mk, ↓Lane.kept_fold] | split | intro _
theorem laneArm_kept a0 l (h : l.Kept B) : (laneArm a0 l).Kept B := by
  unfold laneArm
  repeat' with_reducible first
    | assumption | apply serve_kept | apply armApply_kept | simp only [↓Lane.kept_mk, ↓Lane.kept_fold] | split | intro _
theorem laneArrayQuery_kept a0 l (h : l.Kept B) : (laneArrayQuery a0 l).Kept B := by
  unfold laneArrayQuery
  repeat' with_reducible first
    | assumption | apply serve_kept | apply arrayQueryApply_kept | simp only [↓Lane.kept_mk, ↓Lane.kept_fold] | split |
      intro _
theorem takeFromRing_kept a0 l (h : l.Kept B) : (takeFromRing a0 l).Kept B := by
  unfold takeFromRing
  repeat' with_reducible first
    | assumption | apply popItem_kept | simp only [↓Lane.kept_mk, ↓Lane.kept_fold] | split | intro _
theorem laneArrival_kept a0 a1 l (h : l.Kept B) : (laneArrival a0 a1 l).Kept B := by
  unfold laneArrival
  repeat' with_reducible first
    | assumption | apply arrive_kept | apply takeFromRing_kept | simp only [↓Lane.kept_mk, ↓Lane.kept_fold] | split | intro _
theorem laneAuthSet_kept a0 l (h : l.Kept B) : (laneAuthSet a0 l).Kept B := by
  unfold laneAuthSet
  repeat' with_reducible first
    | assumption | apply serve_kept | apply authSetApply_kept | simp only [↓Lane.kept_mk, ↓Lane.kept_fold] | split | intro _
theorem laneAzwellLoss_kept a0 l (h : l.Kept B) : (laneAzwellLoss a0 l).Kept B := by
  unfold laneAzwellLoss
  repeat' with_reducible first
    | assumption | apply followPull_kept | apply plySettle_kept | apply setAz_kept | simp only [↓Lane.kept_mk,
      ↓Lane.kept_fold] | split | intro _
theorem laneAzwellReceive_kept a0 a1 l (h : l.Kept B) : (laneAzwellReceive a0 a1 l).Kept B := by
  unfold laneAzwellReceive
  repeat' with_reducible first
    | assumption | apply azDrop_kept | apply azAck_kept | apply azAccept_kept | simp only [↓Lane.kept_mk, ↓Lane.kept_fold]
      | split | intro _
theorem laneAzwellRetransmit_kept a0 l (h : l.Kept B) : (laneAzwellRetransmit a0 l).Kept B := by
  unfold laneAzwellRetransmit
  repeat' with_reducible first
    | assumption | apply azResend_kept | apply Lane.kept_foldl | simp only [↓Lane.kept_mk, ↓Lane.kept_fold] | split | intro _
theorem loseParent_kept a0 l (h : l.Kept B) : (loseParent a0 l).Kept B := by
  unfold loseParent
  repeat' with_reducible first
    | assumption | apply meshAlarms_kept | apply setMesh_kept | simp only [↓Lane.kept_mk, ↓Lane.kept_fold] | split | intro _
theorem laneBeaconMiss_kept a0 l (h : l.Kept B) : (laneBeaconMiss a0 l).Kept B := by
  unfold laneBeaconMiss
  repeat' with_reducible first
    | assumption | apply setMesh_kept | apply loseParent_kept | simp only [↓Lane.kept_mk, ↓Lane.kept_fold] | split | intro _
theorem releasePattern_kept a0 a1 l (h : l.Kept B) : (releasePattern a0 a1 l).Kept B := by
  unfold releasePattern
  repeat' with_reducible first
    | assumption | apply gooseEvent_kept | apply clearActive_kept | apply Lane.kept_foldl | simp only [↓Lane.kept_mk,
      ↓Lane.kept_fold] | split | intro _
theorem releaseAlarms_kept a0 a1 l (h : l.Kept B) : (releaseAlarms a0 a1 l).Kept B :=
  releasePattern_kept _ _ _ h
theorem laneBindOff_kept a0 a1 a2 l (h : l.Kept B) : (laneBindOff a0 a1 a2 l).Kept B := by
  unfold laneBindOff
  repeat' with_reducible first
    | assumption | apply settleTiles_kept | apply memoryError_kept | apply releaseAlarms_kept | apply cleanEnd_kept | apply
      gaugeSample_kept | apply deliverDerived_kept | apply feedFeatures_kept | apply publishCourse_kept | apply
        produceDigest_kept | simp only [↓Lane.kept_mk, ↓Lane.kept_fold] | split | intro _
theorem laneBoundaryApply_kept a0 l (h : l.Kept B) : (laneBoundaryApply a0 l).Kept B := by
  unfold laneBoundaryApply
  repeat' with_reducible first
    | assumption | apply applySwap_kept | apply postReply_kept | apply setPart_kept | apply applyParams_kept | apply
      stagePortion_kept | apply applyAuto_kept | simp only [↓Lane.kept_mk, ↓Lane.kept_fold] | split | intro _
theorem laneBuildComplete_kept a0 l (h : l.Kept B) : (laneBuildComplete a0 l).Kept B := by
  unfold laneBuildComplete
  repeat' with_reducible first
    | assumption | apply failUpdate_kept | apply postReply_kept | apply resetToStart_kept | simp only [↓Lane.kept_mk,
      ↓Lane.kept_fold] | split | intro _
theorem startRound_kept a0 a1 a2 l (h : l.Kept B) : (startRound a0 a1 a2 l).Kept B := by
  have h1 := modTiles_kept a2 (fun _ t =>
    { t with v := [], s := [], p := [], pc := imgEntry a1.image, loops := [], results := [], stores := [] }) l
    (fun _ t ht => tile_cleared_wf ht) h
  exact setPart_kept _ _ _ h1
theorem laneBundleIssue_kept a0 a1 l (h : l.Kept B) : (laneBundleIssue a0 a1 l).Kept B := by
  unfold laneBundleIssue
  repeat' with_reducible first
    | assumption | apply startRound_kept | apply settleTiles_kept | apply memoryError_kept | apply issueRow_kept | simp
      only [↓Lane.kept_mk, ↓Lane.kept_fold] | split | intro _
theorem writeHeader_kept a0 a1 a2 a3 l (h : l.Kept B) : (writeHeader a0 a1 a2 a3 l).Kept B := by
  unfold writeHeader
  repeat' with_reducible first
    | assumption | apply modTiles_kept | apply writeBytes_wf | apply castEntry_wf | simp only [↓Lane.kept_mk,
      ↓Lane.kept_fold] | split | intro _
theorem laneCastOn_kept a0 l (h : l.Kept B) : (laneCastOn a0 l).Kept B := by
  unfold laneCastOn
  repeat' with_reducible first
    | assumption | apply skipCourse_kept | apply setPart_kept | apply modTile_kept | apply writeHeader_kept | apply
      Lane.kept_foldl | apply writeBytes_wf | apply castEntry_wf | simp only [↓Lane.kept_mk, ↓Lane.kept_fold] | split |
        intro _
theorem laneCfgReceive_kept a0 a1 l (h : l.Kept B) : (laneCfgReceive a0 a1 l).Kept B := by
  unfold laneCfgReceive
  repeat' with_reducible first
    | assumption | apply countStream_kept | apply receiveCfg_kept | simp only [↓Lane.kept_mk, ↓Lane.kept_fold] | split |
      intro _
theorem laneCfgRetry_kept a0 l (h : l.Kept B) : (laneCfgRetry a0 l).Kept B := by
  unfold laneCfgRetry
  repeat' with_reducible first
    | assumption | apply requestCfg_kept | apply setRun_kept | simp only [↓Lane.kept_mk, ↓Lane.kept_fold] | split | intro _
theorem laneClaimRepeat_kept a0 l (h : l.Kept B) : (laneClaimRepeat a0 l).Kept B := by
  unfold laneClaimRepeat
  repeat' with_reducible first
    | assumption | apply askWitness_kept | apply setLease_kept | simp only [↓Lane.kept_mk, ↓Lane.kept_fold] | split | intro _
theorem laneClassifierSet_kept a0 l (h : l.Kept B) : (laneClassifierSet a0 l).Kept B := by
  unfold laneClassifierSet
  repeat' with_reducible first
    | assumption | apply serve_kept | apply classifierSetApply_kept | simp only [↓Lane.kept_mk, ↓Lane.kept_fold] | split |
      intro _
theorem laneConfigCommit_kept a0 l (h : l.Kept B) : (laneConfigCommit a0 l).Kept B := by
  unfold laneConfigCommit
  repeat' with_reducible first
    | assumption | apply serve_kept | apply configCommitApply_kept | simp only [↓Lane.kept_mk, ↓Lane.kept_fold] | split |
      intro _
theorem laneConfigRead_kept a0 l (h : l.Kept B) : (laneConfigRead a0 l).Kept B := by
  unfold laneConfigRead
  repeat' with_reducible first
    | assumption | apply serve_kept | apply configReadApply_kept | simp only [↓Lane.kept_mk, ↓Lane.kept_fold] | split |
      intro _
theorem laneConfirmation_kept l (h : l.Kept B) : (laneConfirmation l).Kept B := by
  unfold laneConfirmation
  repeat' with_reducible first
    | assumption | apply confirmImage_kept | simp only [↓Lane.kept_mk, ↓Lane.kept_fold] | split | intro _
theorem laneCourseInstant_kept a0 l (h : l.Kept B) : (laneCourseInstant a0 l).Kept B := by
  unfold laneCourseInstant
  repeat' with_reducible first
    | assumption | apply openCourses_kept | simp only [↓Lane.kept_mk, ↓Lane.kept_fold] | split | intro _
theorem pcieOp_kept a0 l (hf : ∀ x : Lane, x.Kept B → (a0 x).Kept B) (h : l.Kept B) : (pcieOp a0 l).Kept B := by
  unfold pcieOp
  apply hostOp_kept _ _ _ h
  intro x hx
  split
  · exact hx
  · exact hf _ hx
theorem ringCqHead_kept a0 a1 l (h : l.Kept B) : (ringCqHead a0 a1 l).Kept B := by
  unfold ringCqHead
  repeat' with_reducible first
    | assumption | apply disableRing_kept | apply setRing_kept | apply drainRing_kept | simp only [↓Lane.kept_mk,
      ↓Lane.kept_fold] | split | intro _
theorem laneCqHeadWrite_kept a0 a1 l (h : l.Kept B) : (laneCqHeadWrite a0 a1 l).Kept B := by
  unfold laneCqHeadWrite
  repeat' with_reducible first
    | assumption | apply pcieOp_kept | apply ringCqHead_kept | simp only [↓Lane.kept_mk, ↓Lane.kept_fold] | split | intro _
theorem sessionCommand_kept a0 a1 a2 a3 l (hf : ∀ x : Lane, x.Kept B → (a0 a1 x).Kept B) (h : l.Kept B) :
    (sessionCommand a0 a1 a2 a3 l).Kept B := by
  unfold sessionCommand
  repeat' with_reducible first
    | assumption | apply hf | apply setSession_kept | split
theorem setSending_kept a0 a1 l (h : l.Kept B) : (setSending a0 a1 l).Kept B := by
  unfold setSending
  repeat' with_reducible first
    | assumption | simp only [↓Lane.kept_mk, ↓Lane.kept_fold] | split | intro _
theorem laneDataOff_kept a0 a1 a2 l (h : l.Kept B) : (laneDataOff a0 a1 a2 l).Kept B := by
  unfold laneDataOff
  repeat' with_reducible first
    | assumption | apply sessionCommand_kept | apply setSending_kept | simp only [↓Lane.kept_mk, ↓Lane.kept_fold] | split |
      intro _
theorem laneDataOn_kept a0 a1 a2 l (h : l.Kept B) : (laneDataOn a0 a1 a2 l).Kept B := by
  unfold laneDataOn
  repeat' with_reducible first
    | assumption | apply sessionCommand_kept | apply setSending_kept | simp only [↓Lane.kept_mk, ↓Lane.kept_fold] | split |
      intro _
theorem laneDatagram_kept a0 a1 a2 a3 l (h : l.Kept B) : (laneDatagram a0 a1 a2 a3 l).Kept B := by
  unfold laneDatagram
  repeat' with_reducible first
    | assumption | apply dropDatagram_kept | apply emit_kept | apply arrive_kept | simp only [↓Lane.kept_mk,
      ↓Lane.kept_fold] | split | intro _
theorem modCourse_kept a0 a1 a2 l (h : l.Kept B) : (modCourse a0 a1 a2 l).Kept B := by
  unfold modCourse
  repeat' with_reducible first
    | assumption | apply setPlane_kept | simp only [↓Lane.kept_mk, ↓Lane.kept_fold] | split | intro _
theorem laneDeadlineTick_kept a0 l (h : l.Kept B) : (laneDeadlineTick a0 l).Kept B := by
  unfold laneDeadlineTick
  repeat' with_reducible first
    | assumption | apply closeCourses_kept | apply modCourse_kept | simp only [↓Lane.kept_mk, ↓Lane.kept_fold] | split |
      intro _
theorem laneDelayTick_kept l (h : l.Kept B) : (laneDelayTick l).Kept B := by
  unfold laneDelayTick
  apply Lane.kept_foldl _ _ h
  intro x a hx
  apply peSupersede_kept
  exact ⟨hx.1, hx.2.1, entriesOk_map _ (fun e => by split <;> exact ⟨rfl, rfl⟩) hx.2.2.1, hx.2.2.2⟩
theorem laneDerivedCreate_kept a0 l (h : l.Kept B) : (laneDerivedCreate a0 l).Kept B := by
  unfold laneDerivedCreate
  repeat' with_reducible first
    | assumption | apply serve_kept | apply derivedCreateApply_kept | simp only [↓Lane.kept_mk, ↓Lane.kept_fold] | split |
      intro _
theorem laneDerivedRemove_kept a0 l (h : l.Kept B) : (laneDerivedRemove a0 l).Kept B := by
  unfold laneDerivedRemove
  repeat' with_reducible first
    | assumption | apply serve_kept | apply derivedRemoveApply_kept | simp only [↓Lane.kept_mk, ↓Lane.kept_fold] | split |
      intro _
theorem laneDieFailure_kept l (h : l.Kept B) : (laneDieFailure l).Kept B := by
  unfold laneDieFailure
  repeat' with_reducible first
    | assumption | simp only [↓Lane.kept_mk, ↓Lane.kept_fold] | split | intro _
theorem laneDigestExpiry_kept l (h : l.Kept B) : (laneDigestExpiry l).Kept B := by
  unfold laneDigestExpiry
  repeat' with_reducible first
    | assumption | simp only [↓Lane.kept_mk, ↓Lane.kept_fold] | split | intro _
theorem laneDisarm_kept a0 l (h : l.Kept B) : (laneDisarm a0 l).Kept B := by
  unfold laneDisarm
  repeat' with_reducible first
    | assumption | apply serve_kept | apply disarmApply_kept | simp only [↓Lane.kept_mk, ↓Lane.kept_fold] | split | intro _
theorem laneDispatch_kept l (h : l.Kept B) : (laneDispatch l).Kept B := by
  unfold laneDispatch
  repeat' with_reducible first
    | assumption | apply dispatch_kept | simp only [↓Lane.kept_mk, ↓Lane.kept_fold] | split | intro _
theorem laneDrillRun_kept a0 l (h : l.Kept B) : (laneDrillRun a0 l).Kept B := by
  unfold laneDrillRun
  repeat' with_reducible first
    | assumption | apply serveHeld_kept | apply drillStart_kept | simp only [↓Lane.kept_mk, ↓Lane.kept_fold] | split | intro _
theorem laneDrillVerdict_kept a0 l (h : l.Kept B) : (laneDrillVerdict a0 l).Kept B := by
  unfold laneDrillVerdict
  repeat' with_reducible first
    | assumption | apply raiseEvent_kept | apply postReply_kept | apply leaveDrill_kept | simp only [↓Lane.kept_mk,
      ↓Lane.kept_fold] | split | intro _
theorem laneEarlyRestart_kept l (h : l.Kept B) : (laneEarlyRestart l).Kept B := by
  unfold laneEarlyRestart
  repeat' with_reducible first
    | assumption | apply freshLane_kept | simp only [↓Lane.kept_mk, ↓Lane.kept_fold] | split | intro _
theorem takeEgress_kept a0 l (h : l.Kept B) : (takeEgress a0 l).Kept B := by
  unfold takeEgress
  repeat' with_reducible first
    | assumption | apply drainSessions_kept | apply popItem_kept | apply forwardHost_kept | simp only [↓Lane.kept_mk,
      ↓Lane.kept_fold] | split | intro _
theorem txWriteBack_kept a0 a1 l (h : l.Kept B) : (txWriteBack a0 a1 l).Kept B := by
  unfold txWriteBack
  repeat' with_reducible first
    | assumption | apply flushTx_kept | simp only [↓Lane.kept_mk, ↓Lane.kept_fold] | split | intro _
theorem sampleEgress_kept a0 l (h : l.Kept B) : (sampleEgress a0 l).Kept B := by
  unfold sampleEgress
  repeat' with_reducible first
    | assumption | apply gaugeSample_kept | simp only [↓Lane.kept_mk, ↓Lane.kept_fold] | split | intro _
theorem laneEgress_kept a0 a1 l (h : l.Kept B) : (laneEgress a0 a1 l).Kept B := by
  unfold laneEgress
  repeat' with_reducible first
    | assumption | apply takeEgress_kept | apply txWriteBack_kept | apply countEth_kept | apply setEth_kept | apply
      emit_kept | apply sampleEgress_kept | simp only [↓Lane.kept_mk, ↓Lane.kept_fold] | split | intro _
theorem markTransient_kept a0 l (h : l.Kept B) : (markTransient a0 l).Kept B :=
  ⟨h.1, h.2.1, entriesOk_map _ (fun e => by split <;> exact ⟨rfl, rfl⟩) h.2.2.1, h.2.2.2⟩
theorem retirePage_kept a0 l (h : l.Kept B) : (retirePage a0 l).Kept B := by
  unfold retirePage
  repeat' with_reducible first
    | assumption | apply dropPage_kept | apply declareUnhealthy_kept | apply criticalFault_kept | simp only [↓Lane.kept_mk,
      ↓Lane.kept_fold] | split | intro _
theorem lastingAction_kept a0 l (h : l.Kept B) : (lastingAction a0 l).Kept B := by
  unfold lastingAction
  repeat' with_reducible first
    | assumption | apply declareUnhealthy_kept | apply retirePage_kept | apply criticalFault_kept | simp only
      [↓Lane.kept_mk, ↓Lane.kept_fold] | split | intro _
theorem laneErrorRetry_kept a0 a1 a2 l (h : l.Kept B) : (laneErrorRetry a0 a1 a2 l).Kept B := by
  unfold laneErrorRetry
  repeat' with_reducible first
    | assumption | apply markTransient_kept | apply transientFault_kept | apply lastingAction_kept | apply
      lastingFault_kept | simp only [↓Lane.kept_mk, ↓Lane.kept_fold] | split | intro _
theorem laneFaultLogRead_kept a0 l (h : l.Kept B) : (laneFaultLogRead a0 l).Kept B := by
  unfold laneFaultLogRead
  repeat' with_reducible first
    | assumption | apply serve_kept | apply faultLogReadApply_kept | simp only [↓Lane.kept_mk, ↓Lane.kept_fold] | split |
      intro _
theorem laneFrameReceive_kept a0 a1 l (h : l.Kept B) : (laneFrameReceive a0 a1 l).Kept B := by
  unfold laneFrameReceive
  repeat' with_reducible first
    | assumption | apply countEth_kept | apply classify_kept | simp only [↓Lane.kept_mk, ↓Lane.kept_fold] | split | intro _
theorem laneFreeLease_kept a0 l (h : l.Kept B) : (laneFreeLease a0 l).Kept B := by
  unfold laneFreeLease
  repeat' with_reducible first
    | assumption | apply freeLease_kept | apply setLease_kept | simp only [↓Lane.kept_mk, ↓Lane.kept_fold] | split | intro _
theorem laneFreeLeaseWait_kept a0 l (h : l.Kept B) : (laneFreeLeaseWait a0 l).Kept B := by
  unfold laneFreeLeaseWait
  repeat' with_reducible first
    | assumption | apply laneFreeLease_kept | apply followPull_kept | simp only [↓Lane.kept_mk, ↓Lane.kept_fold] | split |
      intro _
theorem laneFunctionReset_kept l (h : l.Kept B) : (laneFunctionReset l).Kept B := by
  unfold laneFunctionReset
  repeat' with_reducible first
    | assumption | apply functionReset_kept | simp only [↓Lane.kept_mk, ↓Lane.kept_fold] | split | intro _
theorem laneGauSnapshot_kept a0 l (h : l.Kept B) : (laneGauSnapshot a0 l).Kept B := by
  unfold laneGauSnapshot
  repeat' with_reducible first
    | assumption | apply hostOp_kept | apply copyGauge_kept | simp only [↓Lane.kept_mk, ↓Lane.kept_fold] | split | intro _
theorem laneGauSnapshotClear_kept a0 l (h : l.Kept B) : (laneGauSnapshotClear a0 l).Kept B := by
  unfold laneGauSnapshotClear
  repeat' with_reducible first
    | assumption | apply hostOp_kept | apply clearGauge_kept | apply copyGauge_kept | simp only [↓Lane.kept_mk,
      ↓Lane.kept_fold] | split | intro _
theorem laneGaugeSet_kept a0 l (h : l.Kept B) : (laneGaugeSet a0 l).Kept B := by
  unfold laneGaugeSet
  repeat' with_reducible first
    | assumption | apply serve_kept | apply gaugeSetApply_kept | simp only [↓Lane.kept_mk, ↓Lane.kept_fold] | split | intro _
theorem laneGaugeSnapshot_kept a0 l (h : l.Kept B) : (laneGaugeSnapshot a0 l).Kept B := by
  unfold laneGaugeSnapshot
  repeat' with_reducible first
    | assumption | apply serve_kept | apply gaugeSnapshotApply_kept | simp only [↓Lane.kept_mk, ↓Lane.kept_fold] | split |
      intro _
theorem rejectSize_kept a0 l (h : l.Kept B) : (rejectSize a0 l).Kept B := by
  unfold rejectSize
  repeat' with_reducible first
    | assumption | apply countStream_kept | simp only [↓Lane.kept_mk, ↓Lane.kept_fold] | split | intro _
theorem laneGooseDecode_kept a0 l (h : l.Kept B) : (laneGooseDecode a0 l).Kept B := by
  unfold laneGooseDecode
  repeat' with_reducible first
    | assumption | apply popItem_kept | apply dropState_kept | apply rejectSize_kept | apply enterKeyLost_kept | apply
      rejectAuth_kept | apply gooseMessage_kept | simp only [↓Lane.kept_mk, ↓Lane.kept_fold] | split | intro _
theorem laneGoosePub_kept a0 l (h : l.Kept B) : (laneGoosePub a0 l).Kept B := by
  unfold laneGoosePub
  repeat' with_reducible first
    | assumption | apply serve_kept | apply gooseApply_kept | simp only [↓Lane.kept_mk, ↓Lane.kept_fold] | split | intro _
theorem laneGooseRepeat_kept a0 l (h : l.Kept B) : (laneGooseRepeat a0 l).Kept B := by
  unfold laneGooseRepeat
  repeat' with_reducible first
    | assumption | apply gooseTransmit_kept | simp only [↓Lane.kept_mk, ↓Lane.kept_fold] | split | intro _
theorem laneGroupSet_kept a0 l (h : l.Kept B) : (laneGroupSet a0 l).Kept B := by
  unfold laneGroupSet
  repeat' with_reducible first
    | assumption | apply serve_kept | apply groupSetApply_kept | simp only [↓Lane.kept_mk, ↓Lane.kept_fold] | split | intro _
theorem setBuffer_kept a0 l (h : l.Kept B) : (setBuffer a0 l).Kept B := by
  unfold setBuffer
  repeat' with_reducible first
    | assumption | simp only [↓Lane.kept_mk, ↓Lane.kept_fold] | split | intro _
theorem laneHalving_kept a0 l (h : l.Kept B) : (laneHalving a0 l).Kept B := by
  unfold laneHalving
  repeat' with_reducible first
    | assumption | apply setBuffer_kept | apply setProfile_kept | simp only [↓Lane.kept_mk, ↓Lane.kept_fold] | split | intro _
theorem laneHealthQuery_kept a0 l (h : l.Kept B) : (laneHealthQuery a0 l).Kept B := by
  unfold laneHealthQuery
  repeat' with_reducible first
    | assumption | apply serve_kept | apply healthQueryApply_kept | simp only [↓Lane.kept_mk, ↓Lane.kept_fold] | split |
      intro _
theorem laneHealthSend_kept l (h : l.Kept B) : (laneHealthSend l).Kept B := by
  unfold laneHealthSend
  repeat' with_reducible first
    | assumption | apply plySend_kept | apply azSend_kept | apply Lane.kept_foldl | simp only [↓Lane.kept_mk,
      ↓Lane.kept_fold] | split | intro _
theorem laneHeartbeat_kept l (h : l.Kept B) : (laneHeartbeat l).Kept B := by
  unfold laneHeartbeat
  repeat' with_reducible first
    | assumption | simp only [↓Lane.kept_mk, ↓Lane.kept_fold] | split | intro _
theorem rxTail_kept a0 a1 l (h : l.Kept B) : (rxTail a0 a1 l).Kept B := by
  unfold rxTail
  repeat' with_reducible first
    | assumption | apply disableRx_kept | apply drainRx_kept | simp only [↓Lane.kept_mk, ↓Lane.kept_fold] | split | intro _
theorem laneHfrRxTail_kept a0 a1 l (h : l.Kept B) : (laneHfrRxTail a0 a1 l).Kept B := by
  unfold laneHfrRxTail
  repeat' with_reducible first
    | assumption | apply pcieOp_kept | apply rxTail_kept | simp only [↓Lane.kept_mk, ↓Lane.kept_fold] | split | intro _
theorem takeTx_kept a0 a1 l (h : l.Kept B) : (takeTx a0 a1 l).Kept B := by
  unfold takeTx
  repeat' with_reducible first
    | assumption | apply disableTx_kept | apply txWriteBack_kept | apply enqueueOrWait_kept | apply forwardHost_kept | simp
      only [↓Lane.kept_mk, ↓Lane.kept_fold] | split | intro _
theorem takeAllTx_kept a0 a1 l (h : l.Kept B) : (takeAllTx a0 a1 l).Kept B := by
  induction a0 generalizing a1 l with
  | zero => exact h
  | succ n ih =>
    unfold takeAllTx
    split
    · exact h
    · exact ih _ _ (takeTx_kept _ _ _ h)
theorem txDoorbell_kept a0 a1 l (h : l.Kept B) : (txDoorbell a0 a1 l).Kept B := by
  unfold txDoorbell
  repeat' with_reducible first
    | assumption | apply disableTx_kept | apply takeAllTx_kept | simp only [↓Lane.kept_mk, ↓Lane.kept_fold] | split | intro _
theorem laneHfrTxDoorbell_kept a0 a1 l (h : l.Kept B) : (laneHfrTxDoorbell a0 a1 l).Kept B := by
  unfold laneHfrTxDoorbell
  repeat' with_reducible first
    | assumption | apply pcieOp_kept | apply txDoorbell_kept | simp only [↓Lane.kept_mk, ↓Lane.kept_fold] | split | intro _
theorem laneHoldoffExpiry_kept a0 l (h : l.Kept B) : (laneHoldoffExpiry a0 l).Kept B := by
  unfold laneHoldoffExpiry
  repeat' with_reducible first
    | assumption | apply signalCause_kept | simp only [↓Lane.kept_mk, ↓Lane.kept_fold] | split | intro _
theorem laneHostDormant_kept a0 l (h : l.Kept B) : (laneHostDormant a0 l).Kept B := by
  unfold laneHostDormant
  repeat' with_reducible first
    | assumption | apply wake_kept | apply answerDormant_kept | simp only [↓Lane.kept_mk, ↓Lane.kept_fold] | split | intro _
theorem laneHubLost_kept l (h : l.Kept B) : (laneHubLost l).Kept B := by
  unfold laneHubLost
  repeat' with_reducible first
    | assumption | apply plySettle_kept | apply raiseCond_kept | apply hostWitnessLost_kept | simp only [↓Lane.kept_mk,
      ↓Lane.kept_fold] | split | intro _
theorem resumeHost_kept l (h : l.Kept B) : (resumeHost l).Kept B := by
  unfold resumeHost
  repeat' with_reducible first
    | assumption | apply drainRing_kept | apply drainRx_kept | apply Lane.kept_foldl | simp only [↓Lane.kept_mk,
      ↓Lane.kept_fold] | split | intro _
theorem laneHubReturn_kept l (h : l.Kept B) : (laneHubReturn l).Kept B := by
  unfold laneHubReturn
  repeat' with_reducible first
    | assumption | apply plySettle_kept | apply resumeHost_kept | apply logFault_kept | apply dropCond_kept | simp only
      [↓Lane.kept_mk, ↓Lane.kept_fold] | split | intro _
theorem laneIndexRead_kept a0 l (h : l.Kept B) : (laneIndexRead a0 l).Kept B := by
  unfold laneIndexRead
  repeat' with_reducible first
    | assumption | apply serve_kept | apply indexReadApply_kept | simp only [↓Lane.kept_mk, ↓Lane.kept_fold] | split | intro _
theorem sampleGauge_kept a0 a1 a2 l (h : l.Kept B) : (sampleGauge a0 a1 a2 l).Kept B := by
  unfold sampleGauge
  repeat' with_reducible first
    | assumption | simp only [↓Lane.kept_mk, ↓Lane.kept_fold] | split | intro _
theorem setJunction_kept a0 l (h : l.Kept B) : (setJunction a0 l).Kept B := by
  unfold setJunction
  repeat' with_reducible first
    | assumption | apply retune_kept | simp only [↓Lane.kept_mk, ↓Lane.kept_fold] | split | intro _
theorem laneIntervalSample_kept a0 a1 l (h : l.Kept B) : (laneIntervalSample a0 a1 l).Kept B := by
  unfold laneIntervalSample
  repeat' with_reducible first
    | assumption | apply sampleGauge_kept | apply setJunction_kept | simp only [↓Lane.kept_mk, ↓Lane.kept_fold] | split |
      intro _
theorem startMeasurement_kept a0 a1 l (h : l.Kept B) : (startMeasurement a0 a1 l).Kept B := by
  unfold startMeasurement
  repeat' with_reducible first
    | assumption | apply moveTime_kept | simp only [↓Lane.kept_mk, ↓Lane.kept_fold] | split | intro _
theorem selectRef_kept a0 a1 l (h : l.Kept B) : (selectRef a0 a1 l).Kept B := by
  unfold selectRef
  repeat' with_reducible first
    | assumption | apply refreshUtc_kept | apply setMode_kept | simp only [↓Lane.kept_mk, ↓Lane.kept_fold] | split | intro _
theorem reselect_kept a0 l (h : l.Kept B) : (reselect a0 l).Kept B := by
  unfold reselect
  repeat' with_reducible first
    | assumption | apply selectRef_kept | simp only [↓Lane.kept_mk, ↓Lane.kept_fold] | split | intro _
theorem noteError_kept a0 a1 l (h : l.Kept B) : (noteError a0 a1 l).Kept B := by
  unfold noteError
  repeat' with_reducible first
    | assumption | apply condAlarm_kept | simp only [↓Lane.kept_mk, ↓Lane.kept_fold] | split | intro _
theorem servoStep_kept a0 a1 l (h : l.Kept B) : (servoStep a0 a1 l).Kept B := by
  unfold servoStep
  repeat' with_reducible first
    | assumption | apply setFreq_kept | simp only [↓Lane.kept_mk, ↓Lane.kept_fold] | split | intro _
theorem swatchStep_kept l (h : l.Kept B) : (swatchStep l).Kept B := by
  unfold swatchStep
  repeat' with_reducible first
    | assumption | apply endOpenRecords_kept | apply setProfile_kept | apply emptyRing_kept | apply Lane.kept_foldl | simp
      only [↓Lane.kept_mk, ↓Lane.kept_fold] | split | intro _
theorem reanchorPlane_kept a0 l (h : l.Kept B) : (reanchorPlane a0 l).Kept B := by
  unfold reanchorPlane
  repeat' with_reducible first
    | assumption | apply setPlane_kept | simp only [↓Lane.kept_mk, ↓Lane.kept_fold] | split | intro _
theorem reanchor_kept l (h : l.Kept B) : (reanchor l).Kept B := by
  unfold reanchor
  repeat' with_reducible first
    | assumption | apply reanchorPlane_kept | apply Lane.kept_foldl | simp only [↓Lane.kept_mk, ↓Lane.kept_fold] | split |
      intro _
theorem markAllResets_kept l (h : l.Kept B) : (markAllResets l).Kept B := by
  unfold markAllResets
  repeat' with_reducible first
    | assumption | simp only [↓Lane.kept_mk, ↓Lane.kept_fold] | split | intro _
theorem stepEffects_kept l (h : l.Kept B) : (stepEffects l).Kept B := by
  unfold stepEffects
  repeat' with_reducible first
    | assumption | apply swatchStep_kept | apply reanchor_kept | apply markAllResets_kept | simp only [↓Lane.kept_mk,
      ↓Lane.kept_fold] | split | intro _
theorem timeStep_kept a0 l (h : l.Kept B) : (timeStep a0 l).Kept B := by
  unfold timeStep
  repeat' with_reducible first
    | assumption | apply moveTime_kept | apply raiseEvent_kept | apply logFault_kept | apply stepEffects_kept | simp only
      [↓Lane.kept_mk, ↓Lane.kept_fold] | split | intro _
theorem useMeasurement_kept a0 a1 l (h : l.Kept B) : (useMeasurement a0 a1 l).Kept B := by
  unfold useMeasurement
  repeat' with_reducible first
    | assumption | apply gaugeSample_kept | apply noteError_kept | apply servoStep_kept | apply timeStep_kept | simp only
      [↓Lane.kept_mk, ↓Lane.kept_fold] | split | intro _
theorem measure_kept a0 a1 a2 l (h : l.Kept B) : (measure a0 a1 a2 l).Kept B := by
  unfold measure
  repeat' with_reducible first
    | assumption | apply countMeasurement_kept | apply startMeasurement_kept | apply reselect_kept | apply
      useMeasurement_kept | simp only [↓Lane.kept_mk, ↓Lane.kept_fold] | split | intro _
theorem laneIrig_kept a0 l (h : l.Kept B) : (laneIrig a0 l).Kept B := by
  unfold laneIrig
  repeat' with_reducible first
    | assumption | apply setRef_kept | apply refreshUtc_kept | apply measure_kept | simp only [↓Lane.kept_mk,
      ↓Lane.kept_fold] | split | intro _
theorem laneJoinExpiry_kept a0 l (h : l.Kept B) : (laneJoinExpiry a0 l).Kept B := by
  unfold laneJoinExpiry
  repeat' with_reducible first
    | assumption | apply setMesh_kept | simp only [↓Lane.kept_mk, ↓Lane.kept_fold] | split | intro _
theorem laneKeepAliveLoss_kept l (h : l.Kept B) : (laneKeepAliveLoss l).Kept B := by
  unfold laneKeepAliveLoss
  repeat' with_reducible first
    | assumption | simp only [↓Lane.kept_mk, ↓Lane.kept_fold] | split | intro _
theorem laneKeyAttest_kept a0 l (h : l.Kept B) : (laneKeyAttest a0 l).Kept B := by
  unfold laneKeyAttest
  repeat' with_reducible first
    | assumption | apply serve_kept | apply attestApply_kept | simp only [↓Lane.kept_mk, ↓Lane.kept_fold] | split | intro _
theorem laneKeyDelete_kept a0 l (h : l.Kept B) : (laneKeyDelete a0 l).Kept B := by
  unfold laneKeyDelete
  repeat' with_reducible first
    | assumption | apply serve_kept | apply keyDeleteApply_kept | simp only [↓Lane.kept_mk, ↓Lane.kept_fold] | split | intro _
theorem laneKeyDerive_kept a0 l (h : l.Kept B) : (laneKeyDerive a0 l).Kept B := by
  unfold laneKeyDerive
  repeat' with_reducible first
    | assumption | apply serve_kept | apply keyDeriveApply_kept | simp only [↓Lane.kept_mk, ↓Lane.kept_fold] | split | intro _
theorem laneKeyGenerate_kept a0 l (h : l.Kept B) : (laneKeyGenerate a0 l).Kept B := by
  unfold laneKeyGenerate
  repeat' with_reducible first
    | assumption | apply serve_kept | apply keyGenApply_kept | simp only [↓Lane.kept_mk, ↓Lane.kept_fold] | split | intro _
theorem laneKeyInvalidate_kept a0 l (h : l.Kept B) : (laneKeyInvalidate a0 l).Kept B := by
  unfold laneKeyInvalidate
  repeat' with_reducible first
    | assumption | apply serve_kept | apply keyInvalidateApply_kept | simp only [↓Lane.kept_mk, ↓Lane.kept_fold] | split |
      intro _
theorem laneKeyWrite_kept a0 l (h : l.Kept B) : (laneKeyWrite a0 l).Kept B := by
  unfold laneKeyWrite
  repeat' with_reducible first
    | assumption | apply serve_kept | apply keyWriteApply_kept | simp only [↓Lane.kept_mk, ↓Lane.kept_fold] | split | intro _
theorem laneLatchArrival_kept a0 l (h : l.Kept B) : (laneLatchArrival a0 l).Kept B := by
  unfold laneLatchArrival
  repeat' with_reducible first
    | assumption | apply setPart_kept | simp only [↓Lane.kept_mk, ↓Lane.kept_fold] | split | intro _
theorem laneLeapChange_kept l (h : l.Kept B) : (laneLeapChange l).Kept B := by
  unfold laneLeapChange
  repeat' with_reducible first
    | assumption | simp only [↓Lane.kept_mk, ↓Lane.kept_fold] | split | intro _
theorem laneLeapDiscard_kept l (h : l.Kept B) : (laneLeapDiscard l).Kept B := by
  unfold laneLeapDiscard
  repeat' with_reducible first
    | assumption | simp only [↓Lane.kept_mk, ↓Lane.kept_fold] | split | intro _
theorem learnSetApply_kept a0 l (h : l.Kept B) : (learnSetApply a0 l).1.Kept B := by
  unfold learnSetApply
  repeat' with_reducible first
    | assumption | simp only [↓Lane.kept_mk, ↓Lane.kept_fold] | split | intro _
theorem laneLearnSet_kept a0 l (h : l.Kept B) : (laneLearnSet a0 l).Kept B := by
  unfold laneLearnSet
  repeat' with_reducible first
    | assumption | apply serve_kept | apply learnSetApply_kept | simp only [↓Lane.kept_mk, ↓Lane.kept_fold] | split | intro _
theorem laneLearnedIdle_kept a0 l (h : l.Kept B) : (laneLearnedIdle a0 l).Kept B := by
  unfold laneLearnedIdle
  repeat' with_reducible first
    | assumption | apply freeStream_kept | simp only [↓Lane.kept_mk, ↓Lane.kept_fold] | split | intro _
theorem laneLeaseExpiry_kept a0 l (h : l.Kept B) : (laneLeaseExpiry a0 l).Kept B := by
  unfold laneLeaseExpiry
  repeat' with_reducible first
    | assumption | apply loseLease_kept | apply dropHandover_kept | apply plySettle_kept | apply setLease_kept | simp only
      [↓Lane.kept_mk, ↓Lane.kept_fold] | split | intro _
theorem laneLeaseHandover_kept a0 l (h : l.Kept B) : (laneLeaseHandover a0 l).Kept B := by
  unfold laneLeaseHandover
  repeat' with_reducible first
    | assumption | apply serveHeld_kept | apply handoverStart_kept | simp only [↓Lane.kept_mk, ↓Lane.kept_fold] | split |
      intro _
theorem laneLinkDown_kept a0 l (h : l.Kept B) : (laneLinkDown a0 l).Kept B := by
  unfold laneLinkDown
  repeat' with_reducible first
    | assumption | apply setEth_kept | apply raiseCond_kept | simp only [↓Lane.kept_mk, ↓Lane.kept_fold] | split | intro _
theorem laneLinkUp_kept a0 l (h : l.Kept B) : (laneLinkUp a0 l).Kept B := by
  unfold laneLinkUp
  repeat' with_reducible first
    | assumption | apply dropCond_kept | apply setEth_kept | simp only [↓Lane.kept_mk, ↓Lane.kept_fold] | split | intro _
theorem laneLockoutExpiry_kept l (h : l.Kept B) : (laneLockoutExpiry l).Kept B := by
  unfold laneLockoutExpiry
  repeat' with_reducible first
    | assumption | simp only [↓Lane.kept_mk, ↓Lane.kept_fold] | split | intro _
theorem mapClearApply_kept a0 l (h : l.Kept B) : (mapClearApply a0 l).1.Kept B := by
  unfold mapClearApply
  repeat' with_reducible first
    | assumption | apply setPlane_kept | simp only [↓Lane.kept_mk, ↓Lane.kept_fold] | split | intro _
theorem laneMapClear_kept a0 l (h : l.Kept B) : (laneMapClear a0 l).Kept B := by
  unfold laneMapClear
  repeat' with_reducible first
    | assumption | apply serve_kept | apply mapClearApply_kept | simp only [↓Lane.kept_mk, ↓Lane.kept_fold] | split | intro _
theorem mapSwitchApply_kept a0 l (h : l.Kept B) : (mapSwitchApply a0 l).1.Kept B := by
  unfold mapSwitchApply
  repeat' with_reducible first
    | assumption | apply setPlane_kept | simp only [↓Lane.kept_mk, ↓Lane.kept_fold] | split | intro _
theorem laneMapSwitch_kept a0 l (h : l.Kept B) : (laneMapSwitch a0 l).Kept B := by
  unfold laneMapSwitch
  repeat' with_reducible first
    | assumption | apply serve_kept | apply mapSwitchApply_kept | simp only [↓Lane.kept_mk, ↓Lane.kept_fold] | split | intro _

end Sys2Proof.Machine
end

