-- ==== Sys2Proof/Laws/Kept4.lean ====
section
/-!
SUPPORT. The lane functions of the model keep a lane's invariants (`Lane.Kept`), part 4 of 5: each lemma says that one
    function keeps
the lane's identity, its count and its strap, canonical tiles, sound task entries and a bounded fault log. Functions stand in
    the
order in which they call one another.
-/
set_option linter.unusedSimpArgs false

namespace Sys2Proof.Machine
variable {B : LaneId × Nat × Bool}

theorem mapWriteApply_kept a0 l (h : l.Kept B) : (mapWriteApply a0 l).1.Kept B := by
  unfold mapWriteApply
  repeat' with_reducible first
    | assumption | apply setPlane_kept | apply Lane.kept_foldl | simp only [↓Lane.kept_mk, ↓Lane.kept_fold] | split | intro _
theorem laneMapWrite_kept a0 l (h : l.Kept B) : (laneMapWrite a0 l).Kept B := by
  unfold laneMapWrite
  repeat' with_reducible first
    | assumption | apply serve_kept | apply mapWriteApply_kept | simp only [↓Lane.kept_mk, ↓Lane.kept_fold] | split | intro _
theorem markClearApply_kept a0 l (h : l.Kept B) : (markClearApply a0 l).1.Kept B := by
  unfold markClearApply
  repeat' with_reducible first
    | assumption | simp only [↓Lane.kept_mk, ↓Lane.kept_fold] | split | intro _
theorem laneMarkClear_kept a0 l (h : l.Kept B) : (laneMarkClear a0 l).Kept B := by
  unfold laneMarkClear
  repeat' with_reducible first
    | assumption | apply serve_kept | apply markClearApply_kept | simp only [↓Lane.kept_mk, ↓Lane.kept_fold] | split | intro _
theorem markReadStart_kept a0 l (h : l.Kept B) : (markReadStart a0 l).Kept B := by
  unfold markReadStart
  repeat' with_reducible first
    | assumption | apply postReply_kept | simp only [↓Lane.kept_mk, ↓Lane.kept_fold] | split | intro _
theorem laneMarkRead_kept a0 l (h : l.Kept B) : (laneMarkRead a0 l).Kept B := by
  unfold laneMarkRead
  repeat' with_reducible first
    | assumption | apply serveHeld_kept | apply markReadStart_kept | simp only [↓Lane.kept_mk, ↓Lane.kept_fold] | split |
      intro _
theorem markSetStart_kept a0 l (h : l.Kept B) : (markSetStart a0 l).Kept B := by
  unfold markSetStart
  repeat' with_reducible first
    | assumption | apply postReply_kept | simp only [↓Lane.kept_mk, ↓Lane.kept_fold] | split | intro _
theorem laneMarkSet_kept a0 l (h : l.Kept B) : (laneMarkSet a0 l).Kept B := by
  unfold laneMarkSet
  repeat' with_reducible first
    | assumption | apply serveHeld_kept | apply markSetStart_kept | simp only [↓Lane.kept_mk, ↓Lane.kept_fold] | split |
      intro _
theorem spiOp_kept a0 l (hf : ∀ x : Lane, x.Kept B → (a0 x).Kept B) (h : l.Kept B) : (spiOp a0 l).Kept B := by
  unfold spiOp
  apply hostOp_kept _ _ _ h
  intro x hx
  split
  · exact hf _ hx
  · exact hx
theorem mailboxBadLength_kept a0 l (h : l.Kept B) : (mailboxBadLength a0 l).Kept B := by
  unfold mailboxBadLength
  repeat' with_reducible first
    | assumption | apply setCause_kept | simp only [↓Lane.kept_mk, ↓Lane.kept_fold] | split | intro _
theorem mailboxBypass_kept a0 l (h : l.Kept B) : (mailboxBypass a0 l).Kept B := by
  unfold mailboxBypass
  repeat' with_reducible first
    | assumption | apply mailboxBadLength_kept | apply arrive_kept | apply deliverBypass_kept | simp only [↓Lane.kept_mk,
      ↓Lane.kept_fold] | split | intro _
theorem laneMbxBypass_kept a0 l (h : l.Kept B) : (laneMbxBypass a0 l).Kept B := by
  unfold laneMbxBypass
  repeat' with_reducible first
    | assumption | apply spiOp_kept | apply mailboxBypass_kept | simp only [↓Lane.kept_mk, ↓Lane.kept_fold] | split | intro _
theorem mailboxSubmit_kept a0 l (h : l.Kept B) : (mailboxSubmit a0 l).Kept B := by
  unfold mailboxSubmit
  repeat' with_reducible first
    | assumption | apply mailboxBadLength_kept | apply enqueueOrWait_kept | simp only [↓Lane.kept_mk, ↓Lane.kept_fold] |
      split | intro _
theorem laneMbxDoorbell_kept a0 l (h : l.Kept B) : (laneMbxDoorbell a0 l).Kept B := by
  unfold laneMbxDoorbell
  repeat' with_reducible first
    | assumption | apply spiOp_kept | apply mailboxSubmit_kept | simp only [↓Lane.kept_mk, ↓Lane.kept_fold] | split | intro _
theorem meshQueryApply_kept a0 l (h : l.Kept B) : (meshQueryApply a0 l).1.Kept B := by
  unfold meshQueryApply
  repeat' with_reducible first
    | assumption | simp only [↓Lane.kept_mk, ↓Lane.kept_fold] | split | intro _
theorem laneMeshQuery_kept a0 l (h : l.Kept B) : (laneMeshQuery a0 l).Kept B := by
  unfold laneMeshQuery
  repeat' with_reducible first
    | assumption | apply serve_kept | apply meshQueryApply_kept | simp only [↓Lane.kept_mk, ↓Lane.kept_fold] | split | intro _
theorem meshInit_kept a0 a1 a2 l (h : l.Kept B) : (meshInit a0 a1 a2 l).Kept B := by
  unfold meshInit
  repeat' with_reducible first
    | assumption | apply transientFault_kept | apply meshAlarms_kept | apply lastingFault_kept | apply setMesh_kept | simp
      only [↓Lane.kept_mk, ↓Lane.kept_fold] | split | intro _
theorem meshBegin_kept a0 l (h : l.Kept B) : (meshBegin a0 l).Kept B := by
  unfold meshBegin
  repeat' with_reducible first
    | assumption | apply meshAlarms_kept | apply setMesh_kept | simp only [↓Lane.kept_mk, ↓Lane.kept_fold] | split | intro _
theorem meshSetApply_kept a0 a1 a2 l (h : l.Kept B) : (meshSetApply a0 a1 a2 l).1.Kept B := by
  unfold meshSetApply
  repeat' with_reducible first
    | assumption | apply setMesh_kept | apply meshInit_kept | apply meshBegin_kept | simp only [↓Lane.kept_mk,
      ↓Lane.kept_fold] | split | intro _
theorem laneMeshSet_kept a0 a1 a2 l (h : l.Kept B) : (laneMeshSet a0 a1 a2 l).Kept B := by
  unfold laneMeshSet
  repeat' with_reducible first
    | assumption | apply serve_kept | apply meshSetApply_kept | simp only [↓Lane.kept_mk, ↓Lane.kept_fold] | split | intro _
theorem modeSetStart_kept a0 l (h : l.Kept B) : (modeSetStart a0 l).Kept B := by
  unfold modeSetStart
  repeat' with_reducible first
    | assumption | apply postReply_kept | apply changeMode_kept | simp only [↓Lane.kept_mk, ↓Lane.kept_fold] | split | intro _
theorem laneModeSet_kept a0 l (h : l.Kept B) : (laneModeSet a0 l).Kept B := by
  unfold laneModeSet
  repeat' with_reducible first
    | assumption | apply serveHeld_kept | apply modeSetStart_kept | simp only [↓Lane.kept_mk, ↓Lane.kept_fold] | split |
      intro _
theorem laneModifyAccept_kept a0 l (h : l.Kept B) : (laneModifyAccept a0 l).Kept B := by
  unfold laneModifyAccept
  repeat' with_reducible first
    | assumption | apply serve_kept | apply acceptApply_kept | simp only [↓Lane.kept_mk, ↓Lane.kept_fold] | split | intro _
theorem laneModifyAdopt_kept a0 l (h : l.Kept B) : (laneModifyAdopt a0 l).Kept B := by
  unfold laneModifyAdopt
  repeat' with_reducible first
    | assumption | apply serve_kept | apply adoptApply_kept | simp only [↓Lane.kept_mk, ↓Lane.kept_fold] | split | intro _
theorem laneModifyChunk_kept a0 l (h : l.Kept B) : (laneModifyChunk a0 l).Kept B := by
  unfold laneModifyChunk
  repeat' with_reducible first
    | assumption | apply serve_kept | apply cfgChunkApply_kept | simp only [↓Lane.kept_mk, ↓Lane.kept_fold] | split | intro _
theorem resumeApply_kept a0 l (h : l.Kept B) : (resumeApply a0 l).1.Kept B := by
  unfold resumeApply
  repeat' with_reducible first
    | assumption | apply enterState_kept | simp only [↓Lane.kept_mk, ↓Lane.kept_fold] | split | intro _
theorem laneModifyResume_kept a0 l (h : l.Kept B) : (laneModifyResume a0 l).Kept B := by
  unfold laneModifyResume
  repeat' with_reducible first
    | assumption | apply serve_kept | apply resumeApply_kept | simp only [↓Lane.kept_mk, ↓Lane.kept_fold] | split | intro _
theorem modifySetApply_kept a0 l (h : l.Kept B) : (modifySetApply a0 l).1.Kept B := by
  unfold modifySetApply
  repeat' with_reducible first
    | assumption | apply setRun_kept | apply startProcedure_kept | apply enterState_kept | simp only [↓Lane.kept_mk,
      ↓Lane.kept_fold] | split | intro _
theorem laneModifySet_kept a0 l (h : l.Kept B) : (laneModifySet a0 l).Kept B := by
  unfold laneModifySet
  repeat' with_reducible first
    | assumption | apply serve_kept | apply modifySetApply_kept | simp only [↓Lane.kept_mk, ↓Lane.kept_fold] | split | intro _
theorem suspendApply_kept a0 l (h : l.Kept B) : (suspendApply a0 l).1.Kept B := by
  unfold suspendApply
  repeat' with_reducible first
    | assumption | apply enterState_kept | apply setRun_kept | simp only [↓Lane.kept_mk, ↓Lane.kept_fold] | split | intro _
theorem laneModifySuspend_kept a0 l (h : l.Kept B) : (laneModifySuspend a0 l).Kept B := by
  unfold laneModifySuspend
  repeat' with_reducible first
    | assumption | apply serve_kept | apply suspendApply_kept | simp only [↓Lane.kept_mk, ↓Lane.kept_fold] | split | intro _
theorem needleStatusApply_kept a0 l (h : l.Kept B) : (needleStatusApply a0 l).1.Kept B := by
  unfold needleStatusApply
  repeat' with_reducible first
    | assumption | simp only [↓Lane.kept_mk, ↓Lane.kept_fold] | split | intro _
theorem laneNeedleStatus_kept a0 l (h : l.Kept B) : (laneNeedleStatus a0 l).Kept B := by
  unfold laneNeedleStatus
  repeat' with_reducible first
    | assumption | apply serve_kept | apply needleStatusApply_kept | simp only [↓Lane.kept_mk, ↓Lane.kept_fold] | split |
      intro _
theorem nodeAddApply_kept a0 l (h : l.Kept B) : (nodeAddApply a0 l).1.Kept B := by
  unfold nodeAddApply
  repeat' with_reducible first
    | assumption | simp only [↓Lane.kept_mk, ↓Lane.kept_fold] | split | intro _
theorem laneNodeAdd_kept a0 l (h : l.Kept B) : (laneNodeAdd a0 l).Kept B := by
  unfold laneNodeAdd
  repeat' with_reducible first
    | assumption | apply serve_kept | apply nodeAddApply_kept | simp only [↓Lane.kept_mk, ↓Lane.kept_fold] | split | intro _
theorem nodeRemoveApply_kept a0 l (h : l.Kept B) : (nodeRemoveApply a0 l).1.Kept B := by
  unfold nodeRemoveApply
  repeat' with_reducible first
    | assumption | apply meshAlarms_kept | apply setMesh_kept | simp only [↓Lane.kept_mk, ↓Lane.kept_fold] | split | intro _
theorem laneNodeRemove_kept a0 l (h : l.Kept B) : (laneNodeRemove a0 l).Kept B := by
  unfold laneNodeRemove
  repeat' with_reducible first
    | assumption | apply serve_kept | apply nodeRemoveApply_kept | simp only [↓Lane.kept_mk, ↓Lane.kept_fold] | split |
      intro _
theorem nopApply_kept a0 l (h : l.Kept B) : (nopApply a0 l).1.Kept B := by
  unfold nopApply
  repeat' with_reducible first
    | assumption | simp only [↓Lane.kept_mk, ↓Lane.kept_fold] | split | intro _
theorem laneNop_kept a0 l (h : l.Kept B) : (laneNop a0 l).Kept B := by
  unfold laneNop
  repeat' with_reducible first
    | assumption | apply serve_kept | apply nopApply_kept | simp only [↓Lane.kept_mk, ↓Lane.kept_fold] | split | intro _
theorem laneObservedPoll_kept a0 a1 l (h : l.Kept B) : (laneObservedPoll a0 a1 l).Kept B := by
  unfold laneObservedPoll
  repeat' with_reducible first
    | assumption | apply setStation_kept | apply setSerial_kept | simp only [↓Lane.kept_mk, ↓Lane.kept_fold] | split | intro _
theorem laneOfferTimeout_kept l (h : l.Kept B) : (laneOfferTimeout l).Kept B := by
  unfold laneOfferTimeout
  repeat' with_reducible first
    | assumption | apply refuse_kept | simp only [↓Lane.kept_mk, ↓Lane.kept_fold] | split | intro _
theorem offlineAlarm_kept a0 l (h : l.Kept B) : (offlineAlarm a0 l).Kept B := by
  unfold offlineAlarm
  repeat' with_reducible first
    | assumption | apply condAlarm_kept | simp only [↓Lane.kept_mk, ↓Lane.kept_fold] | split | intro _
theorem laneOfflineRetry_kept a0 a1 l (h : l.Kept B) : (laneOfflineRetry a0 a1 l).Kept B := by
  unfold laneOfflineRetry
  repeat' with_reducible first
    | assumption | apply offlineAlarm_kept | apply setStation_kept | simp only [↓Lane.kept_mk, ↓Lane.kept_fold] | split |
      intro _
theorem setOverheat_kept a0 a1 l (h : l.Kept B) : (setOverheat a0 a1 l).Kept B := by
  unfold setOverheat
  repeat' with_reducible first
    | assumption | apply setJunction_kept | simp only [↓Lane.kept_mk, ↓Lane.kept_fold] | split | intro _
theorem laneOverheat_kept a0 l (h : l.Kept B) : (laneOverheat a0 l).Kept B := by
  unfold laneOverheat
  repeat' with_reducible first
    | assumption | apply declareUnhealthy_kept | apply raiseCond_kept | apply setOverheat_kept | simp only [↓Lane.kept_mk,
      ↓Lane.kept_fold] | split | intro _
theorem laneOverheatClear_kept a0 l (h : l.Kept B) : (laneOverheatClear a0 l).Kept B := by
  unfold laneOverheatClear
  repeat' with_reducible first
    | assumption | apply clearUnhealthy_kept | apply dropCond_kept | apply setOverheat_kept | simp only [↓Lane.kept_mk,
      ↓Lane.kept_fold] | split | intro _
theorem loadChunkStart_kept a0 l (h : l.Kept B) : (loadChunkStart a0 l).Kept B := by
  unfold loadChunkStart
  repeat' with_reducible first
    | assumption | apply setPart_kept | apply postReply_kept | simp only [↓Lane.kept_mk, ↓Lane.kept_fold] | split | intro _
theorem lanePatternLoadChunk_kept a0 l (h : l.Kept B) : (lanePatternLoadChunk a0 l).Kept B := by
  unfold lanePatternLoadChunk
  repeat' with_reducible first
    | assumption | apply serveHeld_kept | apply loadChunkStart_kept | simp only [↓Lane.kept_mk, ↓Lane.kept_fold] | split |
      intro _
theorem loadLibraryStart_kept a0 l (h : l.Kept B) : (loadLibraryStart a0 l).Kept B := by
  unfold loadLibraryStart
  repeat' with_reducible first
    | assumption | apply setPart_kept | apply refuse_kept | simp only [↓Lane.kept_mk, ↓Lane.kept_fold] | split | intro _
theorem lanePatternLoadLibrary_kept a0 l (h : l.Kept B) : (lanePatternLoadLibrary a0 l).Kept B := by
  unfold lanePatternLoadLibrary
  repeat' with_reducible first
    | assumption | apply serveHeld_kept | apply loadLibraryStart_kept | simp only [↓Lane.kept_mk, ↓Lane.kept_fold] | split
      | intro _
theorem loadReleaseApply_kept a0 l (h : l.Kept B) : (loadReleaseApply a0 l).1.Kept B := by
  unfold loadReleaseApply
  apply setPart_kept
  refine ⟨h.1, ?_, h.2.2⟩
  dsimp only
  split
  · exact tilesOk_filter _ h.2.1
  · exact h.2.1
theorem lanePatternLoadRelease_kept a0 l (h : l.Kept B) : (lanePatternLoadRelease a0 l).Kept B := by
  unfold lanePatternLoadRelease
  repeat' with_reducible first
    | assumption | apply serve_kept | apply loadReleaseApply_kept | simp only [↓Lane.kept_mk, ↓Lane.kept_fold] | split |
      intro _
theorem paramStart_kept a0 l (h : l.Kept B) : (paramStart a0 l).Kept B := by
  unfold paramStart
  repeat' with_reducible first
    | assumption | apply setPart_kept | apply postReply_kept | simp only [↓Lane.kept_mk, ↓Lane.kept_fold] | split | intro _
theorem lanePatternParamSet_kept a0 l (h : l.Kept B) : (lanePatternParamSet a0 l).Kept B := by
  unfold lanePatternParamSet
  repeat' with_reducible first
    | assumption | apply serveHeld_kept | apply paramStart_kept | simp only [↓Lane.kept_mk, ↓Lane.kept_fold] | split | intro _
theorem patternQueryApply_kept a0 l (h : l.Kept B) : (patternQueryApply a0 l).1.Kept B := by
  unfold patternQueryApply
  repeat' with_reducible first
    | assumption | apply setPart_kept | simp only [↓Lane.kept_mk, ↓Lane.kept_fold] | split | intro _
theorem lanePatternQuery_kept a0 l (h : l.Kept B) : (lanePatternQuery a0 l).Kept B := by
  unfold lanePatternQuery
  repeat' with_reducible first
    | assumption | apply serve_kept | apply patternQueryApply_kept | simp only [↓Lane.kept_mk, ↓Lane.kept_fold] | split |
      intro _
theorem patSwapStart_kept a0 l (h : l.Kept B) : (patSwapStart a0 l).Kept B := by
  unfold patSwapStart
  repeat' with_reducible first
    | assumption | apply applySwap_kept | apply postReply_kept | apply setPart_kept | simp only [↓Lane.kept_mk,
      ↓Lane.kept_fold] | split | intro _
theorem lanePatternSwap_kept a0 l (h : l.Kept B) : (lanePatternSwap a0 l).Kept B := by
  unfold lanePatternSwap
  repeat' with_reducible first
    | assumption | apply serveHeld_kept | apply patSwapStart_kept | simp only [↓Lane.kept_mk, ↓Lane.kept_fold] | split |
      intro _
theorem lanePauseExpiry_kept a0 l (h : l.Kept B) : (lanePauseExpiry a0 l).Kept B := by
  unfold lanePauseExpiry
  repeat' with_reducible first
    | assumption | apply releaseFast_kept | simp only [↓Lane.kept_mk, ↓Lane.kept_fold] | split | intro _
theorem sendPause_kept a0 a1 a2 l (h : l.Kept B) : (sendPause a0 a1 a2 l).Kept B := by
  unfold sendPause
  repeat' with_reducible first
    | assumption | apply emit_kept | apply setQueue_kept | simp only [↓Lane.kept_mk, ↓Lane.kept_fold] | split | intro _
theorem lanePauseRepeat_kept a0 l (h : l.Kept B) : (lanePauseRepeat a0 l).Kept B := by
  unfold lanePauseRepeat
  repeat' with_reducible first
    | assumption | apply sendPause_kept | simp only [↓Lane.kept_mk, ↓Lane.kept_fold] | split | intro _
theorem lanePauseSend_kept a0 l (h : l.Kept B) : (lanePauseSend a0 l).Kept B := by
  unfold lanePauseSend
  repeat' with_reducible first
    | assumption | apply sendPause_kept | simp only [↓Lane.kept_mk, ↓Lane.kept_fold] | split | intro _
theorem lanePcieReset_kept l (h : l.Kept B) : (lanePcieReset l).Kept B := by
  unfold lanePcieReset
  repeat' with_reducible first
    | assumption | apply laneFunctionReset_kept | simp only [↓Lane.kept_mk, ↓Lane.kept_fold] | split | intro _
theorem lanePdelayReq_kept a0 a1 a2 a3 l (h : l.Kept B) : (lanePdelayReq a0 a1 a2 a3 l).Kept B := by
  unfold lanePdelayReq
  repeat' with_reducible first
    | assumption | apply dropPtp_kept | apply emit_kept | simp only [↓Lane.kept_mk, ↓Lane.kept_fold] | split | intro _
theorem lanePdelayResp_kept a0 l (h : l.Kept B) : (lanePdelayResp a0 l).Kept B := by
  unfold lanePdelayResp
  repeat' with_reducible first
    | assumption | apply dropPtp_kept | apply setPtpPort_kept | simp only [↓Lane.kept_mk, ↓Lane.kept_fold] | split | intro _
theorem lanePeBankLoad_kept a0 l (h : l.Kept B) : (lanePeBankLoad a0 l).Kept B := by
  unfold lanePeBankLoad
  repeat' with_reducible first
    | assumption | apply serve_kept | apply bankApply_kept | simp only [↓Lane.kept_mk, ↓Lane.kept_fold] | split | intro _
theorem swapStart_kept a0 l (h : l.Kept B) : (swapStart a0 l).Kept B := by
  unfold swapStart
  repeat' with_reducible first
    | assumption | apply setPeStream_kept | apply postReply_kept | apply setPeRun_kept | apply Lane.kept_foldl | simp only
      [↓Lane.kept_mk, ↓Lane.kept_fold] | split | intro _
theorem lanePeBankSwap_kept a0 l (h : l.Kept B) : (lanePeBankSwap a0 l).Kept B := by
  unfold lanePeBankSwap
  repeat' with_reducible first
    | assumption | apply serveHeld_kept | apply swapStart_kept | simp only [↓Lane.kept_mk, ↓Lane.kept_fold] | split | intro _
theorem withPeCfg_kept a0 a1 l (h : l.Kept B) : (withPeCfg a0 a1 l).Kept B := by
  unfold withPeCfg
  repeat' with_reducible first
    | assumption | simp only [↓Lane.kept_mk, ↓Lane.kept_fold] | split | intro _
theorem replySwap_kept a0 l (h : l.Kept B) : (replySwap a0 l).Kept B := by
  unfold replySwap
  repeat' with_reducible first
    | assumption | apply postReply_kept | simp only [↓Lane.kept_mk, ↓Lane.kept_fold] | split | intro _
theorem settleSwaps_kept a0 a1 l (h : l.Kept B) : (settleSwaps a0 a1 l).Kept B := by
  unfold settleSwaps
  repeat' with_reducible first
    | assumption | apply setPeRun_kept | apply replySwap_kept | apply promoteHeld_kept | apply setPeStream_kept | simp only
      [↓Lane.kept_mk, ↓Lane.kept_fold] | split | intro _
theorem peSetApply_kept a0 l (h : l.Kept B) : (peSetApply a0 l).1.Kept B := by
  unfold peSetApply
  repeat' with_reducible first
    | assumption | apply withPeCfg_kept | apply settleSwaps_kept | apply setPeRun_kept | simp only [↓Lane.kept_mk,
      ↓Lane.kept_fold] | split | intro _
theorem lanePeChannelSet_kept a0 l (h : l.Kept B) : (lanePeChannelSet a0 l).Kept B := by
  unfold lanePeChannelSet
  repeat' with_reducible first
    | assumption | apply serve_kept | apply peSetApply_kept | simp only [↓Lane.kept_mk, ↓Lane.kept_fold] | split | intro _
theorem peQueryApply_kept a0 l (h : l.Kept B) : (peQueryApply a0 l).1.Kept B := by
  unfold peQueryApply
  repeat' with_reducible first
    | assumption | simp only [↓Lane.kept_mk, ↓Lane.kept_fold] | split | intro _
theorem lanePeQuery_kept a0 l (h : l.Kept B) : (lanePeQuery a0 l).Kept B := by
  unfold lanePeQuery
  repeat' with_reducible first
    | assumption | apply serve_kept | apply peQueryApply_kept | simp only [↓Lane.kept_mk, ↓Lane.kept_fold] | split | intro _
theorem peResetApply_kept a0 l (h : l.Kept B) : (peResetApply a0 l).1.Kept B := by
  unfold peResetApply
  repeat' with_reducible first
    | assumption | apply setPeRun_kept | apply Lane.kept_foldl | simp only [↓Lane.kept_mk, ↓Lane.kept_fold] | split | intro _
theorem lanePeReset_kept a0 l (h : l.Kept B) : (lanePeReset a0 l).Kept B := by
  unfold lanePeReset
  repeat' with_reducible first
    | assumption | apply serve_kept | apply peResetApply_kept | simp only [↓Lane.kept_mk, ↓Lane.kept_fold] | split | intro _
theorem lanePerstn_kept l (h : l.Kept B) : (lanePerstn l).Kept B := by
  unfold lanePerstn
  repeat' with_reducible first
    | assumption | apply functionReset_kept | simp only [↓Lane.kept_mk, ↓Lane.kept_fold] | split | intro _
theorem singleOutput_kept a0 a1 a2 a3 a4 a5 a6 l (h : l.Kept B) : (singleOutput a0 a1 a2 a3 a4 a5 a6 l).Kept B := by
  unfold singleOutput
  repeat' with_reducible first
    | assumption | apply deliverValues_kept | apply setPeRun_kept | simp only [↓Lane.kept_mk, ↓Lane.kept_fold] | split |
      intro _
theorem noteDelayStep_kept a0 a1 a2 l (h : l.Kept B) : (noteDelayStep a0 a1 a2 l).Kept B := by
  unfold noteDelayStep
  repeat' with_reducible first
    | assumption | apply raiseEvent_kept | apply logFault_kept | simp only [↓Lane.kept_mk, ↓Lane.kept_fold] | split | intro _
theorem mainOutput_kept a0 a1 a2 a3 a4 a5 a6 l (h : l.Kept B) : (mainOutput a0 a1 a2 a3 a4 a5 a6 l).Kept B := by
  unfold mainOutput
  repeat' with_reducible first
    | assumption | apply setPeRun_kept | apply noteDelayStep_kept | apply deliverValues_kept | apply replySwap_kept | apply
      setPeStream_kept | apply endFade_kept | apply Lane.kept_foldl | simp only [↓Lane.kept_mk, ↓Lane.kept_fold] | split |
        intro _
theorem lanePhasorOutput_kept a0 a1 l (h : l.Kept B) : (lanePhasorOutput a0 a1 l).Kept B := by
  unfold lanePhasorOutput
  repeat' with_reducible first
    | assumption | apply singleOutput_kept | apply mainOutput_kept | simp only [↓Lane.kept_mk, ↓Lane.kept_fold] | split |
      intro _
theorem resync_kept a0 a1 l (h : l.Kept B) : (resync a0 a1 l).Kept B := by
  unfold resync
  repeat' with_reducible first
    | assumption | apply setMesh_kept | simp only [↓Lane.kept_mk, ↓Lane.kept_fold] | split | intro _
theorem noteSeen_kept a0 a1 l (h : l.Kept B) : (noteSeen a0 a1 l).Kept B := by
  unfold noteSeen
  repeat' with_reducible first
    | assumption | apply setMesh_kept | simp only [↓Lane.kept_mk, ↓Lane.kept_fold] | split | intro _
theorem picotEffect_kept a0 a1 a2 l (h : l.Kept B) : (picotEffect a0 a1 a2 l).Kept B := by
  unfold picotEffect
  repeat' with_reducible first
    | assumption | apply noteSeen_kept | apply enqueueOrDrop_kept | apply radioQueue_kept | apply hearBeacon_kept | apply
      hearAck_kept | apply joinRequest_kept | apply hearJoinResponse_kept | apply hearGrant_kept | simp only
        [↓Lane.kept_mk, ↓Lane.kept_fold] | split | intro _
theorem lanePicotReceive_kept a0 a1 a2 a3 a4 l (h : l.Kept B) : (lanePicotReceive a0 a1 a2 a3 a4 l).Kept B := by
  unfold lanePicotReceive
  simp only []
  repeat' with_reducible first
    | assumption | apply countMesh_kept | apply ackDue_kept | apply countFull_kept | apply picotEffect_kept
    | apply meshAlarms_kept | apply heardNode_kept | apply resync_kept | apply Lane.kept_ite
theorem lanePinEdge_kept a0 a1 a2 l (h : l.Kept B) : (lanePinEdge a0 a1 a2 l).Kept B := by
  unfold lanePinEdge
  repeat' with_reducible first
    | assumption | apply setTrigger_kept | apply fire_kept | apply Lane.kept_foldl | simp only [↓Lane.kept_mk,
      ↓Lane.kept_fold] | split | intro _
theorem planeCreateApply_kept a0 l (h : l.Kept B) : (planeCreateApply a0 l).1.Kept B := by
  unfold planeCreateApply
  repeat' with_reducible first
    | assumption | apply setPlane_kept | simp only [↓Lane.kept_mk, ↓Lane.kept_fold] | split | intro _
theorem lanePlaneCreate_kept a0 l (h : l.Kept B) : (lanePlaneCreate a0 l).Kept B := by
  unfold lanePlaneCreate
  repeat' with_reducible first
    | assumption | apply serve_kept | apply planeCreateApply_kept | simp only [↓Lane.kept_mk, ↓Lane.kept_fold] | split |
      intro _
theorem planeDeleteApply_kept a0 l (h : l.Kept B) : (planeDeleteApply a0 l).1.Kept B := by
  unfold planeDeleteApply
  repeat' with_reducible first
    | assumption | simp only [↓Lane.kept_mk, ↓Lane.kept_fold] | split | intro _
theorem lanePlaneDelete_kept a0 l (h : l.Kept B) : (lanePlaneDelete a0 l).Kept B := by
  unfold lanePlaneDelete
  repeat' with_reducible first
    | assumption | apply serve_kept | apply planeDeleteApply_kept | simp only [↓Lane.kept_mk, ↓Lane.kept_fold] | split |
      intro _
theorem planeQueryApply_kept a0 l (h : l.Kept B) : (planeQueryApply a0 l).1.Kept B := by
  unfold planeQueryApply
  repeat' with_reducible first
    | assumption | simp only [↓Lane.kept_mk, ↓Lane.kept_fold] | split | intro _
theorem lanePlaneQuery_kept a0 l (h : l.Kept B) : (lanePlaneQuery a0 l).Kept B := by
  unfold lanePlaneQuery
  repeat' with_reducible first
    | assumption | apply serve_kept | apply planeQueryApply_kept | simp only [↓Lane.kept_mk, ↓Lane.kept_fold] | split |
      intro _
theorem planeSetApply_kept a0 l (h : l.Kept B) : (planeSetApply a0 l).1.Kept B := by
  unfold planeSetApply
  repeat' with_reducible first
    | assumption | simp only [↓Lane.kept_mk, ↓Lane.kept_fold] | split | intro _
theorem lanePlaneSet_kept a0 l (h : l.Kept B) : (lanePlaneSet a0 l).Kept B := by
  unfold lanePlaneSet
  repeat' with_reducible first
    | assumption | apply serve_kept | apply planeSetApply_kept | simp only [↓Lane.kept_mk, ↓Lane.kept_fold] | split | intro _
theorem planeStopApply_kept a0 l (h : l.Kept B) : (planeStopApply a0 l).1.Kept B := by
  unfold planeStopApply
  repeat' with_reducible first
    | assumption | apply setPlane_kept | simp only [↓Lane.kept_mk, ↓Lane.kept_fold] | split | intro _
theorem lanePlaneStop_kept a0 l (h : l.Kept B) : (lanePlaneStop a0 l).Kept B := by
  unfold lanePlaneStop
  repeat' with_reducible first
    | assumption | apply serve_kept | apply planeStopApply_kept | simp only [↓Lane.kept_mk, ↓Lane.kept_fold] | split | intro _
theorem lanePlyAccept_kept a0 a1 a2 a3 l (h : l.Kept B) : (lanePlyAccept a0 a1 a2 a3 l).Kept B := by
  unfold lanePlyAccept
  repeat' with_reducible first
    | assumption | apply deliverMessage_kept | simp only [↓Lane.kept_mk, ↓Lane.kept_fold] | split | intro _
theorem lanePlyCheck_kept a0 a1 a2 a3 a4 a5 l (h : l.Kept B) : (lanePlyCheck a0 a1 a2 a3 a4 a5 l).Kept B := by
  unfold lanePlyCheck
  repeat' with_reducible first
    | assumption | apply deliverMessage_kept | simp only [↓Lane.kept_mk, ↓Lane.kept_fold] | split | intro _
theorem lanePlyDigest_kept a0 a1 a2 a3 a4 a5 a6 l (h : l.Kept B) : (lanePlyDigest a0 a1 a2 a3 a4 a5 a6 l).Kept B := by
  unfold lanePlyDigest
  repeat' with_reducible first
    | assumption | apply deliverMessage_kept | simp only [↓Lane.kept_mk, ↓Lane.kept_fold] | split | intro _
theorem resendFrame_kept a0 a1 l (h : l.Kept B) : (resendFrame a0 a1 l).Kept B := by
  unfold resendFrame
  repeat' with_reducible first
    | assumption | apply emit_kept | apply setLink_kept | simp only [↓Lane.kept_mk, ↓Lane.kept_fold] | split | intro _
theorem lanePlyFrame_kept a0 a1 a2 l (h : l.Kept B) : (lanePlyFrame a0 a1 a2 l).Kept B := by
  unfold lanePlyFrame
  repeat' with_reducible first
    | assumption | apply resendFrame_kept | apply badPlyFrame_kept | apply frameMessage_kept | apply goodPlyFrame_kept |
      simp only [↓Lane.kept_mk, ↓Lane.kept_fold] | split | intro _
theorem lanePlyHealth_kept a0 a1 l (h : l.Kept B) : (lanePlyHealth a0 a1 l).Kept B := by
  unfold lanePlyHealth
  repeat' with_reducible first
    | assumption | apply deliverMessage_kept | simp only [↓Lane.kept_mk, ↓Lane.kept_fold] | split | intro _
theorem lanePlyHello_kept a0 a1 l (h : l.Kept B) : (lanePlyHello a0 a1 l).Kept B := by
  unfold lanePlyHello
  repeat' with_reducible first
    | assumption | apply deliverMessage_kept | simp only [↓Lane.kept_mk, ↓Lane.kept_fold] | split | intro _
theorem lanePlyHelloPeriodic_kept l (h : l.Kept B) : (lanePlyHelloPeriodic l).Kept B := by
  unfold lanePlyHelloPeriodic
  repeat' with_reducible first
    | assumption | apply azSendPartners_kept | simp only [↓Lane.kept_mk, ↓Lane.kept_fold] | split | intro _
theorem lanePlyIdle_kept a0 l (h : l.Kept B) : (lanePlyIdle a0 l).Kept B := by
  unfold lanePlyIdle
  repeat' with_reducible first
    | assumption | apply plyFrame_kept | simp only [↓Lane.kept_mk, ↓Lane.kept_fold] | split | intro _
theorem lanePlyLinkLoss_kept a0 l (h : l.Kept B) : (lanePlyLinkLoss a0 l).Kept B := by
  unfold lanePlyLinkLoss
  repeat' with_reducible first
    | assumption | apply loseLink_kept | simp only [↓Lane.kept_mk, ↓Lane.kept_fold] | split | intro _
theorem lanePlyMirror_kept a0 a1 l (h : l.Kept B) : (lanePlyMirror a0 a1 l).Kept B := by
  unfold lanePlyMirror
  repeat' with_reducible first
    | assumption | apply deliverMessage_kept | simp only [↓Lane.kept_mk, ↓Lane.kept_fold] | split | intro _
theorem lanePlyOffer_kept a0 a1 a2 a3 l (h : l.Kept B) : (lanePlyOffer a0 a1 a2 a3 l).Kept B := by
  unfold lanePlyOffer
  repeat' with_reducible first
    | assumption | apply deliverMessage_kept | simp only [↓Lane.kept_mk, ↓Lane.kept_fold] | split | intro _
theorem pairBegin_kept a0 l (h : l.Kept B) : (pairBegin a0 l).Kept B := by
  unfold pairBegin
  repeat' with_reducible first
    | assumption | simp only [↓Lane.kept_mk, ↓Lane.kept_fold] | split | intro _
theorem pairApply_kept a0 l (h : l.Kept B) : (pairApply a0 l).1.Kept B := by
  unfold pairApply
  repeat' with_reducible first
    | assumption | apply plySettle_kept | apply sendHello_kept | apply leaseChange_kept | apply pairBegin_kept | simp only
      [↓Lane.kept_mk, ↓Lane.kept_fold] | split | intro _
theorem lanePlyPair_kept a0 l (h : l.Kept B) : (lanePlyPair a0 l).Kept B := by
  unfold lanePlyPair
  repeat' with_reducible first
    | assumption | apply serve_kept | apply pairApply_kept | simp only [↓Lane.kept_mk, ↓Lane.kept_fold] | split | intro _
theorem lanePlyPullData_kept a0 a1 a2 l (h : l.Kept B) : (lanePlyPullData a0 a1 a2 l).Kept B := by
  unfold lanePlyPullData
  repeat' with_reducible first
    | assumption | apply deliverMessage_kept | simp only [↓Lane.kept_mk, ↓Lane.kept_fold] | split | intro _
theorem lanePlyPullReq_kept a0 a1 a2 l (h : l.Kept B) : (lanePlyPullReq a0 a1 a2 l).Kept B := by
  unfold lanePlyPullReq
  repeat' with_reducible first
    | assumption | apply deliverMessage_kept | simp only [↓Lane.kept_mk, ↓Lane.kept_fold] | split | intro _
theorem plyQueryApply_kept a0 l (h : l.Kept B) : (plyQueryApply a0 l).1.Kept B := by
  unfold plyQueryApply
  repeat' with_reducible first
    | assumption | simp only [↓Lane.kept_mk, ↓Lane.kept_fold] | split | intro _
theorem lanePlyQuery_kept a0 l (h : l.Kept B) : (lanePlyQuery a0 l).Kept B := by
  unfold lanePlyQuery
  repeat' with_reducible first
    | assumption | apply serve_kept | apply plyQueryApply_kept | simp only [↓Lane.kept_mk, ↓Lane.kept_fold] | split | intro _
theorem lanePlyRelease_kept a0 a1 a2 a3 a4 l (h : l.Kept B) : (lanePlyRelease a0 a1 a2 a3 a4 l).Kept B := by
  unfold lanePlyRelease
  repeat' with_reducible first
    | assumption | apply deliverMessage_kept | simp only [↓Lane.kept_mk, ↓Lane.kept_fold] | split | intro _
theorem lanePlyRenew_kept a0 a1 a2 a3 a4 a5 l (h : l.Kept B) : (lanePlyRenew a0 a1 a2 a3 a4 a5 l).Kept B := by
  unfold lanePlyRenew
  repeat' with_reducible first
    | assumption | apply deliverMessage_kept | simp only [↓Lane.kept_mk, ↓Lane.kept_fold] | split | intro _
theorem lanePlyRenewAck_kept a0 a1 a2 a3 a4 l (h : l.Kept B) : (lanePlyRenewAck a0 a1 a2 a3 a4 l).Kept B := by
  unfold lanePlyRenewAck
  repeat' with_reducible first
    | assumption | apply deliverMessage_kept | simp only [↓Lane.kept_mk, ↓Lane.kept_fold] | split | intro _
theorem lanePlyRetrain_kept a0 l (h : l.Kept B) : (lanePlyRetrain a0 l).Kept B := by
  unfold lanePlyRetrain
  repeat' with_reducible first
    | assumption | apply returnLink_kept | apply setLink_kept | simp only [↓Lane.kept_mk, ↓Lane.kept_fold] | split | intro _
theorem plySetApply_kept a0 l (h : l.Kept B) : (plySetApply a0 l).1.Kept B := by
  unfold plySetApply
  repeat' with_reducible first
    | assumption | apply plySettle_kept | apply endSuspension_kept | apply Lane.kept_foldl | simp only [↓Lane.kept_mk,
      ↓Lane.kept_fold] | split | intro _
theorem lanePlySet_kept a0 l (h : l.Kept B) : (lanePlySet a0 l).Kept B := by
  unfold lanePlySet
  repeat' with_reducible first
    | assumption | apply serve_kept | apply plySetApply_kept | simp only [↓Lane.kept_mk, ↓Lane.kept_fold] | split | intro _
theorem lanePlyTamper_kept a0 a1 a2 l (h : l.Kept B) : (lanePlyTamper a0 a1 a2 l).Kept B := by
  unfold lanePlyTamper
  repeat' with_reducible first
    | assumption | apply deliverMessage_kept | simp only [↓Lane.kept_mk, ↓Lane.kept_fold] | split | intro _
theorem lanePlyTimeMessage_kept a0 a1 a2 a3 l (h : l.Kept B) : (lanePlyTimeMessage a0 a1 a2 a3 l).Kept B := by
  unfold lanePlyTimeMessage
  repeat' with_reducible first
    | assumption | apply deliverMessage_kept | simp only [↓Lane.kept_mk, ↓Lane.kept_fold] | split | intro _
theorem unpaired_kept l (h : l.Kept B) : (unpaired l).Kept B := by
  unfold unpaired
  repeat' with_reducible first
    | assumption | simp only [↓Lane.kept_mk, ↓Lane.kept_fold] | split | intro _
theorem unpairApply_kept a0 l (h : l.Kept B) : (unpairApply a0 l).1.Kept B := by
  unfold unpairApply
  repeat' with_reducible first
    | assumption | apply plySettle_kept | apply leaseChange_kept | apply unpaired_kept | simp only [↓Lane.kept_mk,
      ↓Lane.kept_fold] | split | intro _
theorem lanePlyUnpair_kept a0 l (h : l.Kept B) : (lanePlyUnpair a0 l).Kept B := by
  unfold lanePlyUnpair
  repeat' with_reducible first
    | assumption | apply serve_kept | apply unpairApply_kept | simp only [↓Lane.kept_mk, ↓Lane.kept_fold] | split | intro _
theorem lanePlyVote_kept a0 a1 l (h : l.Kept B) : (lanePlyVote a0 a1 l).Kept B := by
  unfold lanePlyVote
  repeat' with_reducible first
    | assumption | apply deliverMessage_kept | simp only [↓Lane.kept_mk, ↓Lane.kept_fold] | split | intro _
theorem laneWitnessPing_kept a0 l (h : l.Kept B) : (laneWitnessPing a0 l).Kept B := by
  unfold laneWitnessPing
  repeat' with_reducible first
    | assumption | apply askWitness_kept | simp only [↓Lane.kept_mk, ↓Lane.kept_fold] | split | intro _
theorem laneRenewAckTimeout_kept a0 l (h : l.Kept B) : (laneRenewAckTimeout a0 l).Kept B := by
  unfold laneRenewAckTimeout
  repeat' with_reducible first
    | assumption | apply setLease_kept | apply askWitness_kept | simp only [↓Lane.kept_mk, ↓Lane.kept_fold] | split | intro _
theorem lanePlyWitnessQuery_kept a0 a1 l (h : l.Kept B) : (lanePlyWitnessQuery a0 a1 l).Kept B := by
  unfold lanePlyWitnessQuery
  repeat' with_reducible first
    | assumption | apply laneWitnessPing_kept | apply laneRenewAckTimeout_kept | apply laneClaimRepeat_kept | simp only
      [↓Lane.kept_mk, ↓Lane.kept_fold] | split | intro _
theorem witnessWrite_kept a0 l (h : l.Kept B) : (witnessWrite a0 l).Kept B := by
  unfold witnessWrite
  repeat' with_reducible first
    | assumption | apply plySettle_kept | apply witnessAnswer_kept | simp only [↓Lane.kept_mk, ↓Lane.kept_fold] | split |
      intro _
theorem lanePlyWitnessWrite_kept a0 l (h : l.Kept B) : (lanePlyWitnessWrite a0 l).Kept B := by
  unfold lanePlyWitnessWrite
  repeat' with_reducible first
    | assumption | apply hostOp_kept | apply witnessWrite_kept | simp only [↓Lane.kept_mk, ↓Lane.kept_fold] | split | intro _
theorem lanePlyYield_kept a0 a1 a2 l (h : l.Kept B) : (lanePlyYield a0 a1 a2 l).Kept B := by
  unfold lanePlyYield
  repeat' with_reducible first
    | assumption | apply deliverMessage_kept | simp only [↓Lane.kept_mk, ↓Lane.kept_fold] | split | intro _
theorem pmuFrame_kept a0 a1 a2 a3 a4 l (h : l.Kept B) : (pmuFrame a0 a1 a2 a3 a4 l).Kept B := by
  unfold pmuFrame
  repeat' with_reducible first
    | assumption | apply emit_kept | apply dropState_kept | apply rejectSize_kept | apply rejectDecode_kept | apply
      checkData_kept | simp only [↓Lane.kept_mk, ↓Lane.kept_fold] | split | intro _
theorem lanePmuDecode_kept a0 l (h : l.Kept B) : (lanePmuDecode a0 l).Kept B := by
  unfold lanePmuDecode
  repeat' with_reducible first
    | assumption | apply pmuFrame_kept | apply popItem_kept | simp only [↓Lane.kept_mk, ↓Lane.kept_fold] | split | intro _
theorem pollReadApply_kept a0 l (h : l.Kept B) : (pollReadApply a0 l).1.Kept B := by
  unfold pollReadApply
  repeat' with_reducible first
    | assumption | simp only [↓Lane.kept_mk, ↓Lane.kept_fold] | split | intro _
theorem lanePollRead_kept a0 l (h : l.Kept B) : (lanePollRead a0 l).Kept B := by
  unfold lanePollRead
  repeat' with_reducible first
    | assumption | apply serve_kept | apply pollReadApply_kept | simp only [↓Lane.kept_mk, ↓Lane.kept_fold] | split | intro _
theorem lanePollSend_kept a0 l (h : l.Kept B) : (lanePollSend a0 l).Kept B := by
  unfold lanePollSend
  repeat' with_reducible first
    | assumption | apply setSerial_kept | apply emit_kept | apply setStation_kept | simp only [↓Lane.kept_mk,
      ↓Lane.kept_fold] | split | intro _
theorem pollWrite_kept a0 l (h : l.Kept B) : (pollWrite a0 l).1.Kept B := by
  unfold pollWrite
  repeat' with_reducible first
    | assumption | apply setStation_kept | apply setSerial_kept | apply offlineAlarm_kept | apply Lane.kept_foldl | simp
      only [↓Lane.kept_mk, ↓Lane.kept_fold] | split | intro _
theorem lanePollWrite_kept a0 l (h : l.Kept B) : (lanePollWrite a0 l).Kept B := by
  unfold lanePollWrite
  repeat' with_reducible first
    | assumption | apply serve_kept | apply pollWrite_kept | simp only [↓Lane.kept_mk, ↓Lane.kept_fold] | split | intro _
theorem polledAsdu_kept a0 a1 a2 a3 l (h : l.Kept B) : (polledAsdu a0 a1 a2 a3 l).Kept B := by
  unfold polledAsdu
  repeat' with_reducible first
    | assumption | apply dropState_kept | apply countStream_kept | apply rejectSize_kept | apply rejectDecode_kept | apply
      acceptFrame_kept | apply deliverValues_kept | apply Lane.kept_foldl | simp only [↓Lane.kept_mk, ↓Lane.kept_fold] |
        split | intro _
theorem lanePolledAsdu_kept a0 l (h : l.Kept B) : (lanePolledAsdu a0 l).Kept B := by
  unfold lanePolledAsdu
  repeat' with_reducible first
    | assumption | apply polledAsdu_kept | apply popItem_kept | simp only [↓Lane.kept_mk, ↓Lane.kept_fold] | split | intro _
theorem poolSplitApply_kept a0 l (h : l.Kept B) : (poolSplitApply a0 l).1.Kept B := by
  unfold poolSplitApply
  repeat' with_reducible first
    | assumption | apply writeStore_kept | simp only [↓Lane.kept_mk, ↓Lane.kept_fold] | split | intro _
theorem lanePoolSplit_kept a0 l (h : l.Kept B) : (lanePoolSplit a0 l).Kept B := by
  unfold lanePoolSplit
  repeat' with_reducible first
    | assumption | apply serve_kept | apply poolSplitApply_kept | simp only [↓Lane.kept_mk, ↓Lane.kept_fold] | split | intro _
theorem portCountersApply_kept a0 l (h : l.Kept B) : (portCountersApply a0 l).1.Kept B := by
  unfold portCountersApply
  repeat' with_reducible first
    | assumption | simp only [↓Lane.kept_mk, ↓Lane.kept_fold] | split | intro _
theorem lanePortCounters_kept a0 l (h : l.Kept B) : (lanePortCounters a0 l).Kept B := by
  unfold lanePortCounters
  repeat' with_reducible first
    | assumption | apply serve_kept | apply portCountersApply_kept | simp only [↓Lane.kept_mk, ↓Lane.kept_fold] | split |
      intro _
theorem portSetApply_kept a0 l (h : l.Kept B) : (portSetApply a0 l).1.Kept B := by
  unfold portSetApply
  repeat' with_reducible first
    | assumption | apply ethSetApply_kept | simp only [↓Lane.kept_mk, ↓Lane.kept_fold] | split | intro _
theorem lanePortSet_kept a0 l (h : l.Kept B) : (lanePortSet a0 l).Kept B := by
  unfold lanePortSet
  repeat' with_reducible first
    | assumption | apply serve_kept | apply portSetApply_kept | simp only [↓Lane.kept_mk, ↓Lane.kept_fold] | split | intro _
theorem ppsMeasure_kept a0 a1 l (h : l.Kept B) : (ppsMeasure a0 a1 l).Kept B := by
  unfold ppsMeasure
  repeat' with_reducible first
    | assumption | apply measure_kept | simp only [↓Lane.kept_mk, ↓Lane.kept_fold] | split | intro _
theorem lanePpsEdge_kept a0 l (h : l.Kept B) : (lanePpsEdge a0 l).Kept B := by
  unfold lanePpsEdge
  repeat' with_reducible first
    | assumption | apply setRef_kept | apply ppsMeasure_kept | apply refreshUtc_kept | simp only [↓Lane.kept_mk,
      ↓Lane.kept_fold] | split | intro _
theorem syncMeasurement_kept a0 a1 a2 a3 l (h : l.Kept B) : (syncMeasurement a0 a1 a2 a3 l).Kept B := by
  unfold syncMeasurement
  repeat' with_reducible first
    | assumption | apply measure_kept | simp only [↓Lane.kept_mk, ↓Lane.kept_fold] | split | intro _
theorem lanePtpFollowUp_kept a0 l (h : l.Kept B) : (lanePtpFollowUp a0 l).Kept B := by
  unfold lanePtpFollowUp
  repeat' with_reducible first
    | assumption | apply dropPtp_kept | apply syncMeasurement_kept | apply setPtpPort_kept | simp only [↓Lane.kept_mk,
      ↓Lane.kept_fold] | split | intro _
theorem lanePtpMasterSend_kept a0 l (h : l.Kept B) : (lanePtpMasterSend a0 l).Kept B := by
  unfold lanePtpMasterSend
  repeat' with_reducible first
    | assumption | apply decidePorts_kept | apply setPtpPort_kept | apply emit_kept | simp only [↓Lane.kept_mk,
      ↓Lane.kept_fold] | split | intro _
theorem ptpPortApply_kept a0 l (h : l.Kept B) : (ptpPortApply a0 l).1.Kept B := by
  unfold ptpPortApply
  repeat' with_reducible first
    | assumption | apply decidePorts_kept | simp only [↓Lane.kept_mk, ↓Lane.kept_fold] | split | intro _
theorem lanePtpPortSet_kept a0 l (h : l.Kept B) : (lanePtpPortSet a0 l).Kept B := by
  unfold lanePtpPortSet
  repeat' with_reducible first
    | assumption | apply serve_kept | apply ptpPortApply_kept | simp only [↓Lane.kept_mk, ↓Lane.kept_fold] | split | intro _
theorem lanePtpSync_kept a0 l (h : l.Kept B) : (lanePtpSync a0 l).Kept B := by
  unfold lanePtpSync
  repeat' with_reducible first
    | assumption | apply dropPtp_kept | apply setPtpPort_kept | apply syncMeasurement_kept | simp only [↓Lane.kept_mk,
      ↓Lane.kept_fold] | split | intro _
theorem publishQueryApply_kept a0 l (h : l.Kept B) : (publishQueryApply a0 l).1.Kept B := by
  unfold publishQueryApply
  repeat' with_reducible first
    | assumption | simp only [↓Lane.kept_mk, ↓Lane.kept_fold] | split | intro _
theorem lanePublishQuery_kept a0 l (h : l.Kept B) : (lanePublishQuery a0 l).Kept B := by
  unfold lanePublishQuery
  repeat' with_reducible first
    | assumption | apply serve_kept | apply publishQueryApply_kept | simp only [↓Lane.kept_mk, ↓Lane.kept_fold] | split |
      intro _
theorem progress_kept a0 a1 a2 l (h : l.Kept B) : (progress a0 a1 a2 l).Kept B := by
  unfold progress
  repeat' with_reducible first
    | assumption | apply setQueue_kept | simp only [↓Lane.kept_mk, ↓Lane.kept_fold] | split | intro _
theorem laneQueueDropRest_kept a0 a1 a2 l (h : l.Kept B) : (laneQueueDropRest a0 a1 a2 l).Kept B := by
  unfold laneQueueDropRest
  repeat' with_reducible first
    | assumption | apply serve_kept | apply dropRestApply_kept | apply progress_kept | simp only [↓Lane.kept_mk,
      ↓Lane.kept_fold] | split | intro _
theorem laneQueueFlush_kept a0 a1 a2 l (h : l.Kept B) : (laneQueueFlush a0 a1 a2 l).Kept B := by
  unfold laneQueueFlush
  repeat' with_reducible first
    | assumption | apply serve_kept | apply flushApply_kept | apply progress_kept | simp only [↓Lane.kept_mk,
      ↓Lane.kept_fold] | split | intro _
theorem queueReply_kept a0 l (h : l.Kept B) : (queueReply a0 l).1.Kept B := by
  unfold queueReply
  repeat' with_reducible first
    | assumption | apply setQueue_kept | simp only [↓Lane.kept_mk, ↓Lane.kept_fold] | split | intro _
theorem queueReadApply_kept a0 l (h : l.Kept B) : (queueReadApply a0 l).1.Kept B := by
  unfold queueReadApply
  repeat' with_reducible first
    | assumption | apply queueReply_kept | simp only [↓Lane.kept_mk, ↓Lane.kept_fold] | split | intro _
theorem laneQueueRead_kept a0 l (h : l.Kept B) : (laneQueueRead a0 l).Kept B := by
  unfold laneQueueRead
  repeat' with_reducible first
    | assumption | apply serve_kept | apply queueReadApply_kept | simp only [↓Lane.kept_mk, ↓Lane.kept_fold] | split | intro _
theorem queueSetApply_kept a0 l (h : l.Kept B) : (queueSetApply a0 l).1.Kept B := by
  unfold queueSetApply
  repeat' with_reducible first
    | assumption | apply queueReply_kept | apply noteDepth_kept | simp only [↓Lane.kept_mk, ↓Lane.kept_fold] | split | intro _
theorem laneQueueSet_kept a0 l (h : l.Kept B) : (laneQueueSet a0 l).Kept B := by
  unfold laneQueueSet
  repeat' with_reducible first
    | assumption | apply serve_kept | apply queueSetApply_kept | simp only [↓Lane.kept_mk, ↓Lane.kept_fold] | split | intro _
theorem laneQuorumTick_kept a0 l (h : l.Kept B) : (laneQuorumTick a0 l).Kept B := by
  unfold laneQuorumTick
  repeat' with_reducible first
    | assumption | apply closeCourses_kept | apply modCourse_kept | simp only [↓Lane.kept_mk, ↓Lane.kept_fold] | split |
      intro _
theorem laneRateRestore_kept a0 l (h : l.Kept B) : (laneRateRestore a0 l).Kept B := by
  unfold laneRateRestore
  repeat' with_reducible first
    | assumption | apply setBuffer_kept | simp only [↓Lane.kept_mk, ↓Lane.kept_fold] | split | intro _
theorem laneRearm_kept a0 l (h : l.Kept B) : (laneRearm a0 l).Kept B := by
  unfold laneRearm
  split
  · exact h
  · simp only []
    split
    · exact h
    · split
      · exact setProfile_kept _ _ _ h
      · rename_i hs
        exact actHeld_kept _ _ _ (setProfile_kept _ _ _ (takeRing_kept (emptyRing_kept _ _ h) hs))
theorem rearmOpApply_kept a0 l (h : l.Kept B) : (rearmOpApply a0 l).1.Kept B := by
  unfold rearmOpApply
  repeat' with_reducible first
    | assumption | apply armProfile_kept | simp only [↓Lane.kept_mk, ↓Lane.kept_fold] | split | intro _
theorem laneRearmOp_kept a0 l (h : l.Kept B) : (laneRearmOp a0 l).Kept B := by
  unfold laneRearmOp
  repeat' with_reducible first
    | assumption | apply serve_kept | apply rearmOpApply_kept | simp only [↓Lane.kept_mk, ↓Lane.kept_fold] | split | intro _
theorem laneRef10mLost_kept l (h : l.Kept B) : (laneRef10mLost l).Kept B := by
  unfold laneRef10mLost
  repeat' with_reducible first
    | assumption | simp only [↓Lane.kept_mk, ↓Lane.kept_fold] | split | intro _
theorem laneRef10mQualify_kept l (h : l.Kept B) : (laneRef10mQualify l).Kept B := by
  unfold laneRef10mQualify
  repeat' with_reducible first
    | assumption | simp only [↓Lane.kept_mk, ↓Lane.kept_fold] | split | intro _
theorem laneReferenceLoss_kept a0 l (h : l.Kept B) : (laneReferenceLoss a0 l).Kept B := by
  unfold laneReferenceLoss
  repeat' with_reducible first
    | assumption | apply deselect_kept | apply setRef_kept | simp only [↓Lane.kept_mk, ↓Lane.kept_fold] | split | intro _
theorem writeSys_kept a0 a1 l (h : l.Kept B) : (writeSys a0 a1 l).Kept B := by
  unfold writeSys
  repeat' with_reducible first
    | assumption | simp only [↓Lane.kept_mk, ↓Lane.kept_fold] | split | intro _
theorem writeMask_kept a0 l (h : l.Kept B) : (writeMask a0 l).Kept B := by
  unfold writeMask
  repeat' with_reducible first
    | assumption | apply signalCause_kept | apply Lane.kept_foldl | simp only [↓Lane.kept_mk, ↓Lane.kept_fold] | split |
      intro _
theorem writeInt_kept a0 a1 l (h : l.Kept B) : (writeInt a0 a1 l).Kept B := by
  unfold writeInt
  repeat' with_reducible first
    | assumption | apply writeMask_kept | simp only [↓Lane.kept_mk, ↓Lane.kept_fold] | split | intro _
theorem ringCtrl_kept a0 a1 l (h : l.Kept B) : (ringCtrl a0 a1 l).Kept B := by
  unfold ringCtrl
  repeat' with_reducible first
    | assumption | apply setRing_kept | apply disableRing_kept | simp only [↓Lane.kept_mk, ↓Lane.kept_fold] | split | intro _
theorem writeGlg_kept a0 a1 l (h : l.Kept B) : (writeGlg a0 a1 l).Kept B := by
  unfold writeGlg
  repeat' with_reducible first
    | assumption | apply ringCtrl_kept | apply setRing_kept | simp only [↓Lane.kept_mk, ↓Lane.kept_fold] | split | intro _
theorem txCtrl_kept a0 l (h : l.Kept B) : (txCtrl a0 l).Kept B := by
  unfold txCtrl
  repeat' with_reducible first
    | assumption | apply disableTx_kept | simp only [↓Lane.kept_mk, ↓Lane.kept_fold] | split | intro _
theorem rxCtrl_kept a0 l (h : l.Kept B) : (rxCtrl a0 l).Kept B := by
  unfold rxCtrl
  repeat' with_reducible first
    | assumption | apply disableRx_kept | simp only [↓Lane.kept_mk, ↓Lane.kept_fold] | split | intro _
theorem writeHfr_kept a0 a1 l (h : l.Kept B) : (writeHfr a0 a1 l).Kept B := by
  unfold writeHfr
  repeat' with_reducible first
    | assumption | apply txCtrl_kept | apply rxCtrl_kept | simp only [↓Lane.kept_mk, ↓Lane.kept_fold] | split | intro _
theorem writeMbx_kept a0 a1 l (h : l.Kept B) : (writeMbx a0 a1 l).Kept B := by
  unfold writeMbx
  repeat' with_reducible first
    | assumption | simp only [↓Lane.kept_mk, ↓Lane.kept_fold] | split | intro _
theorem writeReg_kept a0 a1 l (h : l.Kept B) : (writeReg a0 a1 l).Kept B := by
  unfold writeReg
  repeat' with_reducible first
    | assumption | apply writeSys_kept | apply writeInt_kept | apply writeGlg_kept | apply writeHfr_kept | apply
      writeMbx_kept | simp only [↓Lane.kept_mk, ↓Lane.kept_fold] | split | intro _
theorem laneRegisterWrite_kept a0 a1 l (h : l.Kept B) : (laneRegisterWrite a0 a1 l).Kept B := by
  unfold laneRegisterWrite
  repeat' with_reducible first
    | assumption | apply hostOp_kept | apply writeReg_kept | simp only [↓Lane.kept_mk, ↓Lane.kept_fold] | split | intro _
theorem laneRenewSend_kept a0 l (h : l.Kept B) : (laneRenewSend a0 l).Kept B := by
  unfold laneRenewSend
  repeat' with_reducible first
    | assumption | apply sendRenew_kept | simp only [↓Lane.kept_mk, ↓Lane.kept_fold] | split | intro _
theorem laneReportDelivery_kept a0 l (h : l.Kept B) : (laneReportDelivery a0 l).Kept B := by
  unfold laneReportDelivery
  repeat' with_reducible first
    | assumption | apply popItem_kept | apply dropState_kept | apply countDuplicate_kept | apply setMesh_kept | apply
      countStream_kept | apply deliverValues_kept | apply acceptFrame_kept | simp only [↓Lane.kept_mk, ↓Lane.kept_fold] |
        split | intro _

end Sys2Proof.Machine
end

