-- ==== Sys2Proof/Laws/Kept5.lean ====
section
/-!
SUPPORT. The lane functions of the model keep a lane's invariants (`Lane.Kept`), part 5 of 5: each lemma says that one
    function keeps
the lane's identity, its count and its strap, canonical tiles, sound task entries and a bounded fault log. Functions stand in
    the
order in which they call one another.
-/
set_option linter.unusedSimpArgs false

namespace Sys2Proof.Machine
variable {B : LaneId × Nat × Bool}

theorem resetRestartStart_kept a0 l (h : l.Kept B) : (resetRestartStart a0 l).Kept B := by
  unfold resetRestartStart
  repeat' with_reducible first
    | assumption | apply resetToStart_kept | apply postReply_kept | simp only [↓Lane.kept_mk, ↓Lane.kept_fold] | split |
      intro _
theorem laneResetRestart_kept a0 l (h : l.Kept B) : (laneResetRestart a0 l).Kept B := by
  unfold laneResetRestart
  repeat' with_reducible first
    | assumption | apply serveHeld_kept | apply resetRestartStart_kept | simp only [↓Lane.kept_mk, ↓Lane.kept_fold] | split
      | intro _
theorem resetToSalvage_kept a0 l (h : l.Kept B) : (resetToSalvage a0 l).Kept B := by
  unfold resetToSalvage
  repeat' with_reducible first
    | assumption | apply freshLane_kept | apply leave_kept | simp only [↓Lane.kept_mk, ↓Lane.kept_fold] | split | intro _
theorem resetSalvageStart_kept a0 l (h : l.Kept B) : (resetSalvageStart a0 l).Kept B := by
  unfold resetSalvageStart
  repeat' with_reducible first
    | assumption | apply resetToSalvage_kept | apply postReply_kept | simp only [↓Lane.kept_mk, ↓Lane.kept_fold] | split |
      intro _
theorem laneResetSalvage_kept a0 l (h : l.Kept B) : (laneResetSalvage a0 l).Kept B := by
  unfold laneResetSalvage
  repeat' with_reducible first
    | assumption | apply serveHeld_kept | apply resetSalvageStart_kept | simp only [↓Lane.kept_mk, ↓Lane.kept_fold] | split
      | intro _
theorem laneRespondBind_kept a0 l (h : l.Kept B) : (laneRespondBind a0 l).Kept B := by
  unfold laneRespondBind
  repeat' with_reducible first
    | assumption | apply serveHeld_kept | apply bindStart_kept | simp only [↓Lane.kept_mk, ↓Lane.kept_fold] | split | intro _
theorem respondDropApply_kept a0 l (h : l.Kept B) : (respondDropApply a0 l).1.Kept B := by
  unfold respondDropApply
  repeat' with_reducible first
    | assumption | simp only [↓Lane.kept_mk, ↓Lane.kept_fold] | split | intro _
theorem laneRespondDrop_kept a0 l (h : l.Kept B) : (laneRespondDrop a0 l).Kept B := by
  unfold laneRespondDrop
  repeat' with_reducible first
    | assumption | apply serve_kept | apply respondDropApply_kept | simp only [↓Lane.kept_mk, ↓Lane.kept_fold] | split |
      intro _
theorem takeStart_kept a0 l (h : l.Kept B) : (takeStart a0 l).Kept B := by
  unfold takeStart
  repeat' with_reducible first
    | assumption | apply grantPrivilege_kept | apply failResponse_kept | simp only [↓Lane.kept_mk, ↓Lane.kept_fold] | split
      | intro _
theorem laneRespondTake_kept a0 l (h : l.Kept B) : (laneRespondTake a0 l).Kept B := by
  unfold laneRespondTake
  repeat' with_reducible first
    | assumption | apply serveHeld_kept | apply takeStart_kept | simp only [↓Lane.kept_mk, ↓Lane.kept_fold] | split | intro _
theorem stationOffline_kept a0 a1 l (h : l.Kept B) : (stationOffline a0 a1 l).Kept B := by
  unfold stationOffline
  repeat' with_reducible first
    | assumption | apply setStation_kept | apply countSerial_kept | apply invalidatePoints_kept | apply offlineAlarm_kept |
      apply lastingFault_kept | apply Lane.kept_foldl | simp only [↓Lane.kept_mk, ↓Lane.kept_fold] | split | intro _
theorem requestFails_kept a0 a1 l (h : l.Kept B) : (requestFails a0 a1 l).Kept B := by
  unfold requestFails
  repeat' with_reducible first
    | assumption | apply setSerial_kept | apply stationOffline_kept | simp only [↓Lane.kept_mk, ↓Lane.kept_fold] | split |
      intro _
theorem laneResponseTimeout_kept a0 l (h : l.Kept B) : (laneResponseTimeout a0 l).Kept B := by
  unfold laneResponseTimeout
  repeat' with_reducible first
    | assumption | apply requestFails_kept | apply countSerial_kept | simp only [↓Lane.kept_mk, ↓Lane.kept_fold] | split |
      intro _
theorem resultStart_kept a0 l (h : l.Kept B) : (resultStart a0 l).Kept B := by
  unfold resultStart
  repeat' with_reducible first
    | assumption | apply postReply_kept | simp only [↓Lane.kept_mk, ↓Lane.kept_fold] | split | intro _
theorem laneResultRead_kept a0 l (h : l.Kept B) : (laneResultRead a0 l).Kept B := by
  unfold laneResultRead
  repeat' with_reducible first
    | assumption | apply serveHeld_kept | apply resultStart_kept | simp only [↓Lane.kept_mk, ↓Lane.kept_fold] | split |
      intro _
theorem laneResultWrite_kept a0 l (h : l.Kept B) : (laneResultWrite a0 l).Kept B := by
  unfold laneResultWrite
  simp only []
  repeat' with_reducible first
    | assumption | apply modTiles_kept | split | (intro _ _ ht; exact settleResults_wf _ _ ht)
theorem laneRevertExpiry_kept l (h : l.Kept B) : (laneRevertExpiry l).Kept B := by
  unfold laneRevertExpiry
  repeat' with_reducible first
    | assumption | apply switchRef_kept | simp only [↓Lane.kept_mk, ↓Lane.kept_fold] | split | intro _
theorem laneRideThrough_kept l (h : l.Kept B) : (laneRideThrough l).Kept B := by
  unfold laneRideThrough
  repeat' with_reducible first
    | assumption | apply armProfile_kept | apply raiseEvent_kept | apply Lane.kept_foldl | simp only [↓Lane.kept_mk,
      ↓Lane.kept_fold] | split | intro _
theorem laneRingEnable_kept a0 a1 l (h : l.Kept B) : (laneRingEnable a0 a1 l).Kept B := by
  unfold laneRingEnable
  repeat' with_reducible first
    | assumption | apply pcieOp_kept | apply ringCtrl_kept | simp only [↓Lane.kept_mk, ↓Lane.kept_fold] | split | intro _
theorem laneRoleChallenge_kept a0 l (h : l.Kept B) : (laneRoleChallenge a0 l).Kept B := by
  unfold laneRoleChallenge
  repeat' with_reducible first
    | assumption | apply serve_kept | apply challengeApply_kept | simp only [↓Lane.kept_mk, ↓Lane.kept_fold] | split | intro _
theorem laneRoundRetry_kept a0 a1 l (h : l.Kept B) : (laneRoundRetry a0 a1 l).Kept B := by
  unfold laneRoundRetry
  repeat' with_reducible first
    | assumption | apply startRound_kept | apply writeHeader_kept | apply setPart_kept | apply giveUp_kept | apply
      lastingFault_kept | apply tileLasting_kept | apply markFaulted_kept | simp only [↓Lane.kept_mk, ↓Lane.kept_fold] |
        split | intro _
theorem resetAtSample_kept a0 a1 a2 l (h : l.Kept B) : (resetAtSample a0 a1 a2 l).Kept B := by
  unfold resetAtSample
  repeat' with_reducible first
    | assumption | apply settleSwaps_kept | apply setPeRun_kept | simp only [↓Lane.kept_mk, ↓Lane.kept_fold] | split | intro _
theorem pushSample_kept a0 a1 a2 a3 a4 a5 a6 a7 l (h : l.Kept B) : (pushSample a0 a1 a2 a3 a4 a5 a6 a7 l).Kept B := by
  unfold pushSample
  repeat' with_reducible first
    | assumption | apply resetAtSample_kept | apply setPeRun_kept | simp only [↓Lane.kept_mk, ↓Lane.kept_fold] | split |
      intro _
theorem pushMissing_kept a0 a1 a2 a3 l (h : l.Kept B) : (pushMissing a0 a1 a2 a3 l).Kept B := by
  unfold pushMissing
  repeat' with_reducible first
    | assumption | apply pushSample_kept | apply Lane.kept_foldl | simp only [↓Lane.kept_mk, ↓Lane.kept_fold] | split |
      intro _
theorem markGap_kept a0 l (h : l.Kept B) : (markGap a0 l).Kept B := by
  unfold markGap
  repeat' with_reducible first
    | assumption | apply markResets_kept | simp only [↓Lane.kept_mk, ↓Lane.kept_fold] | split | intro _
theorem svSamples_kept a0 a1 a2 a3 a4 a5 a6 l (h : l.Kept B) : (svSamples a0 a1 a2 a3 a4 a5 a6 l).Kept B := by
  unfold svSamples
  repeat' with_reducible first
    | assumption | apply pushSample_kept | apply Lane.kept_foldl | simp only [↓Lane.kept_mk, ↓Lane.kept_fold] | split |
      intro _
theorem svAsdu_kept a0 a1 a2 a3 a4 a5 a6 l (h : l.Kept B) : (svAsdu a0 a1 a2 a3 a4 a5 a6 l).1.Kept B := by
  unfold svAsdu
  repeat' with_reducible first
    | assumption | apply rejectDecode_kept | apply setRun_kept | apply raiseEvent_kept | apply enterState_kept | apply
      countDuplicate_kept | apply pushMissing_kept | apply markGap_kept | apply svSamples_kept | simp only [↓Lane.kept_mk,
        ↓Lane.kept_fold] | split | intro _
theorem svFrame_kept a0 a1 a2 a3 a4 a5 a6 l (h : l.Kept B) : (svFrame a0 a1 a2 a3 a4 a5 a6 l).Kept B := by
  have hr : (a1.asdus.foldl (fun (acc : Lane × Bool) a =>
      ((svAsdu a0 a3 a4 a1.simulation a2 a5 a acc.1).1, acc.2 || (svAsdu a0 a3 a4 a1.simulation a2 a5 a acc.1).2))
      (l, false)).1.Kept B := kept_foldl_fst _ _ h (fun x a hx => svAsdu_kept _ _ _ _ _ _ _ _ hx)
  unfold svFrame
  simp only []
  split
  · split
    · exact setRun_kept _ _ _ hr
    · exact hr
  · exact hr
theorem svChecked_kept a0 a1 a2 a3 a4 l (h : l.Kept B) : (svChecked a0 a1 a2 a3 a4 l).Kept B := by
  unfold svChecked
  repeat' with_reducible first
    | assumption | apply dropState_kept | apply rejectSize_kept | apply enterKeyLost_kept | apply rejectAuth_kept | apply
      svFrame_kept | apply countDuplicate_kept | apply setRun_kept | simp only [↓Lane.kept_mk, ↓Lane.kept_fold] | split |
        intro _
theorem laneRoutedSvDecode_kept a0 l (h : l.Kept B) : (laneRoutedSvDecode a0 l).Kept B := by
  unfold laneRoutedSvDecode
  repeat' with_reducible first
    | assumption | apply popItem_kept | apply rejectDecode_kept | apply svChecked_kept | simp only [↓Lane.kept_mk,
      ↓Lane.kept_fold] | split | intro _
theorem laneRowWait_kept a0 l (h : l.Kept B) : (laneRowWait a0 l).Kept B := by
  unfold laneRowWait
  repeat' with_reducible first
    | assumption | apply formRows_kept | apply formRow_kept | simp only [↓Lane.kept_mk, ↓Lane.kept_fold] | split | intro _
theorem laneRstn_kept a0 a1 l (h : l.Kept B) : (laneRstn a0 a1 l).Kept B := by
  unfold laneRstn
  repeat' with_reducible first
    | assumption | apply resetToStart_kept | simp only [↓Lane.kept_mk, ↓Lane.kept_fold] | split | intro _
theorem laneRtcWake_kept l (h : l.Kept B) : (laneRtcWake l).Kept B := by
  unfold laneRtcWake
  repeat' with_reducible first
    | assumption | apply wake_kept | simp only [↓Lane.kept_mk, ↓Lane.kept_fold] | split | intro _
theorem laneRtcWrite_kept l (h : l.Kept B) : (laneRtcWrite l).Kept B := by
  unfold laneRtcWrite
  repeat' with_reducible first
    | assumption | simp only [↓Lane.kept_mk, ↓Lane.kept_fold] | split | intro _
theorem laneRxDropRead_kept l (h : l.Kept B) : (laneRxDropRead l).Kept B := by
  unfold laneRxDropRead
  repeat' with_reducible first
    | assumption | apply pcieOp_kept | apply emit_kept | simp only [↓Lane.kept_mk, ↓Lane.kept_fold] | split | intro _
theorem laneSampleArrival_kept l (h : l.Kept B) : (laneSampleArrival l).Kept B := by
  unfold laneSampleArrival
  repeat' with_reducible first
    | assumption | apply feedProfile_kept | apply Lane.kept_foldl | simp only [↓Lane.kept_mk, ↓Lane.kept_fold] | split |
      intro _
theorem laneScanExpiry_kept a0 l (h : l.Kept B) : (laneScanExpiry a0 l).Kept B := by
  unfold laneScanExpiry
  repeat' with_reducible first
    | assumption | apply setMesh_kept | simp only [↓Lane.kept_mk, ↓Lane.kept_fold] | split | intro _
theorem laneScrub_kept a0 a1 a2 l (h : l.Kept B) : (laneScrub a0 a1 a2 l).Kept B := by
  unfold laneScrub
  repeat' with_reducible first
    | assumption | apply laneErrorRetry_kept | simp only [↓Lane.kept_mk, ↓Lane.kept_fold] | split | intro _
theorem laneSeenExpiry_kept a0 l (h : l.Kept B) : (laneSeenExpiry a0 l).Kept B := by
  unfold laneSeenExpiry
  repeat' with_reducible first
    | assumption | apply setMesh_kept | simp only [↓Lane.kept_mk, ↓Lane.kept_fold] | split | intro _
theorem laneSelfTest_kept a0 a1 l (h : l.Kept B) : (laneSelfTest a0 a1 l).Kept B := by
  unfold laneSelfTest
  repeat' with_reducible first
    | assumption | apply transientFault_kept | apply lastingFault_kept | apply declareUnhealthy_kept | apply raiseCond_kept
      | simp only [↓Lane.kept_mk, ↓Lane.kept_fold] | split | intro _
theorem sendConfig_kept a0 a1 l (h : l.Kept B) : (sendConfig a0 a1 l).Kept B := by
  unfold sendConfig
  repeat' with_reducible first
    | assumption | apply setSession_kept | apply enqueueOrWait_kept | simp only [↓Lane.kept_mk, ↓Lane.kept_fold] | split |
      intro _
theorem laneSendCfg1_kept a0 a1 a2 l (h : l.Kept B) : (laneSendCfg1 a0 a1 a2 l).Kept B := by
  unfold laneSendCfg1
  repeat' with_reducible first
    | assumption | apply sessionCommand_kept | apply sendConfig_kept | simp only [↓Lane.kept_mk, ↓Lane.kept_fold] | split |
      intro _
theorem laneSendCfg2_kept a0 a1 a2 l (h : l.Kept B) : (laneSendCfg2 a0 a1 a2 l).Kept B := by
  unfold laneSendCfg2
  repeat' with_reducible first
    | assumption | apply sessionCommand_kept | apply sendConfig_kept | simp only [↓Lane.kept_mk, ↓Lane.kept_fold] | split |
      intro _
theorem laneSendCfg3_kept a0 a1 a2 l (h : l.Kept B) : (laneSendCfg3 a0 a1 a2 l).Kept B := by
  unfold laneSendCfg3
  repeat' with_reducible first
    | assumption | apply sessionCommand_kept | apply sendConfig_kept | simp only [↓Lane.kept_mk, ↓Lane.kept_fold] | split |
      intro _
theorem sendHeader_kept a0 l (h : l.Kept B) : (sendHeader a0 l).Kept B := by
  unfold sendHeader
  repeat' with_reducible first
    | assumption | apply enqueueOrWait_kept | simp only [↓Lane.kept_mk, ↓Lane.kept_fold] | split | intro _
theorem laneSendHeader_kept a0 a1 a2 l (h : l.Kept B) : (laneSendHeader a0 a1 a2 l).Kept B := by
  unfold laneSendHeader
  repeat' with_reducible first
    | assumption | apply sessionCommand_kept | apply sendHeader_kept | simp only [↓Lane.kept_mk, ↓Lane.kept_fold] | split |
      intro _
theorem laneSerialResponse_kept a0 a1 a2 l (h : l.Kept B) : (laneSerialResponse a0 a1 a2 l).Kept B := by
  unfold laneSerialResponse
  repeat' with_reducible first
    | assumption | apply countSerial_kept | apply requestFails_kept | apply goodResponse_kept | simp only [↓Lane.kept_mk,
      ↓Lane.kept_fold] | split | intro _
theorem servoApply_kept a0 l (h : l.Kept B) : (servoApply a0 l).1.Kept B := by
  unfold servoApply
  repeat' with_reducible first
    | assumption | apply retune_kept | simp only [↓Lane.kept_mk, ↓Lane.kept_fold] | split | intro _
theorem laneServoSet_kept a0 l (h : l.Kept B) : (laneServoSet a0 l).Kept B := by
  unfold laneServoSet
  repeat' with_reducible first
    | assumption | apply serve_kept | apply servoApply_kept | simp only [↓Lane.kept_mk, ↓Lane.kept_fold] | split | intro _
theorem laneSessionClose_kept a0 l (h : l.Kept B) : (laneSessionClose a0 l).Kept B := by
  unfold laneSessionClose
  repeat' with_reducible first
    | assumption | apply serve_kept | apply closeApply_kept | simp only [↓Lane.kept_mk, ↓Lane.kept_fold] | split | intro _
theorem laneSessionModify_kept a0 l (h : l.Kept B) : (laneSessionModify a0 l).Kept B := by
  unfold laneSessionModify
  repeat' with_reducible first
    | assumption | apply serveHeld_kept | apply announceStart_kept | simp only [↓Lane.kept_mk, ↓Lane.kept_fold] | split |
      intro _
theorem openApply_kept a0 l (h : l.Kept B) : (openApply a0 l).1.Kept B := by
  unfold openApply
  repeat' with_reducible first
    | assumption | simp only [↓Lane.kept_mk, ↓Lane.kept_fold] | split | intro _
theorem laneSessionOpen_kept a0 l (h : l.Kept B) : (laneSessionOpen a0 l).Kept B := by
  unfold laneSessionOpen
  repeat' with_reducible first
    | assumption | apply serve_kept | apply openApply_kept | simp only [↓Lane.kept_mk, ↓Lane.kept_fold] | split | intro _
theorem laneSilenceTakeover_kept a0 l (h : l.Kept B) : (laneSilenceTakeover a0 l).Kept B := by
  unfold laneSilenceTakeover
  repeat' with_reducible first
    | assumption | apply askWitness_kept | apply setLease_kept | apply acquire_kept | apply plyAlarms_kept | simp only
      [↓Lane.kept_mk, ↓Lane.kept_fold] | split | intro _
theorem skewApply_kept a0 l (h : l.Kept B) : (skewApply a0 l).1.Kept B := by
  unfold skewApply
  repeat' with_reducible first
    | assumption | apply Lane.kept_foldl | simp only [↓Lane.kept_mk, ↓Lane.kept_fold] | split | intro _
theorem laneSkewSet_kept a0 l (h : l.Kept B) : (laneSkewSet a0 l).Kept B := by
  unfold laneSkewSet
  repeat' with_reducible first
    | assumption | apply serve_kept | apply skewApply_kept | simp only [↓Lane.kept_mk, ↓Lane.kept_fold] | split | intro _
theorem laneSlotAssign_kept a0 l (h : l.Kept B) : (laneSlotAssign a0 l).Kept B := by
  unfold laneSlotAssign
  repeat' with_reducible first
    | assumption | apply serve_kept | apply assignApply_kept | simp only [↓Lane.kept_mk, ↓Lane.kept_fold] | split | intro _
theorem releaseApply_kept a0 l (h : l.Kept B) : (releaseApply a0 l).1.Kept B := by
  unfold releaseApply
  repeat' with_reducible first
    | assumption | apply sendGrants_kept | apply setMesh_kept | simp only [↓Lane.kept_mk, ↓Lane.kept_fold] | split | intro _
theorem laneSlotRelease_kept a0 l (h : l.Kept B) : (laneSlotRelease a0 l).Kept B := by
  unfold laneSlotRelease
  repeat' with_reducible first
    | assumption | apply serve_kept | apply releaseApply_kept | simp only [↓Lane.kept_mk, ↓Lane.kept_fold] | split | intro _
theorem slotSelectStart_kept a0 l (h : l.Kept B) : (slotSelectStart a0 l).Kept B := by
  unfold slotSelectStart
  repeat' with_reducible first
    | assumption | apply postReply_kept | apply resetToStart_kept | simp only [↓Lane.kept_mk, ↓Lane.kept_fold] | split |
      intro _
theorem laneSlotSelect_kept a0 l (h : l.Kept B) : (laneSlotSelect a0 l).Kept B := by
  unfold laneSlotSelect
  repeat' with_reducible first
    | assumption | apply serveHeld_kept | apply slotSelectStart_kept | simp only [↓Lane.kept_mk, ↓Lane.kept_fold] | split |
      intro _
theorem resendGrants_kept a0 l (h : l.Kept B) : (resendGrants a0 l).Kept B := by
  unfold resendGrants
  repeat' with_reducible first
    | assumption | apply sendGrants_kept | apply Lane.kept_foldl | simp only [↓Lane.kept_mk, ↓Lane.kept_fold] | split |
      intro _
theorem sendBeacon_kept a0 a1 l (h : l.Kept B) : (sendBeacon a0 a1 l).Kept B := by
  unfold sendBeacon
  repeat' with_reducible first
    | assumption | apply radioSend_kept | apply setMesh_kept | simp only [↓Lane.kept_mk, ↓Lane.kept_fold] | split | intro _
theorem rootSlotStart_kept a0 a1 a2 a3 l (h : l.Kept B) : (rootSlotStart a0 a1 a2 a3 l).Kept B := by
  unfold rootSlotStart
  repeat' with_reducible first
    | assumption | apply setMesh_kept | apply resendGrants_kept | apply dropQueued_kept | apply sendBeacon_kept | apply
      dataSlot_kept | simp only [↓Lane.kept_mk, ↓Lane.kept_fold] | split | intro _
theorem memberSlotStart_kept a0 a1 a2 a3 a4 l (h : l.Kept B) : (memberSlotStart a0 a1 a2 a3 a4 l).Kept B := by
  unfold memberSlotStart
  repeat' with_reducible first
    | assumption | apply setMesh_kept | apply sendBeacon_kept | apply dataSlot_kept | apply originate_kept | apply
      sendData_kept | simp only [↓Lane.kept_mk, ↓Lane.kept_fold] | split | intro _
theorem laneSlotStart_kept a0 a1 l (h : l.Kept B) : (laneSlotStart a0 a1 l).Kept B := by
  unfold laneSlotStart
  repeat' with_reducible first
    | assumption | apply meshBegin_kept | apply meshAlarms_kept | apply setMesh_kept | apply rootSlotStart_kept | apply
      memberSlotStart_kept | simp only [↓Lane.kept_mk, ↓Lane.kept_fold] | split | intro _
theorem slvSlotsApply_kept a0 l (h : l.Kept B) : (slvSlotsApply a0 l).1.Kept B := by
  unfold slvSlotsApply
  repeat' with_reducible first
    | assumption | simp only [↓Lane.kept_mk, ↓Lane.kept_fold] | split | intro _
theorem laneSlvSlots_kept a0 l (h : l.Kept B) : (laneSlvSlots a0 l).Kept B := by
  unfold laneSlvSlots
  repeat' with_reducible first
    | assumption | apply serve_kept | apply slvSlotsApply_kept | simp only [↓Lane.kept_mk, ↓Lane.kept_fold] | split | intro _
theorem slvStatusApply_kept a0 l (h : l.Kept B) : (slvStatusApply a0 l).1.Kept B := by
  unfold slvStatusApply
  repeat' with_reducible first
    | assumption | simp only [↓Lane.kept_mk, ↓Lane.kept_fold] | split | intro _
theorem laneSlvStatus_kept a0 l (h : l.Kept B) : (laneSlvStatus a0 l).Kept B := by
  unfold laneSlvStatus
  repeat' with_reducible first
    | assumption | apply serve_kept | apply slvStatusApply_kept | simp only [↓Lane.kept_mk, ↓Lane.kept_fold] | split | intro _
theorem slvTamperAckApply_kept a0 l (h : l.Kept B) : (slvTamperAckApply a0 l).1.Kept B := by
  unfold slvTamperAckApply
  repeat' with_reducible first
    | assumption | simp only [↓Lane.kept_mk, ↓Lane.kept_fold] | split | intro _
theorem laneSlvTamperAck_kept a0 l (h : l.Kept B) : (laneSlvTamperAck a0 l).Kept B := by
  unfold laneSlvTamperAck
  repeat' with_reducible first
    | assumption | apply serve_kept | apply slvTamperAckApply_kept | simp only [↓Lane.kept_mk, ↓Lane.kept_fold] | split |
      intro _
theorem tamperSetApply_kept a0 l (h : l.Kept B) : (tamperSetApply a0 l).1.Kept B := by
  unfold tamperSetApply
  repeat' with_reducible first
    | assumption | simp only [↓Lane.kept_mk, ↓Lane.kept_fold] | split | intro _
theorem laneSlvTamperSet_kept a0 l (h : l.Kept B) : (laneSlvTamperSet a0 l).Kept B := by
  unfold laneSlvTamperSet
  repeat' with_reducible first
    | assumption | apply serve_kept | apply tamperSetApply_kept | simp only [↓Lane.kept_mk, ↓Lane.kept_fold] | split | intro _
theorem laneSpareFailure_kept a0 l (h : l.Kept B) : (laneSpareFailure a0 l).Kept B := by
  unfold laneSpareFailure
  repeat' with_reducible first
    | assumption | simp only [↓Lane.kept_mk, ↓Lane.kept_fold] | split | intro _
theorem ringDoorbell_kept a0 a1 a2 l (h : l.Kept B) : (ringDoorbell a0 a1 a2 l).Kept B := by
  unfold ringDoorbell
  repeat' with_reducible first
    | assumption | apply disableRing_kept | apply setRing_kept | apply fetchAll_kept | simp only [↓Lane.kept_mk,
      ↓Lane.kept_fold] | split | intro _
theorem laneSqDoorbell_kept a0 a1 a2 l (h : l.Kept B) : (laneSqDoorbell a0 a1 a2 l).Kept B := by
  unfold laneSqDoorbell
  repeat' with_reducible first
    | assumption | apply pcieOp_kept | apply ringDoorbell_kept | simp only [↓Lane.kept_mk, ↓Lane.kept_fold] | split | intro _
theorem startRecords_kept l (h : l.Kept B) : (startRecords l).Kept B := by
  unfold startRecords
  repeat' with_reducible first
    | assumption | simp only [↓Lane.kept_mk, ↓Lane.kept_fold] | split | intro _
theorem startAlarms_kept l (h : l.Kept B) : (startAlarms l).Kept B := by
  unfold startAlarms
  repeat' with_reducible first
    | assumption | apply raiseCond_kept | apply condAlarm_kept | apply raiseEvent_kept | apply Lane.kept_foldl | simp only
      [↓Lane.kept_mk, ↓Lane.kept_fold] | split | intro _
theorem startRadios_kept a0 a1 a2 a3 l (h : l.Kept B) : (startRadios a0 a1 a2 a3 l).Kept B := by
  unfold startRadios
  repeat' with_reducible first
    | assumption | apply meshInit_kept | apply meshBegin_kept | apply Lane.kept_foldl | simp only [↓Lane.kept_mk,
      ↓Lane.kept_fold] | split | intro _
theorem laneStartComplete_kept a0 a1 a2 a3 l (h : l.Kept B) : (laneStartComplete a0 a1 a2 a3 l).Kept B := by
  unfold laneStartComplete
  repeat' with_reducible first
    | assumption | apply beginPull_kept | apply setMode_kept | apply startRecords_kept | apply startAlarms_kept | apply
      startRadios_kept | apply rearmStored_kept | apply startStreams_kept | apply startPlanes_kept | apply
        enterHoldover_kept | simp only [↓Lane.kept_mk, ↓Lane.kept_fold] | split | intro _
theorem stepDone_kept l (h : l.Kept B) : (stepDone l).Kept B := by
  unfold stepDone
  repeat' with_reducible first
    | assumption | simp only [↓Lane.kept_mk, ↓Lane.kept_fold] | split | intro _
theorem startBoot_kept a0 l (h : l.Kept B) : (startBoot a0 l).Kept B := by
  unfold startBoot
  repeat' with_reducible first
    | assumption | apply enterSalvage_kept | apply stepDone_kept | simp only [↓Lane.kept_mk, ↓Lane.kept_fold] | split |
      intro _
theorem startDram_kept a0 l (h : l.Kept B) : (startDram a0 l).Kept B := by
  unfold startDram
  repeat' with_reducible first
    | assumption | apply stepDone_kept | apply transientFault_kept | apply criticalFault_kept | apply lastingFault_kept |
      simp only [↓Lane.kept_mk, ↓Lane.kept_fold] | split | intro _
theorem readKeyRecords_kept a0 l (h : l.Kept B) : (readKeyRecords a0 l).Kept B := by
  unfold readKeyRecords
  repeat' with_reducible first
    | assumption | apply logFault_kept | apply Lane.kept_foldl | simp only [↓Lane.kept_mk, ↓Lane.kept_fold] | split | intro _
theorem zeroiseState_kept a0 a1 l (h : l.Kept B) : (zeroiseState a0 a1 l).Kept B := by
  unfold zeroiseState
  repeat' with_reducible first
    | assumption | simp only [↓Lane.kept_mk, ↓Lane.kept_fold] | split | intro _
theorem supplyTamper_kept l (h : l.Kept B) : (supplyTamper l).Kept B := by
  unfold supplyTamper
  repeat' with_reducible first
    | assumption | apply logFault_kept | apply zeroiseState_kept | simp only [↓Lane.kept_mk, ↓Lane.kept_fold] | split |
      intro _
theorem startKeys_kept a0 l (h : l.Kept B) : (startKeys a0 l).Kept B := by
  unfold startKeys
  repeat' with_reducible first
    | assumption | apply readKeyRecords_kept | apply supplyTamper_kept | apply stepDone_kept | apply transientFault_kept |
      apply lastingFault_kept | simp only [↓Lane.kept_mk, ↓Lane.kept_fold] | split | intro _
theorem laneStartStep_kept a0 l (h : l.Kept B) : (laneStartStep a0 l).Kept B := by
  unfold laneStartStep
  repeat' with_reducible first
    | assumption | apply setCause_kept | apply stepDone_kept | apply startBoot_kept | apply startDram_kept | apply
      startKeys_kept | apply applyStore_kept | apply plySend_kept | simp only [↓Lane.kept_mk, ↓Lane.kept_fold] | split |
        intro _
theorem laneStartTimeWait_kept l (h : l.Kept B) : (laneStartTimeWait l).Kept B := by
  unfold laneStartTimeWait
  repeat' with_reducible first
    | assumption | apply stepDone_kept | simp only [↓Lane.kept_mk, ↓Lane.kept_fold] | split | intro _
theorem laneStartTimeout_kept l (h : l.Kept B) : (laneStartTimeout l).Kept B := by
  unfold laneStartTimeout
  repeat' with_reducible first
    | assumption | apply enterSalvage_kept | simp only [↓Lane.kept_mk, ↓Lane.kept_fold] | split | intro _
theorem laneStoreWrite_kept a0 l (h : l.Kept B) : (laneStoreWrite a0 l).Kept B := by
  unfold laneStoreWrite
  simp only []
  repeat' with_reducible first
    | assumption | apply modTiles_kept | split | (intro _ _ ht; exact settleStores_wf _ _ ht)
theorem streamAddApply_kept a0 l (h : l.Kept B) : (streamAddApply a0 l).1.Kept B := by
  unfold streamAddApply
  repeat' with_reducible first
    | assumption | apply setRun_kept | apply startProcedure_kept | simp only [↓Lane.kept_mk, ↓Lane.kept_fold] | split |
      intro _
theorem laneStreamAdd_kept a0 l (h : l.Kept B) : (laneStreamAdd a0 l).Kept B := by
  unfold laneStreamAdd
  repeat' with_reducible first
    | assumption | apply serve_kept | apply streamAddApply_kept | simp only [↓Lane.kept_mk, ↓Lane.kept_fold] | split | intro _
theorem streamQueryApply_kept a0 l (h : l.Kept B) : (streamQueryApply a0 l).1.Kept B := by
  unfold streamQueryApply
  repeat' with_reducible first
    | assumption | simp only [↓Lane.kept_mk, ↓Lane.kept_fold] | split | intro _
theorem laneStreamQuery_kept a0 l (h : l.Kept B) : (laneStreamQuery a0 l).Kept B := by
  unfold laneStreamQuery
  repeat' with_reducible first
    | assumption | apply serve_kept | apply streamQueryApply_kept | simp only [↓Lane.kept_mk, ↓Lane.kept_fold] | split |
      intro _
theorem streamRemoveApply_kept a0 l (h : l.Kept B) : (streamRemoveApply a0 l).1.Kept B := by
  unfold streamRemoveApply
  repeat' with_reducible first
    | assumption | apply freeStream_kept | simp only [↓Lane.kept_mk, ↓Lane.kept_fold] | split | intro _
theorem laneStreamRemove_kept a0 l (h : l.Kept B) : (laneStreamRemove a0 l).Kept B := by
  unfold laneStreamRemove
  repeat' with_reducible first
    | assumption | apply serve_kept | apply streamRemoveApply_kept | simp only [↓Lane.kept_mk, ↓Lane.kept_fold] | split |
      intro _
theorem laneSupervision_kept a0 a1 l (h : l.Kept B) : (laneSupervision a0 a1 l).Kept B := by
  unfold laneSupervision
  repeat' with_reducible first
    | assumption | apply loseParent_kept | apply meshAlarms_kept | apply setMesh_kept | simp only [↓Lane.kept_mk,
      ↓Lane.kept_fold] | split | intro _
theorem laneSvDecode_kept a0 l (h : l.Kept B) : (laneSvDecode a0 l).Kept B := by
  unfold laneSvDecode
  repeat' with_reducible first
    | assumption | apply svChecked_kept | apply popItem_kept | simp only [↓Lane.kept_mk, ↓Lane.kept_fold] | split | intro _
theorem swatchDeleteApply_kept a0 l (h : l.Kept B) : (swatchDeleteApply a0 l).1.Kept B := by
  unfold swatchDeleteApply
  repeat' with_reducible first
    | assumption | apply dropRecord_kept | simp only [↓Lane.kept_mk, ↓Lane.kept_fold] | split | intro _
theorem laneSwatchDelete_kept a0 l (h : l.Kept B) : (laneSwatchDelete a0 l).Kept B := by
  unfold laneSwatchDelete
  repeat' with_reducible first
    | assumption | apply serve_kept | apply swatchDeleteApply_kept | simp only [↓Lane.kept_mk, ↓Lane.kept_fold] | split |
      intro _
theorem laneSwatchKeep_kept a0 l (h : l.Kept B) : (laneSwatchKeep a0 l).Kept B := by
  unfold laneSwatchKeep
  repeat' with_reducible first
    | assumption | apply serve_kept | apply keepApply_kept | simp only [↓Lane.kept_mk, ↓Lane.kept_fold] | split | intro _
theorem laneSwatchTrigger_kept a0 l (h : l.Kept B) : (laneSwatchTrigger a0 l).Kept B := by
  unfold laneSwatchTrigger
  repeat' with_reducible first
    | assumption | apply serveHeld_kept | apply commandStart_kept | simp only [↓Lane.kept_mk, ↓Lane.kept_fold] | split |
      intro _
theorem sysInfoApply_kept a0 l (h : l.Kept B) : (sysInfoApply a0 l).1.Kept B := by
  unfold sysInfoApply
  repeat' with_reducible first
    | assumption | simp only [↓Lane.kept_mk, ↓Lane.kept_fold] | split | intro _
theorem laneSysInfo_kept a0 l (h : l.Kept B) : (laneSysInfo a0 l).Kept B := by
  unfold laneSysInfo
  repeat' with_reducible first
    | assumption | apply serve_kept | apply sysInfoApply_kept | simp only [↓Lane.kept_mk, ↓Lane.kept_fold] | split | intro _
theorem laneSysResetRestart_kept a0 l (h : l.Kept B) : (laneSysResetRestart a0 l).Kept B := by
  unfold laneSysResetRestart
  repeat' with_reducible first
    | assumption | apply hostOp_kept | apply resetToStart_kept | simp only [↓Lane.kept_mk, ↓Lane.kept_fold] | split | intro _
theorem laneSysResetSalvage_kept a0 l (h : l.Kept B) : (laneSysResetSalvage a0 l).Kept B := by
  unfold laneSysResetSalvage
  repeat' with_reducible first
    | assumption | apply hostOp_kept | apply resetToSalvage_kept | simp only [↓Lane.kept_mk, ↓Lane.kept_fold] | split |
      intro _
theorem laneTalExpiry_kept a0 l (h : l.Kept B) : (laneTalExpiry a0 l).Kept B := by
  unfold laneTalExpiry
  repeat' with_reducible first
    | assumption | apply invalidatePoints_kept | apply setRun_kept | simp only [↓Lane.kept_mk, ↓Lane.kept_fold] | split |
      intro _
theorem zeroiseAsleep_kept a0 l (h : l.Kept B) : (zeroiseAsleep a0 l).Kept B := by
  unfold zeroiseAsleep
  repeat' with_reducible first
    | assumption | apply zeroiseState_kept | simp only [↓Lane.kept_mk, ↓Lane.kept_fold] | split | intro _
theorem zeroiseInStart_kept a0 l (h : l.Kept B) : (zeroiseInStart a0 l).Kept B := by
  unfold zeroiseInStart
  repeat' with_reducible first
    | assumption | apply logFault_kept | apply zeroiseState_kept | simp only [↓Lane.kept_mk, ↓Lane.kept_fold] | split |
      intro _
theorem tamperHandover_kept l (h : l.Kept B) : (tamperHandover l).Kept B := by
  unfold tamperHandover
  repeat' with_reducible first
    | assumption | apply handToSibling_kept | simp only [↓Lane.kept_mk, ↓Lane.kept_fold] | split | intro _
theorem zeroise_kept a0 l (h : l.Kept B) : (zeroise a0 l).Kept B := by
  unfold zeroise
  repeat' with_reducible first
    | assumption | apply logFault_kept | apply zeroiseState_kept | apply raiseCond_kept | apply raiseEvent_kept | apply
      plySettle_kept | apply tamperHandover_kept | apply plySend_kept | simp only [↓Lane.kept_mk, ↓Lane.kept_fold] | split
        | intro _
theorem laneTamper_kept a0 l (h : l.Kept B) : (laneTamper a0 l).Kept B := by
  unfold laneTamper
  repeat' with_reducible first
    | assumption | apply zeroiseAsleep_kept | apply wake_kept | apply zeroiseInStart_kept | apply zeroise_kept | simp only
      [↓Lane.kept_mk, ↓Lane.kept_fold] | split | intro _
theorem laneTamperNormal_kept a0 l (h : l.Kept B) : (laneTamperNormal a0 l).Kept B := by
  unfold laneTamperNormal
  repeat' with_reducible first
    | assumption | simp only [↓Lane.kept_mk, ↓Lane.kept_fold] | split | intro _
theorem laneTcpAttempt_kept a0 l (h : l.Kept B) : (laneTcpAttempt a0 l).Kept B := by
  unfold laneTcpAttempt
  repeat' with_reducible first
    | assumption | apply emit_kept | apply setRun_kept | simp only [↓Lane.kept_mk, ↓Lane.kept_fold] | split | intro _
theorem laneTcpClose_kept a0 l (h : l.Kept B) : (laneTcpClose a0 l).Kept B := by
  unfold laneTcpClose
  repeat' with_reducible first
    | assumption | apply setRun_kept | simp only [↓Lane.kept_mk, ↓Lane.kept_fold] | split | intro _
theorem laneTcpConnect_kept a0 a1 l (h : l.Kept B) : (laneTcpConnect a0 a1 l).Kept B := by
  unfold laneTcpConnect
  repeat' with_reducible first
    | assumption | apply emit_kept | apply setSession_kept | simp only [↓Lane.kept_mk, ↓Lane.kept_fold] | split | intro _
theorem laneTcpDisconnect_kept a0 l (h : l.Kept B) : (laneTcpDisconnect a0 l).Kept B := by
  unfold laneTcpDisconnect
  repeat' with_reducible first
    | assumption | apply setSession_kept | simp only [↓Lane.kept_mk, ↓Lane.kept_fold] | split | intro _
theorem laneTcpOpen_kept a0 l (h : l.Kept B) : (laneTcpOpen a0 l).Kept B := by
  unfold laneTcpOpen
  repeat' with_reducible first
    | assumption | apply setRun_kept | apply requestCfg_kept | apply turnOn_kept | simp only [↓Lane.kept_mk,
      ↓Lane.kept_fold] | split | intro _
theorem laneTempLearn_kept l (h : l.Kept B) : (laneTempLearn l).Kept B := by
  unfold laneTempLearn
  repeat' with_reducible first
    | assumption | simp only [↓Lane.kept_mk, ↓Lane.kept_fold] | split | intro _
theorem laneThrottleEntry_kept l (h : l.Kept B) : (laneThrottleEntry l).Kept B := by
  unfold laneThrottleEntry
  repeat' with_reducible first
    | assumption | apply setJunction_kept | apply raiseEvent_kept | simp only [↓Lane.kept_mk, ↓Lane.kept_fold] | split |
      intro _
theorem laneThrottleExit_kept l (h : l.Kept B) : (laneThrottleExit l).Kept B := by
  unfold laneThrottleExit
  repeat' with_reducible first
    | assumption | apply setJunction_kept | apply raiseEvent_kept | simp only [↓Lane.kept_mk, ↓Lane.kept_fold] | split |
      intro _
theorem laneTileRepair_kept a0 l (h : l.Kept B) : (laneTileRepair a0 l).Kept B := by
  unfold laneTileRepair
  split
  · exact h
  · split
    · exact h
    · apply raiseEvent_kept
      apply logFault_kept
      apply Lane.kept_foldl
      · simp only [↓Lane.kept_mk, ↓Lane.kept_fold]
        exact modTile_kept _ _ _ (fun t ht => Tile.wf_mem ht
          (Memory.wf_foldl _ ((Tile.wf_iff t).1 ht).2.2.2 (fun _ _ hy => Memory.wf_putWord _ _ hy))) h
      · intro x a hx
        exact setPart_kept _ _ _ hx
theorem laneTimeExchange_kept l (h : l.Kept B) : (laneTimeExchange l).Kept B := by
  unfold laneTimeExchange
  repeat' with_reducible first
    | assumption | apply plySend_kept | simp only [↓Lane.kept_mk, ↓Lane.kept_fold] | split | intro _
theorem timeQueryApply_kept a0 l (h : l.Kept B) : (timeQueryApply a0 l).1.Kept B := by
  unfold timeQueryApply
  repeat' with_reducible first
    | assumption | simp only [↓Lane.kept_mk, ↓Lane.kept_fold] | split | intro _
theorem laneTimeQuery_kept a0 l (h : l.Kept B) : (laneTimeQuery a0 l).Kept B := by
  unfold laneTimeQuery
  repeat' with_reducible first
    | assumption | apply serve_kept | apply timeQueryApply_kept | simp only [↓Lane.kept_mk, ↓Lane.kept_fold] | split | intro _
theorem laneTimeReasonClear_kept l (h : l.Kept B) : (laneTimeReasonClear l).Kept B := by
  unfold laneTimeReasonClear
  repeat' with_reducible first
    | assumption | apply plySettle_kept | apply setReason_kept | simp only [↓Lane.kept_mk, ↓Lane.kept_fold] | split | intro _
theorem timeRefApply_kept a0 l (h : l.Kept B) : (timeRefApply a0 l).1.Kept B := by
  unfold timeRefApply
  repeat' with_reducible first
    | assumption | apply deselect_kept | apply reselect_kept | simp only [↓Lane.kept_mk, ↓Lane.kept_fold] | split | intro _
theorem laneTimeRefSet_kept a0 l (h : l.Kept B) : (laneTimeRefSet a0 l).Kept B := by
  unfold laneTimeRefSet
  repeat' with_reducible first
    | assumption | apply serve_kept | apply timeRefApply_kept | simp only [↓Lane.kept_mk, ↓Lane.kept_fold] | split | intro _
theorem latchTime_kept l (h : l.Kept B) : (latchTime l).Kept B := by
  unfold latchTime
  repeat' with_reducible first
    | assumption | simp only [↓Lane.kept_mk, ↓Lane.kept_fold] | split | intro _
theorem laneTnsLatch_kept a0 l (h : l.Kept B) : (laneTnsLatch a0 l).Kept B := by
  unfold laneTnsLatch
  repeat' with_reducible first
    | assumption | apply hostOp_kept | apply latchTime_kept | simp only [↓Lane.kept_mk, ↓Lane.kept_fold] | split | intro _
theorem laneTod_kept a0 l (h : l.Kept B) : (laneTod a0 l).Kept B := by
  unfold laneTod
  repeat' with_reducible first
    | assumption | apply ppsMeasure_kept | apply setRef_kept | simp only [↓Lane.kept_mk, ↓Lane.kept_fold] | split | intro _
theorem laneTriggerEvaluate_kept l (h : l.Kept B) : (laneTriggerEvaluate l).Kept B := by
  unfold laneTriggerEvaluate
  repeat' with_reducible first
    | assumption | apply evalTrigger_kept | apply Lane.kept_foldl | simp only [↓Lane.kept_mk, ↓Lane.kept_fold] | split |
      intro _
theorem triggerReadApply_kept a0 l (h : l.Kept B) : (triggerReadApply a0 l).1.Kept B := by
  unfold triggerReadApply
  repeat' with_reducible first
    | assumption | simp only [↓Lane.kept_mk, ↓Lane.kept_fold] | split | intro _
theorem laneTriggerRead_kept a0 l (h : l.Kept B) : (laneTriggerRead a0 l).Kept B := by
  unfold laneTriggerRead
  repeat' with_reducible first
    | assumption | apply serve_kept | apply triggerReadApply_kept | simp only [↓Lane.kept_mk, ↓Lane.kept_fold] | split |
      intro _
theorem triggerApply_kept a0 l (h : l.Kept B) : (triggerApply a0 l).1.Kept B := by
  unfold triggerApply
  repeat' with_reducible first
    | assumption | apply setTrigger_kept | simp only [↓Lane.kept_mk, ↓Lane.kept_fold] | split | intro _
theorem laneTriggerSet_kept a0 l (h : l.Kept B) : (laneTriggerSet a0 l).Kept B := by
  unfold laneTriggerSet
  repeat' with_reducible first
    | assumption | apply serve_kept | apply triggerApply_kept | simp only [↓Lane.kept_mk, ↓Lane.kept_fold] | split | intro _
theorem laneUnlockCross_kept l (h : l.Kept B) : (laneUnlockCross l).Kept B := by
  unfold laneUnlockCross
  repeat' with_reducible first
    | assumption | apply raiseCond_kept | simp only [↓Lane.kept_mk, ↓Lane.kept_fold] | split | intro _
theorem laneUnsolicited_kept a0 a1 l (h : l.Kept B) : (laneUnsolicited a0 a1 l).Kept B := by
  unfold laneUnsolicited
  repeat' with_reducible first
    | assumption | apply countSerial_kept | simp only [↓Lane.kept_mk, ↓Lane.kept_fold] | split | intro _
theorem updateBeginApply_kept a0 l (h : l.Kept B) : (updateBeginApply a0 l).1.Kept B := by
  unfold updateBeginApply
  repeat' with_reducible first
    | assumption | simp only [↓Lane.kept_mk, ↓Lane.kept_fold] | split | intro _
theorem laneUpdateBegin_kept a0 l (h : l.Kept B) : (laneUpdateBegin a0 l).Kept B := by
  unfold laneUpdateBegin
  repeat' with_reducible first
    | assumption | apply serve_kept | apply updateBeginApply_kept | simp only [↓Lane.kept_mk, ↓Lane.kept_fold] | split |
      intro _
theorem updateChunkApply_kept a0 l (h : l.Kept B) : (updateChunkApply a0 l).1.Kept B := by
  unfold updateChunkApply
  repeat' with_reducible first
    | assumption | simp only [↓Lane.kept_mk, ↓Lane.kept_fold] | split | intro _
theorem laneUpdateChunk_kept a0 l (h : l.Kept B) : (laneUpdateChunk a0 l).Kept B := by
  unfold laneUpdateChunk
  repeat' with_reducible first
    | assumption | apply serve_kept | apply updateChunkApply_kept | simp only [↓Lane.kept_mk, ↓Lane.kept_fold] | split |
      intro _
theorem updateConfirmApply_kept a0 l (h : l.Kept B) : (updateConfirmApply a0 l).1.Kept B := by
  unfold updateConfirmApply
  repeat' with_reducible first
    | assumption | apply confirmImage_kept | simp only [↓Lane.kept_mk, ↓Lane.kept_fold] | split | intro _
theorem laneUpdateConfirm_kept a0 l (h : l.Kept B) : (laneUpdateConfirm a0 l).Kept B := by
  unfold laneUpdateConfirm
  repeat' with_reducible first
    | assumption | apply serve_kept | apply updateConfirmApply_kept | simp only [↓Lane.kept_mk, ↓Lane.kept_fold] | split |
      intro _
theorem updateFinishStart_kept a0 l (h : l.Kept B) : (updateFinishStart a0 l).Kept B := by
  unfold updateFinishStart
  repeat' with_reducible first
    | assumption | apply emptyInactive_kept | apply failUpdate_kept | simp only [↓Lane.kept_mk, ↓Lane.kept_fold] | split |
      intro _
theorem laneUpdateFinish_kept a0 l (h : l.Kept B) : (laneUpdateFinish a0 l).Kept B := by
  unfold laneUpdateFinish
  repeat' with_reducible first
    | assumption | apply serveHeld_kept | apply updateFinishStart_kept | simp only [↓Lane.kept_mk, ↓Lane.kept_fold] | split
      | intro _
theorem rejectStart_kept a0 l (h : l.Kept B) : (rejectStart a0 l).Kept B := by
  unfold rejectStart
  repeat' with_reducible first
    | assumption | apply setActiveState_kept | apply postReply_kept | apply resetToStart_kept | simp only [↓Lane.kept_mk,
      ↓Lane.kept_fold] | split | intro _
theorem laneUpdateReject_kept a0 l (h : l.Kept B) : (laneUpdateReject a0 l).Kept B := by
  unfold laneUpdateReject
  repeat' with_reducible first
    | assumption | apply serveHeld_kept | apply rejectStart_kept | simp only [↓Lane.kept_mk, ↓Lane.kept_fold] | split |
      intro _
theorem utcSetApply_kept a0 l (h : l.Kept B) : (utcSetApply a0 l).1.Kept B := by
  unfold utcSetApply
  repeat' with_reducible first
    | assumption | apply refreshUtc_kept | simp only [↓Lane.kept_mk, ↓Lane.kept_fold] | split | intro _
theorem laneUtcOffsetSet_kept a0 l (h : l.Kept B) : (laneUtcOffsetSet a0 l).Kept B := by
  unfold laneUtcOffsetSet
  repeat' with_reducible first
    | assumption | apply serve_kept | apply utcSetApply_kept | simp only [↓Lane.kept_mk, ↓Lane.kept_fold] | split | intro _
theorem variantChunkStart_kept a0 l (h : l.Kept B) : (variantChunkStart a0 l).Kept B := by
  unfold variantChunkStart
  repeat' with_reducible first
    | assumption | apply postReply_kept | apply setPart_kept | simp only [↓Lane.kept_mk, ↓Lane.kept_fold] | split | intro _
theorem laneVariantChunk_kept a0 l (h : l.Kept B) : (laneVariantChunk a0 l).Kept B := by
  unfold laneVariantChunk
  repeat' with_reducible first
    | assumption | apply serveHeld_kept | apply variantChunkStart_kept | simp only [↓Lane.kept_mk, ↓Lane.kept_fold] | split
      | intro _
theorem variantDeleteApply_kept a0 l (h : l.Kept B) : (variantDeleteApply a0 l).1.Kept B := by
  unfold variantDeleteApply
  repeat' with_reducible first
    | assumption | apply setPart_kept | simp only [↓Lane.kept_mk, ↓Lane.kept_fold] | split | intro _
theorem laneVariantDelete_kept a0 l (h : l.Kept B) : (laneVariantDelete a0 l).Kept B := by
  unfold laneVariantDelete
  repeat' with_reducible first
    | assumption | apply serve_kept | apply variantDeleteApply_kept | simp only [↓Lane.kept_mk, ↓Lane.kept_fold] | split |
      intro _
theorem variantSelectStart_kept a0 l (h : l.Kept B) : (variantSelectStart a0 l).Kept B := by
  unfold variantSelectStart
  repeat' with_reducible first
    | assumption | apply setPart_kept | simp only [↓Lane.kept_mk, ↓Lane.kept_fold] | split | intro _
theorem laneVariantSelect_kept a0 l (h : l.Kept B) : (laneVariantSelect a0 l).Kept B := by
  unfold laneVariantSelect
  repeat' with_reducible first
    | assumption | apply serveHeld_kept | apply variantSelectStart_kept | simp only [↓Lane.kept_mk, ↓Lane.kept_fold] |
      split | intro _
theorem variantStageStart_kept a0 l (h : l.Kept B) : (variantStageStart a0 l).Kept B := by
  unfold variantStageStart
  repeat' with_reducible first
    | assumption | apply postReply_kept | apply writeSlot_kept | apply setPart_kept | simp only [↓Lane.kept_mk,
      ↓Lane.kept_fold] | split | intro _
theorem laneVariantStage_kept a0 l (h : l.Kept B) : (laneVariantStage a0 l).Kept B := by
  unfold laneVariantStage
  repeat' with_reducible first
    | assumption | apply serveHeld_kept | apply variantStageStart_kept | simp only [↓Lane.kept_mk, ↓Lane.kept_fold] | split
      | intro _
theorem laneVerificationComplete_kept a0 l (h : l.Kept B) : (laneVerificationComplete a0 l).Kept B := by
  unfold laneVerificationComplete
  repeat' with_reducible first
    | assumption | apply postReply_kept | apply setPart_kept | apply commitImage_kept | simp only [↓Lane.kept_mk,
      ↓Lane.kept_fold] | split | intro _
theorem swatchBrownout_kept l (h : l.Kept B) : (swatchBrownout l).Kept B := by
  unfold swatchBrownout
  repeat' with_reducible first
    | assumption | apply endOpenRecords_kept | apply freeRing_kept | apply setProfile_kept | apply Lane.kept_foldl | simp
      only [↓Lane.kept_mk, ↓Lane.kept_fold] | split | intro _
theorem writeJournal_kept a0 l (h : l.Kept B) : (writeJournal a0 l).Kept B := by
  unfold writeJournal
  repeat' with_reducible first
    | assumption | apply swatchBrownout_kept | apply armAlarm_kept | simp only [↓Lane.kept_mk, ↓Lane.kept_fold] | split |
      intro _
theorem laneVinWarning_kept a0 l (h : l.Kept B) : (laneVinWarning a0 l).Kept B := by
  unfold laneVinWarning
  repeat' with_reducible first
    | assumption | apply freshLane_kept | apply leave_kept | apply writeJournal_kept | simp only [↓Lane.kept_mk,
      ↓Lane.kept_fold] | split | intro _
theorem laneWakeFrame_kept a0 a1 l (h : l.Kept B) : (laneWakeFrame a0 a1 l).Kept B := by
  unfold laneWakeFrame
  repeat' with_reducible first
    | assumption | apply wake_kept | simp only [↓Lane.kept_mk, ↓Lane.kept_fold] | split | intro _
theorem laneWakePin_kept a0 l (h : l.Kept B) : (laneWakePin a0 l).Kept B := by
  unfold laneWakePin
  repeat' with_reducible first
    | assumption | apply wake_kept | simp only [↓Lane.kept_mk, ↓Lane.kept_fold] | split | intro _
theorem wakeSetApply_kept a0 l (h : l.Kept B) : (wakeSetApply a0 l).1.Kept B := by
  unfold wakeSetApply
  repeat' with_reducible first
    | assumption | simp only [↓Lane.kept_mk, ↓Lane.kept_fold] | split | intro _
theorem laneWakeSet_kept a0 l (h : l.Kept B) : (laneWakeSet a0 l).Kept B := by
  unfold laneWakeSet
  repeat' with_reducible first
    | assumption | apply serve_kept | apply wakeSetApply_kept | simp only [↓Lane.kept_mk, ↓Lane.kept_fold] | split | intro _
theorem waleReadApply_kept a0 l (h : l.Kept B) : (waleReadApply a0 l).1.Kept B := by
  unfold waleReadApply
  repeat' with_reducible first
    | assumption | simp only [↓Lane.kept_mk, ↓Lane.kept_fold] | split | intro _
theorem laneWaleRead_kept a0 l (h : l.Kept B) : (laneWaleRead a0 l).Kept B := by
  unfold laneWaleRead
  repeat' with_reducible first
    | assumption | apply serve_kept | apply waleReadApply_kept | simp only [↓Lane.kept_mk, ↓Lane.kept_fold] | split | intro _
theorem writeHistory_kept a0 a1 l (h : l.Kept B) : (writeHistory a0 a1 l).Kept B := by
  unfold writeHistory
  repeat' with_reducible first
    | assumption | simp only [↓Lane.kept_mk, ↓Lane.kept_fold] | split | intro _
theorem laneWaleWrite_kept a0 l (h : l.Kept B) : (laneWaleWrite a0 l).Kept B := by
  unfold laneWaleWrite
  repeat' with_reducible first
    | assumption | apply writeHistory_kept | apply popItem_kept | simp only [↓Lane.kept_mk, ↓Lane.kept_fold] | split | intro _
theorem laneWarningArm_kept l (h : l.Kept B) : (laneWarningArm l).Kept B := by
  unfold laneWarningArm
  repeat' with_reducible first
    | assumption | apply armAlarm_kept | simp only [↓Lane.kept_mk, ↓Lane.kept_fold] | split | intro _
theorem laneWatchdog_kept l (h : l.Kept B) : (laneWatchdog l).Kept B := by
  unfold laneWatchdog
  repeat' with_reducible first
    | assumption | apply resetToStart_kept | simp only [↓Lane.kept_mk, ↓Lane.kept_fold] | split | intro _
theorem laneWindowClose_kept l (h : l.Kept B) : (laneWindowClose l).Kept B := by
  unfold laneWindowClose
  repeat' with_reducible first
    | assumption | apply raiseEvent_kept | simp only [↓Lane.kept_mk, ↓Lane.kept_fold] | split | intro _
theorem witnessApply_kept a0 l (h : l.Kept B) : (witnessApply a0 l).1.Kept B := by
  unfold witnessApply
  repeat' with_reducible first
    | assumption | apply changeWitness_kept | apply plySettle_kept | simp only [↓Lane.kept_mk, ↓Lane.kept_fold] | split |
      intro _
theorem laneWitnessSet_kept a0 l (h : l.Kept B) : (laneWitnessSet a0 l).Kept B := by
  unfold laneWitnessSet
  repeat' with_reducible first
    | assumption | apply serve_kept | apply witnessApply_kept | simp only [↓Lane.kept_mk, ↓Lane.kept_fold] | split | intro _
theorem laneWitnessUnavailable_kept a0 l (h : l.Kept B) : (laneWitnessUnavailable a0 l).Kept B := by
  unfold laneWitnessUnavailable
  repeat' with_reducible first
    | assumption | apply witnessLost_kept | simp only [↓Lane.kept_mk, ↓Lane.kept_fold] | split | intro _
theorem laneWriteUnblock_kept a0 l (h : l.Kept B) : (laneWriteUnblock a0 l).Kept B := by
  unfold laneWriteUnblock
  repeat' with_reducible first
    | assumption | apply unblock_kept | simp only [↓Lane.kept_mk, ↓Lane.kept_fold] | split | intro _
theorem powerOff_kept l (h : l.Kept B) : (powerOff l).Kept B := by
  unfold powerOff
  repeat' with_reducible first
    | assumption | apply freshLane_kept | simp only [↓Lane.kept_mk, ↓Lane.kept_fold] | split | intro _
theorem powerOn_kept l (h : l.Kept B) : (powerOn l).Kept B := by
  unfold powerOn
  repeat' with_reducible first
    | assumption | apply freshLane_kept | simp only [↓Lane.kept_mk, ↓Lane.kept_fold] | split | intro _

end Sys2Proof.Machine
end

