-- ==== Sys2Proof/Laws/State.lean ====
section
/-!
SUPPORT. What each named update of the package and of a lane leaves: one lemma for each field, so that no later proof unfolds a
record update.
-/
namespace Sys2Proof.Machine

/-! ### The package -/

@[simp] theorem State.setLane_lane (s : State) (i : LaneId) (l : Lane) : (s.setLane i l).lane i = l := by cases i <;> rfl
theorem State.setLane_lane_other (s : State) (i j : LaneId) (l : Lane) (h : j ≠ i) : (s.setLane i l).lane j = s.lane j := by
  cases i <;> cases j <;> first | rfl | exact absurd rfl h
@[simp] theorem State.setLane_pending (s : State) (i : LaneId) (l : Lane) : (s.setLane i l).pending = s.pending := by
  cases i <;> rfl
@[simp] theorem State.setLane_overvoltage (s : State) (i : LaneId) (l : Lane) : (s.setLane i l).overvoltage = s.overvoltage := by
  cases i <;> rfl
@[simp] theorem State.setLane_a (s : State) (l : Lane) : s.setLane .a l = { s with laneA := l } := rfl
@[simp] theorem State.setLane_b (s : State) (l : Lane) : s.setLane .b l = { s with laneB := l } := rfl
@[simp] theorem State.lane_a (s : State) : s.lane .a = s.laneA := rfl
@[simp] theorem State.lane_b (s : State) : s.lane .b = s.laneB := rfl

/-- All that a command of one lane does to the package. -/
theorem runLane_eq (e : Stamp) (f : Lane → Lane) (s : State) :
    runLane e f s = .next (s.setLane e.lane (f (advance e.ticks (s.lane e.lane)))) := rfl

/-- All that a command of the whole package does. -/
theorem runBoth_eq (e : PackageStamp) (f : Lane → Lane) (s : State) :
    runBoth e f s = .next { s with laneA := f (advance e.ticksA s.laneA), laneB := f (advance e.ticksB s.laneB) } := rfl

/-! ### Requests at their dispatch -/

/-- A request that names another command is not served. -/
theorem serve_other {opcode op check apply r l} (h : names opcode op r = false) : serve opcode op check apply r l = l := by
  simp [serve, h]
theorem serveHeld_other {opcode op check start r l} (h : names opcode op r = false) : serveHeld opcode op check start r l = l := by
  simp [serveHeld, h]

/-- A request that passes its checks has its effect, and its reply is posted. -/
theorem serve_ok {opcode op check apply r l} (h : names opcode op r = true) (hs : serviceStatus check l r = .ok) :
    serve opcode op check apply r l = postReply r .ok false (apply r l).2 (apply r l).1 := by
  simp [serve, h, hs]
theorem serveHeld_ok {opcode op check start r l} (h : names opcode op r = true) (hs : serviceStatus check l r = .ok) :
    serveHeld opcode op check start r l = start r l := by
  simp [serveHeld, h, hs]

/-! ### Reading a table after a write -/

@[simp] theorem queueOf_setQueue (n : Nat) (q : Queue) (l : Lane) : queueOf (setQueue n q l) n = q := by
  simp [queueOf, setQueue, tgetD, tget_tput_same]
theorem queueOf_setQueue_other (n i : Nat) (q : Queue) (l : Lane) (h : i ≠ n) : queueOf (setQueue n q l) i = queueOf l i := by
  simp [queueOf, setQueue, tgetD, tget_tput_other _ _ _ _ h]
@[simp] theorem ethRun_setEth (n : Nat) (x : EthRun) (l : Lane) : ethRun (setEth n x l) n = x := by
  simp [ethRun, setEth, tgetD, tget_tput_same]
@[simp] theorem serialRun_setSerial (n : Nat) (x : SerialRun) (l : Lane) : serialRun (setSerial n x l) n = x := by
  simp [serialRun, setSerial, tgetD, tget_tput_same]
@[simp] theorem streamRun_setRun (i : Nat) (x : StreamRun) (l : Lane) : streamRun (setRun i x l) i = some x := by
  simp [streamRun, setRun, tget_tput_same]
@[simp] theorem partOf_setPart (n : Nat) (x : Part) (l : Lane) : partOf (setPart n x l) n = x := by
  simp [partOf, setPart, tgetD, tget_tput_same]
@[simp] theorem meshRun_setMesh (n : Nat) (x : MeshRun) (l : Lane) : meshRun (setMesh n x l) n = x := by
  simp [meshRun, setMesh, tgetD, tget_tput_same]

/-! ### Updates of a lane, field by field -/

@[simp] theorem advance_id (n : Nat) (l : Lane) : (advance n l).id = l.id := rfl
@[simp] theorem advance_fresh (n : Nat) (l : Lane) : (advance n l).fresh = l.fresh := rfl
@[simp] theorem advance_powered (n : Nat) (l : Lane) : (advance n l).powered = l.powered := rfl
@[simp] theorem advance_dieOk (n : Nat) (l : Lane) : (advance n l).dieOk = l.dieOk := rfl
@[simp] theorem advance_spi (n : Nat) (l : Lane) : (advance n l).spi = l.spi := rfl
@[simp] theorem advance_mode (n : Nat) (l : Lane) : (advance n l).mode = l.mode := rfl
@[simp] theorem advance_boot (n : Nat) (l : Lane) : (advance n l).boot = l.boot := rfl
@[simp] theorem advance_cfg (n : Nat) (l : Lane) : (advance n l).cfg = l.cfg := rfl
@[simp] theorem advance_store (n : Nat) (l : Lane) : (advance n l).store = l.store := rfl
@[simp] theorem advance_journal (n : Nat) (l : Lane) : (advance n l).journal = l.journal := rfl
@[simp] theorem advance_rtc (n : Nat) (l : Lane) : (advance n l).rtc = l.rtc := rfl
@[simp] theorem advance_flashEpochs (n : Nat) (l : Lane) : (advance n l).flashEpochs = l.flashEpochs := rfl
@[simp] theorem advance_keys (n : Nat) (l : Lane) : (advance n l).keys = l.keys := rfl
@[simp] theorem advance_vault (n : Nat) (l : Lane) : (advance n l).vault = l.vault := rfl
@[simp] theorem advance_peers (n : Nat) (l : Lane) : (advance n l).peers = l.peers := rfl
@[simp] theorem advance_mgmtPort (n : Nat) (l : Lane) : (advance n l).mgmtPort = l.mgmtPort := rfl
@[simp] theorem advance_mgmtUdp (n : Nat) (l : Lane) : (advance n l).mgmtUdp = l.mgmtUdp := rfl
@[simp] theorem advance_needle (n : Nat) (l : Lane) : (advance n l).needle = l.needle := rfl
@[simp] theorem advance_host (n : Nat) (l : Lane) : (advance n l).host = l.host := rfl
@[simp] theorem advance_health (n : Nat) (l : Lane) : (advance n l).health = l.health := rfl
@[simp] theorem advance_publish (n : Nat) (l : Lane) : (advance n l).publish = l.publish := rfl
@[simp] theorem advance_ply (n : Nat) (l : Lane) : (advance n l).ply = l.ply := rfl
@[simp] theorem advance_ports (n : Nat) (l : Lane) : (advance n l).ports = l.ports := rfl
@[simp] theorem advance_queues (n : Nat) (l : Lane) : (advance n l).queues = l.queues := rfl
@[simp] theorem advance_queueSizes (n : Nat) (l : Lane) : (advance n l).queueSizes = l.queueSizes := rfl
@[simp] theorem advance_streams (n : Nat) (l : Lane) : (advance n l).streams = l.streams := rfl
@[simp] theorem advance_pe (n : Nat) (l : Lane) : (advance n l).pe = l.pe := rfl
@[simp] theorem advance_skein (n : Nat) (l : Lane) : (advance n l).skein = l.skein := rfl
@[simp] theorem advance_array (n : Nat) (l : Lane) : (advance n l).array = l.array := rfl
@[simp] theorem advance_mesh (n : Nat) (l : Lane) : (advance n l).mesh = l.mesh := rfl
@[simp] theorem advance_swatch (n : Nat) (l : Lane) : (advance n l).swatch = l.swatch := rfl
@[simp] theorem advance_out (n : Nat) (l : Lane) : (advance n l).out = l.out := rfl

@[simp] theorem emit_id (o : Output) (l : Lane) : (emit o l).id = l.id := rfl
@[simp] theorem emit_tc (o : Output) (l : Lane) : (emit o l).tc = l.tc := rfl
@[simp] theorem emit_fresh (o : Output) (l : Lane) : (emit o l).fresh = l.fresh := rfl
@[simp] theorem emit_powered (o : Output) (l : Lane) : (emit o l).powered = l.powered := rfl
@[simp] theorem emit_dieOk (o : Output) (l : Lane) : (emit o l).dieOk = l.dieOk := rfl
@[simp] theorem emit_spi (o : Output) (l : Lane) : (emit o l).spi = l.spi := rfl
@[simp] theorem emit_mode (o : Output) (l : Lane) : (emit o l).mode = l.mode := rfl
@[simp] theorem emit_boot (o : Output) (l : Lane) : (emit o l).boot = l.boot := rfl
@[simp] theorem emit_cfg (o : Output) (l : Lane) : (emit o l).cfg = l.cfg := rfl
@[simp] theorem emit_store (o : Output) (l : Lane) : (emit o l).store = l.store := rfl
@[simp] theorem emit_journal (o : Output) (l : Lane) : (emit o l).journal = l.journal := rfl
@[simp] theorem emit_rtc (o : Output) (l : Lane) : (emit o l).rtc = l.rtc := rfl
@[simp] theorem emit_flashEpochs (o : Output) (l : Lane) : (emit o l).flashEpochs = l.flashEpochs := rfl
@[simp] theorem emit_keys (o : Output) (l : Lane) : (emit o l).keys = l.keys := rfl
@[simp] theorem emit_vault (o : Output) (l : Lane) : (emit o l).vault = l.vault := rfl
@[simp] theorem emit_peers (o : Output) (l : Lane) : (emit o l).peers = l.peers := rfl
@[simp] theorem emit_mgmtPort (o : Output) (l : Lane) : (emit o l).mgmtPort = l.mgmtPort := rfl
@[simp] theorem emit_mgmtUdp (o : Output) (l : Lane) : (emit o l).mgmtUdp = l.mgmtUdp := rfl
@[simp] theorem emit_needle (o : Output) (l : Lane) : (emit o l).needle = l.needle := rfl
@[simp] theorem emit_host (o : Output) (l : Lane) : (emit o l).host = l.host := rfl
@[simp] theorem emit_health (o : Output) (l : Lane) : (emit o l).health = l.health := rfl
@[simp] theorem emit_publish (o : Output) (l : Lane) : (emit o l).publish = l.publish := rfl
@[simp] theorem emit_time (o : Output) (l : Lane) : (emit o l).time = l.time := rfl
@[simp] theorem emit_ply (o : Output) (l : Lane) : (emit o l).ply = l.ply := rfl
@[simp] theorem emit_ports (o : Output) (l : Lane) : (emit o l).ports = l.ports := rfl
@[simp] theorem emit_queues (o : Output) (l : Lane) : (emit o l).queues = l.queues := rfl
@[simp] theorem emit_queueSizes (o : Output) (l : Lane) : (emit o l).queueSizes = l.queueSizes := rfl
@[simp] theorem emit_streams (o : Output) (l : Lane) : (emit o l).streams = l.streams := rfl
@[simp] theorem emit_pe (o : Output) (l : Lane) : (emit o l).pe = l.pe := rfl
@[simp] theorem emit_skein (o : Output) (l : Lane) : (emit o l).skein = l.skein := rfl
@[simp] theorem emit_array (o : Output) (l : Lane) : (emit o l).array = l.array := rfl
@[simp] theorem emit_mesh (o : Output) (l : Lane) : (emit o l).mesh = l.mesh := rfl
@[simp] theorem emit_swatch (o : Output) (l : Lane) : (emit o l).swatch = l.swatch := rfl

@[simp] theorem freeEntry_id (src : Nat) (tag : Word) (l : Lane) : (freeEntry src tag l).id = l.id := rfl
@[simp] theorem freeEntry_tc (src : Nat) (tag : Word) (l : Lane) : (freeEntry src tag l).tc = l.tc := rfl
@[simp] theorem freeEntry_fresh (src : Nat) (tag : Word) (l : Lane) : (freeEntry src tag l).fresh = l.fresh := rfl
@[simp] theorem freeEntry_powered (src : Nat) (tag : Word) (l : Lane) : (freeEntry src tag l).powered = l.powered := rfl
@[simp] theorem freeEntry_dieOk (src : Nat) (tag : Word) (l : Lane) : (freeEntry src tag l).dieOk = l.dieOk := rfl
@[simp] theorem freeEntry_spi (src : Nat) (tag : Word) (l : Lane) : (freeEntry src tag l).spi = l.spi := rfl
@[simp] theorem freeEntry_mode (src : Nat) (tag : Word) (l : Lane) : (freeEntry src tag l).mode = l.mode := rfl
@[simp] theorem freeEntry_boot (src : Nat) (tag : Word) (l : Lane) : (freeEntry src tag l).boot = l.boot := rfl
@[simp] theorem freeEntry_cfg (src : Nat) (tag : Word) (l : Lane) : (freeEntry src tag l).cfg = l.cfg := rfl
@[simp] theorem freeEntry_store (src : Nat) (tag : Word) (l : Lane) : (freeEntry src tag l).store = l.store := rfl
@[simp] theorem freeEntry_journal (src : Nat) (tag : Word) (l : Lane) : (freeEntry src tag l).journal = l.journal := rfl
@[simp] theorem freeEntry_rtc (src : Nat) (tag : Word) (l : Lane) : (freeEntry src tag l).rtc = l.rtc := rfl
@[simp] theorem freeEntry_flashEpochs (src : Nat) (tag : Word) (l : Lane) : (freeEntry src tag l).flashEpochs = l.flashEpochs := rfl
@[simp] theorem freeEntry_keys (src : Nat) (tag : Word) (l : Lane) : (freeEntry src tag l).keys = l.keys := rfl
@[simp] theorem freeEntry_vault (src : Nat) (tag : Word) (l : Lane) : (freeEntry src tag l).vault = l.vault := rfl
@[simp] theorem freeEntry_peers (src : Nat) (tag : Word) (l : Lane) : (freeEntry src tag l).peers = l.peers := rfl
@[simp] theorem freeEntry_mgmtPort (src : Nat) (tag : Word) (l : Lane) : (freeEntry src tag l).mgmtPort = l.mgmtPort := rfl
@[simp] theorem freeEntry_mgmtUdp (src : Nat) (tag : Word) (l : Lane) : (freeEntry src tag l).mgmtUdp = l.mgmtUdp := rfl
@[simp] theorem freeEntry_host (src : Nat) (tag : Word) (l : Lane) : (freeEntry src tag l).host = l.host := rfl
@[simp] theorem freeEntry_health (src : Nat) (tag : Word) (l : Lane) : (freeEntry src tag l).health = l.health := rfl
@[simp] theorem freeEntry_publish (src : Nat) (tag : Word) (l : Lane) : (freeEntry src tag l).publish = l.publish := rfl
@[simp] theorem freeEntry_time (src : Nat) (tag : Word) (l : Lane) : (freeEntry src tag l).time = l.time := rfl
@[simp] theorem freeEntry_ply (src : Nat) (tag : Word) (l : Lane) : (freeEntry src tag l).ply = l.ply := rfl
@[simp] theorem freeEntry_ports (src : Nat) (tag : Word) (l : Lane) : (freeEntry src tag l).ports = l.ports := rfl
@[simp] theorem freeEntry_queues (src : Nat) (tag : Word) (l : Lane) : (freeEntry src tag l).queues = l.queues := rfl
@[simp] theorem freeEntry_queueSizes (src : Nat) (tag : Word) (l : Lane) : (freeEntry src tag l).queueSizes = l.queueSizes := rfl
@[simp] theorem freeEntry_streams (src : Nat) (tag : Word) (l : Lane) : (freeEntry src tag l).streams = l.streams := rfl
@[simp] theorem freeEntry_pe (src : Nat) (tag : Word) (l : Lane) : (freeEntry src tag l).pe = l.pe := rfl
@[simp] theorem freeEntry_skein (src : Nat) (tag : Word) (l : Lane) : (freeEntry src tag l).skein = l.skein := rfl
@[simp] theorem freeEntry_array (src : Nat) (tag : Word) (l : Lane) : (freeEntry src tag l).array = l.array := rfl
@[simp] theorem freeEntry_mesh (src : Nat) (tag : Word) (l : Lane) : (freeEntry src tag l).mesh = l.mesh := rfl
@[simp] theorem freeEntry_swatch (src : Nat) (tag : Word) (l : Lane) : (freeEntry src tag l).swatch = l.swatch := rfl
@[simp] theorem freeEntry_out (src : Nat) (tag : Word) (l : Lane) : (freeEntry src tag l).out = l.out := rfl

@[simp] theorem setQueue_id (n : Nat) (q : Queue) (l : Lane) : (setQueue n q l).id = l.id := rfl
@[simp] theorem setQueue_tc (n : Nat) (q : Queue) (l : Lane) : (setQueue n q l).tc = l.tc := rfl
@[simp] theorem setQueue_fresh (n : Nat) (q : Queue) (l : Lane) : (setQueue n q l).fresh = l.fresh := rfl
@[simp] theorem setQueue_powered (n : Nat) (q : Queue) (l : Lane) : (setQueue n q l).powered = l.powered := rfl
@[simp] theorem setQueue_dieOk (n : Nat) (q : Queue) (l : Lane) : (setQueue n q l).dieOk = l.dieOk := rfl
@[simp] theorem setQueue_spi (n : Nat) (q : Queue) (l : Lane) : (setQueue n q l).spi = l.spi := rfl
@[simp] theorem setQueue_mode (n : Nat) (q : Queue) (l : Lane) : (setQueue n q l).mode = l.mode := rfl
@[simp] theorem setQueue_boot (n : Nat) (q : Queue) (l : Lane) : (setQueue n q l).boot = l.boot := rfl
@[simp] theorem setQueue_cfg (n : Nat) (q : Queue) (l : Lane) : (setQueue n q l).cfg = l.cfg := rfl
@[simp] theorem setQueue_store (n : Nat) (q : Queue) (l : Lane) : (setQueue n q l).store = l.store := rfl
@[simp] theorem setQueue_journal (n : Nat) (q : Queue) (l : Lane) : (setQueue n q l).journal = l.journal := rfl
@[simp] theorem setQueue_rtc (n : Nat) (q : Queue) (l : Lane) : (setQueue n q l).rtc = l.rtc := rfl
@[simp] theorem setQueue_flashEpochs (n : Nat) (q : Queue) (l : Lane) : (setQueue n q l).flashEpochs = l.flashEpochs := rfl
@[simp] theorem setQueue_keys (n : Nat) (q : Queue) (l : Lane) : (setQueue n q l).keys = l.keys := rfl
@[simp] theorem setQueue_vault (n : Nat) (q : Queue) (l : Lane) : (setQueue n q l).vault = l.vault := rfl
@[simp] theorem setQueue_peers (n : Nat) (q : Queue) (l : Lane) : (setQueue n q l).peers = l.peers := rfl
@[simp] theorem setQueue_mgmtPort (n : Nat) (q : Queue) (l : Lane) : (setQueue n q l).mgmtPort = l.mgmtPort := rfl
@[simp] theorem setQueue_mgmtUdp (n : Nat) (q : Queue) (l : Lane) : (setQueue n q l).mgmtUdp = l.mgmtUdp := rfl
@[simp] theorem setQueue_needle (n : Nat) (q : Queue) (l : Lane) : (setQueue n q l).needle = l.needle := rfl
@[simp] theorem setQueue_host (n : Nat) (q : Queue) (l : Lane) : (setQueue n q l).host = l.host := rfl
@[simp] theorem setQueue_health (n : Nat) (q : Queue) (l : Lane) : (setQueue n q l).health = l.health := rfl
@[simp] theorem setQueue_publish (n : Nat) (q : Queue) (l : Lane) : (setQueue n q l).publish = l.publish := rfl
@[simp] theorem setQueue_time (n : Nat) (q : Queue) (l : Lane) : (setQueue n q l).time = l.time := rfl
@[simp] theorem setQueue_ply (n : Nat) (q : Queue) (l : Lane) : (setQueue n q l).ply = l.ply := rfl
@[simp] theorem setQueue_ports (n : Nat) (q : Queue) (l : Lane) : (setQueue n q l).ports = l.ports := rfl
@[simp] theorem setQueue_queueSizes (n : Nat) (q : Queue) (l : Lane) : (setQueue n q l).queueSizes = l.queueSizes := rfl
@[simp] theorem setQueue_streams (n : Nat) (q : Queue) (l : Lane) : (setQueue n q l).streams = l.streams := rfl
@[simp] theorem setQueue_pe (n : Nat) (q : Queue) (l : Lane) : (setQueue n q l).pe = l.pe := rfl
@[simp] theorem setQueue_skein (n : Nat) (q : Queue) (l : Lane) : (setQueue n q l).skein = l.skein := rfl
@[simp] theorem setQueue_array (n : Nat) (q : Queue) (l : Lane) : (setQueue n q l).array = l.array := rfl
@[simp] theorem setQueue_mesh (n : Nat) (q : Queue) (l : Lane) : (setQueue n q l).mesh = l.mesh := rfl
@[simp] theorem setQueue_swatch (n : Nat) (q : Queue) (l : Lane) : (setQueue n q l).swatch = l.swatch := rfl
@[simp] theorem setQueue_out (n : Nat) (q : Queue) (l : Lane) : (setQueue n q l).out = l.out := rfl

@[simp] theorem setRun_id (i : Nat) (x : StreamRun) (l : Lane) : (setRun i x l).id = l.id := rfl
@[simp] theorem setRun_tc (i : Nat) (x : StreamRun) (l : Lane) : (setRun i x l).tc = l.tc := rfl
@[simp] theorem setRun_fresh (i : Nat) (x : StreamRun) (l : Lane) : (setRun i x l).fresh = l.fresh := rfl
@[simp] theorem setRun_powered (i : Nat) (x : StreamRun) (l : Lane) : (setRun i x l).powered = l.powered := rfl
@[simp] theorem setRun_dieOk (i : Nat) (x : StreamRun) (l : Lane) : (setRun i x l).dieOk = l.dieOk := rfl
@[simp] theorem setRun_spi (i : Nat) (x : StreamRun) (l : Lane) : (setRun i x l).spi = l.spi := rfl
@[simp] theorem setRun_mode (i : Nat) (x : StreamRun) (l : Lane) : (setRun i x l).mode = l.mode := rfl
@[simp] theorem setRun_boot (i : Nat) (x : StreamRun) (l : Lane) : (setRun i x l).boot = l.boot := rfl
@[simp] theorem setRun_cfg (i : Nat) (x : StreamRun) (l : Lane) : (setRun i x l).cfg = l.cfg := rfl
@[simp] theorem setRun_store (i : Nat) (x : StreamRun) (l : Lane) : (setRun i x l).store = l.store := rfl
@[simp] theorem setRun_journal (i : Nat) (x : StreamRun) (l : Lane) : (setRun i x l).journal = l.journal := rfl
@[simp] theorem setRun_rtc (i : Nat) (x : StreamRun) (l : Lane) : (setRun i x l).rtc = l.rtc := rfl
@[simp] theorem setRun_flashEpochs (i : Nat) (x : StreamRun) (l : Lane) : (setRun i x l).flashEpochs = l.flashEpochs := rfl
@[simp] theorem setRun_keys (i : Nat) (x : StreamRun) (l : Lane) : (setRun i x l).keys = l.keys := rfl
@[simp] theorem setRun_vault (i : Nat) (x : StreamRun) (l : Lane) : (setRun i x l).vault = l.vault := rfl
@[simp] theorem setRun_peers (i : Nat) (x : StreamRun) (l : Lane) : (setRun i x l).peers = l.peers := rfl
@[simp] theorem setRun_mgmtPort (i : Nat) (x : StreamRun) (l : Lane) : (setRun i x l).mgmtPort = l.mgmtPort := rfl
@[simp] theorem setRun_mgmtUdp (i : Nat) (x : StreamRun) (l : Lane) : (setRun i x l).mgmtUdp = l.mgmtUdp := rfl
@[simp] theorem setRun_needle (i : Nat) (x : StreamRun) (l : Lane) : (setRun i x l).needle = l.needle := rfl
@[simp] theorem setRun_host (i : Nat) (x : StreamRun) (l : Lane) : (setRun i x l).host = l.host := rfl
@[simp] theorem setRun_health (i : Nat) (x : StreamRun) (l : Lane) : (setRun i x l).health = l.health := rfl
@[simp] theorem setRun_publish (i : Nat) (x : StreamRun) (l : Lane) : (setRun i x l).publish = l.publish := rfl
@[simp] theorem setRun_time (i : Nat) (x : StreamRun) (l : Lane) : (setRun i x l).time = l.time := rfl
@[simp] theorem setRun_ply (i : Nat) (x : StreamRun) (l : Lane) : (setRun i x l).ply = l.ply := rfl
@[simp] theorem setRun_ports (i : Nat) (x : StreamRun) (l : Lane) : (setRun i x l).ports = l.ports := rfl
@[simp] theorem setRun_queues (i : Nat) (x : StreamRun) (l : Lane) : (setRun i x l).queues = l.queues := rfl
@[simp] theorem setRun_queueSizes (i : Nat) (x : StreamRun) (l : Lane) : (setRun i x l).queueSizes = l.queueSizes := rfl
@[simp] theorem setRun_pe (i : Nat) (x : StreamRun) (l : Lane) : (setRun i x l).pe = l.pe := rfl
@[simp] theorem setRun_skein (i : Nat) (x : StreamRun) (l : Lane) : (setRun i x l).skein = l.skein := rfl
@[simp] theorem setRun_array (i : Nat) (x : StreamRun) (l : Lane) : (setRun i x l).array = l.array := rfl
@[simp] theorem setRun_mesh (i : Nat) (x : StreamRun) (l : Lane) : (setRun i x l).mesh = l.mesh := rfl
@[simp] theorem setRun_swatch (i : Nat) (x : StreamRun) (l : Lane) : (setRun i x l).swatch = l.swatch := rfl
@[simp] theorem setRun_out (i : Nat) (x : StreamRun) (l : Lane) : (setRun i x l).out = l.out := rfl

@[simp] theorem setEth_id (n : Nat) (x : EthRun) (l : Lane) : (setEth n x l).id = l.id := rfl
@[simp] theorem setEth_tc (n : Nat) (x : EthRun) (l : Lane) : (setEth n x l).tc = l.tc := rfl
@[simp] theorem setEth_fresh (n : Nat) (x : EthRun) (l : Lane) : (setEth n x l).fresh = l.fresh := rfl
@[simp] theorem setEth_powered (n : Nat) (x : EthRun) (l : Lane) : (setEth n x l).powered = l.powered := rfl
@[simp] theorem setEth_dieOk (n : Nat) (x : EthRun) (l : Lane) : (setEth n x l).dieOk = l.dieOk := rfl
@[simp] theorem setEth_spi (n : Nat) (x : EthRun) (l : Lane) : (setEth n x l).spi = l.spi := rfl
@[simp] theorem setEth_mode (n : Nat) (x : EthRun) (l : Lane) : (setEth n x l).mode = l.mode := rfl
@[simp] theorem setEth_boot (n : Nat) (x : EthRun) (l : Lane) : (setEth n x l).boot = l.boot := rfl
@[simp] theorem setEth_cfg (n : Nat) (x : EthRun) (l : Lane) : (setEth n x l).cfg = l.cfg := rfl
@[simp] theorem setEth_store (n : Nat) (x : EthRun) (l : Lane) : (setEth n x l).store = l.store := rfl
@[simp] theorem setEth_journal (n : Nat) (x : EthRun) (l : Lane) : (setEth n x l).journal = l.journal := rfl
@[simp] theorem setEth_rtc (n : Nat) (x : EthRun) (l : Lane) : (setEth n x l).rtc = l.rtc := rfl
@[simp] theorem setEth_flashEpochs (n : Nat) (x : EthRun) (l : Lane) : (setEth n x l).flashEpochs = l.flashEpochs := rfl
@[simp] theorem setEth_keys (n : Nat) (x : EthRun) (l : Lane) : (setEth n x l).keys = l.keys := rfl
@[simp] theorem setEth_vault (n : Nat) (x : EthRun) (l : Lane) : (setEth n x l).vault = l.vault := rfl
@[simp] theorem setEth_peers (n : Nat) (x : EthRun) (l : Lane) : (setEth n x l).peers = l.peers := rfl
@[simp] theorem setEth_mgmtPort (n : Nat) (x : EthRun) (l : Lane) : (setEth n x l).mgmtPort = l.mgmtPort := rfl
@[simp] theorem setEth_mgmtUdp (n : Nat) (x : EthRun) (l : Lane) : (setEth n x l).mgmtUdp = l.mgmtUdp := rfl
@[simp] theorem setEth_needle (n : Nat) (x : EthRun) (l : Lane) : (setEth n x l).needle = l.needle := rfl
@[simp] theorem setEth_host (n : Nat) (x : EthRun) (l : Lane) : (setEth n x l).host = l.host := rfl
@[simp] theorem setEth_health (n : Nat) (x : EthRun) (l : Lane) : (setEth n x l).health = l.health := rfl
@[simp] theorem setEth_publish (n : Nat) (x : EthRun) (l : Lane) : (setEth n x l).publish = l.publish := rfl
@[simp] theorem setEth_time (n : Nat) (x : EthRun) (l : Lane) : (setEth n x l).time = l.time := rfl
@[simp] theorem setEth_ply (n : Nat) (x : EthRun) (l : Lane) : (setEth n x l).ply = l.ply := rfl
@[simp] theorem setEth_queues (n : Nat) (x : EthRun) (l : Lane) : (setEth n x l).queues = l.queues := rfl
@[simp] theorem setEth_queueSizes (n : Nat) (x : EthRun) (l : Lane) : (setEth n x l).queueSizes = l.queueSizes := rfl
@[simp] theorem setEth_streams (n : Nat) (x : EthRun) (l : Lane) : (setEth n x l).streams = l.streams := rfl
@[simp] theorem setEth_pe (n : Nat) (x : EthRun) (l : Lane) : (setEth n x l).pe = l.pe := rfl
@[simp] theorem setEth_skein (n : Nat) (x : EthRun) (l : Lane) : (setEth n x l).skein = l.skein := rfl
@[simp] theorem setEth_array (n : Nat) (x : EthRun) (l : Lane) : (setEth n x l).array = l.array := rfl
@[simp] theorem setEth_mesh (n : Nat) (x : EthRun) (l : Lane) : (setEth n x l).mesh = l.mesh := rfl
@[simp] theorem setEth_swatch (n : Nat) (x : EthRun) (l : Lane) : (setEth n x l).swatch = l.swatch := rfl
@[simp] theorem setEth_out (n : Nat) (x : EthRun) (l : Lane) : (setEth n x l).out = l.out := rfl

@[simp] theorem setSerial_id (n : Nat) (x : SerialRun) (l : Lane) : (setSerial n x l).id = l.id := rfl
@[simp] theorem setSerial_tc (n : Nat) (x : SerialRun) (l : Lane) : (setSerial n x l).tc = l.tc := rfl
@[simp] theorem setSerial_fresh (n : Nat) (x : SerialRun) (l : Lane) : (setSerial n x l).fresh = l.fresh := rfl
@[simp] theorem setSerial_powered (n : Nat) (x : SerialRun) (l : Lane) : (setSerial n x l).powered = l.powered := rfl
@[simp] theorem setSerial_dieOk (n : Nat) (x : SerialRun) (l : Lane) : (setSerial n x l).dieOk = l.dieOk := rfl
@[simp] theorem setSerial_spi (n : Nat) (x : SerialRun) (l : Lane) : (setSerial n x l).spi = l.spi := rfl
@[simp] theorem setSerial_mode (n : Nat) (x : SerialRun) (l : Lane) : (setSerial n x l).mode = l.mode := rfl
@[simp] theorem setSerial_boot (n : Nat) (x : SerialRun) (l : Lane) : (setSerial n x l).boot = l.boot := rfl
@[simp] theorem setSerial_cfg (n : Nat) (x : SerialRun) (l : Lane) : (setSerial n x l).cfg = l.cfg := rfl
@[simp] theorem setSerial_store (n : Nat) (x : SerialRun) (l : Lane) : (setSerial n x l).store = l.store := rfl
@[simp] theorem setSerial_journal (n : Nat) (x : SerialRun) (l : Lane) : (setSerial n x l).journal = l.journal := rfl
@[simp] theorem setSerial_rtc (n : Nat) (x : SerialRun) (l : Lane) : (setSerial n x l).rtc = l.rtc := rfl
@[simp] theorem setSerial_flashEpochs (n : Nat) (x : SerialRun) (l : Lane) : (setSerial n x l).flashEpochs = l.flashEpochs := rfl
@[simp] theorem setSerial_keys (n : Nat) (x : SerialRun) (l : Lane) : (setSerial n x l).keys = l.keys := rfl
@[simp] theorem setSerial_vault (n : Nat) (x : SerialRun) (l : Lane) : (setSerial n x l).vault = l.vault := rfl
@[simp] theorem setSerial_peers (n : Nat) (x : SerialRun) (l : Lane) : (setSerial n x l).peers = l.peers := rfl
@[simp] theorem setSerial_mgmtPort (n : Nat) (x : SerialRun) (l : Lane) : (setSerial n x l).mgmtPort = l.mgmtPort := rfl
@[simp] theorem setSerial_mgmtUdp (n : Nat) (x : SerialRun) (l : Lane) : (setSerial n x l).mgmtUdp = l.mgmtUdp := rfl
@[simp] theorem setSerial_needle (n : Nat) (x : SerialRun) (l : Lane) : (setSerial n x l).needle = l.needle := rfl
@[simp] theorem setSerial_host (n : Nat) (x : SerialRun) (l : Lane) : (setSerial n x l).host = l.host := rfl
@[simp] theorem setSerial_health (n : Nat) (x : SerialRun) (l : Lane) : (setSerial n x l).health = l.health := rfl
@[simp] theorem setSerial_publish (n : Nat) (x : SerialRun) (l : Lane) : (setSerial n x l).publish = l.publish := rfl
@[simp] theorem setSerial_time (n : Nat) (x : SerialRun) (l : Lane) : (setSerial n x l).time = l.time := rfl
@[simp] theorem setSerial_ply (n : Nat) (x : SerialRun) (l : Lane) : (setSerial n x l).ply = l.ply := rfl
@[simp] theorem setSerial_queues (n : Nat) (x : SerialRun) (l : Lane) : (setSerial n x l).queues = l.queues := rfl
@[simp] theorem setSerial_queueSizes (n : Nat) (x : SerialRun) (l : Lane) : (setSerial n x l).queueSizes = l.queueSizes := rfl
@[simp] theorem setSerial_streams (n : Nat) (x : SerialRun) (l : Lane) : (setSerial n x l).streams = l.streams := rfl
@[simp] theorem setSerial_pe (n : Nat) (x : SerialRun) (l : Lane) : (setSerial n x l).pe = l.pe := rfl
@[simp] theorem setSerial_skein (n : Nat) (x : SerialRun) (l : Lane) : (setSerial n x l).skein = l.skein := rfl
@[simp] theorem setSerial_array (n : Nat) (x : SerialRun) (l : Lane) : (setSerial n x l).array = l.array := rfl
@[simp] theorem setSerial_mesh (n : Nat) (x : SerialRun) (l : Lane) : (setSerial n x l).mesh = l.mesh := rfl
@[simp] theorem setSerial_swatch (n : Nat) (x : SerialRun) (l : Lane) : (setSerial n x l).swatch = l.swatch := rfl
@[simp] theorem setSerial_out (n : Nat) (x : SerialRun) (l : Lane) : (setSerial n x l).out = l.out := rfl

@[simp] theorem setRing_id (n : Nat) (x : GlgRing) (l : Lane) : (setRing n x l).id = l.id := rfl
@[simp] theorem setRing_tc (n : Nat) (x : GlgRing) (l : Lane) : (setRing n x l).tc = l.tc := rfl
@[simp] theorem setRing_fresh (n : Nat) (x : GlgRing) (l : Lane) : (setRing n x l).fresh = l.fresh := rfl
@[simp] theorem setRing_powered (n : Nat) (x : GlgRing) (l : Lane) : (setRing n x l).powered = l.powered := rfl
@[simp] theorem setRing_dieOk (n : Nat) (x : GlgRing) (l : Lane) : (setRing n x l).dieOk = l.dieOk := rfl
@[simp] theorem setRing_spi (n : Nat) (x : GlgRing) (l : Lane) : (setRing n x l).spi = l.spi := rfl
@[simp] theorem setRing_mode (n : Nat) (x : GlgRing) (l : Lane) : (setRing n x l).mode = l.mode := rfl
@[simp] theorem setRing_boot (n : Nat) (x : GlgRing) (l : Lane) : (setRing n x l).boot = l.boot := rfl
@[simp] theorem setRing_cfg (n : Nat) (x : GlgRing) (l : Lane) : (setRing n x l).cfg = l.cfg := rfl
@[simp] theorem setRing_store (n : Nat) (x : GlgRing) (l : Lane) : (setRing n x l).store = l.store := rfl
@[simp] theorem setRing_journal (n : Nat) (x : GlgRing) (l : Lane) : (setRing n x l).journal = l.journal := rfl
@[simp] theorem setRing_rtc (n : Nat) (x : GlgRing) (l : Lane) : (setRing n x l).rtc = l.rtc := rfl
@[simp] theorem setRing_flashEpochs (n : Nat) (x : GlgRing) (l : Lane) : (setRing n x l).flashEpochs = l.flashEpochs := rfl
@[simp] theorem setRing_keys (n : Nat) (x : GlgRing) (l : Lane) : (setRing n x l).keys = l.keys := rfl
@[simp] theorem setRing_vault (n : Nat) (x : GlgRing) (l : Lane) : (setRing n x l).vault = l.vault := rfl
@[simp] theorem setRing_peers (n : Nat) (x : GlgRing) (l : Lane) : (setRing n x l).peers = l.peers := rfl
@[simp] theorem setRing_mgmtPort (n : Nat) (x : GlgRing) (l : Lane) : (setRing n x l).mgmtPort = l.mgmtPort := rfl
@[simp] theorem setRing_mgmtUdp (n : Nat) (x : GlgRing) (l : Lane) : (setRing n x l).mgmtUdp = l.mgmtUdp := rfl
@[simp] theorem setRing_needle (n : Nat) (x : GlgRing) (l : Lane) : (setRing n x l).needle = l.needle := rfl
@[simp] theorem setRing_health (n : Nat) (x : GlgRing) (l : Lane) : (setRing n x l).health = l.health := rfl
@[simp] theorem setRing_publish (n : Nat) (x : GlgRing) (l : Lane) : (setRing n x l).publish = l.publish := rfl
@[simp] theorem setRing_time (n : Nat) (x : GlgRing) (l : Lane) : (setRing n x l).time = l.time := rfl
@[simp] theorem setRing_ply (n : Nat) (x : GlgRing) (l : Lane) : (setRing n x l).ply = l.ply := rfl
@[simp] theorem setRing_ports (n : Nat) (x : GlgRing) (l : Lane) : (setRing n x l).ports = l.ports := rfl
@[simp] theorem setRing_queues (n : Nat) (x : GlgRing) (l : Lane) : (setRing n x l).queues = l.queues := rfl
@[simp] theorem setRing_queueSizes (n : Nat) (x : GlgRing) (l : Lane) : (setRing n x l).queueSizes = l.queueSizes := rfl
@[simp] theorem setRing_streams (n : Nat) (x : GlgRing) (l : Lane) : (setRing n x l).streams = l.streams := rfl
@[simp] theorem setRing_pe (n : Nat) (x : GlgRing) (l : Lane) : (setRing n x l).pe = l.pe := rfl
@[simp] theorem setRing_skein (n : Nat) (x : GlgRing) (l : Lane) : (setRing n x l).skein = l.skein := rfl
@[simp] theorem setRing_array (n : Nat) (x : GlgRing) (l : Lane) : (setRing n x l).array = l.array := rfl
@[simp] theorem setRing_mesh (n : Nat) (x : GlgRing) (l : Lane) : (setRing n x l).mesh = l.mesh := rfl
@[simp] theorem setRing_swatch (n : Nat) (x : GlgRing) (l : Lane) : (setRing n x l).swatch = l.swatch := rfl
@[simp] theorem setRing_out (n : Nat) (x : GlgRing) (l : Lane) : (setRing n x l).out = l.out := rfl

@[simp] theorem setPeRun_id (i : Nat) (c : Nat) (x : PeRun) (l : Lane) : (setPeRun i c x l).id = l.id := rfl
@[simp] theorem setPeRun_tc (i : Nat) (c : Nat) (x : PeRun) (l : Lane) : (setPeRun i c x l).tc = l.tc := rfl
@[simp] theorem setPeRun_fresh (i : Nat) (c : Nat) (x : PeRun) (l : Lane) : (setPeRun i c x l).fresh = l.fresh := rfl
@[simp] theorem setPeRun_powered (i : Nat) (c : Nat) (x : PeRun) (l : Lane) : (setPeRun i c x l).powered = l.powered := rfl
@[simp] theorem setPeRun_dieOk (i : Nat) (c : Nat) (x : PeRun) (l : Lane) : (setPeRun i c x l).dieOk = l.dieOk := rfl
@[simp] theorem setPeRun_spi (i : Nat) (c : Nat) (x : PeRun) (l : Lane) : (setPeRun i c x l).spi = l.spi := rfl
@[simp] theorem setPeRun_mode (i : Nat) (c : Nat) (x : PeRun) (l : Lane) : (setPeRun i c x l).mode = l.mode := rfl
@[simp] theorem setPeRun_boot (i : Nat) (c : Nat) (x : PeRun) (l : Lane) : (setPeRun i c x l).boot = l.boot := rfl
@[simp] theorem setPeRun_cfg (i : Nat) (c : Nat) (x : PeRun) (l : Lane) : (setPeRun i c x l).cfg = l.cfg := rfl
@[simp] theorem setPeRun_store (i : Nat) (c : Nat) (x : PeRun) (l : Lane) : (setPeRun i c x l).store = l.store := rfl
@[simp] theorem setPeRun_journal (i : Nat) (c : Nat) (x : PeRun) (l : Lane) : (setPeRun i c x l).journal = l.journal := rfl
@[simp] theorem setPeRun_rtc (i : Nat) (c : Nat) (x : PeRun) (l : Lane) : (setPeRun i c x l).rtc = l.rtc := rfl
@[simp] theorem setPeRun_flashEpochs (i : Nat) (c : Nat) (x : PeRun) (l : Lane) : (setPeRun i c x l).flashEpochs = l.flashEpochs := rfl
@[simp] theorem setPeRun_keys (i : Nat) (c : Nat) (x : PeRun) (l : Lane) : (setPeRun i c x l).keys = l.keys := rfl
@[simp] theorem setPeRun_vault (i : Nat) (c : Nat) (x : PeRun) (l : Lane) : (setPeRun i c x l).vault = l.vault := rfl
@[simp] theorem setPeRun_peers (i : Nat) (c : Nat) (x : PeRun) (l : Lane) : (setPeRun i c x l).peers = l.peers := rfl
@[simp] theorem setPeRun_mgmtPort (i : Nat) (c : Nat) (x : PeRun) (l : Lane) : (setPeRun i c x l).mgmtPort = l.mgmtPort := rfl
@[simp] theorem setPeRun_mgmtUdp (i : Nat) (c : Nat) (x : PeRun) (l : Lane) : (setPeRun i c x l).mgmtUdp = l.mgmtUdp := rfl
@[simp] theorem setPeRun_needle (i : Nat) (c : Nat) (x : PeRun) (l : Lane) : (setPeRun i c x l).needle = l.needle := rfl
@[simp] theorem setPeRun_host (i : Nat) (c : Nat) (x : PeRun) (l : Lane) : (setPeRun i c x l).host = l.host := rfl
@[simp] theorem setPeRun_health (i : Nat) (c : Nat) (x : PeRun) (l : Lane) : (setPeRun i c x l).health = l.health := rfl
@[simp] theorem setPeRun_publish (i : Nat) (c : Nat) (x : PeRun) (l : Lane) : (setPeRun i c x l).publish = l.publish := rfl
@[simp] theorem setPeRun_time (i : Nat) (c : Nat) (x : PeRun) (l : Lane) : (setPeRun i c x l).time = l.time := rfl
@[simp] theorem setPeRun_ply (i : Nat) (c : Nat) (x : PeRun) (l : Lane) : (setPeRun i c x l).ply = l.ply := rfl
@[simp] theorem setPeRun_ports (i : Nat) (c : Nat) (x : PeRun) (l : Lane) : (setPeRun i c x l).ports = l.ports := rfl
@[simp] theorem setPeRun_queues (i : Nat) (c : Nat) (x : PeRun) (l : Lane) : (setPeRun i c x l).queues = l.queues := rfl
@[simp] theorem setPeRun_queueSizes (i : Nat) (c : Nat) (x : PeRun) (l : Lane) : (setPeRun i c x l).queueSizes = l.queueSizes := rfl
@[simp] theorem setPeRun_streams (i : Nat) (c : Nat) (x : PeRun) (l : Lane) : (setPeRun i c x l).streams = l.streams := rfl
@[simp] theorem setPeRun_skein (i : Nat) (c : Nat) (x : PeRun) (l : Lane) : (setPeRun i c x l).skein = l.skein := rfl
@[simp] theorem setPeRun_array (i : Nat) (c : Nat) (x : PeRun) (l : Lane) : (setPeRun i c x l).array = l.array := rfl
@[simp] theorem setPeRun_mesh (i : Nat) (c : Nat) (x : PeRun) (l : Lane) : (setPeRun i c x l).mesh = l.mesh := rfl
@[simp] theorem setPeRun_swatch (i : Nat) (c : Nat) (x : PeRun) (l : Lane) : (setPeRun i c x l).swatch = l.swatch := rfl
@[simp] theorem setPeRun_out (i : Nat) (c : Nat) (x : PeRun) (l : Lane) : (setPeRun i c x l).out = l.out := rfl

@[simp] theorem setPeStream_id (i : Nat) (x : PeStream) (l : Lane) : (setPeStream i x l).id = l.id := rfl
@[simp] theorem setPeStream_tc (i : Nat) (x : PeStream) (l : Lane) : (setPeStream i x l).tc = l.tc := rfl
@[simp] theorem setPeStream_fresh (i : Nat) (x : PeStream) (l : Lane) : (setPeStream i x l).fresh = l.fresh := rfl
@[simp] theorem setPeStream_powered (i : Nat) (x : PeStream) (l : Lane) : (setPeStream i x l).powered = l.powered := rfl
@[simp] theorem setPeStream_dieOk (i : Nat) (x : PeStream) (l : Lane) : (setPeStream i x l).dieOk = l.dieOk := rfl
@[simp] theorem setPeStream_spi (i : Nat) (x : PeStream) (l : Lane) : (setPeStream i x l).spi = l.spi := rfl
@[simp] theorem setPeStream_mode (i : Nat) (x : PeStream) (l : Lane) : (setPeStream i x l).mode = l.mode := rfl
@[simp] theorem setPeStream_boot (i : Nat) (x : PeStream) (l : Lane) : (setPeStream i x l).boot = l.boot := rfl
@[simp] theorem setPeStream_cfg (i : Nat) (x : PeStream) (l : Lane) : (setPeStream i x l).cfg = l.cfg := rfl
@[simp] theorem setPeStream_store (i : Nat) (x : PeStream) (l : Lane) : (setPeStream i x l).store = l.store := rfl
@[simp] theorem setPeStream_journal (i : Nat) (x : PeStream) (l : Lane) : (setPeStream i x l).journal = l.journal := rfl
@[simp] theorem setPeStream_rtc (i : Nat) (x : PeStream) (l : Lane) : (setPeStream i x l).rtc = l.rtc := rfl
@[simp] theorem setPeStream_flashEpochs (i : Nat) (x : PeStream) (l : Lane) : (setPeStream i x l).flashEpochs = l.flashEpochs := rfl
@[simp] theorem setPeStream_keys (i : Nat) (x : PeStream) (l : Lane) : (setPeStream i x l).keys = l.keys := rfl
@[simp] theorem setPeStream_vault (i : Nat) (x : PeStream) (l : Lane) : (setPeStream i x l).vault = l.vault := rfl
@[simp] theorem setPeStream_peers (i : Nat) (x : PeStream) (l : Lane) : (setPeStream i x l).peers = l.peers := rfl
@[simp] theorem setPeStream_mgmtPort (i : Nat) (x : PeStream) (l : Lane) : (setPeStream i x l).mgmtPort = l.mgmtPort := rfl
@[simp] theorem setPeStream_mgmtUdp (i : Nat) (x : PeStream) (l : Lane) : (setPeStream i x l).mgmtUdp = l.mgmtUdp := rfl
@[simp] theorem setPeStream_needle (i : Nat) (x : PeStream) (l : Lane) : (setPeStream i x l).needle = l.needle := rfl
@[simp] theorem setPeStream_host (i : Nat) (x : PeStream) (l : Lane) : (setPeStream i x l).host = l.host := rfl
@[simp] theorem setPeStream_health (i : Nat) (x : PeStream) (l : Lane) : (setPeStream i x l).health = l.health := rfl
@[simp] theorem setPeStream_publish (i : Nat) (x : PeStream) (l : Lane) : (setPeStream i x l).publish = l.publish := rfl
@[simp] theorem setPeStream_time (i : Nat) (x : PeStream) (l : Lane) : (setPeStream i x l).time = l.time := rfl
@[simp] theorem setPeStream_ply (i : Nat) (x : PeStream) (l : Lane) : (setPeStream i x l).ply = l.ply := rfl
@[simp] theorem setPeStream_ports (i : Nat) (x : PeStream) (l : Lane) : (setPeStream i x l).ports = l.ports := rfl
@[simp] theorem setPeStream_queues (i : Nat) (x : PeStream) (l : Lane) : (setPeStream i x l).queues = l.queues := rfl
@[simp] theorem setPeStream_queueSizes (i : Nat) (x : PeStream) (l : Lane) : (setPeStream i x l).queueSizes = l.queueSizes := rfl
@[simp] theorem setPeStream_streams (i : Nat) (x : PeStream) (l : Lane) : (setPeStream i x l).streams = l.streams := rfl
@[simp] theorem setPeStream_skein (i : Nat) (x : PeStream) (l : Lane) : (setPeStream i x l).skein = l.skein := rfl
@[simp] theorem setPeStream_array (i : Nat) (x : PeStream) (l : Lane) : (setPeStream i x l).array = l.array := rfl
@[simp] theorem setPeStream_mesh (i : Nat) (x : PeStream) (l : Lane) : (setPeStream i x l).mesh = l.mesh := rfl
@[simp] theorem setPeStream_swatch (i : Nat) (x : PeStream) (l : Lane) : (setPeStream i x l).swatch = l.swatch := rfl
@[simp] theorem setPeStream_out (i : Nat) (x : PeStream) (l : Lane) : (setPeStream i x l).out = l.out := rfl

@[simp] theorem setPlane_id (n : Nat) (x : PlaneRun) (l : Lane) : (setPlane n x l).id = l.id := rfl
@[simp] theorem setPlane_tc (n : Nat) (x : PlaneRun) (l : Lane) : (setPlane n x l).tc = l.tc := rfl
@[simp] theorem setPlane_fresh (n : Nat) (x : PlaneRun) (l : Lane) : (setPlane n x l).fresh = l.fresh := rfl
@[simp] theorem setPlane_powered (n : Nat) (x : PlaneRun) (l : Lane) : (setPlane n x l).powered = l.powered := rfl
@[simp] theorem setPlane_dieOk (n : Nat) (x : PlaneRun) (l : Lane) : (setPlane n x l).dieOk = l.dieOk := rfl
@[simp] theorem setPlane_spi (n : Nat) (x : PlaneRun) (l : Lane) : (setPlane n x l).spi = l.spi := rfl
@[simp] theorem setPlane_mode (n : Nat) (x : PlaneRun) (l : Lane) : (setPlane n x l).mode = l.mode := rfl
@[simp] theorem setPlane_boot (n : Nat) (x : PlaneRun) (l : Lane) : (setPlane n x l).boot = l.boot := rfl
@[simp] theorem setPlane_cfg (n : Nat) (x : PlaneRun) (l : Lane) : (setPlane n x l).cfg = l.cfg := rfl
@[simp] theorem setPlane_store (n : Nat) (x : PlaneRun) (l : Lane) : (setPlane n x l).store = l.store := rfl
@[simp] theorem setPlane_journal (n : Nat) (x : PlaneRun) (l : Lane) : (setPlane n x l).journal = l.journal := rfl
@[simp] theorem setPlane_rtc (n : Nat) (x : PlaneRun) (l : Lane) : (setPlane n x l).rtc = l.rtc := rfl
@[simp] theorem setPlane_flashEpochs (n : Nat) (x : PlaneRun) (l : Lane) : (setPlane n x l).flashEpochs = l.flashEpochs := rfl
@[simp] theorem setPlane_keys (n : Nat) (x : PlaneRun) (l : Lane) : (setPlane n x l).keys = l.keys := rfl
@[simp] theorem setPlane_vault (n : Nat) (x : PlaneRun) (l : Lane) : (setPlane n x l).vault = l.vault := rfl
@[simp] theorem setPlane_peers (n : Nat) (x : PlaneRun) (l : Lane) : (setPlane n x l).peers = l.peers := rfl
@[simp] theorem setPlane_mgmtPort (n : Nat) (x : PlaneRun) (l : Lane) : (setPlane n x l).mgmtPort = l.mgmtPort := rfl
@[simp] theorem setPlane_mgmtUdp (n : Nat) (x : PlaneRun) (l : Lane) : (setPlane n x l).mgmtUdp = l.mgmtUdp := rfl
@[simp] theorem setPlane_needle (n : Nat) (x : PlaneRun) (l : Lane) : (setPlane n x l).needle = l.needle := rfl
@[simp] theorem setPlane_host (n : Nat) (x : PlaneRun) (l : Lane) : (setPlane n x l).host = l.host := rfl
@[simp] theorem setPlane_health (n : Nat) (x : PlaneRun) (l : Lane) : (setPlane n x l).health = l.health := rfl
@[simp] theorem setPlane_publish (n : Nat) (x : PlaneRun) (l : Lane) : (setPlane n x l).publish = l.publish := rfl
@[simp] theorem setPlane_time (n : Nat) (x : PlaneRun) (l : Lane) : (setPlane n x l).time = l.time := rfl
@[simp] theorem setPlane_ply (n : Nat) (x : PlaneRun) (l : Lane) : (setPlane n x l).ply = l.ply := rfl
@[simp] theorem setPlane_ports (n : Nat) (x : PlaneRun) (l : Lane) : (setPlane n x l).ports = l.ports := rfl
@[simp] theorem setPlane_queues (n : Nat) (x : PlaneRun) (l : Lane) : (setPlane n x l).queues = l.queues := rfl
@[simp] theorem setPlane_queueSizes (n : Nat) (x : PlaneRun) (l : Lane) : (setPlane n x l).queueSizes = l.queueSizes := rfl
@[simp] theorem setPlane_streams (n : Nat) (x : PlaneRun) (l : Lane) : (setPlane n x l).streams = l.streams := rfl
@[simp] theorem setPlane_pe (n : Nat) (x : PlaneRun) (l : Lane) : (setPlane n x l).pe = l.pe := rfl
@[simp] theorem setPlane_array (n : Nat) (x : PlaneRun) (l : Lane) : (setPlane n x l).array = l.array := rfl
@[simp] theorem setPlane_mesh (n : Nat) (x : PlaneRun) (l : Lane) : (setPlane n x l).mesh = l.mesh := rfl
@[simp] theorem setPlane_swatch (n : Nat) (x : PlaneRun) (l : Lane) : (setPlane n x l).swatch = l.swatch := rfl
@[simp] theorem setPlane_out (n : Nat) (x : PlaneRun) (l : Lane) : (setPlane n x l).out = l.out := rfl

@[simp] theorem setPart_id (n : Nat) (x : Part) (l : Lane) : (setPart n x l).id = l.id := rfl
@[simp] theorem setPart_tc (n : Nat) (x : Part) (l : Lane) : (setPart n x l).tc = l.tc := rfl
@[simp] theorem setPart_fresh (n : Nat) (x : Part) (l : Lane) : (setPart n x l).fresh = l.fresh := rfl
@[simp] theorem setPart_powered (n : Nat) (x : Part) (l : Lane) : (setPart n x l).powered = l.powered := rfl
@[simp] theorem setPart_dieOk (n : Nat) (x : Part) (l : Lane) : (setPart n x l).dieOk = l.dieOk := rfl
@[simp] theorem setPart_spi (n : Nat) (x : Part) (l : Lane) : (setPart n x l).spi = l.spi := rfl
@[simp] theorem setPart_mode (n : Nat) (x : Part) (l : Lane) : (setPart n x l).mode = l.mode := rfl
@[simp] theorem setPart_boot (n : Nat) (x : Part) (l : Lane) : (setPart n x l).boot = l.boot := rfl
@[simp] theorem setPart_cfg (n : Nat) (x : Part) (l : Lane) : (setPart n x l).cfg = l.cfg := rfl
@[simp] theorem setPart_store (n : Nat) (x : Part) (l : Lane) : (setPart n x l).store = l.store := rfl
@[simp] theorem setPart_journal (n : Nat) (x : Part) (l : Lane) : (setPart n x l).journal = l.journal := rfl
@[simp] theorem setPart_rtc (n : Nat) (x : Part) (l : Lane) : (setPart n x l).rtc = l.rtc := rfl
@[simp] theorem setPart_flashEpochs (n : Nat) (x : Part) (l : Lane) : (setPart n x l).flashEpochs = l.flashEpochs := rfl
@[simp] theorem setPart_keys (n : Nat) (x : Part) (l : Lane) : (setPart n x l).keys = l.keys := rfl
@[simp] theorem setPart_vault (n : Nat) (x : Part) (l : Lane) : (setPart n x l).vault = l.vault := rfl
@[simp] theorem setPart_peers (n : Nat) (x : Part) (l : Lane) : (setPart n x l).peers = l.peers := rfl
@[simp] theorem setPart_mgmtPort (n : Nat) (x : Part) (l : Lane) : (setPart n x l).mgmtPort = l.mgmtPort := rfl
@[simp] theorem setPart_mgmtUdp (n : Nat) (x : Part) (l : Lane) : (setPart n x l).mgmtUdp = l.mgmtUdp := rfl
@[simp] theorem setPart_needle (n : Nat) (x : Part) (l : Lane) : (setPart n x l).needle = l.needle := rfl
@[simp] theorem setPart_host (n : Nat) (x : Part) (l : Lane) : (setPart n x l).host = l.host := rfl
@[simp] theorem setPart_health (n : Nat) (x : Part) (l : Lane) : (setPart n x l).health = l.health := rfl
@[simp] theorem setPart_publish (n : Nat) (x : Part) (l : Lane) : (setPart n x l).publish = l.publish := rfl
@[simp] theorem setPart_time (n : Nat) (x : Part) (l : Lane) : (setPart n x l).time = l.time := rfl
@[simp] theorem setPart_ply (n : Nat) (x : Part) (l : Lane) : (setPart n x l).ply = l.ply := rfl
@[simp] theorem setPart_ports (n : Nat) (x : Part) (l : Lane) : (setPart n x l).ports = l.ports := rfl
@[simp] theorem setPart_queues (n : Nat) (x : Part) (l : Lane) : (setPart n x l).queues = l.queues := rfl
@[simp] theorem setPart_queueSizes (n : Nat) (x : Part) (l : Lane) : (setPart n x l).queueSizes = l.queueSizes := rfl
@[simp] theorem setPart_streams (n : Nat) (x : Part) (l : Lane) : (setPart n x l).streams = l.streams := rfl
@[simp] theorem setPart_pe (n : Nat) (x : Part) (l : Lane) : (setPart n x l).pe = l.pe := rfl
@[simp] theorem setPart_skein (n : Nat) (x : Part) (l : Lane) : (setPart n x l).skein = l.skein := rfl
@[simp] theorem setPart_mesh (n : Nat) (x : Part) (l : Lane) : (setPart n x l).mesh = l.mesh := rfl
@[simp] theorem setPart_swatch (n : Nat) (x : Part) (l : Lane) : (setPart n x l).swatch = l.swatch := rfl
@[simp] theorem setPart_out (n : Nat) (x : Part) (l : Lane) : (setPart n x l).out = l.out := rfl

@[simp] theorem setTile_id (n : Nat) (x : Tile) (l : Lane) : (setTile n x l).id = l.id := rfl
@[simp] theorem setTile_tc (n : Nat) (x : Tile) (l : Lane) : (setTile n x l).tc = l.tc := rfl
@[simp] theorem setTile_fresh (n : Nat) (x : Tile) (l : Lane) : (setTile n x l).fresh = l.fresh := rfl
@[simp] theorem setTile_powered (n : Nat) (x : Tile) (l : Lane) : (setTile n x l).powered = l.powered := rfl
@[simp] theorem setTile_dieOk (n : Nat) (x : Tile) (l : Lane) : (setTile n x l).dieOk = l.dieOk := rfl
@[simp] theorem setTile_spi (n : Nat) (x : Tile) (l : Lane) : (setTile n x l).spi = l.spi := rfl
@[simp] theorem setTile_mode (n : Nat) (x : Tile) (l : Lane) : (setTile n x l).mode = l.mode := rfl
@[simp] theorem setTile_boot (n : Nat) (x : Tile) (l : Lane) : (setTile n x l).boot = l.boot := rfl
@[simp] theorem setTile_cfg (n : Nat) (x : Tile) (l : Lane) : (setTile n x l).cfg = l.cfg := rfl
@[simp] theorem setTile_store (n : Nat) (x : Tile) (l : Lane) : (setTile n x l).store = l.store := rfl
@[simp] theorem setTile_journal (n : Nat) (x : Tile) (l : Lane) : (setTile n x l).journal = l.journal := rfl
@[simp] theorem setTile_rtc (n : Nat) (x : Tile) (l : Lane) : (setTile n x l).rtc = l.rtc := rfl
@[simp] theorem setTile_flashEpochs (n : Nat) (x : Tile) (l : Lane) : (setTile n x l).flashEpochs = l.flashEpochs := rfl
@[simp] theorem setTile_keys (n : Nat) (x : Tile) (l : Lane) : (setTile n x l).keys = l.keys := rfl
@[simp] theorem setTile_vault (n : Nat) (x : Tile) (l : Lane) : (setTile n x l).vault = l.vault := rfl
@[simp] theorem setTile_peers (n : Nat) (x : Tile) (l : Lane) : (setTile n x l).peers = l.peers := rfl
@[simp] theorem setTile_mgmtPort (n : Nat) (x : Tile) (l : Lane) : (setTile n x l).mgmtPort = l.mgmtPort := rfl
@[simp] theorem setTile_mgmtUdp (n : Nat) (x : Tile) (l : Lane) : (setTile n x l).mgmtUdp = l.mgmtUdp := rfl
@[simp] theorem setTile_needle (n : Nat) (x : Tile) (l : Lane) : (setTile n x l).needle = l.needle := rfl
@[simp] theorem setTile_host (n : Nat) (x : Tile) (l : Lane) : (setTile n x l).host = l.host := rfl
@[simp] theorem setTile_health (n : Nat) (x : Tile) (l : Lane) : (setTile n x l).health = l.health := rfl
@[simp] theorem setTile_publish (n : Nat) (x : Tile) (l : Lane) : (setTile n x l).publish = l.publish := rfl
@[simp] theorem setTile_time (n : Nat) (x : Tile) (l : Lane) : (setTile n x l).time = l.time := rfl
@[simp] theorem setTile_ply (n : Nat) (x : Tile) (l : Lane) : (setTile n x l).ply = l.ply := rfl
@[simp] theorem setTile_ports (n : Nat) (x : Tile) (l : Lane) : (setTile n x l).ports = l.ports := rfl
@[simp] theorem setTile_queues (n : Nat) (x : Tile) (l : Lane) : (setTile n x l).queues = l.queues := rfl
@[simp] theorem setTile_queueSizes (n : Nat) (x : Tile) (l : Lane) : (setTile n x l).queueSizes = l.queueSizes := rfl
@[simp] theorem setTile_streams (n : Nat) (x : Tile) (l : Lane) : (setTile n x l).streams = l.streams := rfl
@[simp] theorem setTile_pe (n : Nat) (x : Tile) (l : Lane) : (setTile n x l).pe = l.pe := rfl
@[simp] theorem setTile_skein (n : Nat) (x : Tile) (l : Lane) : (setTile n x l).skein = l.skein := rfl
@[simp] theorem setTile_mesh (n : Nat) (x : Tile) (l : Lane) : (setTile n x l).mesh = l.mesh := rfl
@[simp] theorem setTile_swatch (n : Nat) (x : Tile) (l : Lane) : (setTile n x l).swatch = l.swatch := rfl
@[simp] theorem setTile_out (n : Nat) (x : Tile) (l : Lane) : (setTile n x l).out = l.out := rfl

@[simp] theorem setMesh_id (n : Nat) (x : MeshRun) (l : Lane) : (setMesh n x l).id = l.id := rfl
@[simp] theorem setMesh_tc (n : Nat) (x : MeshRun) (l : Lane) : (setMesh n x l).tc = l.tc := rfl
@[simp] theorem setMesh_fresh (n : Nat) (x : MeshRun) (l : Lane) : (setMesh n x l).fresh = l.fresh := rfl
@[simp] theorem setMesh_powered (n : Nat) (x : MeshRun) (l : Lane) : (setMesh n x l).powered = l.powered := rfl
@[simp] theorem setMesh_dieOk (n : Nat) (x : MeshRun) (l : Lane) : (setMesh n x l).dieOk = l.dieOk := rfl
@[simp] theorem setMesh_spi (n : Nat) (x : MeshRun) (l : Lane) : (setMesh n x l).spi = l.spi := rfl
@[simp] theorem setMesh_mode (n : Nat) (x : MeshRun) (l : Lane) : (setMesh n x l).mode = l.mode := rfl
@[simp] theorem setMesh_boot (n : Nat) (x : MeshRun) (l : Lane) : (setMesh n x l).boot = l.boot := rfl
@[simp] theorem setMesh_cfg (n : Nat) (x : MeshRun) (l : Lane) : (setMesh n x l).cfg = l.cfg := rfl
@[simp] theorem setMesh_store (n : Nat) (x : MeshRun) (l : Lane) : (setMesh n x l).store = l.store := rfl
@[simp] theorem setMesh_journal (n : Nat) (x : MeshRun) (l : Lane) : (setMesh n x l).journal = l.journal := rfl
@[simp] theorem setMesh_rtc (n : Nat) (x : MeshRun) (l : Lane) : (setMesh n x l).rtc = l.rtc := rfl
@[simp] theorem setMesh_flashEpochs (n : Nat) (x : MeshRun) (l : Lane) : (setMesh n x l).flashEpochs = l.flashEpochs := rfl
@[simp] theorem setMesh_keys (n : Nat) (x : MeshRun) (l : Lane) : (setMesh n x l).keys = l.keys := rfl
@[simp] theorem setMesh_vault (n : Nat) (x : MeshRun) (l : Lane) : (setMesh n x l).vault = l.vault := rfl
@[simp] theorem setMesh_peers (n : Nat) (x : MeshRun) (l : Lane) : (setMesh n x l).peers = l.peers := rfl
@[simp] theorem setMesh_mgmtPort (n : Nat) (x : MeshRun) (l : Lane) : (setMesh n x l).mgmtPort = l.mgmtPort := rfl
@[simp] theorem setMesh_mgmtUdp (n : Nat) (x : MeshRun) (l : Lane) : (setMesh n x l).mgmtUdp = l.mgmtUdp := rfl
@[simp] theorem setMesh_needle (n : Nat) (x : MeshRun) (l : Lane) : (setMesh n x l).needle = l.needle := rfl
@[simp] theorem setMesh_host (n : Nat) (x : MeshRun) (l : Lane) : (setMesh n x l).host = l.host := rfl
@[simp] theorem setMesh_health (n : Nat) (x : MeshRun) (l : Lane) : (setMesh n x l).health = l.health := rfl
@[simp] theorem setMesh_publish (n : Nat) (x : MeshRun) (l : Lane) : (setMesh n x l).publish = l.publish := rfl
@[simp] theorem setMesh_time (n : Nat) (x : MeshRun) (l : Lane) : (setMesh n x l).time = l.time := rfl
@[simp] theorem setMesh_ply (n : Nat) (x : MeshRun) (l : Lane) : (setMesh n x l).ply = l.ply := rfl
@[simp] theorem setMesh_ports (n : Nat) (x : MeshRun) (l : Lane) : (setMesh n x l).ports = l.ports := rfl
@[simp] theorem setMesh_queues (n : Nat) (x : MeshRun) (l : Lane) : (setMesh n x l).queues = l.queues := rfl
@[simp] theorem setMesh_queueSizes (n : Nat) (x : MeshRun) (l : Lane) : (setMesh n x l).queueSizes = l.queueSizes := rfl
@[simp] theorem setMesh_streams (n : Nat) (x : MeshRun) (l : Lane) : (setMesh n x l).streams = l.streams := rfl
@[simp] theorem setMesh_pe (n : Nat) (x : MeshRun) (l : Lane) : (setMesh n x l).pe = l.pe := rfl
@[simp] theorem setMesh_skein (n : Nat) (x : MeshRun) (l : Lane) : (setMesh n x l).skein = l.skein := rfl
@[simp] theorem setMesh_array (n : Nat) (x : MeshRun) (l : Lane) : (setMesh n x l).array = l.array := rfl
@[simp] theorem setMesh_swatch (n : Nat) (x : MeshRun) (l : Lane) : (setMesh n x l).swatch = l.swatch := rfl
@[simp] theorem setMesh_out (n : Nat) (x : MeshRun) (l : Lane) : (setMesh n x l).out = l.out := rfl

@[simp] theorem setAz_id (n : Nat) (x : AzPeer) (l : Lane) : (setAz n x l).id = l.id := rfl
@[simp] theorem setAz_tc (n : Nat) (x : AzPeer) (l : Lane) : (setAz n x l).tc = l.tc := rfl
@[simp] theorem setAz_fresh (n : Nat) (x : AzPeer) (l : Lane) : (setAz n x l).fresh = l.fresh := rfl
@[simp] theorem setAz_powered (n : Nat) (x : AzPeer) (l : Lane) : (setAz n x l).powered = l.powered := rfl
@[simp] theorem setAz_dieOk (n : Nat) (x : AzPeer) (l : Lane) : (setAz n x l).dieOk = l.dieOk := rfl
@[simp] theorem setAz_spi (n : Nat) (x : AzPeer) (l : Lane) : (setAz n x l).spi = l.spi := rfl
@[simp] theorem setAz_mode (n : Nat) (x : AzPeer) (l : Lane) : (setAz n x l).mode = l.mode := rfl
@[simp] theorem setAz_boot (n : Nat) (x : AzPeer) (l : Lane) : (setAz n x l).boot = l.boot := rfl
@[simp] theorem setAz_cfg (n : Nat) (x : AzPeer) (l : Lane) : (setAz n x l).cfg = l.cfg := rfl
@[simp] theorem setAz_store (n : Nat) (x : AzPeer) (l : Lane) : (setAz n x l).store = l.store := rfl
@[simp] theorem setAz_journal (n : Nat) (x : AzPeer) (l : Lane) : (setAz n x l).journal = l.journal := rfl
@[simp] theorem setAz_rtc (n : Nat) (x : AzPeer) (l : Lane) : (setAz n x l).rtc = l.rtc := rfl
@[simp] theorem setAz_flashEpochs (n : Nat) (x : AzPeer) (l : Lane) : (setAz n x l).flashEpochs = l.flashEpochs := rfl
@[simp] theorem setAz_keys (n : Nat) (x : AzPeer) (l : Lane) : (setAz n x l).keys = l.keys := rfl
@[simp] theorem setAz_vault (n : Nat) (x : AzPeer) (l : Lane) : (setAz n x l).vault = l.vault := rfl
@[simp] theorem setAz_peers (n : Nat) (x : AzPeer) (l : Lane) : (setAz n x l).peers = l.peers := rfl
@[simp] theorem setAz_mgmtPort (n : Nat) (x : AzPeer) (l : Lane) : (setAz n x l).mgmtPort = l.mgmtPort := rfl
@[simp] theorem setAz_mgmtUdp (n : Nat) (x : AzPeer) (l : Lane) : (setAz n x l).mgmtUdp = l.mgmtUdp := rfl
@[simp] theorem setAz_needle (n : Nat) (x : AzPeer) (l : Lane) : (setAz n x l).needle = l.needle := rfl
@[simp] theorem setAz_host (n : Nat) (x : AzPeer) (l : Lane) : (setAz n x l).host = l.host := rfl
@[simp] theorem setAz_health (n : Nat) (x : AzPeer) (l : Lane) : (setAz n x l).health = l.health := rfl
@[simp] theorem setAz_publish (n : Nat) (x : AzPeer) (l : Lane) : (setAz n x l).publish = l.publish := rfl
@[simp] theorem setAz_time (n : Nat) (x : AzPeer) (l : Lane) : (setAz n x l).time = l.time := rfl
@[simp] theorem setAz_ports (n : Nat) (x : AzPeer) (l : Lane) : (setAz n x l).ports = l.ports := rfl
@[simp] theorem setAz_queues (n : Nat) (x : AzPeer) (l : Lane) : (setAz n x l).queues = l.queues := rfl
@[simp] theorem setAz_queueSizes (n : Nat) (x : AzPeer) (l : Lane) : (setAz n x l).queueSizes = l.queueSizes := rfl
@[simp] theorem setAz_streams (n : Nat) (x : AzPeer) (l : Lane) : (setAz n x l).streams = l.streams := rfl
@[simp] theorem setAz_pe (n : Nat) (x : AzPeer) (l : Lane) : (setAz n x l).pe = l.pe := rfl
@[simp] theorem setAz_skein (n : Nat) (x : AzPeer) (l : Lane) : (setAz n x l).skein = l.skein := rfl
@[simp] theorem setAz_array (n : Nat) (x : AzPeer) (l : Lane) : (setAz n x l).array = l.array := rfl
@[simp] theorem setAz_mesh (n : Nat) (x : AzPeer) (l : Lane) : (setAz n x l).mesh = l.mesh := rfl
@[simp] theorem setAz_swatch (n : Nat) (x : AzPeer) (l : Lane) : (setAz n x l).swatch = l.swatch := rfl
@[simp] theorem setAz_out (n : Nat) (x : AzPeer) (l : Lane) : (setAz n x l).out = l.out := rfl

@[simp] theorem setPtpPort_id (n : Nat) (x : PtpPortSt) (l : Lane) : (setPtpPort n x l).id = l.id := rfl
@[simp] theorem setPtpPort_tc (n : Nat) (x : PtpPortSt) (l : Lane) : (setPtpPort n x l).tc = l.tc := rfl
@[simp] theorem setPtpPort_fresh (n : Nat) (x : PtpPortSt) (l : Lane) : (setPtpPort n x l).fresh = l.fresh := rfl
@[simp] theorem setPtpPort_powered (n : Nat) (x : PtpPortSt) (l : Lane) : (setPtpPort n x l).powered = l.powered := rfl
@[simp] theorem setPtpPort_dieOk (n : Nat) (x : PtpPortSt) (l : Lane) : (setPtpPort n x l).dieOk = l.dieOk := rfl
@[simp] theorem setPtpPort_spi (n : Nat) (x : PtpPortSt) (l : Lane) : (setPtpPort n x l).spi = l.spi := rfl
@[simp] theorem setPtpPort_mode (n : Nat) (x : PtpPortSt) (l : Lane) : (setPtpPort n x l).mode = l.mode := rfl
@[simp] theorem setPtpPort_boot (n : Nat) (x : PtpPortSt) (l : Lane) : (setPtpPort n x l).boot = l.boot := rfl
@[simp] theorem setPtpPort_cfg (n : Nat) (x : PtpPortSt) (l : Lane) : (setPtpPort n x l).cfg = l.cfg := rfl
@[simp] theorem setPtpPort_store (n : Nat) (x : PtpPortSt) (l : Lane) : (setPtpPort n x l).store = l.store := rfl
@[simp] theorem setPtpPort_journal (n : Nat) (x : PtpPortSt) (l : Lane) : (setPtpPort n x l).journal = l.journal := rfl
@[simp] theorem setPtpPort_rtc (n : Nat) (x : PtpPortSt) (l : Lane) : (setPtpPort n x l).rtc = l.rtc := rfl
@[simp] theorem setPtpPort_flashEpochs (n : Nat) (x : PtpPortSt) (l : Lane) : (setPtpPort n x l).flashEpochs = l.flashEpochs := rfl
@[simp] theorem setPtpPort_keys (n : Nat) (x : PtpPortSt) (l : Lane) : (setPtpPort n x l).keys = l.keys := rfl
@[simp] theorem setPtpPort_vault (n : Nat) (x : PtpPortSt) (l : Lane) : (setPtpPort n x l).vault = l.vault := rfl
@[simp] theorem setPtpPort_peers (n : Nat) (x : PtpPortSt) (l : Lane) : (setPtpPort n x l).peers = l.peers := rfl
@[simp] theorem setPtpPort_mgmtPort (n : Nat) (x : PtpPortSt) (l : Lane) : (setPtpPort n x l).mgmtPort = l.mgmtPort := rfl
@[simp] theorem setPtpPort_mgmtUdp (n : Nat) (x : PtpPortSt) (l : Lane) : (setPtpPort n x l).mgmtUdp = l.mgmtUdp := rfl
@[simp] theorem setPtpPort_needle (n : Nat) (x : PtpPortSt) (l : Lane) : (setPtpPort n x l).needle = l.needle := rfl
@[simp] theorem setPtpPort_host (n : Nat) (x : PtpPortSt) (l : Lane) : (setPtpPort n x l).host = l.host := rfl
@[simp] theorem setPtpPort_health (n : Nat) (x : PtpPortSt) (l : Lane) : (setPtpPort n x l).health = l.health := rfl
@[simp] theorem setPtpPort_publish (n : Nat) (x : PtpPortSt) (l : Lane) : (setPtpPort n x l).publish = l.publish := rfl
@[simp] theorem setPtpPort_ply (n : Nat) (x : PtpPortSt) (l : Lane) : (setPtpPort n x l).ply = l.ply := rfl
@[simp] theorem setPtpPort_ports (n : Nat) (x : PtpPortSt) (l : Lane) : (setPtpPort n x l).ports = l.ports := rfl
@[simp] theorem setPtpPort_queues (n : Nat) (x : PtpPortSt) (l : Lane) : (setPtpPort n x l).queues = l.queues := rfl
@[simp] theorem setPtpPort_queueSizes (n : Nat) (x : PtpPortSt) (l : Lane) : (setPtpPort n x l).queueSizes = l.queueSizes := rfl
@[simp] theorem setPtpPort_streams (n : Nat) (x : PtpPortSt) (l : Lane) : (setPtpPort n x l).streams = l.streams := rfl
@[simp] theorem setPtpPort_pe (n : Nat) (x : PtpPortSt) (l : Lane) : (setPtpPort n x l).pe = l.pe := rfl
@[simp] theorem setPtpPort_skein (n : Nat) (x : PtpPortSt) (l : Lane) : (setPtpPort n x l).skein = l.skein := rfl
@[simp] theorem setPtpPort_array (n : Nat) (x : PtpPortSt) (l : Lane) : (setPtpPort n x l).array = l.array := rfl
@[simp] theorem setPtpPort_mesh (n : Nat) (x : PtpPortSt) (l : Lane) : (setPtpPort n x l).mesh = l.mesh := rfl
@[simp] theorem setPtpPort_swatch (n : Nat) (x : PtpPortSt) (l : Lane) : (setPtpPort n x l).swatch = l.swatch := rfl
@[simp] theorem setPtpPort_out (n : Nat) (x : PtpPortSt) (l : Lane) : (setPtpPort n x l).out = l.out := rfl

@[simp] theorem setProfile_id (n : Nat) (x : ProfileRun) (l : Lane) : (setProfile n x l).id = l.id := rfl
@[simp] theorem setProfile_tc (n : Nat) (x : ProfileRun) (l : Lane) : (setProfile n x l).tc = l.tc := rfl
@[simp] theorem setProfile_fresh (n : Nat) (x : ProfileRun) (l : Lane) : (setProfile n x l).fresh = l.fresh := rfl
@[simp] theorem setProfile_powered (n : Nat) (x : ProfileRun) (l : Lane) : (setProfile n x l).powered = l.powered := rfl
@[simp] theorem setProfile_dieOk (n : Nat) (x : ProfileRun) (l : Lane) : (setProfile n x l).dieOk = l.dieOk := rfl
@[simp] theorem setProfile_spi (n : Nat) (x : ProfileRun) (l : Lane) : (setProfile n x l).spi = l.spi := rfl
@[simp] theorem setProfile_mode (n : Nat) (x : ProfileRun) (l : Lane) : (setProfile n x l).mode = l.mode := rfl
@[simp] theorem setProfile_boot (n : Nat) (x : ProfileRun) (l : Lane) : (setProfile n x l).boot = l.boot := rfl
@[simp] theorem setProfile_cfg (n : Nat) (x : ProfileRun) (l : Lane) : (setProfile n x l).cfg = l.cfg := rfl
@[simp] theorem setProfile_store (n : Nat) (x : ProfileRun) (l : Lane) : (setProfile n x l).store = l.store := rfl
@[simp] theorem setProfile_journal (n : Nat) (x : ProfileRun) (l : Lane) : (setProfile n x l).journal = l.journal := rfl
@[simp] theorem setProfile_rtc (n : Nat) (x : ProfileRun) (l : Lane) : (setProfile n x l).rtc = l.rtc := rfl
@[simp] theorem setProfile_flashEpochs (n : Nat) (x : ProfileRun) (l : Lane) : (setProfile n x l).flashEpochs = l.flashEpochs := rfl
@[simp] theorem setProfile_keys (n : Nat) (x : ProfileRun) (l : Lane) : (setProfile n x l).keys = l.keys := rfl
@[simp] theorem setProfile_vault (n : Nat) (x : ProfileRun) (l : Lane) : (setProfile n x l).vault = l.vault := rfl
@[simp] theorem setProfile_peers (n : Nat) (x : ProfileRun) (l : Lane) : (setProfile n x l).peers = l.peers := rfl
@[simp] theorem setProfile_mgmtPort (n : Nat) (x : ProfileRun) (l : Lane) : (setProfile n x l).mgmtPort = l.mgmtPort := rfl
@[simp] theorem setProfile_mgmtUdp (n : Nat) (x : ProfileRun) (l : Lane) : (setProfile n x l).mgmtUdp = l.mgmtUdp := rfl
@[simp] theorem setProfile_needle (n : Nat) (x : ProfileRun) (l : Lane) : (setProfile n x l).needle = l.needle := rfl
@[simp] theorem setProfile_host (n : Nat) (x : ProfileRun) (l : Lane) : (setProfile n x l).host = l.host := rfl
@[simp] theorem setProfile_health (n : Nat) (x : ProfileRun) (l : Lane) : (setProfile n x l).health = l.health := rfl
@[simp] theorem setProfile_publish (n : Nat) (x : ProfileRun) (l : Lane) : (setProfile n x l).publish = l.publish := rfl
@[simp] theorem setProfile_time (n : Nat) (x : ProfileRun) (l : Lane) : (setProfile n x l).time = l.time := rfl
@[simp] theorem setProfile_ply (n : Nat) (x : ProfileRun) (l : Lane) : (setProfile n x l).ply = l.ply := rfl
@[simp] theorem setProfile_ports (n : Nat) (x : ProfileRun) (l : Lane) : (setProfile n x l).ports = l.ports := rfl
@[simp] theorem setProfile_queues (n : Nat) (x : ProfileRun) (l : Lane) : (setProfile n x l).queues = l.queues := rfl
@[simp] theorem setProfile_queueSizes (n : Nat) (x : ProfileRun) (l : Lane) : (setProfile n x l).queueSizes = l.queueSizes := rfl
@[simp] theorem setProfile_streams (n : Nat) (x : ProfileRun) (l : Lane) : (setProfile n x l).streams = l.streams := rfl
@[simp] theorem setProfile_pe (n : Nat) (x : ProfileRun) (l : Lane) : (setProfile n x l).pe = l.pe := rfl
@[simp] theorem setProfile_skein (n : Nat) (x : ProfileRun) (l : Lane) : (setProfile n x l).skein = l.skein := rfl
@[simp] theorem setProfile_array (n : Nat) (x : ProfileRun) (l : Lane) : (setProfile n x l).array = l.array := rfl
@[simp] theorem setProfile_mesh (n : Nat) (x : ProfileRun) (l : Lane) : (setProfile n x l).mesh = l.mesh := rfl
@[simp] theorem setProfile_out (n : Nat) (x : ProfileRun) (l : Lane) : (setProfile n x l).out = l.out := rfl

@[simp] theorem setTrigger_id (n : Nat) (x : TriggerRun) (l : Lane) : (setTrigger n x l).id = l.id := rfl
@[simp] theorem setTrigger_tc (n : Nat) (x : TriggerRun) (l : Lane) : (setTrigger n x l).tc = l.tc := rfl
@[simp] theorem setTrigger_fresh (n : Nat) (x : TriggerRun) (l : Lane) : (setTrigger n x l).fresh = l.fresh := rfl
@[simp] theorem setTrigger_powered (n : Nat) (x : TriggerRun) (l : Lane) : (setTrigger n x l).powered = l.powered := rfl
@[simp] theorem setTrigger_dieOk (n : Nat) (x : TriggerRun) (l : Lane) : (setTrigger n x l).dieOk = l.dieOk := rfl
@[simp] theorem setTrigger_spi (n : Nat) (x : TriggerRun) (l : Lane) : (setTrigger n x l).spi = l.spi := rfl
@[simp] theorem setTrigger_mode (n : Nat) (x : TriggerRun) (l : Lane) : (setTrigger n x l).mode = l.mode := rfl
@[simp] theorem setTrigger_boot (n : Nat) (x : TriggerRun) (l : Lane) : (setTrigger n x l).boot = l.boot := rfl
@[simp] theorem setTrigger_cfg (n : Nat) (x : TriggerRun) (l : Lane) : (setTrigger n x l).cfg = l.cfg := rfl
@[simp] theorem setTrigger_store (n : Nat) (x : TriggerRun) (l : Lane) : (setTrigger n x l).store = l.store := rfl
@[simp] theorem setTrigger_journal (n : Nat) (x : TriggerRun) (l : Lane) : (setTrigger n x l).journal = l.journal := rfl
@[simp] theorem setTrigger_rtc (n : Nat) (x : TriggerRun) (l : Lane) : (setTrigger n x l).rtc = l.rtc := rfl
@[simp] theorem setTrigger_flashEpochs (n : Nat) (x : TriggerRun) (l : Lane) : (setTrigger n x l).flashEpochs = l.flashEpochs := rfl
@[simp] theorem setTrigger_keys (n : Nat) (x : TriggerRun) (l : Lane) : (setTrigger n x l).keys = l.keys := rfl
@[simp] theorem setTrigger_vault (n : Nat) (x : TriggerRun) (l : Lane) : (setTrigger n x l).vault = l.vault := rfl
@[simp] theorem setTrigger_peers (n : Nat) (x : TriggerRun) (l : Lane) : (setTrigger n x l).peers = l.peers := rfl
@[simp] theorem setTrigger_mgmtPort (n : Nat) (x : TriggerRun) (l : Lane) : (setTrigger n x l).mgmtPort = l.mgmtPort := rfl
@[simp] theorem setTrigger_mgmtUdp (n : Nat) (x : TriggerRun) (l : Lane) : (setTrigger n x l).mgmtUdp = l.mgmtUdp := rfl
@[simp] theorem setTrigger_needle (n : Nat) (x : TriggerRun) (l : Lane) : (setTrigger n x l).needle = l.needle := rfl
@[simp] theorem setTrigger_host (n : Nat) (x : TriggerRun) (l : Lane) : (setTrigger n x l).host = l.host := rfl
@[simp] theorem setTrigger_health (n : Nat) (x : TriggerRun) (l : Lane) : (setTrigger n x l).health = l.health := rfl
@[simp] theorem setTrigger_publish (n : Nat) (x : TriggerRun) (l : Lane) : (setTrigger n x l).publish = l.publish := rfl
@[simp] theorem setTrigger_time (n : Nat) (x : TriggerRun) (l : Lane) : (setTrigger n x l).time = l.time := rfl
@[simp] theorem setTrigger_ply (n : Nat) (x : TriggerRun) (l : Lane) : (setTrigger n x l).ply = l.ply := rfl
@[simp] theorem setTrigger_ports (n : Nat) (x : TriggerRun) (l : Lane) : (setTrigger n x l).ports = l.ports := rfl
@[simp] theorem setTrigger_queues (n : Nat) (x : TriggerRun) (l : Lane) : (setTrigger n x l).queues = l.queues := rfl
@[simp] theorem setTrigger_queueSizes (n : Nat) (x : TriggerRun) (l : Lane) : (setTrigger n x l).queueSizes = l.queueSizes := rfl
@[simp] theorem setTrigger_streams (n : Nat) (x : TriggerRun) (l : Lane) : (setTrigger n x l).streams = l.streams := rfl
@[simp] theorem setTrigger_pe (n : Nat) (x : TriggerRun) (l : Lane) : (setTrigger n x l).pe = l.pe := rfl
@[simp] theorem setTrigger_skein (n : Nat) (x : TriggerRun) (l : Lane) : (setTrigger n x l).skein = l.skein := rfl
@[simp] theorem setTrigger_array (n : Nat) (x : TriggerRun) (l : Lane) : (setTrigger n x l).array = l.array := rfl
@[simp] theorem setTrigger_mesh (n : Nat) (x : TriggerRun) (l : Lane) : (setTrigger n x l).mesh = l.mesh := rfl
@[simp] theorem setTrigger_out (n : Nat) (x : TriggerRun) (l : Lane) : (setTrigger n x l).out = l.out := rfl

@[simp] theorem setSeg_id (n : Nat) (x : Segment) (l : Lane) : (setSeg n x l).id = l.id := rfl
@[simp] theorem setSeg_tc (n : Nat) (x : Segment) (l : Lane) : (setSeg n x l).tc = l.tc := rfl
@[simp] theorem setSeg_fresh (n : Nat) (x : Segment) (l : Lane) : (setSeg n x l).fresh = l.fresh := rfl
@[simp] theorem setSeg_powered (n : Nat) (x : Segment) (l : Lane) : (setSeg n x l).powered = l.powered := rfl
@[simp] theorem setSeg_dieOk (n : Nat) (x : Segment) (l : Lane) : (setSeg n x l).dieOk = l.dieOk := rfl
@[simp] theorem setSeg_spi (n : Nat) (x : Segment) (l : Lane) : (setSeg n x l).spi = l.spi := rfl
@[simp] theorem setSeg_mode (n : Nat) (x : Segment) (l : Lane) : (setSeg n x l).mode = l.mode := rfl
@[simp] theorem setSeg_boot (n : Nat) (x : Segment) (l : Lane) : (setSeg n x l).boot = l.boot := rfl
@[simp] theorem setSeg_cfg (n : Nat) (x : Segment) (l : Lane) : (setSeg n x l).cfg = l.cfg := rfl
@[simp] theorem setSeg_store (n : Nat) (x : Segment) (l : Lane) : (setSeg n x l).store = l.store := rfl
@[simp] theorem setSeg_journal (n : Nat) (x : Segment) (l : Lane) : (setSeg n x l).journal = l.journal := rfl
@[simp] theorem setSeg_rtc (n : Nat) (x : Segment) (l : Lane) : (setSeg n x l).rtc = l.rtc := rfl
@[simp] theorem setSeg_flashEpochs (n : Nat) (x : Segment) (l : Lane) : (setSeg n x l).flashEpochs = l.flashEpochs := rfl
@[simp] theorem setSeg_keys (n : Nat) (x : Segment) (l : Lane) : (setSeg n x l).keys = l.keys := rfl
@[simp] theorem setSeg_vault (n : Nat) (x : Segment) (l : Lane) : (setSeg n x l).vault = l.vault := rfl
@[simp] theorem setSeg_peers (n : Nat) (x : Segment) (l : Lane) : (setSeg n x l).peers = l.peers := rfl
@[simp] theorem setSeg_mgmtPort (n : Nat) (x : Segment) (l : Lane) : (setSeg n x l).mgmtPort = l.mgmtPort := rfl
@[simp] theorem setSeg_mgmtUdp (n : Nat) (x : Segment) (l : Lane) : (setSeg n x l).mgmtUdp = l.mgmtUdp := rfl
@[simp] theorem setSeg_needle (n : Nat) (x : Segment) (l : Lane) : (setSeg n x l).needle = l.needle := rfl
@[simp] theorem setSeg_host (n : Nat) (x : Segment) (l : Lane) : (setSeg n x l).host = l.host := rfl
@[simp] theorem setSeg_health (n : Nat) (x : Segment) (l : Lane) : (setSeg n x l).health = l.health := rfl
@[simp] theorem setSeg_publish (n : Nat) (x : Segment) (l : Lane) : (setSeg n x l).publish = l.publish := rfl
@[simp] theorem setSeg_time (n : Nat) (x : Segment) (l : Lane) : (setSeg n x l).time = l.time := rfl
@[simp] theorem setSeg_ply (n : Nat) (x : Segment) (l : Lane) : (setSeg n x l).ply = l.ply := rfl
@[simp] theorem setSeg_ports (n : Nat) (x : Segment) (l : Lane) : (setSeg n x l).ports = l.ports := rfl
@[simp] theorem setSeg_queues (n : Nat) (x : Segment) (l : Lane) : (setSeg n x l).queues = l.queues := rfl
@[simp] theorem setSeg_queueSizes (n : Nat) (x : Segment) (l : Lane) : (setSeg n x l).queueSizes = l.queueSizes := rfl
@[simp] theorem setSeg_streams (n : Nat) (x : Segment) (l : Lane) : (setSeg n x l).streams = l.streams := rfl
@[simp] theorem setSeg_pe (n : Nat) (x : Segment) (l : Lane) : (setSeg n x l).pe = l.pe := rfl
@[simp] theorem setSeg_skein (n : Nat) (x : Segment) (l : Lane) : (setSeg n x l).skein = l.skein := rfl
@[simp] theorem setSeg_array (n : Nat) (x : Segment) (l : Lane) : (setSeg n x l).array = l.array := rfl
@[simp] theorem setSeg_mesh (n : Nat) (x : Segment) (l : Lane) : (setSeg n x l).mesh = l.mesh := rfl
@[simp] theorem setSeg_out (n : Nat) (x : Segment) (l : Lane) : (setSeg n x l).out = l.out := rfl

@[simp] theorem setRef_id (k : RefKind) (x : RefSt) (l : Lane) : (setRef k x l).id = l.id := by cases k <;> rfl
@[simp] theorem setRef_tc (k : RefKind) (x : RefSt) (l : Lane) : (setRef k x l).tc = l.tc := by cases k <;> rfl
@[simp] theorem setRef_fresh (k : RefKind) (x : RefSt) (l : Lane) : (setRef k x l).fresh = l.fresh := by cases k <;> rfl
@[simp] theorem setRef_powered (k : RefKind) (x : RefSt) (l : Lane) : (setRef k x l).powered = l.powered := by cases k <;> rfl
@[simp] theorem setRef_dieOk (k : RefKind) (x : RefSt) (l : Lane) : (setRef k x l).dieOk = l.dieOk := by cases k <;> rfl
@[simp] theorem setRef_spi (k : RefKind) (x : RefSt) (l : Lane) : (setRef k x l).spi = l.spi := by cases k <;> rfl
@[simp] theorem setRef_mode (k : RefKind) (x : RefSt) (l : Lane) : (setRef k x l).mode = l.mode := by cases k <;> rfl
@[simp] theorem setRef_boot (k : RefKind) (x : RefSt) (l : Lane) : (setRef k x l).boot = l.boot := by cases k <;> rfl
@[simp] theorem setRef_cfg (k : RefKind) (x : RefSt) (l : Lane) : (setRef k x l).cfg = l.cfg := by cases k <;> rfl
@[simp] theorem setRef_store (k : RefKind) (x : RefSt) (l : Lane) : (setRef k x l).store = l.store := by cases k <;> rfl
@[simp] theorem setRef_journal (k : RefKind) (x : RefSt) (l : Lane) : (setRef k x l).journal = l.journal := by cases k <;> rfl
@[simp] theorem setRef_rtc (k : RefKind) (x : RefSt) (l : Lane) : (setRef k x l).rtc = l.rtc := by cases k <;> rfl
@[simp] theorem setRef_flashEpochs (k : RefKind) (x : RefSt) (l : Lane) : (setRef k x l).flashEpochs = l.flashEpochs := by cases k <;> rfl
@[simp] theorem setRef_keys (k : RefKind) (x : RefSt) (l : Lane) : (setRef k x l).keys = l.keys := by cases k <;> rfl
@[simp] theorem setRef_vault (k : RefKind) (x : RefSt) (l : Lane) : (setRef k x l).vault = l.vault := by cases k <;> rfl
@[simp] theorem setRef_peers (k : RefKind) (x : RefSt) (l : Lane) : (setRef k x l).peers = l.peers := by cases k <;> rfl
@[simp] theorem setRef_mgmtPort (k : RefKind) (x : RefSt) (l : Lane) : (setRef k x l).mgmtPort = l.mgmtPort := by cases k <;> rfl
@[simp] theorem setRef_mgmtUdp (k : RefKind) (x : RefSt) (l : Lane) : (setRef k x l).mgmtUdp = l.mgmtUdp := by cases k <;> rfl
@[simp] theorem setRef_needle (k : RefKind) (x : RefSt) (l : Lane) : (setRef k x l).needle = l.needle := by cases k <;> rfl
@[simp] theorem setRef_host (k : RefKind) (x : RefSt) (l : Lane) : (setRef k x l).host = l.host := by cases k <;> rfl
@[simp] theorem setRef_health (k : RefKind) (x : RefSt) (l : Lane) : (setRef k x l).health = l.health := by cases k <;> rfl
@[simp] theorem setRef_publish (k : RefKind) (x : RefSt) (l : Lane) : (setRef k x l).publish = l.publish := by cases k <;> rfl
@[simp] theorem setRef_ply (k : RefKind) (x : RefSt) (l : Lane) : (setRef k x l).ply = l.ply := by cases k <;> rfl
@[simp] theorem setRef_ports (k : RefKind) (x : RefSt) (l : Lane) : (setRef k x l).ports = l.ports := by cases k <;> rfl
@[simp] theorem setRef_queues (k : RefKind) (x : RefSt) (l : Lane) : (setRef k x l).queues = l.queues := by cases k <;> rfl
@[simp] theorem setRef_queueSizes (k : RefKind) (x : RefSt) (l : Lane) : (setRef k x l).queueSizes = l.queueSizes := by cases k <;> rfl
@[simp] theorem setRef_streams (k : RefKind) (x : RefSt) (l : Lane) : (setRef k x l).streams = l.streams := by cases k <;> rfl
@[simp] theorem setRef_pe (k : RefKind) (x : RefSt) (l : Lane) : (setRef k x l).pe = l.pe := by cases k <;> rfl
@[simp] theorem setRef_skein (k : RefKind) (x : RefSt) (l : Lane) : (setRef k x l).skein = l.skein := by cases k <;> rfl
@[simp] theorem setRef_array (k : RefKind) (x : RefSt) (l : Lane) : (setRef k x l).array = l.array := by cases k <;> rfl
@[simp] theorem setRef_mesh (k : RefKind) (x : RefSt) (l : Lane) : (setRef k x l).mesh = l.mesh := by cases k <;> rfl
@[simp] theorem setRef_swatch (k : RefKind) (x : RefSt) (l : Lane) : (setRef k x l).swatch = l.swatch := by cases k <;> rfl
@[simp] theorem setRef_out (k : RefKind) (x : RefSt) (l : Lane) : (setRef k x l).out = l.out := by cases k <;> rfl

@[simp] theorem setLease_id (k : LeaseKind) (x : Lease) (l : Lane) : (setLease k x l).id = l.id := by cases k <;> rfl
@[simp] theorem setLease_tc (k : LeaseKind) (x : Lease) (l : Lane) : (setLease k x l).tc = l.tc := by cases k <;> rfl
@[simp] theorem setLease_fresh (k : LeaseKind) (x : Lease) (l : Lane) : (setLease k x l).fresh = l.fresh := by cases k <;> rfl
@[simp] theorem setLease_powered (k : LeaseKind) (x : Lease) (l : Lane) : (setLease k x l).powered = l.powered := by cases k <;> rfl
@[simp] theorem setLease_dieOk (k : LeaseKind) (x : Lease) (l : Lane) : (setLease k x l).dieOk = l.dieOk := by cases k <;> rfl
@[simp] theorem setLease_spi (k : LeaseKind) (x : Lease) (l : Lane) : (setLease k x l).spi = l.spi := by cases k <;> rfl
@[simp] theorem setLease_mode (k : LeaseKind) (x : Lease) (l : Lane) : (setLease k x l).mode = l.mode := by cases k <;> rfl
@[simp] theorem setLease_boot (k : LeaseKind) (x : Lease) (l : Lane) : (setLease k x l).boot = l.boot := by cases k <;> rfl
@[simp] theorem setLease_cfg (k : LeaseKind) (x : Lease) (l : Lane) : (setLease k x l).cfg = l.cfg := by cases k <;> rfl
@[simp] theorem setLease_store (k : LeaseKind) (x : Lease) (l : Lane) : (setLease k x l).store = l.store := by cases k <;> rfl
@[simp] theorem setLease_journal (k : LeaseKind) (x : Lease) (l : Lane) : (setLease k x l).journal = l.journal := by cases k <;> rfl
@[simp] theorem setLease_rtc (k : LeaseKind) (x : Lease) (l : Lane) : (setLease k x l).rtc = l.rtc := by cases k <;> rfl
@[simp] theorem setLease_flashEpochs (k : LeaseKind) (x : Lease) (l : Lane) : (setLease k x l).flashEpochs = l.flashEpochs := by cases k <;> rfl
@[simp] theorem setLease_keys (k : LeaseKind) (x : Lease) (l : Lane) : (setLease k x l).keys = l.keys := by cases k <;> rfl
@[simp] theorem setLease_vault (k : LeaseKind) (x : Lease) (l : Lane) : (setLease k x l).vault = l.vault := by cases k <;> rfl
@[simp] theorem setLease_peers (k : LeaseKind) (x : Lease) (l : Lane) : (setLease k x l).peers = l.peers := by cases k <;> rfl
@[simp] theorem setLease_mgmtPort (k : LeaseKind) (x : Lease) (l : Lane) : (setLease k x l).mgmtPort = l.mgmtPort := by cases k <;> rfl
@[simp] theorem setLease_mgmtUdp (k : LeaseKind) (x : Lease) (l : Lane) : (setLease k x l).mgmtUdp = l.mgmtUdp := by cases k <;> rfl
@[simp] theorem setLease_needle (k : LeaseKind) (x : Lease) (l : Lane) : (setLease k x l).needle = l.needle := by cases k <;> rfl
@[simp] theorem setLease_host (k : LeaseKind) (x : Lease) (l : Lane) : (setLease k x l).host = l.host := by cases k <;> rfl
@[simp] theorem setLease_health (k : LeaseKind) (x : Lease) (l : Lane) : (setLease k x l).health = l.health := by cases k <;> rfl
@[simp] theorem setLease_publish (k : LeaseKind) (x : Lease) (l : Lane) : (setLease k x l).publish = l.publish := by cases k <;> rfl
@[simp] theorem setLease_time (k : LeaseKind) (x : Lease) (l : Lane) : (setLease k x l).time = l.time := by cases k <;> rfl
@[simp] theorem setLease_ports (k : LeaseKind) (x : Lease) (l : Lane) : (setLease k x l).ports = l.ports := by cases k <;> rfl
@[simp] theorem setLease_queues (k : LeaseKind) (x : Lease) (l : Lane) : (setLease k x l).queues = l.queues := by cases k <;> rfl
@[simp] theorem setLease_queueSizes (k : LeaseKind) (x : Lease) (l : Lane) : (setLease k x l).queueSizes = l.queueSizes := by cases k <;> rfl
@[simp] theorem setLease_streams (k : LeaseKind) (x : Lease) (l : Lane) : (setLease k x l).streams = l.streams := by cases k <;> rfl
@[simp] theorem setLease_pe (k : LeaseKind) (x : Lease) (l : Lane) : (setLease k x l).pe = l.pe := by cases k <;> rfl
@[simp] theorem setLease_skein (k : LeaseKind) (x : Lease) (l : Lane) : (setLease k x l).skein = l.skein := by cases k <;> rfl
@[simp] theorem setLease_array (k : LeaseKind) (x : Lease) (l : Lane) : (setLease k x l).array = l.array := by cases k <;> rfl
@[simp] theorem setLease_mesh (k : LeaseKind) (x : Lease) (l : Lane) : (setLease k x l).mesh = l.mesh := by cases k <;> rfl
@[simp] theorem setLease_swatch (k : LeaseKind) (x : Lease) (l : Lane) : (setLease k x l).swatch = l.swatch := by cases k <;> rfl
@[simp] theorem setLease_out (k : LeaseKind) (x : Lease) (l : Lane) : (setLease k x l).out = l.out := by cases k <;> rfl

@[simp] theorem setWitness_id (k : LeaseKind) (x : WitnessSt) (l : Lane) : (setWitness k x l).id = l.id := by cases k <;> rfl
@[simp] theorem setWitness_tc (k : LeaseKind) (x : WitnessSt) (l : Lane) : (setWitness k x l).tc = l.tc := by cases k <;> rfl
@[simp] theorem setWitness_fresh (k : LeaseKind) (x : WitnessSt) (l : Lane) : (setWitness k x l).fresh = l.fresh := by cases k <;> rfl
@[simp] theorem setWitness_powered (k : LeaseKind) (x : WitnessSt) (l : Lane) : (setWitness k x l).powered = l.powered := by cases k <;> rfl
@[simp] theorem setWitness_dieOk (k : LeaseKind) (x : WitnessSt) (l : Lane) : (setWitness k x l).dieOk = l.dieOk := by cases k <;> rfl
@[simp] theorem setWitness_spi (k : LeaseKind) (x : WitnessSt) (l : Lane) : (setWitness k x l).spi = l.spi := by cases k <;> rfl
@[simp] theorem setWitness_mode (k : LeaseKind) (x : WitnessSt) (l : Lane) : (setWitness k x l).mode = l.mode := by cases k <;> rfl
@[simp] theorem setWitness_boot (k : LeaseKind) (x : WitnessSt) (l : Lane) : (setWitness k x l).boot = l.boot := by cases k <;> rfl
@[simp] theorem setWitness_cfg (k : LeaseKind) (x : WitnessSt) (l : Lane) : (setWitness k x l).cfg = l.cfg := by cases k <;> rfl
@[simp] theorem setWitness_store (k : LeaseKind) (x : WitnessSt) (l : Lane) : (setWitness k x l).store = l.store := by cases k <;> rfl
@[simp] theorem setWitness_journal (k : LeaseKind) (x : WitnessSt) (l : Lane) : (setWitness k x l).journal = l.journal := by cases k <;> rfl
@[simp] theorem setWitness_rtc (k : LeaseKind) (x : WitnessSt) (l : Lane) : (setWitness k x l).rtc = l.rtc := by cases k <;> rfl
@[simp] theorem setWitness_flashEpochs (k : LeaseKind) (x : WitnessSt) (l : Lane) : (setWitness k x l).flashEpochs = l.flashEpochs := by cases k <;> rfl
@[simp] theorem setWitness_keys (k : LeaseKind) (x : WitnessSt) (l : Lane) : (setWitness k x l).keys = l.keys := by cases k <;> rfl
@[simp] theorem setWitness_vault (k : LeaseKind) (x : WitnessSt) (l : Lane) : (setWitness k x l).vault = l.vault := by cases k <;> rfl
@[simp] theorem setWitness_peers (k : LeaseKind) (x : WitnessSt) (l : Lane) : (setWitness k x l).peers = l.peers := by cases k <;> rfl
@[simp] theorem setWitness_mgmtPort (k : LeaseKind) (x : WitnessSt) (l : Lane) : (setWitness k x l).mgmtPort = l.mgmtPort := by cases k <;> rfl
@[simp] theorem setWitness_mgmtUdp (k : LeaseKind) (x : WitnessSt) (l : Lane) : (setWitness k x l).mgmtUdp = l.mgmtUdp := by cases k <;> rfl
@[simp] theorem setWitness_needle (k : LeaseKind) (x : WitnessSt) (l : Lane) : (setWitness k x l).needle = l.needle := by cases k <;> rfl
@[simp] theorem setWitness_host (k : LeaseKind) (x : WitnessSt) (l : Lane) : (setWitness k x l).host = l.host := by cases k <;> rfl
@[simp] theorem setWitness_health (k : LeaseKind) (x : WitnessSt) (l : Lane) : (setWitness k x l).health = l.health := by cases k <;> rfl
@[simp] theorem setWitness_publish (k : LeaseKind) (x : WitnessSt) (l : Lane) : (setWitness k x l).publish = l.publish := by cases k <;> rfl
@[simp] theorem setWitness_time (k : LeaseKind) (x : WitnessSt) (l : Lane) : (setWitness k x l).time = l.time := by cases k <;> rfl
@[simp] theorem setWitness_ports (k : LeaseKind) (x : WitnessSt) (l : Lane) : (setWitness k x l).ports = l.ports := by cases k <;> rfl
@[simp] theorem setWitness_queues (k : LeaseKind) (x : WitnessSt) (l : Lane) : (setWitness k x l).queues = l.queues := by cases k <;> rfl
@[simp] theorem setWitness_queueSizes (k : LeaseKind) (x : WitnessSt) (l : Lane) : (setWitness k x l).queueSizes = l.queueSizes := by cases k <;> rfl
@[simp] theorem setWitness_streams (k : LeaseKind) (x : WitnessSt) (l : Lane) : (setWitness k x l).streams = l.streams := by cases k <;> rfl
@[simp] theorem setWitness_pe (k : LeaseKind) (x : WitnessSt) (l : Lane) : (setWitness k x l).pe = l.pe := by cases k <;> rfl
@[simp] theorem setWitness_skein (k : LeaseKind) (x : WitnessSt) (l : Lane) : (setWitness k x l).skein = l.skein := by cases k <;> rfl
@[simp] theorem setWitness_array (k : LeaseKind) (x : WitnessSt) (l : Lane) : (setWitness k x l).array = l.array := by cases k <;> rfl
@[simp] theorem setWitness_mesh (k : LeaseKind) (x : WitnessSt) (l : Lane) : (setWitness k x l).mesh = l.mesh := by cases k <;> rfl
@[simp] theorem setWitness_swatch (k : LeaseKind) (x : WitnessSt) (l : Lane) : (setWitness k x l).swatch = l.swatch := by cases k <;> rfl
@[simp] theorem setWitness_out (k : LeaseKind) (x : WitnessSt) (l : Lane) : (setWitness k x l).out = l.out := by cases k <;> rfl

end Sys2Proof.Machine
end

