-- ==== Sys2Proof/WellFormed.lean ====
section
/-!
DEFINITION. What a command must be to be one that the block can receive: the ranges that its row gives its operands and that
their types do not already hold.
-/
namespace Sys2Proof

/-- A source of requests: a host ring or a management peer (R63, R96). -/
def sourceOk (n : Nat) : Bool := decide (n ≤ 3 || (0x10 ≤ n && n ≤ 0x13))

/-- The path of a reply belongs to the source of the request (R64). -/
def pathOk (src : Nat) : ReplyPath → Bool
  | .ring slot => decide (src ≤ 3 && slot.rspAddr < 2 ^ 64 && slot.rspLen < 2 ^ 32 && slot.sqIndex < 2 ^ 16)
  | .mailbox => decide (src ≤ 3)
  | .bypass => decide (src ≤ 3)
  | .peer seq => decide (0x10 ≤ src && src ≤ 0x13 && 1 ≤ seq && seq < 2 ^ 64)

/-- The widths of a request packet's header fields (R59). -/
def requestOk (r : Request) : Bool :=
  sourceOk r.src && pathOk r.src r.path &&
    decide (r.version.major < 256 && r.version.minor < 256 && r.opcode < 2 ^ 16 && r.group < 2 ^ 8 && r.rsvd < 2 ^ 8 &&
      r.paramLen < 2 ^ 32)

/-- A stream id (R104). -/
def streamOk (n : Nat) : Bool := decide (1 ≤ n && n ≤ 16383)

/-- An IP address as the lane holds it: 16 bytes, IPv4 mapped. -/
def addressOk (a : Bytes) : Bool := decide (a.length = 16)

/-- An Ethernet frame: 48-bit destination, 12-bit VLAN id, 16-bit Ethertype and port. -/
def ethOk (f : EthFrame) : Bool :=
  decide (f.dst < 2 ^ 48 && f.ethertype < 2 ^ 16 && f.ipProto < 256 && f.dstPort < 2 ^ 16) &&
    f.vlan.all (fun v => decide (v < 4096))

/-- A member id: device × 2 + lane (R532). -/
def memberOk (m : Nat) : Bool := decide (m ≤ 3)

/-- Whether a command is well formed. -/
def Instr.wellFormed (i : Instr) : Bool :=
  match i with
  | .glegalRequestArrival _ _ r => requestOk r
  | .needleDispatch _ => true
  | .delayListTick _ => true
  | .abortTakesEffect _ => true
  | .glegalDatagramReceive _ _ addr _ _ => addressOk addr
  | .nop _ r => requestOk r
  | .hello _ _ r => requestOk r
  | .abort _ r => requestOk r
  | .cancel _ r => requestOk r
  | .needleGroupSet _ r => requestOk r
  | .needleStatus _ r => requestOk r
  | .streamAdd _ r => requestOk r
  | .streamModifySet _ r => requestOk r
  | .streamModifyAdopt _ r => requestOk r
  | .streamModifyCfgChunk _ r => requestOk r
  | .streamModifyAcceptCfg _ r => requestOk r
  | .streamModifySuspend _ r => requestOk r
  | .streamModifyResume _ r => requestOk r
  | .streamRemove _ r => requestOk r
  | .streamQuery _ r => requestOk r
  | .streamLearnSet _ r => requestOk r
  | .streamAuthSet _ r => requestOk r
  | .ethernetFrameReceive _ _ f => ethOk f
  | .pmuDataFrameDecode _ _ => true
  | .configurationFrameReceive _ stream _ => streamOk stream
  | .configurationRequestRetry _ stream => streamOk stream
  | .pmuTcpConnectAttempt _ stream => streamOk stream
  | .pmuTcpConnectionOpen _ stream => streamOk stream
  | .pmuTcpConnectionClose _ stream => streamOk stream
  | .svFrameDecode _ _ => true
  | .routedSvDecode _ _ => true
  | .gooseSubscriptionDecode _ _ => true
  | .gooseTalExpiry _ stream => streamOk stream
  | .polledAsduDecode _ _ => true
  | .learnedContextIdleExpiry _ stream => streamOk stream
  | .queueSetRead _ r => requestOk r
  | .queueSetSet _ r => requestOk r
  | .queueFlush _ _ _ r => requestOk r
  | .queueDropRest _ _ _ r => requestOk r
  | .queueWriteUnblock _ _ => true
  | .pauseFrameSend _ _ => true
  | .pauseRepeat _ _ => true
  | .peChannelSet _ r => requestOk r
  | .peBankLoad _ r => requestOk r
  | .peBankSwap _ r => requestOk r
  | .peReset _ r => requestOk r
  | .peQuery _ r => requestOk r
  | .phasorOutput _ stream _ => streamOk stream
  | .alignerValueWrite _ => true
  | .courseInstantReached _ _ => true
  | .deadlineTick _ _ => true
  | .quorumTick _ _ => true
  | .waleHistoryWrite _ _ => true
  | .planeCreate _ r => requestOk r
  | .planeModifySet _ r => requestOk r
  | .planeModifyMapWrite _ r => requestOk r
  | .planeModifyMapSwitch _ r => requestOk r
  | .planeModifyMapClear _ r => requestOk r
  | .planeModifyStop _ r => requestOk r
  | .planeDelete _ r => requestOk r
  | .planeQuery _ r => requestOk r
  | .waleRead _ r => requestOk r
  | .castOn _ _ => true
  | .bundleIssue _ _ _ => true
  | .arrayResultWrite _ _ => true
  | .storeMemoryWrite _ _ => true
  | .networkLatchArrival _ _ => true
  | .bindOff _ _ _ _ => true
  | .roundBoundaryApply _ _ => true
  | .roundRetry _ _ _ => true
  | .tileRepair _ _ => true
  | .spareSelfTestFailure _ _ => true
  | .throttleEntry _ => true
  | .throttleExit _ => true
  | .arrayQuery _ r => requestOk r
  | .patternLoadChunk _ r => requestOk r
  | .patternLoadLibrary _ r => requestOk r
  | .patternLoadRelease _ r => requestOk r
  | .patternVerificationComplete _ _ => true
  | .patternSwap _ r => requestOk r
  | .patternParamSet _ r => requestOk r
  | .patternQuery _ r => requestOk r
  | .resultRead _ r => requestOk r
  | .variantStageChunk _ r => requestOk r
  | .variantStageStage _ r => requestOk r
  | .variantStageDelete _ r => requestOk r
  | .variantSelect _ r => requestOk r
  | .alarmHoldExpiry _ _ => true
  | .alarmRouteSet _ r => requestOk r
  | .goosePubSet _ r => requestOk r
  | .gooseRepeat _ _ => true
  | .sessionOpen _ r => requestOk r
  | .sessionModify _ r => requestOk r
  | .sessionAnnounceCommit _ _ => true
  | .sessionClose _ r => requestOk r
  | .publishQuery _ r => requestOk r
  | .derivedStreamCreate _ r => requestOk r
  | .derivedStreamRemove _ r => requestOk r
  | .sessionDataOff _ _ _ _ => true
  | .sessionDataOn _ _ _ _ => true
  | .sessionSendHeader _ _ _ _ => true
  | .sessionSendCfg1 _ _ _ _ => true
  | .sessionSendCfg2 _ _ _ _ => true
  | .sessionSendCfg3 _ _ _ _ => true
  | .sessionTcpConnect _ _ addr => addressOk addr
  | .egressFrameTransmit _ _ _ => true
  | .triggerSetRead _ r => requestOk r
  | .triggerSetSet _ r => requestOk r
  | .swatchArmArm _ r => requestOk r
  | .swatchArmDisarm _ r => requestOk r
  | .swatchArmRearm _ r => requestOk r
  | .swatchTrigger _ r => requestOk r
  | .swatchKeep _ r => requestOk r
  | .swatchDelete _ r => requestOk r
  | .swatchIndexRead _ r => requestOk r
  | .skewTableSet _ r => requestOk r
  | .markSetSet _ r => requestOk r
  | .markSetClear _ r => requestOk r
  | .markRead _ r => requestOk r
  | .triggerValueEvaluate _ => true
  | .swtPinEdge _ _ _ _ => true
  | .swatchSampleArrival _ => true
  | .swatchRowWaitExpiry _ _ => true
  | .profileRearm _ _ => true
  | .writeBufferHalving _ _ => true
  | .rowRateRestore _ _ => true
  | .timeRefSet _ r => requestOk r
  | .ptpPortSet _ r => requestOk r
  | .servoSet _ r => requestOk r
  | .utcOffsetSet _ r => requestOk r
  | .timeQuery _ r => requestOk r
  | .ptpSyncReceive _ _ => true
  | .ptpFollowUpReceive _ _ => true
  | .pdelayReqReceive _ _ _ _ _ => true
  | .pdelayRespReceive _ _ => true
  | .announceReceive _ _ => true
  | .ptpMasterSend _ _ => true
  | .ppsEdge _ _ => true
  | .todMessageReceive _ _ => true
  | .irigFrameReceive _ _ => true
  | .referenceLoss _ _ => true
  | .revertExpiry _ => true
  | .unlockBoundCross _ => true
  | .ref10mQualify _ => true
  | .ref10mLost _ => true
  | .rtcWrite _ => true
  | .tempTableLearn _ => true
  | .leapOffsetChange _ => true
  | .leapStateDiscard _ => true
  | .laneTimeExchange _ => true
  | .startTimeWaitExpiry _ => true
  | .portSet _ r => requestOk r
  | .classifierSet _ r => requestOk r
  | .wakeSet _ r => requestOk r
  | .pollTableSetRead _ r => requestOk r
  | .pollTableSetWrite _ r => requestOk r
  | .portCounters _ r => requestOk r
  | .pauseTimerExpiry _ _ => true
  | .linkUp _ _ => true
  | .linkDown _ _ => true
  | .wakeFrame _ _ f => ethOk f
  | .pollRequestSend _ _ => true
  | .serialResponseReceive _ _ _ _ => true
  | .responseTimeout _ _ => true
  | .offlineRetryExpiry _ _ _ => true
  | .unsolicitedCharacter _ _ _ => true
  | .meshSet _ _ _ r => requestOk r
  | .meshNodeAdd _ r => requestOk r
  | .meshNodeRemove _ r => requestOk r
  | .meshSlotAssignAssign _ r => requestOk r
  | .meshSlotAssignRelease _ r => requestOk r
  | .meshQuery _ r => requestOk r
  | .meshSlotStart _ _ _ => true
  | .picotFrameReceive _ _ _ _ _ _ => true
  | .meshAckSend _ _ => true
  | .meshReportDelivery _ _ => true
  | .meshBeaconMiss _ _ => true
  | .meshScanChannelExpiry _ _ => true
  | .meshSupervisionTimeout _ _ _ => true
  | .joinResponseWaitExpiry _ _ => true
  | .seenCacheExpiry _ _ => true
  | .plySet _ r => requestOk r
  | .plyPairPair _ r => requestOk r
  | .plyPairUnpair _ r => requestOk r
  | .leaseHandover _ r => requestOk r
  | .plyQuery _ r => requestOk r
  | .witnessSet _ r => requestOk r
  | .renewSend _ _ => true
  | .renewAckTimeout _ _ => true
  | .leaseExpiry _ _ => true
  | .silenceTakeover _ _ => true
  | .claimRepeat _ _ => true
  | .freeLeaseWaitExpiry _ _ => true
  | .plyHelloPeriodic _ => true
  | .witnessPing _ _ => true
  | .witnessUnavailable _ _ => true
  | .offerTimeout _ => true
  | .plyIdleFrame _ _ => true
  | .plyFrameReceive _ _ _ _ => true
  | .plyLinkLoss _ _ => true
  | .plyLinkRetrain _ _ => true
  | .plyHello _ m _ => memberOk m
  | .plyRenew _ m lease _ _ _ _ => memberOk m && decide (lease ≤ 1 || lease = 0xFF)
  | .plyRenewAck _ m lease _ _ _ => memberOk m && decide (lease ≤ 1 || lease = 0xFF)
  | .plyYield _ m lease _ => memberOk m && decide (lease ≤ 1 || lease = 0xFF)
  | .plyRelease _ m lease _ _ _ => memberOk m && decide (lease ≤ 1 || lease = 0xFF)
  | .plyOffer _ m lease _ _ => memberOk m && decide (lease ≤ 1 || lease = 0xFF)
  | .plyAccept _ m lease _ _ => memberOk m && decide (lease ≤ 1 || lease = 0xFF)
  | .plyDigest _ m plane _ _ _ _ _ => memberOk m && decide (plane ≤ 3)
  | .plyHealth _ m _ => memberOk m
  | .plyTime _ m _ _ _ => memberOk m
  | .plyTamper _ m _ _ => memberOk m
  | .plyMirror _ m _ => memberOk m
  | .plyPullReq _ m _ _ => memberOk m
  | .plyPullData _ m _ _ => memberOk m
  | .plyCheck _ m plane _ _ _ _ => memberOk m && decide (plane ≤ 3)
  | .plyWitnessQuery _ _ _ => true
  | .plyWitnessVote _ _ vote => decide (vote ≤ 1)
  | .azwellDatagramReceive _ _ _ => true
  | .azwellRetransmit _ m => memberOk m
  | .azwellLinkLoss _ m => memberOk m
  | .digestUnmatchedExpiry _ => true
  | .healthSend _ => true
  | .timeReasonClear _ => true
  | .keyGenerate _ r => requestOk r
  | .keyWrite _ r => requestOk r
  | .keyDerive _ r => requestOk r
  | .keyDelete _ r => requestOk r
  | .keyInvalidate _ r => requestOk r
  | .keyAttest _ r => requestOk r
  | .roleChallenge _ r => requestOk r
  | .roleRespondTake _ r => requestOk r
  | .roleRespondDrop _ r => requestOk r
  | .roleRespondBind _ r => requestOk r
  | .roleLockoutExpiry _ => true
  | .slvQueryStatus _ r => requestOk r
  | .slvQuerySlots _ r => requestOk r
  | .slvQueryTamperSet _ r => requestOk r
  | .slvQueryTamperAck _ r => requestOk r
  | .selvedgeSelfTest _ _ _ => true
  | .tamperDetect _ _ => true
  | .modeSet _ r => requestOk r
  | .laneResetRestart _ r => requestOk r
  | .laneResetSalvage _ r => requestOk r
  | .configCommit _ r => requestOk r
  | .configRead _ r => requestOk r
  | .poolSplitSet _ r => requestOk r
  | .sysInfo _ r => requestOk r
  | .updateBegin _ r => requestOk r
  | .updateChunk _ r => requestOk r
  | .updateFinish _ r => requestOk r
  | .updateBuildComplete _ _ => true
  | .updateConfirmConfirm _ r => requestOk r
  | .updateConfirmReject _ r => requestOk r
  | .slotSelect _ r => requestOk r
  | .startSequence _ _ => true
  | .startComplete _ _ _ _ _ => true
  | .startFailureTimeout _ => true
  | .imageConfirmation _ => true
  | .confirmWindowClose _ => true
  | .watchdogExpiry _ => true
  | .rstnLow _ _ _ => true
  | .wakePin _ _ => true
  | .rtcWakeAlarm _ => true
  | .vinPowerUp _ => true
  | .vinWarning _ _ => true
  | .rideThrough _ => true
  | .vinWarningArm _ => true
  | .earlyWarningRestart _ => true
  | .vinOvervoltage _ => true
  | .overvoltageRestart _ => true
  | .junctionOverheat _ _ => true
  | .junctionOverheatClear _ _ => true
  | .gaugeSet _ r => requestOk r
  | .gaugeSnapshot _ r => requestOk r
  | .faultLogRead _ r => requestOk r
  | .drillRun _ r => requestOk r
  | .drillVerdict _ _ => true
  | .healthQuery _ r => requestOk r
  | .gaugeIntervalSample _ _ _ => true
  | .errorRetry _ _ _ _ => true
  | .scrubErrorFound _ _ _ _ => true
  | .sysResetRestart _ _ => true
  | .sysResetSalvage _ _ => true
  | .glgRingEnable _ _ _ => true
  | .glgSqDoorbell _ _ _ _ => true
  | .glgCqHeadWrite _ _ _ => true
  | .hfrTxDoorbell _ _ _ => true
  | .hfrRxTailWrite _ _ _ => true
  | .hfrRxDropRead _ => true
  | .intHoldoffExpiry _ _ => true
  | .tnsLatch _ _ => true
  | .gauSelSnapshot _ _ => true
  | .gauSelSnapshotClear _ _ => true
  | .plyWitnessWrite _ _ => true
  | .mbxDoorbell _ _ => true
  | .mbxDoorbellBypass _ _ => true
  | .registerWrite _ _ _ => true
  | .hostAccessWhileDormant _ _ => true
  | .functionLevelReset _ => true
  | .pcieHotReset _ => true
  | .hostPerstn _ => true
  | .hubHeartbeatSend _ => true
  | .hubLost _ => true
  | .hubReturn _ => true
  | .vinSupplyLoss _ => true
  | .keepAliveSupplyLoss _ => true
  | .laneDieFailure _ => true
  | .tamperInputNormal _ _ => true
  | .observedPollRequest _ _ _ => true
  | .sessionTcpDisconnect _ _ => true

end Sys2Proof
end

