-- ==== Sys2Proof/Tests/Slice0.lean ====
section
/-!
SUPPORT. Tests: ill-formed commands that WellFormed refuses, the worked examples of the spec, single steps, and for every statement
with hypotheses a theorem `witness_<statement>` whose every conjunct shows a concrete state and operands that meet one clause's
hypotheses together.
-/
set_option linter.all false
set_option Elab.async false

namespace Sys2Proof.Tests
open Sys2Proof Sys2Proof.Machine

/-! ### Small states and operands -/

def svc : Lane := { State.reset.laneA with
    tc := 10 ^ 12, mode := { State.reset.laneA.mode with mode := .service }, needle.versions := [(0, ⟨3, 2⟩)] }
def held : Lane := { svc with ply.laneLease.held := true }
def asleep : Lane := { svc with mode.mode := .dormant }
def at_ (l : Lane) : State := { State.reset with laneA := l }
def w0 : Stamp := ⟨.a, 0⟩
def rqs (op : Nat) (b : Bytes) : Request :=
  { src := 0, version := ⟨3, 2⟩, opcode := op, flags := 0, group := 0, rsvd := 0, tag := 7, paramLen := b.length
    params := b, path := .bypass }
def rq (op key : Nat) (b : Bytes) : Request := rqs op (le 4 key ++ b)
def rq0 : Request := rq 0 0 (zeros 4)
def te (op : Nat) (ph : Phase) : TaskEntry :=
  { req := rqs op (zeros 4), adm := 0, phase := ph, joined := 1, lateAbort := false, transientSeen := false }
def ab : PendingAbort := { req := { rqs 0x0002 (zeros 8) with tag := 9 }, targetTag := 7, targetSrc := 0 }
def qi (p : QPayload) : QItem := ⟨1, false, p⟩
def q1 (p : QPayload) : Queue := { Queue.empty with items := [qi p] }
def ethUp : EthRun := { EthRun.reset 256 with up := true }
def fr (c : Content) : EthFrame := {
    length := 64, codeOk := true, fcsOk := true, dst := 0, vlan := none, ethertype := 0, ipProto := 0, dstPort := 0,
    prpLan := none, content := c, bytes := zeros 60 }
def hmacKey : KeySlot := { KeySlot.dflt with state := .valid, type := 3, usage := 0xFF, material := zeros 32 }
def dgHead (seq : Nat) : Bytes := le 2 0x474C ++ [1, 1] ++ le 8 seq ++ zeros 16
def dg (seq : Nat) : Bytes := dgHead seq ++ (authTag hmacKey seq 1 (dgHead seq)).getD (zeros 16)
def pr (hi : Nat) (seen : List Nat) (rs : List (Nat × Bytes)) : Peer :=
  { addr := [], keySlot := 1, highest := hi, seen := seen, replies := rs }
def peered (p : Peer) : Lane := { svc with peers := [(16, p)], keys.slots := [(1, hmacKey)] }
def ser (s : SerialRun) : Lane := { held with
    cfg.serial := [(0, { SerialCfg.dflt with framing := 1 })],
    cfg.poll := [(0, { linkAddr := 1, enable := true, class2Ms := 100 })], ports.serial := [(0, s)] }
def pq : PollRequest := { entry := 0, fc := 9, fcb := false, isRepeat := false, sentAt := 0 }
def serOut : Lane := ser { SerialRun.reset with outstanding := some pq }
def gp : GoosePub := {
    enable := true, port := 0, simulation := false, dstMac := [], appid := 0, vlanTci := 0, tMinMs := 4, tMaxMs := 1000,
    confRev := 1, gocbref := [], datset := [], goid := [], members := [] }
def gr : GooseRun :=
  { stNum := 1, sqNum := 0, framesSent := 0, intervalMs := 4, nextAt := 0, eventTime := 0, mirrored := none }
def sc : SessionCfg := {
    tcp := true, plane := 0, port := 0, cmdAccept := false, autoStart := false, gapPolicy := 0, outDiv := 1,
    idcode := 0, timeBase := 16777215, srcAddr := [], dstAddr := [], srcPort := 4712, dstPort := 4713, vlan := 0,
    polar := false, pmus := [], channels := [], header := [] }
def sr : SessionRun := .opened false
def ses (c : SessionCfg) (x : SessionRun) : Lane := { held with cfg.sessions := [(0, c)], publish.sessions := [(0, x)] }
def witnessed : Lane := { svc with cfg.witness.laneWitness := 2, ply.laneWit.available := true }
def open_ : Lane := { svc with cfg.ply.available := true }
def silent (l : Lane) : Lane := { l with ply.laneLease.silence := some 0 }
def hb : HelloBody := {
    minVer := ⟨1, 0⟩, maxVer := ⟨1, 4⟩, firmware := 0, arithGen := 0, mode := 1, state := 2, reasons := 0,
    laneEpoch := 0, laneHolder := 0xFF, deviceEpoch := 0, deviceHolder := 0xFF, configGen := 0, keyEpoch := 0,
    policy := 0 }
def pairCfg : PairCfg := {
    deviceIndex := 0, port := 11, available := true, keySlot := 1, preferredDevice := 0, udpPort := 47849,
    periodUs := 20000, guardUs := 2000, partnerA := zeros 16, partnerB := zeros 16 }
def paired : Lane := { svc with cfg.pair := some pairCfg, keys.slots := [(1, hmacKey)], ply.deviceLease.held := true }
def ad (seq rseq : Nat) : AzDatagram :=
  { valid := true, keySlot := 1, sender := 2, seq := seq, rseq := rseq, ack := 0, msgs := [] }
def sta (k : Nat) : Lane := { svc with mode.mode := .start, mode.start.step := k }
def built1 : BuiltImage := { version := 2, length := 1, configFormat := 1, arithGen := 1 }
def stg : Staged := { totalLen := 0, fromHash := [], toHash := [], data := [] }
def bld (restart : Bool) : Lane := { svc with
    mode.build := some { req := rq0, confirmS := 0, hostConfirm := false, restart := restart }, mode.staged := some
      stg }
def pp : PmuPart := {
    srcAddr := [], dataSrcPort := 0, dataDstPort := 0, pmuPort := 4712, idcode := 1, cfgSource := 0, cfgKind := 2,
    cfgRetryMs := 100, vlan := 0 }
def stc (p : StreamPart) : StreamCfg := {
    transport := 0, portMask := 1, rate := 50, freq := 50, acceptTest := false, rejectUnsync := false,
    acceptErr01 := false, cmdEnable := true, tqLimit := 0, unlockLimit := 0, historyMs := 0, part := p }
def run0 : StreamRun := .new .active 0 0
def strm (c : StreamCfg) (x : StreamRun) : Lane := { svc with cfg.streams := [(0, c)], streams.run := [(0, x)] }
def tcpC : StreamCfg := { stc (.pmu pp) with transport := 1 }
def lp : LegacyPart := {
    serialPort := 0, linkAddr := 1, commonAddr := 1, arrivalDelayUs := 0, dstMac := 0, appid := 0, confRev := 1,
    gocbref := [], points := [] }
def ing (c : Content) : QPayload := .ingest 0 0 0 0 (fr c)
def withItem (l : Lane) (n : Nat) (p : QPayload) : Lane := { l with queues := [(n, q1 p)] }
def svf : SvFrame := { appid := 0, simulation := false, noAsdu := 0, lengthsOk := true, asdus := [], auth := none }
def gm : GooseMsg := {
    appid := 0, gocbref := [], stNum := 1, sqNum := 0, talMs := 1000, confRev := 1, tSec := 0, tFrac := 0,
    test := false, lengthsOk := true, allData := [], auth := none }
def arv : Arrival := { stream := 0, tag := 0, arrived := 0, values := [] }
def plc : PlaneCfg := {
    running := true, rate := 50, partition_ := 0, closeOnComplete := true, width := 1, waitUs := 0, quorumCount := 0,
    matchTol := 0, quorumWaitUs := 0, anchorS := 0, map := [] }
def crs : Course := {
    number := 0, instant := 0, rules := plc, mapGen := 0, values := [], arrived := [], required := [],
    quorumTick := false, deadlineTick := false, cause := none }
def plane0 (cs : List Course) : Lane :=
  { svc with cfg.planes := [(0, plc)], skein.planes := [(0, { PlaneRun.new with courses := cs })] }
def svp : SvPart := {
    dstMac := 0, appid := 0, profile := 0, channels := 1, minSmpSynch := 0, confRev := 0, svid := [], srcAddr := [],
    dstUdpPort := 0, vlan := 0 }
def bank0 : PeBank := {
    library := 0, minPhase := false, taps := 3, delayTolUs := 0, groupDelay := 1, settleLen := 3, droop := [],
    coef := [0, 0, 0] }
def pec : PeCfg := {
    enable := true, kind := 0, settleGated := false, causal := false, scale := 0, muDelayNs := 0, outRate := 50,
    bankSlot := 0 }
def per (settling : Bool) (c : Option Nat) : PeRun :=
  {
    activeSlot := 0, samples := [], resetMarked := false, resetAt := some 0, settling := settling, last := none,
    prior := none, cursor := c, fadeDone := 0, delayStep := none, resets := 0, substituted := 0, outSettling := 0,
    outInvalid := 0, fades := 0, delaySteps := 0 }
def pe0 (x : PeRun) : Lane := { strm { stc (.sv svp) with rate := 4000 } run0 with
    cfg.pe := [(0, pec)], cfg.banks := [(0, bank0)], pe.channels := [(0, x)] }
def so : StartOutcome := {
    imageA := true, imageB := true, dram := true, dramRetry := true, tests := true, testsRetry := true,
    badRecords := [] }
def img0 : Bytes := zeros 36 ++ le 4 (2 ^ 17 - 1) ++ zeros 100
def pat0 : Pattern := { image := img0, library := none, hash := [], written := [], params := [] }
def cc : ClosedCourse := {
    plane := 0, number := 0, instant := 0, status := 0, width := 0, rate := 50, mapGen := 0, closeTag := 0,
    positions := [] }
def part0 : Part := { Part.empty with rect := some (0, 0, 1, 1), bank0 := some pat0 }
def arr (p : Part) : Lane := { svc with array.parts := [(0, p)] }
def rnd : Round := { course := cc, attempt := 0, alarms := [], violation := none }
def busy (ph : PartPhase) : Part := { part0 with phase := ph, row := 1, round := some rnd }
def ptp0 (x : PtpPortSt) : Lane :=
  { svc with cfg.ptpPorts := [(0, { PtpPortCfg.dflt with enable := true })], time.ports := [(0, x)] }
def pev (two : Bool) : PtpEvent :=
  { port := 0, domain := 0, version := 2, seq := 1, twoStep := two, originNs := 0, correction := 0, rxStamp := 0 }
def pda (fu two : Bool) : PdelayAnswer := {
    port := 0, domain := 0, version := 2, seq := 1, followUp := fu, twoStep := two, originNs := 0, correction := 0,
    rxStamp := 0 }
def ann : Announce := {
    port := 0, domain := 0, version := 2, priority1 := 128, clockClass := 248, clockAccuracy := 254, variance := 0,
    priority2 := 128, identity := 1, steps := 0, utcOffset := 37, utcValid := true, leap59 := false, leap61 := false,
    timeTraceable := false, intervalS := 1 }
def locked : Lane := { svc with time.state := .locked }
def hold : Lane := { svc with time.state := .holdover, time.e0 := none }
def irg : IrigFrame := {
    am := false, mark := 0, year := some 2000, day := 1, second := 0, leapPending := false, deletion := false,
    quality := 0 }
def ppsRef : RefSt := { RefSt.reset with qualified := true, lastValid := some 0 }
def cpt : Bytes := [0xA5, 1] ++ zeros 7 ++ [1, 0, 0xA5]
def mesh0 (c : MeshCfg) (r : MeshRun) : Lane := { held with cfg.mesh := [(0, c)], mesh := [(0, r)] }
def rootC : MeshCfg := { MeshCfg.dflt with role := 1, map := 1 }
def memC : MeshCfg := { MeshCfg.dflt with role := 2, map := 1 }
def mrun (s : RadioState) : MeshRun := { MeshRun.reset with state := s, map := 1 }
def memTimed : MemberSt := { MemberSt.new 0 with timer := some (0, 0), addr := some 5, parent := some 0 }
def pdu (pan : Nat) : Bytes := le 2 0xA841 ++ [0] ++ le 2 pan ++ le 2 0 ++ le 2 5 ++ [0x12] ++ zeros 2
def ndr : NodeRun := { joined := true, lost := false, lastHeard := 0, version := 1, depth := 1, parent := 0 }
def trg : TriggerCfg := {
    enable := true, type := 6, profile := 0, source := 0, channel := 0, object := 0, component := 0, falling := false,
    hold := 0, hi := 0, lo := 0, hyst := 0, span := 0, qualifier := 0, mask := 0, qualWindowUs := 0 }
def pfc : ProfileCfg := {
    single := false, phasor := false, extend := false, recycle := false, rate := 4000, avgN := 1, preMs := 1,
    postMs := 1, maxMs := 2, rowWaitMs := 1, measMs := 1, channels := [(0, 0)], meas := [], armed := true }
def prof (r : ProfileRun) : Lane := { svc with cfg.profiles := [(0, pfc)], swatch.profiles := [(0, r)] }
def armedR : ProfileRun := { ProfileRun.zero with state := .armed }
def supplied : Lane := { svc with mode.supply := { armed := true, warnAt := none, heldAt := none } }
def drl (tests : Nat) : DrillRun :=
  { req := rq0, tests := tests, scenario := 0, exitOnDone := false, repeats := 1, portMask := 0 }
def drilling : Lane := { svc with mode.mode := .drill, health.drill := some (drl 1) }
def verd (p : Nat) : DrillVerdict := { passed := p, firstBad := 0, expected := 0, actual := 0, violation := false }
def gau (src : Nat) : Lane := { svc with cfg.gauges := [(0, { GaugeCfg.dflt with source := src })] }
/-- n bytes of zeros with little-endian fields (offset, length, value) written over them. -/
def wr (n : Nat) (ps : List (Nat × Nat × Nat)) : Bytes := ps.foldl
  (fun b p => b.take p.1 ++ le p.2.1 p.2.2 ++ b.drop (p.1 + p.2.1)) (zeros n)
def cfg2 : Bytes := wr 54 [(0, 1, 0xAA), (5, 1, 1), (17, 1, 1), (19, 1, 1), (51, 1, 25)]
def pmuB : Bytes := wr 64 [(0, 1, 1), (4, 4, 1), (8, 2, 50), (10, 1, 50), (12, 1, 1), (16, 4, 100), (50, 2, 4712),
    (52, 2, 4712), (54, 2, 1), (57, 1, 2), (58, 2, 100)]
def svC : StreamCfg := { stc (.sv svp) with rate := 4000 }
def svS : Lane := { strm svC run0 with cfg.banks := [(0, bank0), (1, bank0)] }
def peS : Lane := { pe0 (per false none) with cfg.banks := [(0, bank0), (1, bank0)] }
def swp : PeSwap := { mask := 1, slot := 1, outputs := 1, stepOk := true, req := none }
def plB (p : Nat) : Bytes := wr 32 [(0, 2, 50), (2, 1, p), (4, 4, 8), (8, 4, 20000), (16, 4, 20000)]
def plS : Lane :=
  { svc with cfg.planes := [(0, { plc with running := false, width := 8, partition_ := 0xFF, waitUs := 20000 })] }
def suspS : Lane := strm (stc (.pmu pp)) { run0 with state := .suspended }
def pcfg : PmuConfig := { version := 1, kind := 2, timeBase := 1, blocks := [], dataRate := 25, raw := [] }
def imgV : Bytes := wr 176 [(36, 4, 2 ^ 17 - 1), (62, 2, 2), (64, 4, 144), (144, 1, 5), (148, 1, 0), (150, 2, 1),
    (160, 1, 5), (166, 2, 1), (164, 1, 1)]
def patP : Pattern := { pat0 with params := zeros 8 }
def partP : Part := { part0 with bank0 := some patP, bank1 := some patP }
def vimg : Bytes := wr 192 [(21, 1, 0), (22, 2, 1)]
def partV : Part := { part0 with variants := [(0, vimg)] }
def name16 : List (Nat × Nat × Nat) := [(0, 8, 0x4141414141414141), (8, 8, 0x4141414141414141)]
def pmuChans : List (Nat × Nat × Nat) := name16.map (fun p => (p.1 + 104, p.2))
def sessB : Bytes := wr 120 ([(0, 1, 1), (4, 2, 1), (6, 2, 1), (8, 4, 1), (44, 2, 4712), (50, 1, 1), (52, 2, 1),
      (80, 2, 1), (82, 1, 50), (97, 1, 4)] ++ pmuChans)
def sesP : Lane := { plS with cfg.sessions := [(0, { sc with srcAddr := zeros 16 })], publish.sessions := [(0, sr)] }
def vim1 : Bytes := wr 192 [(21, 1, 1), (22, 2, 1)]
def armB : Bytes := wr 40
  [(32, 2, 1), (4, 2, 4000), (6, 1, 1), (7, 1, 1), (8, 4, 1), (12, 4, 1), (16, 4, 2), (20, 2, 100), (24, 4, 1)]
def cmdT : TriggerCfg := { trg with type := 8, profile := 0xFF, qualifier := 0xFFFF }
def trgS (t : TriggerCfg) : Lane := { prof armedR with cfg.triggers := [(0, t)] }
def rec0 (opened : Bool) : Record := {
    id := 1, profile := 0, t := 0, triggerRow := 0, firstRow := 0, lastRow := 0, cause := [], later := [],
    segments := [], flags := 0, halvings := 0, channelCount := 0, rowBytes := 0, rate := 4000, avgN := 1, rows := 0,
    trigIndex := 0, measurements := [], endAt := 0, keepAtEnd := false, opened := opened }
def recS (opened : Bool) : Lane := { svc with swatch.records := [(1, rec0 opened)] }
def wr0 : WaleRecord := { at_ := 0, tag := 0, arrived := 0, mask := 0, values := [] }
def mk0 : Mark := { at_ := 0, tag := 0, valid := true }
def svS1 : Lane := { svc with cfg.streams := [(1, svC)], streams.run := [(1, run0)] }
def meshB (map : Nat) : Bytes := wr 56 [(0, 1, 1), (2, 2, 100), (4, 1, 8), (5, 1, 5), (6, 1, 20), (8, 8, map),
    (26, 2, 100), (28, 1, 8), (29, 1, 2), (40, 2, 10000), (46, 1, 1)]
def meshN : Lane := { mesh0 rootC (mrun .root) with cfg.nodes := [(5, { eui64 := 1, shortAddr := 5, router := true })] }
def grt : Grant := { radio := 0, node := 5, slot := 1, beacon := false, periodExp := 0, phase := 0 }
def ctc : Contact := { lastSeen := svc.tc, departed := false, state := 2, reasons := 0, hello := none, health := [] }
def offerer (v : Version) : Lane :=
  { held with ply.contacts := [(1, ctc)], ply.version := some v, ply.link0.lastValid := svc.tc }
def owner : Lane := { svc with keys.privilege := true, keys.slots := [(1, hmacKey)] }
def pubG : Bytes := [4] ++ be 32 curveP256.gx ++ be 32 curveP256.gy
def rspB (op : Nat) : Bytes := wr 200 [(0, 1, op), (1, 1, 1)] |>.take 4 |>.append (pubG ++ zeros 131)
def testing : Lane := { svc with mode.active := .a, boot.slotA.state := .testing, mode.window := some (10 ^ 13) }
def twoSlots : Lane := { svc with mode.active := .a, boot.slotB.state := .valid }

/-! ### Ill-formed commands are refused, one for each check of WellFormed -/

theorem test_wellformed_request : (Instr.nop w0 rq0).wellFormed = true := by decide +kernel
theorem test_illformed_source : (Instr.nop w0 { rq0 with src := 4 }).wellFormed = false := by decide +kernel
theorem test_illformed_path : (Instr.nop w0 { rq0 with path := .peer 1 }).wellFormed = false := by decide +kernel
theorem test_illformed_width : (Instr.nop w0 { rq0 with opcode := 0x10000 }).wellFormed = false := by decide +kernel
theorem test_illformed_stream : (Instr.gooseTalExpiry w0 0).wellFormed = false := by decide
theorem test_illformed_stream_top : (Instr.gooseTalExpiry w0 16384).wellFormed = false := by decide
theorem test_illformed_address : (Instr.glegalDatagramReceive w0 false [] false []).wellFormed = false := by decide
theorem test_illformed_frame : (Instr.ethernetFrameReceive w0 0 { fr .other with vlan := some 4096 }).wellFormed = false := by decide
theorem test_illformed_member : (Instr.azwellLinkLoss w0 4).wellFormed = false := by decide
theorem test_illformed_lease : (Instr.plyYield w0 0 2 0).wellFormed = false := by decide
theorem test_illformed_plane : (Instr.plyDigest w0 0 4 0 0 0 [] none).wellFormed = false := by decide
theorem test_illformed_vote : (Instr.plyWitnessVote w0 0 2).wellFormed = false := by decide

/-! ### Decode: the table gives no row a bit -/

theorem test_no_word_spells_a_command : decodeTableWord 32 0x00120034 = none := by decide
theorem test_fetch_word_changes_nothing : (State.reset.withFetchWord 32 0).pending = [] := by decide

/-! ### Worked examples of the spec -/

/-- 00_scope.md, comparison across the wrap. -/
theorem test_tag_across_the_wrap : tagDiff 0x0000000100#40 0xFFFFFFFF00#40 = 512 := by decide

/-- 02, an abort racing a pattern swap: flow kind 3, id 1 is flow 194. -/
theorem test_flow_number : flowOf (rq 0x0501 (3 * 2 ^ 28 + 1) []) = 194 := by decide +kernel

/-- 07, encoding one bundle: the example's 24 bytes. -/
def bundleBytes : Bytes :=
  [0x00, 0x40, 0x29, 0x08, 0x05, 0x08, 0x40, 0x00, 0x0C, 0x80, 0x01, 0x04, 0x82, 0x00, 0x00, 0x00, 0x50, 0x8C, 0x30, 0x29, 0x00,
   0x00, 0x00, 0xE2]
def exampleBundle : Bundle := decodeBundle (BitVec.ofNat 192 (field bundleBytes 0 24))
theorem test_bundle_vector : (exampleBundle.v.op, exampleBundle.v.vd, exampleBundle.v.va, exampleBundle.v.vb, exampleBundle.v.vc) =
    (0x08#8, 10#6, 4#6, 5#6, 10#6) := by decide +kernel
theorem test_bundle_scalar : (exampleBundle.s.op, exampleBundle.s.sd, exampleBundle.s.low) = (0x20#6, 3#5, 64#8) := by decide +kernel
theorem test_bundle_load : (exampleBundle.l.op, exampleBundle.l.dst, exampleBundle.l.base, exampleBundle.l.offset) =
    (4#3, 4#6, 1#5, 1#10) := by decide +kernel
theorem test_bundle_network : (encodeN exampleBundle.n0, encodeN exampleBundle.n1, nDir exampleBundle.n1) =
    (0x8C50#16, 0x2930#16, Dir.e) := by decide +kernel
theorem test_bundle_encodes : encodeBundle exampleBundle = BitVec.ofNat 192 (field bundleBytes 0 24) := by decide +kernel

/-- 03, decoding one data frame: 64 bytes, SOC 1,700,000,000, F 20,000, STAT 0x20C0. -/
def exampleBlock : PmuBlock := { format := 11, phasors := [0, 0, 0, 0], analogs := [1, 1], digitals := 1, fnom := 1, cfgcnt := 1 }
def exampleConfig : PmuConfig := { version := 2, kind := 2, timeBase := 1000000, blocks := [exampleBlock], dataRate := 50, raw := [] }
def exampleFrame (stat : Nat) : Bytes :=
  [0xAA, 0x02] ++ be 2 64 ++ be 2 2311 ++ be 4 1700000000 ++ be 4 20000 ++ be 2 stat ++ zeros 46 ++ zeros 2
def exampleLane : Lane :=
  { strm { stc (.pmu pp) with tqLimit := 3, unlockLimit := 1 } run0 with time.time := 1700000037 * 2 ^ 64, time.utcOffset := 37 }
def exampleArrival (stat : Nat) : Option Arrival :=
  (decodeData 0 0 { stc (.pmu pp) with tqLimit := 3, unlockLimit := 1 } exampleConfig (exampleFrame stat) false 0
    exampleLane).streams.arrivals.getLast?
theorem test_frame_length : dataFrameLen exampleConfig = 64 := by decide
theorem test_frame_tag : (exampleArrival 0x20C0).map (·.tag) = some 0xF125051EB8#40 := by decide +kernel
theorem test_frame_channels : (exampleArrival 0x20C0).map (fun a => a.values.map (·.channel)) =
    some [0, 1, 2, 3, 64, 72, 80, 81, 112, 120] := by decide +kernel
theorem test_frame_suspect : (exampleArrival 0x20C0).map (fun a => a.values.all (fun v => v.grade == .suspect && !v.test)) =
    some true := by decide +kernel
theorem test_frame_invalid : (exampleArrival 0x20D0).map (fun a => a.values.all (fun v => v.grade == .invalid)) = some true := by
  decide +kernel

/-- 04, a flush while a frame is arriving: D = 2,098,240 for a 25G ingest queue, and an item of 1,400 bytes has 23 entries. -/
theorem test_queue_depth : queueDepth 1024 128 = 2098240 := by decide
theorem test_frame_entries : frameEntries 1400 = 23 ∧ frameEntries 1518 = 25 := by decide
def exampleQueue : Queue :=
  { Queue.empty with items := List.replicate 3 ⟨23, false, .request rq0⟩, read := 5, partialLen := 15 }
theorem test_flush : ((flushQueue exampleQueue).items.length, (flushQueue exampleQueue).read, (flushQueue exampleQueue).partialLen,
    (flushQueue exampleQueue).dropping, (flushQueue exampleQueue).droppedFlush) = (1, 5, 0, true, 3) := by decide

/-- 13, holdover on the defaults: E and the time-quality codes. -/
def heldOver (tenths : Nat) : Lane :=
  { svc with tc := 10 ^ 12 + secTc tenths / 10, time.state := .holdover, time.e0 := some 120, time.e0At := 10 ^ 12
             time.holdoverAt := some (10 ^ 12 + secTc 3) }
theorem test_holdover_codes : [30, 130, 441, 1030, 4939, 4940, 10030].map
      (fun n => (fracQuality (heldOver n), statQuality (heldOver n), statUnlockedTime (heldOver n))) =
    [(4, 2, 0), (4, 2, 1), (5, 3, 1), (5, 3, 2), (5, 3, 2), (6, 4, 2), (6, 4, 3)] := by decide +kernel
theorem test_holdover_error : [30, 130, 441, 4939, 4940].map (fun n => estErrorNs (heldOver n)) = [180, 380, 1002, 9999, 10001] := by
  decide +kernel

/-- 14, a corrupted response and its repeat: the two requests to station 7 on the line. -/
theorem test_request_class2 : requestFrame { SerialCfg.dflt with framing := 1 } 7 { pq with fc := 11, fcb := true } =
    [0x10, 0x7B, 0x07, 0x82, 0x16] := by decide +kernel
theorem test_request_class1 : requestFrame { SerialCfg.dflt with framing := 1 } 7 { pq with fc := 10, fcb := false } =
    [0x10, 0x5A, 0x07, 0x61, 0x16] := by decide +kernel

/-! ### Single steps -/

/-- R58, R60: a NOP of version 3.2 answers OK with its tag. -/
theorem test_nop_step : (match step { at_ svc with pending := [.nop w0 rq0] } with
      | .next t => t.laneA.out
      | _ => []) = [.reply 0 ([3, 2, 0, 0, 0, 0, 0, 0, 7, 0, 0, 0, 0, 0, 0, 0])] := by decide +kernel

/-- R658: overvoltage stops both lanes at their own counts. -/
theorem test_overvoltage_step : (match step { State.reset with pending := [.vinOvervoltage ⟨5, 9⟩] } with
      | .next t => (t.overvoltage, t.laneA.powered, t.laneB.powered, t.laneA.tc, t.laneB.tc)
      | _ => (false, true, true, 0, 0)) = (true, false, false, 5, 9) := by decide +kernel

/-! ### Witnesses of the hypotheses -/

theorem ok_at (l : Lane) (h : l.Ok) (hi : l.id = .a) : (at_ l).Ok := ⟨hi, rfl, h, rfl, tilesOk_nil, entriesOk_nil, logOk_nil⟩

theorem svc_ok : svc.Ok := ⟨rfl, tilesOk_nil, entriesOk_nil, logOk_nil⟩

theorem one_entry (x : TaskEntry) : entriesOk [x] := ⟨Nat.le_of_ble_eq_true rfl, List.pairwise_singleton _ _⟩

theorem witness_StepRunsTheFrontCommand : ∃ (c : Instr) (q : List Instr) (s : State), s.pending = c :: q :=
  ⟨.throttleExit w0, [], { State.reset with pending := [.throttleExit w0] }, rfl⟩

theorem witness_EmptyQueueIdles : ∃ s : State, s.pending = [] := ⟨at_ svc, rfl⟩

theorem witness_OneLanesCommandLeavesTheOther :
    ∃ (c : Instr) (e : Stamp) (s t : State), stampOf c = some e ∧ exec c s = .next t :=
  ⟨.throttleEntry w0, w0, at_ svc, _, rfl, rfl⟩

theorem witness_TimeMovesByTheStamp :
    (∃ (c : Instr) (e : Stamp) (s t : State), s.Ok ∧ stampOf c = some e ∧ exec c s = .next t) ∧
    (∃ (c : Instr) (e : PackageStamp) (s t : State), s.Ok ∧ packageStampOf c = some e ∧ exec c s = .next t) :=
  ⟨⟨.throttleEntry ⟨.a, 7⟩, ⟨.a, 7⟩, at_ svc, _, ok_at svc svc_ok rfl, rfl, rfl⟩,
   ⟨.hostPerstn ⟨7, 9⟩, ⟨7, 9⟩, at_ svc, _, ok_at svc svc_ok rfl, rfl, rfl⟩⟩

theorem witness_StepKeepsTheInvariant : ∃ s t : State, s.Ok ∧ step s = .next t :=
  ⟨{ at_ svc with pending := [.throttleEntry w0] }, _, ok_at svc svc_ok rfl, rfl⟩

theorem witness_RefusedRequestsOnlyReply :
    (∃ (c : Instr) (row : RequestRow) (s : State) (l : Lane), requestRow c = some row ∧ l = nowOf row.stamp s ∧
      names row.opcode row.op row.request = true ∧ serviceStatus row.check l row.request ≠ .ok) ∧
    (∃ (e : Stamp) (read written : Nat) (r : Request) (s : State) (l : Lane), l = progress (flowId r) read written (nowOf e s) ∧
      names 0x0906 none r = true ∧ serviceStatus queueIdCheck l r ≠ .ok) ∧
    (∃ (e : Stamp) (read written : Nat) (r : Request) (s : State) (l : Lane), l = progress (flowId r) read written (nowOf e s) ∧
      names 0x0907 none r = true ∧ serviceStatus queueIdCheck l r ≠ .ok) :=
  ⟨⟨.leaseHandover w0 (rq 0x0B02 0 []), _, at_ svc, _, rfl, rfl, by decide +kernel, by decide +kernel⟩,
   ⟨w0, 0, 0, rq 0x0906 0 [], at_ { svc with mode.mode := .salvage }, _, rfl, by decide +kernel, by decide +kernel⟩,
   ⟨w0, 0, 0, rq 0x0907 0 [], at_ { svc with mode.mode := .salvage }, _, rfl, by decide +kernel, by decide +kernel⟩⟩

theorem witness_OtherRequestsOnlyPassTime : ∃ (c : Instr) (row : RequestRow), requestRow c = some row ∧
    names row.opcode row.op row.request = false :=
  ⟨.nop w0 (rq 0x0100 0 []), _, rfl, by decide +kernel⟩

theorem witness_TileReadsWhatWasWritten :
    (∃ m : Table Word, Memory.wf m = true ∧ m ≠ []) ∧
    (∃ m n : Table Word, Memory.wf m = true ∧ Memory.wf n = true ∧ (∀ i, tgetD m i 0 = tgetD n i 0)) :=
  ⟨⟨[(65535, 1)], by decide, by decide⟩, ⟨[(3, 1)], [(3, 1)], by decide, by decide, fun _ => rfl⟩⟩

theorem witness_FaultLogKeepsTheNewest : ∃ l : Lane, l.health.log.length ≤ 65536 := ⟨svc, by decide⟩

theorem witness_TagComparison : (∃ a b : FineTag, tagDiff a b = -(2 ^ 39)) ∧ (∃ a b : FineTag, tagDiff a b ≠ -(2 ^ 39) ∧ a ≠ b) :=
  ⟨⟨0x8000000000#40, 0#40, by decide⟩, ⟨0#40, 0xFFFFFFFFFF#40, by decide, by decide⟩⟩

theorem witness_ModesAcceptOpcodes :
    (∃ (l : Lane) (r : Request), modeAccepts l.mode.mode r = false) ∧
    (∃ x : Submission, 16 ≤ x.reqLen ∧ 16 ≤ x.rspLen) ∧
    (∃ (e : Stamp) (s : State) (l : Lane), l = nowOf e s ∧ l.mode.mode = .dormant ∧ l.powered = true ∧ l.dieOk = true ∧
      l.mode.rstnLow = false) :=
  ⟨⟨{ svc with mode.mode := .salvage }, rq 0x0200 1 [], by decide +kernel⟩, ⟨⟨16, 16, 0, []⟩, by decide, by decide⟩,
   ⟨w0, at_ asleep, _, rfl, rfl, rfl, rfl, rfl⟩⟩

theorem witness_DispatchTakesTheEarliestReady :
    (∃ (l : Lane) (fuel g credit v c : Nat) (x : TaskEntry), visitGroups l fuel g credit = some (x, v, c) ∧
      l.needle.entries.Pairwise (fun a b => a.adm < b.adm)) ∧
    (∃ (l : Lane) (fuel g credit v c : Nat) (x : TaskEntry), visitGroups l fuel g credit = some (x, v, c) ∧
      isBarrier x.req = true) :=
  ⟨⟨{ svc with needle.entries := [te 0x0101 .queued, { te 0x0004 .queued with adm := 1, joined := 2 }] }, 5, 0, 8, 0, 7,
      te 0x0101 .queued, by decide +kernel, by decide⟩,
   ⟨{ svc with needle.entries := [{ te 0x0000 .queued with req := { rqs 0x0000 (zeros 4) with flags := 2 } }] }, 5, 0, 8, 0, 7,
      { te 0x0000 .queued with req := { rqs 0x0000 (zeros 4) with flags := 2 } }, by decide +kernel, by decide +kernel⟩⟩

def dueLater : TaskEntry :=
  { te 0x0000 .delayed with req := { rqs 0x0000 (zeros 4 ++ le 8 1000) with flags := 1 } }

theorem witness_DelayTickEmptiesDueEntries :
    ∃ (e : Stamp) (s t : State) (l : Lane) (x : TaskEntry), l = nowOf e s ∧ exec (.delayListTick e) s = .next t ∧
      (∀ p ∈ l.pe.streams, p.2.held = none) ∧ x ∈ l.needle.entries ∧ x.phase = .delayed ∧
      tagLater (dueTag x.req) (nowTag l) = true ∧ (∀ y ∈ l.needle.entries, dueNow l y = true → y.adm ≠ x.adm) :=
  ⟨w0, at_ { svc with needle.entries := [dueLater] }, _, _, dueLater, rfl, rfl, fun p hp => absurd hp (List.not_mem_nil),
    List.mem_singleton.2 rfl, rfl, by decide +kernel, by decide +kernel⟩

theorem witness_UndispatchedRequestsAreCancelled : ∃ (l : Lane) (x : TaskEntry), entriesOk l.needle.entries ∧ x ∈ l.needle.entries ∧
    (x.phase = .delayed ∨ x.phase = .queued) :=
  ⟨{ svc with needle.entries := [dueLater] }, dueLater, one_entry _, List.mem_singleton.2 rfl, .inl rfl⟩

theorem witness_ZeroisationClearsTheKeys : ∃ l : Lane, l.vault.records.length ≤ 8 ∧ l.keys.slots ≠ [] :=
  ⟨{ svc with keys.slots := [(1, hmacKey)] }, by decide, by decide⟩

theorem witness_PrivilegedKeyCommands :
    (∃ l : Lane, l.keys.privilege = false) ∧ (∃ r : Request, isPeer r.src = true) ∧ (∃ l : Lane, l.tc < l.keys.lockoutUntil) ∧
    (∃ l : Lane, 4 ≤ (l.keys.failedAt.filter (fun x => decide (l.tc ≤ x + secTc 60))).length) ∧
    (∃ l : Lane, (l.keys.failedAt.filter (fun x => decide (l.tc ≤ x + secTc 60))).length < 4) :=
  ⟨⟨svc, rfl⟩, ⟨{ rq0 with src := 16 }, by decide⟩, ⟨{ svc with keys.lockoutUntil := 10 ^ 12 + 1 }, by decide⟩,
   ⟨{ svc with keys.failedAt := List.replicate 4 (10 ^ 12) }, by decide +kernel⟩, ⟨svc, by decide⟩⟩

theorem witness_BlocksRunByMode : (∃ l : Lane, serving l = true) ∧ (∃ (e : Stamp) (s : State), serving (nowOf e s) = false) :=
  ⟨⟨svc, by decide⟩, ⟨w0, State.reset, by decide⟩⟩

theorem witness_CancelOutcomes (ph : Phase) :
    (∃ (e : Stamp) (r : Request) (s t : State) (l : Lane), l = nowOf e s ∧ entriesOk l.needle.entries ∧
      accepted 0x0003 none abortCheck l r ∧ entryOf l r.src r.tag = none ∧ exec (.cancel e r) s = .next t ∧
      ∃ x, entryOf l (targetSrc r) (targetTag r) = some x ∧ x.phase = ph) ∧
    (∃ (e : Stamp) (r : Request) (s t : State) (l : Lane), l = nowOf e s ∧ entriesOk l.needle.entries ∧
      accepted 0x0003 none abortCheck l r ∧ entryOf l r.src r.tag = none ∧ exec (.cancel e r) s = .next t ∧
      entryOf l (targetSrc r) (targetTag r) = none) := by
  refine ⟨⟨w0, { rq 3 0 (wr 8 [(0, 1, 7)]) with tag := 9 }, at_ { svc with needle.entries := [te 0x0101 ph] }, _, _,
      rfl, one_entry _, ⟨by decide +kernel, by cases ph <;> decide +kernel⟩, rfl, rfl, te 0x0101 ph, ?_, rfl⟩,
    ⟨w0, { rq 3 0 (wr 8 [(0, 1, 7)]) with tag := 9 }, at_ svc, _, _, rfl, entriesOk_nil,
      ⟨by decide +kernel, by decide +kernel⟩, rfl, rfl, by decide +kernel⟩⟩
  cases ph <;> decide +kernel

theorem witness_QueuesDropWhatDoesNotFit :
    (∃ (n k : Nat) (l : Lane), (queueOf l n).dropping = true ∧ k = 1) ∧
    (∃ (n k : Nat) (l : Lane), (queueOf l n).dropping = false ∧
      depthLimit l n < queueHeld { queueOf l n with partialLen := 0 } + k ∧ queueHeld (queueOf l n) ≤ depthLimit l n) ∧
    (∃ (n k : Nat) (l : Lane), (queueOf l n).dropping = false ∧
      queueHeld { queueOf l n with partialLen := 0 } + k ≤ depthLimit l n ∧ queueHeld (queueOf l n) ≤ depthLimit l n) ∧
    (∃ q : Queue, q.read = 0) :=
  ⟨⟨0, 1, { svc with queues := [(0, { Queue.empty with dropping := true })] }, by decide, rfl⟩,
   ⟨0, depthLimit svc 0 + 1, svc, by decide, by decide +kernel, by decide +kernel⟩,
   ⟨0, depthLimit svc 0, svc, by decide, by decide +kernel, by decide +kernel⟩, ⟨.empty, rfl⟩⟩

theorem witness_HeldTagsAreRefused :
    (∃ (l : Lane) (r : Request) (m : Nat), versionOk l r = true ∧ lengthOk r = true ∧ (isPeer r.src = true → r.paramLen ≤ m) ∧
      opcodeOk r = true ∧ tagHeld l r.src r.tag = true) ∧
    (∃ (l : Lane) (r : Request) (m : Nat), versionOk l r = true ∧ lengthOk r = true ∧ (isPeer r.src = true → r.paramLen ≤ m) ∧
      opcodeOk r = true ∧ (r.src ≤ 3 ∧ r.group ≠ r.src)) ∧
    (∃ (l : Lane) (r : Request) (m : Nat), versionOk l r = true ∧ lengthOk r = true ∧ (isPeer r.src = true → r.paramLen ≤ m) ∧
      opcodeOk r = true ∧ 3 < r.group) ∧
    (∃ (e : Stamp) (vlan : Bool) (r : Request) (s : State) (l : Lane), l = takeFromRing r (nowOf e s) ∧
      admissionStatus l r (udpLimit (nowOf e s) r.src vlan) = .badParam) :=
  ⟨⟨{ svc with needle.entries := [te 0x0101 .queued] }, rqs 0x0101 (zeros 8), 0, by decide +kernel, by decide +kernel, by decide,
      by decide +kernel, by decide +kernel⟩,
   ⟨svc, { rqs 0x0101 (zeros 8) with group := 1 }, 0, by decide +kernel, by decide +kernel, by decide, by decide +kernel, by decide⟩,
   ⟨svc, { rqs 0x0101 (zeros 8) with group := 4 }, 0, by decide +kernel, by decide +kernel, by decide, by decide +kernel, by decide⟩,
   ⟨w0, false, { rqs 0x0101 (zeros 8) with group := 1 }, at_ svc, _, rfl, by decide +kernel⟩⟩

theorem witness_OvervoltageStopsBothLanes : ∃ s : State, s.overvoltage = true ∧ s.laneA.powered = false ∧ s.laneB.powered = false :=
  ⟨{ State.reset with overvoltage := true, laneA := { svc with powered := false }, laneB := { State.reset.laneB with powered := false } },
   rfl, rfl, rfl⟩

theorem witness_NeedleEventsComplete :
    (∃ (e : Stamp) (vlan : Bool) (r : Request) (s : State) (l : Lane), l = nowOf e s ∧ admissionStatus
          (takeFromRing r l) r (udpLimit l r.src vlan) = .ok ∧ opBypass r.opcode = false) ∧
    (∃ (e : Stamp) (vlan : Bool) (r : Request) (s : State) (l : Lane), l = nowOf e s ∧ admissionStatus
          (takeFromRing r l) r (udpLimit l r.src vlan) = .ok ∧ opBypass r.opcode = true) ∧
    (∃ (e : Stamp) (vlan : Bool) (r : Request) (s : State) (l : Lane) (st : Status), l = nowOf e s ∧ admissionStatus
          (takeFromRing r l) r (udpLimit l r.src vlan) = st ∧ st ≠ .ok) ∧
    (∃ (e : Stamp) (s : State) (l : Lane) (en : TaskEntry) (g : Nat) (c : Nat), l = nowOf e s ∧ (inService l).length < 4
          ∧ visitGroups l 5 l.needle.visit l.needle.credit = some (en, g, c) ∧ dispatchStatus l en.req = .ok) ∧
    (∃ (e : Stamp) (s : State) (l : Lane) (en : TaskEntry) (g : Nat) (c : Nat) (st : Status), l = nowOf e s ∧
          (inService l).length < 4 ∧ visitGroups l 5 l.needle.visit l.needle.credit = some (en, g, c) ∧ dispatchStatus l
          en.req = st ∧ st ≠ .ok) ∧
    (∃ (e : Stamp) (s : State) (l : Lane) (a : PendingAbort) (rest : List PendingAbort), l = nowOf e s ∧ l.needle.aborts
          = a :: rest ∧ entryOf l a.targetSrc a.targetTag = none) ∧
    (∃ (e : Stamp) (s : State) (l : Lane) (a : PendingAbort) (rest : List PendingAbort) (x : TaskEntry), l = nowOf e s ∧
          l.needle.aborts = a :: rest ∧ entryOf l a.targetSrc a.targetTag = some x ∧
          (x.phase = .delayed ∨ x.phase = .queued)) ∧
    (∃ (e : Stamp) (s : State) (l : Lane) (a : PendingAbort) (rest : List PendingAbort) (x : TaskEntry), l = nowOf e s ∧
          l.needle.aborts = a :: rest ∧ entryOf l a.targetSrc a.targetTag = some x ∧ x.phase = .inService) ∧
    (∃ (e : Stamp) (s : State) (l : Lane) (a : PendingAbort) (rest : List PendingAbort) (x : TaskEntry), l = nowOf e s ∧
          l.needle.aborts = a :: rest ∧ entryOf l a.targetSrc a.targetTag = some x ∧ x.phase = .committed) ∧
    (∃ (e : Stamp) (vlan : Bool) (addr : Bytes) (fragment : Bool) (d : Bytes) (s : State) (l : Lane), l = nowOf e s ∧
          dieRuns l = true ∧ fragment = true) ∧
    (∃ (e : Stamp) (vlan : Bool) (addr : Bytes) (fragment : Bool) (d : Bytes) (s : State) (l : Lane), l = nowOf e s ∧
          dieRuns l = true ∧ fragment = false ∧ peerOf l addr = none) ∧
    (∃ (e : Stamp) (vlan : Bool) (addr : Bytes) (fragment : Bool) (d : Bytes) (s : State) (l : Lane) (n : Nat)
          (p : Peer), l = nowOf e s ∧ dieRuns l = true ∧ fragment = false ∧ peerOf l addr = some (n, p) ∧ datagramOk l p
          d = false) ∧
    (∃ (e : Stamp) (vlan : Bool) (addr : Bytes) (fragment : Bool) (d : Bytes) (s : State) (l : Lane) (n : Nat)
          (p : Peer) (old : Nat × Bytes), l = nowOf e s ∧ dieRuns l = true ∧ fragment = false ∧ peerOf l addr = some
          (n, p) ∧ datagramOk l p d = true ∧ isDuplicate p.highest p.seen (field d 4 8) = true ∧ p.replies.find?
          (fun x => x.1 == field d 4 8) = some old) ∧
    (∃ (e : Stamp) (vlan : Bool) (addr : Bytes) (fragment : Bool) (d : Bytes) (s : State) (l : Lane) (n : Nat)
          (p : Peer), l = nowOf e s ∧ dieRuns l = true ∧ fragment = false ∧ peerOf l addr = some (n, p) ∧ datagramOk l p
          d = true ∧ isDuplicate p.highest p.seen (field d 4 8) = true ∧ p.replies.find? (fun x => x.1 == field d 4 8) =
          none) ∧
    (∃ (e : Stamp) (vlan : Bool) (addr : Bytes) (fragment : Bool) (d : Bytes) (s : State) (l : Lane) (n : Nat)
          (p : Peer), l = nowOf e s ∧ dieRuns l = true ∧ fragment = false ∧ peerOf l addr = some (n, p) ∧ datagramOk l p
          d = true ∧ isDuplicate p.highest p.seen (field d 4 8) = false) := by
  refine ⟨?_, ?_, ?_, ?_, ?_, ?_, ?_, ?_, ?_, ?_, ?_, ?_, ?_, ?_, ?_⟩
  · exact ⟨(w0 : Stamp), (false : Bool), (rq0 : Request), at_ svc, _, rfl, by decide +kernel, by decide +kernel⟩
  · exact ⟨(w0 : Stamp), (false : Bool), (rq 0x0003 0 (zeros 8) : Request), at_ svc, _, rfl, by decide +kernel, by
        decide +kernel⟩
  · exact ⟨(w0 : Stamp), (false : Bool), (rq 0x7777 0 [] : Request), at_ svc, _, (.badOpcode : Status), rfl, by
        decide +kernel, by decide +kernel⟩
  · exact ⟨(w0 : Stamp), at_ ({ svc with needle.entries := [te 0x0101 .queued] }), _, (te 0x0101 .queued : TaskEntry),
        (0 : Nat), (7 : Nat), rfl, by decide +kernel, by decide +kernel, by decide +kernel⟩
  · exact ⟨(w0 : Stamp), at_ ({ svc with needle.entries := [te 0x0B02 .queued] }), _, (te 0x0B02 .queued : TaskEntry),
        (0 : Nat), (7 : Nat), (.notLeaseholder : Status), rfl, by decide +kernel, by decide +kernel, by decide +kernel,
        by decide +kernel⟩
  · exact ⟨(w0 : Stamp), at_ ({ svc with needle.aborts := [ab] }), _, (ab : PendingAbort), ([] : List PendingAbort),
        rfl, by decide +kernel, by decide +kernel⟩
  · exact ⟨(w0 : Stamp), at_ ({ svc with needle.aborts := [ab], needle.entries := [te 0x0101 .queued] }), _,
        (ab : PendingAbort), ([] : List PendingAbort), (te 0x0101 .queued : TaskEntry), rfl, by decide +kernel, by
        decide +kernel, by decide +kernel⟩
  · exact ⟨(w0 : Stamp), at_ ({ svc with needle.aborts := [ab], needle.entries := [te 0x0101 .inService] }), _,
        (ab : PendingAbort), ([] : List PendingAbort), (te 0x0101 .inService : TaskEntry), rfl, by decide +kernel, by
        decide +kernel, by decide +kernel⟩
  · exact ⟨(w0 : Stamp), at_ ({ svc with needle.aborts := [ab], needle.entries := [te 0x0101 .committed] }), _,
        (ab : PendingAbort), ([] : List PendingAbort), (te 0x0101 .committed : TaskEntry), rfl, by decide +kernel, by
        decide +kernel, by decide +kernel⟩
  · exact ⟨(w0 : Stamp), (false : Bool), ([] : Bytes), (true : Bool), ([] : Bytes), at_ svc, _, rfl, by decide +kernel,
        by decide +kernel⟩
  · exact ⟨(w0 : Stamp), (false : Bool), ([] : Bytes), (false : Bool), ([] : Bytes), at_ svc, _, rfl, by decide +kernel,
        by decide +kernel, by decide +kernel⟩
  · exact ⟨(w0 : Stamp), (false : Bool), ([] : Bytes), (false : Bool), ([] : Bytes), at_ (peered (pr 0 [] [])), _,
        (16 : Nat), (pr 0 [] [] : Peer), rfl, by decide +kernel, by decide +kernel, by decide +kernel, by
        decide +kernel⟩
  · exact ⟨(w0 : Stamp), (false : Bool), ([] : Bytes), (false : Bool), (dg 9 : Bytes), at_
        (peered (pr 9 [9] [(9, [1])])), _, (16 : Nat), (pr 9 [9] [(9, [1])] : Peer), ((9, [1]) : Nat × Bytes), rfl, by
        decide +kernel, by decide +kernel, by decide +kernel, by decide +kernel, by decide +kernel, by decide +kernel⟩
  · exact ⟨(w0 : Stamp), (false : Bool), ([] : Bytes), (false : Bool), (dg 9 : Bytes), at_ (peered (pr 9 [9] [])), _,
        (16 : Nat), (pr 9 [9] [] : Peer), rfl, by decide +kernel, by decide +kernel, by decide +kernel, by
        decide +kernel, by decide +kernel, by decide +kernel⟩
  · exact ⟨(w0 : Stamp), (false : Bool), ([] : Bytes), (false : Bool), (dg 10 : Bytes), at_ (peered (pr 9 [9] [])), _,
        (16 : Nat), (pr 9 [9] [] : Peer), rfl, by decide +kernel, by decide +kernel, by decide +kernel, by
        decide +kernel, by decide +kernel⟩

theorem witness_QueueAndPortEventsComplete :
    (∃ (e : Stamp) (port : Fin 12) (s : State) (l : Lane), l = nowOf e s ∧ (queueCfg l port).pauseEnable = true ∧
          dieRuns l = true ∧ (queueCfg l port).highWm ≤ queueHeld (queueOf l port) ∧ (queueOf l port).highSeen = false)
        ∧
    (∃ (e : Stamp) (port : Fin 12) (s : State) (l : Lane), l = nowOf e s ∧ (queueCfg l port).pauseEnable = true ∧
          dieRuns l = true ∧ queueHeld (queueOf l port) < (queueCfg l port).highWm ∧ queueHeld (queueOf l port) ≤
          (queueCfg l port).lowWm ∧ (queueOf l port).paused.isSome = true) ∧
    (∃ (e : Stamp) (port : Fin 12) (s : State) (l : Lane) (t : Nat), l = nowOf e s ∧ (queueOf l port).paused = some t ∧
          (queueCfg l port).pauseEnable = true ∧ (queueCfg l port).lowWm < queueHeld (queueOf l port) ∧
          (queueCfg l port).pauseQuanta * quantum (ethCfg l port).mode ≤ (l.tc - t) * 800 ∧ dieRuns l = true) ∧
    (∃ (e : Stamp) (port : Fin 12) (s : State) (l : Lane) (t : Nat), l = nowOf e s ∧ (ethRun l port).pausedUntil = some
          t ∧ t ≤ l.tc) ∧
    (∃ (e : Stamp) (port : Fin 12) (s : State) (l : Lane), l = nowOf e s ∧ dieRuns l = true ∧ (ethCfg l port).mode ≠ 0)
        ∧
    (∃ (e : Stamp) (port : Fin 12) (s : State) (l : Lane), l = nowOf e s ∧ dieRuns l = true ∧ (ethRun l port).up = true
          ∧ (ethCfg l port).mode ≠ 0) ∧
    (∃ (e : Stamp) (port : Fin 12) (underrun : Bool) (s : State) (l : Lane) (n : Nat) (sp : Bool) (what : EgressItem)
          (len : Nat) (ptp : Bool) (desc : Option (Nat × Bool)), l = nowOf e s ∧ dieRuns l = true ∧ headItem l
          (26 + port) = some ⟨n, sp, .egress what len ptp desc⟩ ∧ (ethRun l port).up = false) ∧
    (∃ (e : Stamp) (port : Fin 12) (underrun : Bool) (s : State) (l : Lane) (n : Nat) (sp : Bool) (what : EgressItem)
          (len : Nat) (ptp : Bool) (desc : Option (Nat × Bool)), l = nowOf e s ∧ dieRuns l = true ∧ headItem l
          (26 + port) = some ⟨n, sp, .egress what len ptp desc⟩ ∧ (ethRun l port).up = true ∧
          (ethRun l port).pausedUntil = none ∧ gatedItem what = true ∧ isLeaseholder l = false) ∧
    (∃ (e : Stamp) (port : Fin 12) (underrun : Bool) (s : State) (l : Lane) (n : Nat) (sp : Bool) (what : EgressItem)
          (len : Nat) (desc : Option (Nat × Bool)), l = nowOf e s ∧ dieRuns l = true ∧ headItem l (26 + port) = some
          ⟨n, sp, .egress what len false desc⟩ ∧ (ethRun l port).up = true ∧ (ethRun l port).pausedUntil = none ∧
          gatedItem what = false ∧ hostItem what = true ∧ (ethCfg l port).prp = false ∧ maxFrame
          (ethCfg l port).maxFrame < len) ∧
    (∃ (e : Stamp) (port : Fin 12) (underrun : Bool) (s : State) (l : Lane) (n : Nat) (sp : Bool) (what : EgressItem)
          (len : Nat) (desc : Option (Nat × Bool)), l = nowOf e s ∧ dieRuns l = true ∧ headItem l (26 + port) = some
          ⟨n, sp, .egress what len false desc⟩ ∧ (ethRun l port).up = true ∧ (ethRun l port).pausedUntil = none ∧
          gatedItem what = false ∧ (ethCfg l port).prp = false ∧ len ≤ maxFrame (ethCfg l port).maxFrame ∧ underrun =
          false) ∧
    (∃ (e : Stamp) (port : Fin 12) (f : EthFrame) (s : State) (l : Lane) (k : Nat), l = nowOf e s ∧ l.mode.mode =
          .dormant ∧ (port.val = 4 ∨ port.val = 5) ∧ (ethCfg l port).mode ≠ 0 ∧ frameError l port f = none ∧
          wakeFilterOf l port f.bytes = some k ∧ (wake .wakeFrame l).mode.mode ≠ .dormant) ∧
    (∃ (e : Stamp) (port : Fin 12) (f : EthFrame) (s : State) (l : Lane), l = nowOf e s ∧ dieRuns l = true ∧
          (ethRun l port).up = true ∧ (ethCfg l port).mode ≠ 0 ∧ looped l port = false ∧ f.length < 64) ∧
    (∃ (e : Stamp) (port : Fin 12) (f : EthFrame) (s : State) (l : Lane), l = nowOf e s ∧ dieRuns l = true ∧
          (ethRun l port).up = true ∧ (ethCfg l port).mode ≠ 0 ∧ looped l port = false ∧ frameError l port f = none) :=
        by
  refine ⟨?_, ?_, ?_, ?_, ?_, ?_, ?_, ?_, ?_, ?_, ?_, ?_, ?_⟩
  · exact ⟨(w0 : Stamp), (0 : Fin 12), at_ ({ svc with
            cfg.queues := [(0, { queueDflt 0 with pauseEnable := true, highWm := 1 })],
            queues := [(0, q1 (.request rq0))] }), _, rfl, by decide +kernel, by decide +kernel, by decide +kernel, by
        decide +kernel⟩
  · exact ⟨(w0 : Stamp), (0 : Fin 12), at_ ({ svc with
            cfg.queues := [(0, { queueDflt 0 with pauseEnable := true, highWm := 2, lowWm := 1 })],
            queues := [(0, { Queue.empty with paused := some 0 })] }), _, rfl, by decide +kernel, by decide +kernel, by
        decide +kernel, by decide +kernel, by decide +kernel⟩
  · exact ⟨(w0 : Stamp), (0 : Fin 12), at_ ({ svc with
            cfg.queues := [(0, { queueDflt 0 with pauseEnable := true, highWm := 1, lowWm := 0 })],
            queues := [(0, { q1 (.request rq0) with paused := some 0 })] }), _, (0 : Nat), rfl, by decide +kernel, by
        decide +kernel, by decide +kernel, by decide +kernel, by decide +kernel⟩
  · exact ⟨(w0 : Stamp), (0 : Fin 12), at_ ({ svc with ports.eth := [(0, { ethUp with pausedUntil := some 0 })] }), _,
        (0 : Nat), rfl, by decide +kernel, by decide +kernel⟩
  · exact ⟨(w0 : Stamp), (0 : Fin 12), at_ svc, _, rfl, by decide +kernel, by decide +kernel⟩
  · exact ⟨(w0 : Stamp), (0 : Fin 12), at_ ({ svc with ports.eth := [(0, ethUp)] }), _, rfl, by decide +kernel, by
        decide +kernel, by decide +kernel⟩
  · exact ⟨(w0 : Stamp), (0 : Fin 12), (false : Bool), at_
        ({ svc with queues := [(26, q1 (.egress (.frame [1]) 64 false none))] }), _, _, _, _, _, _, _, rfl, by
        decide +kernel, rfl, by decide +kernel⟩
  · exact ⟨(w0 : Stamp), (0 : Fin 12), (false : Bool), at_
        ({ svc with queues := [(26, q1 (.egress (.header 0 [1]) 64 false none))], ports.eth := [(0, ethUp)] }), _,
        (1 : Nat), (false : Bool), (.header 0 [1] : EgressItem), (64 : Nat), (false : Bool),
        (none : Option (Nat × Bool)), rfl, by decide +kernel, by decide +kernel, by decide +kernel, by decide +kernel,
        by decide +kernel, by decide +kernel⟩
  · exact ⟨(w0 : Stamp), (0 : Fin 12), (false : Bool), at_
        ({ svc with queues := [(26, q1 (.egress (.frame [1]) 9999 false none))], ports.eth := [(0, ethUp)] }), _,
        (1 : Nat), (false : Bool), (.frame [1] : EgressItem), (9999 : Nat), (none : Option (Nat × Bool)), rfl, by
        decide +kernel, by decide +kernel, by decide +kernel, by decide +kernel, by decide +kernel, by decide +kernel,
        by decide +kernel, by decide +kernel⟩
  · exact ⟨(w0 : Stamp), (0 : Fin 12), (false : Bool), at_
        ({ svc with queues := [(26, q1 (.egress (.frame [1]) 64 false none))], ports.eth := [(0, ethUp)] }), _,
        (1 : Nat), (false : Bool), (.frame [1] : EgressItem), (64 : Nat), (none : Option (Nat × Bool)), rfl, by
        decide +kernel, by decide +kernel, by decide +kernel, by decide +kernel, by decide +kernel, by decide +kernel,
        by decide +kernel, by decide +kernel⟩
  · exact ⟨(w0 : Stamp), (4 : Fin 12), (fr .other : EthFrame), at_
        ({ asleep with cfg.wake := [(4, { magic := false, filterMask := 1, filters := [⟨0, 1, 1, [0]⟩] })] }), _,
        (0 : Nat), rfl, by decide +kernel, by decide +kernel, by decide +kernel, by decide +kernel, by decide +kernel,
        by decide +kernel⟩
  · exact ⟨(w0 : Stamp), (0 : Fin 12), ({ fr .other with length := 63 } : EthFrame), at_
        ({ svc with ports.eth := [(0, ethUp)] }), _, rfl, by decide +kernel, by decide +kernel, by decide +kernel, by
        decide +kernel, by decide +kernel⟩
  · exact ⟨(w0 : Stamp), (0 : Fin 12), (fr .other : EthFrame), at_ ({ svc with ports.eth := [(0, ethUp)] }), _, rfl, by
        decide +kernel, by decide +kernel, by decide +kernel, by decide +kernel, by decide +kernel⟩

theorem witness_SerialEventsComplete :
    (∃ (e : Stamp) (port : Fin 8) (s : State) (l : Lane) (q : PollRequest) (q1 : PollRequest) (l0 : Lane) (l1 : Lane)
          (p : SerialRun), l = nowOf e s ∧ serving l = true ∧ isLeaseholder l = true ∧ (serialCfg l port).framing ≠ 0 ∧
          p = pollView l port ∧ p.outstanding = none ∧ p.held = false ∧ p.lineAt + idleNeeded l port ≤ l.tc ∧ l0 =
          setSerial port p l ∧ nextRequest l0 port = some q ∧ q1 = { q with sentAt := l.tc } ∧ l1 = setSerial port
          { p with
            outstanding := some q1, again := none, lastEntry := some q.entry, lineAt := l.tc,
            polledUnder := some (leaseEpochs l), counters := { p.counters with framesTx := bump p.counters.framesTx } }
          l0) ∧
    (∃ (e : Stamp) (port : Fin 8) (octets : Bytes) (charError : Bool) (s : State) (l : Lane), l = nowOf e s ∧ serving l
          = true ∧ (serialCfg l port).framing ≠ 0 ∧ looped l (12 + port) = false ∧ (serialRun l port).outstanding =
          none) ∧
    (∃ (e : Stamp) (port : Fin 8) (octets : Bytes) (charError : Bool) (s : State) (l : Lane) (q : PollRequest), l =
          nowOf e s ∧ serving l = true ∧ (serialCfg l port).framing ≠ 0 ∧ looped l (12 + port) = false ∧
          (serialRun l port).outstanding = some q ∧ charError = true) ∧
    (∃ (e : Stamp) (port : Fin 8) (octets : Bytes) (charError : Bool) (s : State) (l : Lane) (q : PollRequest), l =
          nowOf e s ∧ serving l = true ∧ (serialCfg l port).framing ≠ 0 ∧ looped l (12 + port) = false ∧
          (serialRun l port).outstanding = some q ∧ charError = false ∧ parseLine (serialCfg l port).framing octets =
          .badCheck) ∧
    (∃ (e : Stamp) (port : Fin 8) (octets : Bytes) (charError : Bool) (s : State) (l : Lane) (q : PollRequest)
          (f : LineFrame), l = nowOf e s ∧ serving l = true ∧ (serialCfg l port).framing ≠ 0 ∧ looped l (12 + port) =
          false ∧ (serialRun l port).outstanding = some q ∧ charError = false ∧ parseLine (serialCfg l port).framing
          octets = f ∧ f ≠ .badChar ∧ f ≠ .badCheck ∧ f ≠ .badLength ∧ (responseAddr f).all
          (· == (pollCfg l port q.entry).linkAddr) = true) ∧
    (∃ (e : Stamp) (port : Fin 8) (s : State) (l : Lane) (q : PollRequest), l = nowOf e s ∧
          (serialRun l port).outstanding = some q ∧ serving l = true ∧ q.sentAt + msTc (serialCfg l port).respTimeoutMs
          ≤ l.tc) ∧
    (∃ (e : Stamp) (port : Fin 8) (entry : Fin 64) (s : State) (l : Lane), l = nowOf e s ∧ serving l = true ∧
          (station l port entry).state = .offline ∧ (station l port entry).offlineAt + secTc
          (serialCfg l port).offlineRetryS ≤ l.tc) ∧
    (∃ (e : Stamp) (port : Fin 8) (count : Nat) (s : State) (l : Lane), l = nowOf e s ∧ serving l = true ∧
          (serialRun l port).outstanding = none) ∧
    (∃ (e : Stamp) (port : Fin 8) (octets : Bytes) (s : State) (l : Lane) (q : PollRequest), l = nowOf e s ∧ serving l =
          true ∧ isLeaseholder l = false ∧ (serialCfg l port).framing ≠ 0 ∧ observedRequest l port
          (parseLine (serialCfg l port).framing octets) = some q) := by
  refine ⟨?_, ?_, ?_, ?_, ?_, ?_, ?_, ?_, ?_⟩
  · exact ⟨(w0 : Stamp), (0 : Fin 8), at_ (ser .reset), _, ({ pq with sentAt := svc.tc } : PollRequest), _, _, _, _,
        rfl, by decide +kernel, by decide +kernel, by decide +kernel, rfl, by decide +kernel, by decide +kernel, by
        decide +kernel, rfl, by decide +kernel, rfl, rfl⟩
  · exact ⟨(w0 : Stamp), (0 : Fin 8), ([] : Bytes), (false : Bool), at_ (ser .reset), _, rfl, by decide +kernel, by
        decide +kernel, by decide +kernel, by decide +kernel⟩
  · exact ⟨(w0 : Stamp), (0 : Fin 8), ([] : Bytes), (true : Bool), at_ (serOut), _, (pq : PollRequest), rfl, by
        decide +kernel, by decide +kernel, by decide +kernel, by decide +kernel, by decide +kernel⟩
  · exact ⟨(w0 : Stamp), (0 : Fin 8), ([0x10, 0, 1, 0, 0x16] : Bytes), (false : Bool), at_ (serOut), _,
        (pq : PollRequest), rfl, by decide +kernel, by decide +kernel, by decide +kernel, by decide +kernel, by
        decide +kernel, by decide +kernel⟩
  · exact ⟨(w0 : Stamp), (0 : Fin 8), ([0xE5] : Bytes), (false : Bool), at_ (serOut), _, (pq : PollRequest),
        (.single : LineFrame), rfl, by decide +kernel, by decide +kernel, by decide +kernel, by decide +kernel, by
        decide +kernel, by decide +kernel, by decide +kernel, by decide +kernel, by decide +kernel, by decide +kernel⟩
  · exact ⟨(w0 : Stamp), (0 : Fin 8), at_ (serOut), _, (pq : PollRequest), rfl, by decide +kernel, by decide +kernel, by
        decide +kernel⟩
  · exact ⟨(w0 : Stamp), (0 : Fin 8), (0 : Fin 64), at_
        (ser { SerialRun.reset with stations := [(0, { Station.new true with state := .offline })] }), _, rfl, by
        decide +kernel, by decide +kernel, by decide +kernel⟩
  · exact ⟨(w0 : Stamp), (0 : Fin 8), (0 : Nat), at_ svc, _, rfl, by decide +kernel, by decide +kernel⟩
  · exact ⟨(w0 : Stamp), (0 : Fin 8), ([0x10, 0x49, 1, 0x4A, 0x16] : Bytes), at_
        ({ ser .reset with ply.laneLease.held := false }), _, ({ pq with sentAt := svc.tc } : PollRequest), rfl, by
        decide +kernel, by decide +kernel, by decide +kernel, by decide +kernel⟩

theorem witness_AlarmAndGooseEventsComplete :
    (∃ (e : Stamp) (alarm : Fin 512) (s : State) (l : Lane), l = nowOf e s ∧ dieRuns l = true) ∧
    (∃ (e : Stamp) (pub : Fin 32) (s : State) (l : Lane) (p : GoosePub), l = nowOf e s ∧ tget l.cfg.goose pub = some p ∧
          p.enable = true ∧ serving l = true ∧ isLeaseholder l = true ∧ (gooseRun l pub).intervalMs ≠ 0 ∧
          (gooseRun l pub).nextAt ≤ l.tc) ∧
    (∃ (e : Stamp) (session : Fin 64) (s : State) (l : Lane) (x : SessionRun) (c : SessionCfg) (t : Nat) (r : Request),
          l = nowOf e s ∧ tget l.publish.sessions session = some x ∧ x.announce = some (c, t, r) ∧ t ≤ l.tc) ∧
    (∃ (e : Stamp) (session : Fin 64) (idcode : Nat) (chk : Bool) (s : State) (l : Lane) (c : SessionCfg)
          (x : SessionRun) (cl : Bytes), l = nowOf e s ∧ tget l.cfg.sessions session = some c ∧ tget l.publish.sessions
          session = some x ∧ serving l = true ∧ chk = true ∧ idcode = c.idcode ∧ c.tcp = true ∧ x.client = some cl) ∧
    (∃ (e : Stamp) (session : Fin 64) (idcode : Nat) (chk : Bool) (s : State) (l : Lane) (c : SessionCfg)
          (x : SessionRun) (cl : Bytes), l = nowOf e s ∧ tget l.cfg.sessions session = some c ∧ tget l.publish.sessions
          session = some x ∧ serving l = true ∧ chk = true ∧ idcode = c.idcode ∧ c.tcp = true ∧ x.client = some cl) ∧
    (∃ (e : Stamp) (session : Fin 64) (idcode : Nat) (chk : Bool) (s : State) (l : Lane) (c : SessionCfg)
          (x : SessionRun) (cl : Bytes), l = nowOf e s ∧ tget l.cfg.sessions session = some c ∧ tget l.publish.sessions
          session = some x ∧ serving l = true ∧ chk = true ∧ idcode = c.idcode ∧ c.tcp = true ∧ x.client = some cl) ∧
    (∃ (e : Stamp) (session : Fin 64) (idcode : Nat) (chk : Bool) (s : State) (l : Lane) (c : SessionCfg)
          (x : SessionRun) (cl : Bytes), l = nowOf e s ∧ tget l.cfg.sessions session = some c ∧ tget l.publish.sessions
          session = some x ∧ serving l = true ∧ chk = true ∧ idcode = c.idcode ∧ c.tcp = true ∧ x.client = some cl) ∧
    (∃ (e : Stamp) (session : Fin 64) (idcode : Nat) (chk : Bool) (s : State) (l : Lane) (c : SessionCfg)
          (x : SessionRun) (cl : Bytes), l = nowOf e s ∧ tget l.cfg.sessions session = some c ∧ tget l.publish.sessions
          session = some x ∧ serving l = true ∧ chk = true ∧ idcode = c.idcode ∧ c.tcp = true ∧ x.client = some cl) ∧
    (∃ (e : Stamp) (session : Fin 64) (idcode : Nat) (chk : Bool) (s : State) (l : Lane) (c : SessionCfg)
          (x : SessionRun) (cl : Bytes), l = nowOf e s ∧ tget l.cfg.sessions session = some c ∧ tget l.publish.sessions
          session = some x ∧ serving l = true ∧ chk = true ∧ idcode = c.idcode ∧ c.tcp = true ∧ x.client = some cl) ∧
    (∃ (e : Stamp) (session : Fin 64) (idcode : Nat) (chk : Bool) (s : State) (l : Lane) (c : SessionCfg)
          (x : SessionRun), l = nowOf e s ∧ tget l.cfg.sessions session = some c ∧ tget l.publish.sessions session =
          some x ∧ serving l = true ∧ chk = true ∧ idcode = c.idcode ∧ c.tcp = false ∧ c.cmdAccept = false) ∧
    (∃ (e : Stamp) (session : Fin 64) (addr : Bytes) (s : State) (l : Lane) (c : SessionCfg) (x : SessionRun), l = nowOf
          e s ∧ tget l.cfg.sessions session = some c ∧ tget l.publish.sessions session = some x ∧ c.tcp = true ∧ serving
          l = true ∧ isLeaseholder l = true ∧ x.client = none) ∧
    (∃ (e : Stamp) (session : Fin 64) (addr : Bytes) (s : State) (l : Lane) (c : SessionCfg) (x : SessionRun)
          (cl : Bytes), l = nowOf e s ∧ tget l.cfg.sessions session = some c ∧ tget l.publish.sessions session = some x
          ∧ c.tcp = true ∧ serving l = true ∧ isLeaseholder l = true ∧ x.client = some cl) ∧
    (∃ (e : Stamp) (session : Fin 64) (s : State) (l : Lane) (x : SessionRun) (cl : Bytes), l = nowOf e s ∧ tget
          l.publish.sessions session = some x ∧ x.client = some cl) := by
  refine ⟨?_, ?_, ?_, ?_, ?_, ?_, ?_, ?_, ?_, ?_, ?_, ?_, ?_⟩
  · exact ⟨(w0 : Stamp), (0 : Fin 512), at_ svc, _, rfl, by decide +kernel⟩
  · exact ⟨(w0 : Stamp), (0 : Fin 32), at_ ({ held with cfg.goose := [(0, gp)], publish.goose := [(0, gr)] }), _, _,
        rfl, rfl, by decide +kernel, by decide +kernel, by decide +kernel, by decide +kernel, by decide +kernel⟩
  · exact ⟨(w0 : Stamp), (0 : Fin 64), at_ (ses sc { sr with announce := some (sc, 0, rq0) }), _, _, _, _, _, rfl, rfl,
        rfl, by decide +kernel⟩
  · exact ⟨(w0 : Stamp), (0 : Fin 64), (0 : Nat), (true : Bool), at_ (ses sc { sr with client := some [] }), _, _, _, _,
        rfl, rfl, rfl, by decide +kernel, by decide +kernel, rfl, by decide +kernel, rfl⟩
  · exact ⟨(w0 : Stamp), (0 : Fin 64), (0 : Nat), (true : Bool), at_ (ses sc { sr with client := some [] }), _, _, _, _,
        rfl, rfl, rfl, by decide +kernel, by decide +kernel, rfl, by decide +kernel, rfl⟩
  · exact ⟨(w0 : Stamp), (0 : Fin 64), (0 : Nat), (true : Bool), at_ (ses sc { sr with client := some [] }), _, _, _, _,
        rfl, rfl, rfl, by decide +kernel, by decide +kernel, rfl, by decide +kernel, rfl⟩
  · exact ⟨(w0 : Stamp), (0 : Fin 64), (0 : Nat), (true : Bool), at_ (ses sc { sr with client := some [] }), _, _, _, _,
        rfl, rfl, rfl, by decide +kernel, by decide +kernel, rfl, by decide +kernel, rfl⟩
  · exact ⟨(w0 : Stamp), (0 : Fin 64), (0 : Nat), (true : Bool), at_ (ses sc { sr with client := some [] }), _, _, _, _,
        rfl, rfl, rfl, by decide +kernel, by decide +kernel, rfl, by decide +kernel, rfl⟩
  · exact ⟨(w0 : Stamp), (0 : Fin 64), (0 : Nat), (true : Bool), at_ (ses sc { sr with client := some [] }), _, _, _, _,
        rfl, rfl, rfl, by decide +kernel, by decide +kernel, rfl, by decide +kernel, rfl⟩
  · exact ⟨(w0 : Stamp), (0 : Fin 64), (0 : Nat), (true : Bool), at_ (ses { sc with tcp := false } sr), _, _, _, rfl,
        rfl, rfl, by decide +kernel, by decide +kernel, rfl, by decide +kernel, by decide +kernel⟩
  · exact ⟨(w0 : Stamp), (0 : Fin 64), ([] : Bytes), at_ (ses sc sr), _, _, _, rfl, rfl, rfl, by decide +kernel, by
        decide +kernel, by decide +kernel, by decide +kernel⟩
  · exact ⟨(w0 : Stamp), (0 : Fin 64), ([] : Bytes), at_ (ses sc { sr with client := some [] }), _, _, _, _, rfl, rfl,
        rfl, by decide +kernel, by decide +kernel, by decide +kernel, rfl⟩
  · exact ⟨(w0 : Stamp), (0 : Fin 64), at_ (ses sc { sr with client := some [] }), _, _, _, rfl, rfl, rfl⟩

theorem witness_LeaseTimersComplete :
    (∃ (e : Stamp) (k : LeaseKind) (s : State) (l : Lane), l = nowOf e s ∧ leads l k = true ∧ (leaseOf l k).sentAt +
          periodTc l k / 2 ≤ l.tc) ∧
    (∃ (e : Stamp) (k : LeaseKind) (s : State) (l : Lane) (l1 : Lane), l = nowOf e s ∧ leads l k = true ∧
          (leaseOf l k).acked = false ∧ (leaseOf l k).timedOut = false ∧ (leaseOf l k).sentAt + periodTc l k / 8 ≤ l.tc
          ∧ l1 = setLease k { leaseOf l k with timedOut := true } l) ∧
    (∃ (e : Stamp) (k : LeaseKind) (s : State) (l : Lane) (l1 : Lane), l = nowOf e s ∧ leads l k = true ∧
          (leaseOf l k).until_ ≤ l.tc ∧ l1 = loseLease k (dropHandover l)) ∧
    (∃ (e : Stamp) (k : LeaseKind) (s : State) (l : Lane) (t : Nat) (z : Nat), l = nowOf e s ∧ takeoverAt l k = some t ∧
          mayClaim l k = true ∧ t ≤ l.tc ∧ (leaseOf l k).silence = some z ∧ witnessUp l k = true ∧
          (leaseOf l k).lastClaim = none) ∧
    (∃ (e : Stamp) (k : LeaseKind) (s : State) (l : Lane) (t : Nat) (z : Nat), l = nowOf e s ∧ takeoverAt l k = some t ∧
          mayClaim l k = true ∧ t ≤ l.tc ∧ (leaseOf l k).silence = some z ∧ witnessUp l k = false ∧ policyAvailable l k
          = true) ∧
    (∃ (e : Stamp) (k : LeaseKind) (s : State) (l : Lane) (t : Nat) (z : Nat), l = nowOf e s ∧ takeoverAt l k = some t ∧
          mayClaim l k = true ∧ t ≤ l.tc ∧ (leaseOf l k).silence = some z ∧ witnessUp l k = false ∧ policyAvailable l k
          = false) ∧
    (∃ (e : Stamp) (k : LeaseKind) (s : State) (l : Lane) (t : Nat), l = nowOf e s ∧ (leaseOf l k).lastClaim = some t ∧
          mayClaim l k = true ∧ witnessUp l k = true ∧ t + periodTc l k ≤ l.tc) ∧
    (∃ (e : Stamp) (s : State) (l : Lane), l = nowOf e s ∧ dieRuns l = true ∧ l.cfg.pair.isSome = true ∧ knownDevice l =
          0xFF ∧ l.ply.lastHello + periodTc l .device / 2 ≤ l.tc) ∧
    (∃ (e : Stamp) (k : LeaseKind) (s : State) (l : Lane), l = nowOf e s ∧ takesPart l = true ∧ (witnessOf l k).lastPing
          + msTc l.cfg.witness.timeoutMs / 4 ≤ l.tc) ∧
    (∃ (e : Stamp) (k : LeaseKind) (s : State) (l : Lane), l = nowOf e s ∧ (witnessOf l k).available = true ∧
          (witnessOf l k).lastAnswer + msTc l.cfg.witness.timeoutMs ≤ l.tc) ∧
    (∃ (e : Stamp) (k : LeaseKind) (kind : Nat) (s : State) (l : Lane), l = nowOf e s ∧ witnessKind l k = 2 ∧ kind = 0 ∧
          takesPart l = true ∧ (witnessOf l k).lastPing + msTc l.cfg.witness.timeoutMs / 4 ≤ l.tc) ∧
    (∃ (e : Stamp) (s : State) (l : Lane) (h : Handover), l = nowOf e s ∧ l.ply.handover = some h ∧ h.sentAt + periodTc
          l h.lease ≤ l.tc) := by
  refine ⟨?_, ?_, ?_, ?_, ?_, ?_, ?_, ?_, ?_, ?_, ?_, ?_⟩
  · exact ⟨(w0 : Stamp), (.lane : LeaseKind), at_ (held), _, rfl, by decide +kernel, by decide +kernel⟩
  · exact ⟨(w0 : Stamp), (.lane : LeaseKind), at_ (held), _, _, rfl, by decide +kernel, by decide +kernel, by
        decide +kernel, by decide +kernel, rfl⟩
  · exact ⟨(w0 : Stamp), (.lane : LeaseKind), at_ (held), _, _, rfl, by decide +kernel, by decide +kernel, rfl⟩
  · exact ⟨(w0 : Stamp), (.lane : LeaseKind), at_ (silent witnessed), _, _, _, rfl, rfl, by decide +kernel, by
        decide +kernel, rfl, by decide +kernel, by decide +kernel⟩
  · exact ⟨(w0 : Stamp), (.lane : LeaseKind), at_ (silent open_), _, _, _, rfl, rfl, by decide +kernel, by
        decide +kernel, rfl, by decide +kernel, by decide +kernel⟩
  · exact ⟨(w0 : Stamp), (.lane : LeaseKind), at_ (silent svc), _, _, _, rfl, rfl, by decide +kernel, by decide +kernel,
        rfl, by decide +kernel, by decide +kernel⟩
  · exact ⟨(w0 : Stamp), (.lane : LeaseKind), at_ ({ witnessed with ply.laneLease.lastClaim := some 0 }), _, _, rfl,
        rfl, by decide +kernel, by decide +kernel, by decide +kernel⟩
  · exact ⟨(w0 : Stamp), at_ ({ svc with cfg.pair := some pairCfg }), _, rfl, by decide +kernel, by decide +kernel, by
        decide +kernel, by decide +kernel⟩
  · exact ⟨(w0 : Stamp), (.lane : LeaseKind), at_ svc, _, rfl, by decide +kernel, by decide +kernel⟩
  · exact ⟨(w0 : Stamp), (.lane : LeaseKind), at_ (witnessed), _, rfl, by decide +kernel, by decide +kernel⟩
  · exact ⟨(w0 : Stamp), (.lane : LeaseKind), (0 : Nat), at_ (witnessed), _, rfl, by decide +kernel, by decide +kernel,
        by decide +kernel, by decide +kernel⟩
  · exact ⟨(w0 : Stamp), at_
        ({ held with ply.handover := some { req := rq0, target := 1, lease := .lane, sentAt := 0 } }), _, _, rfl, rfl,
        by decide +kernel⟩

theorem witness_PlyLinkEventsComplete :
    (∃ (e : Stamp) (link : Fin 2) (s : State) (l : Lane), l = nowOf e s ∧ dieRuns l = true ∧ (linkOf l link).lastSent +
          usTc 10 ≤ l.tc) ∧
    (∃ (e : Stamp) (link : Fin 2) (x : PlyRx) (bad : Option Nat) (s : State) (l : Lane) (seq : Nat), l = nowOf e s ∧
          dieRuns l = true ∧ x = .again seq) ∧
    (∃ (e : Stamp) (link : Fin 2) (x : PlyRx) (bad : Option Nat) (s : State) (l : Lane) (seq : Nat)
          (msg : Option PlyMsg), l = nowOf e s ∧ dieRuns l = true ∧ x = .frame seq false msg) ∧
    (∃ (e : Stamp) (link : Fin 2) (x : PlyRx) (bad : Option Nat) (s : State) (l : Lane) (seq : Nat)
          (msg : Option PlyMsg), l = nowOf e s ∧ dieRuns l = true ∧ x = .frame seq true msg ∧
          (linkOf l link).rxSeen.contains seq = true) ∧
    (∃ (e : Stamp) (link : Fin 2) (x : PlyRx) (bad : Option Nat) (s : State) (l : Lane) (seq : Nat)
          (msg : Option PlyMsg), l = nowOf e s ∧ dieRuns l = true ∧ x = .frame seq true msg ∧
          (linkOf l link).rxSeen.contains seq = false) ∧
    (∃ (e : Stamp) (link : Fin 2) (s : State) (l : Lane), l = nowOf e s ∧ dieRuns l = true ∧ (linkOf l link).up = true ∧
          (linkOf l link).lastValid + usTc 100 ≤ l.tc) ∧
    (∃ (e : Stamp) (link : Fin 2) (s : State) (l : Lane), l = nowOf e s ∧ dieRuns l = true ∧ (linkOf l link).up = false
          ∧ (linkOf l link).lastRetrain + secTc 1 ≤ l.tc ∧ (linkOf (returnLink link l) link).up = true) ∧
    (∃ (e : Stamp) (link : Fin 2) (s : State) (l : Lane), l = nowOf e s ∧ dieRuns l = true ∧ (linkOf l link).up = false
          ∧ (linkOf l link).lastRetrain + secTc 1 ≤ l.tc ∧ (linkOf (returnLink link l) link).up = false) ∧
    (∃ (e : Stamp) (d : AzDatagram) (bad : Option Nat) (s : State) (l : Lane), l = nowOf e s ∧ dieRuns l = true ∧ azOk l
          d = false) ∧
    (∃ (e : Stamp) (d : AzDatagram) (bad : Option Nat) (s : State) (l : Lane), l = nowOf e s ∧ dieRuns l = true ∧ azOk l
          d = true ∧ isDuplicate (azOf l d.sender).highest (azOf l d.sender).seen d.seq = true ∧ d.rseq ≠ 0) ∧
    (∃ (e : Stamp) (d : AzDatagram) (bad : Option Nat) (s : State) (l : Lane), l = nowOf e s ∧ dieRuns l = true ∧ azOk l
          d = true ∧ isDuplicate (azOf l d.sender).highest (azOf l d.sender).seen d.seq = false) ∧
    (∃ (e : Stamp) (m : Nat) (s : State) (l : Lane), l = nowOf e s ∧ dieRuns l = true ∧ l.keys.zeroised = false) ∧
    (∃ (e : Stamp) (m : Nat) (s : State) (l : Lane), l = nowOf e s ∧ dieRuns l = true ∧ (azOf l m).up = true ∧
          (azOf l m).lastValid + periodTc l .device ≤ l.tc) ∧
    (∃ (e : Stamp) (s : State) (l : Lane) (own : List DigestEntry) (remote : List DigestEntry), l = nowOf e s ∧ own =
          l.ply.own.filter (fun d => decide (d.at_ + msTc 100 ≤ l.tc)) ∧ remote = l.ply.remote.filter
          (fun d => decide (d.at_ + msTc 100 ≤ l.tc))) ∧
    (∃ (e : Stamp) (s : State) (l : Lane) (l1 : Lane) (l2 : Lane) (l3 : Lane), l = nowOf e s ∧ takesPart l = true ∧
          l.ply.lastHealth + secTc 1 ≤ l.tc ∧ l1 = { l with ply := { l.ply with lastHealth := l.tc } } ∧ l2 =
          (if inContact l1 (siblingId l1) then plySend 0xFF (.health ⟨healthBytes l1⟩) l1 else l1) ∧ l3 =
          (partnerMembers l2).foldl (fun acc m => if inContact acc m then azSend m false
            [{ sender := memberId acc, lease := 0xFF, body := .health ⟨healthBytes acc⟩ }] acc else acc) l2) ∧
    (∃ (e : Stamp) (s : State) (l : Lane), l = nowOf e s ∧ l.ply.reasons.getLsbD 4 = true ∧ l.time.lastDisagree + secTc
          10 ≤ l.tc) ∧
    (∃ (e : Stamp) (s : State) (l : Lane), l = nowOf e s ∧ dieRuns l = true ∧ l.mode.mode ≠ .salvage ∧
          l.time.lastExchange + msTc 125 ≤ l.tc) := by
  refine ⟨?_, ?_, ?_, ?_, ?_, ?_, ?_, ?_, ?_, ?_, ?_, ?_, ?_, ?_, ?_, ?_, ?_⟩
  · exact ⟨(w0 : Stamp), (0 : Fin 2), at_ svc, _, rfl, by decide +kernel, by decide +kernel⟩
  · exact ⟨(w0 : Stamp), (0 : Fin 2), (.again 0 : PlyRx), (none : Option Nat), at_ svc, _, (0 : Nat), rfl, by
        decide +kernel, by decide +kernel⟩
  · exact ⟨(w0 : Stamp), (0 : Fin 2), (.frame 0 false none : PlyRx), (none : Option Nat), at_ svc, _, (0 : Nat),
        (none : Option PlyMsg), rfl, by decide +kernel, by decide +kernel⟩
  · exact ⟨(w0 : Stamp), (0 : Fin 2), (.frame 0 true none : PlyRx), (none : Option Nat), at_
        ({ svc with ply.link0.rxSeen := [0] }), _, (0 : Nat), (none : Option PlyMsg), rfl, by decide +kernel, by
        decide +kernel, by decide +kernel⟩
  · exact ⟨(w0 : Stamp), (0 : Fin 2), (.frame 0 true none : PlyRx), (none : Option Nat), at_ svc, _, (0 : Nat),
        (none : Option PlyMsg), rfl, by decide +kernel, by decide +kernel, by decide +kernel⟩
  · exact ⟨(w0 : Stamp), (0 : Fin 2), at_ svc, _, rfl, by decide +kernel, by decide +kernel, by decide +kernel⟩
  · exact ⟨(w0 : Stamp), (0 : Fin 2), at_ ({ svc with ply.link0.up := false, ply.link0.cleanSince := some 0 }), _, rfl,
        by decide +kernel, by decide +kernel, by decide +kernel, by decide +kernel⟩
  · exact ⟨(w0 : Stamp), (0 : Fin 2), at_ ({ svc with ply.link0.up := false }), _, rfl, by decide +kernel, by
        decide +kernel, by decide +kernel, by decide +kernel⟩
  · exact
      ⟨(w0 : Stamp), (ad 1 0 : AzDatagram), (none : Option Nat), at_ svc, _, rfl, by decide +kernel, by decide +kernel⟩
  · exact ⟨(w0 : Stamp), (ad 1 1 : AzDatagram), (none : Option Nat), at_
        ({ paired with ply.az := [(2, { AzPeer.reset with highest := 1, seen := [1] })] }), _, rfl, by decide +kernel,
        by decide +kernel, by decide +kernel, by decide +kernel⟩
  · exact ⟨(w0 : Stamp), (ad 1 1 : AzDatagram), (none : Option Nat), at_ (paired), _, rfl, by decide +kernel, by
        decide +kernel, by decide +kernel⟩
  · exact ⟨(w0 : Stamp), (0 : Nat), at_ svc, _, rfl, by decide +kernel, by decide +kernel⟩
  · exact ⟨(w0 : Stamp), (2 : Nat), at_ ({ paired with ply.az := [(2, { AzPeer.reset with up := true })] }), _, rfl, by
        decide +kernel, by decide +kernel, by decide +kernel⟩
  · exact ⟨(w0 : Stamp), at_ svc, _, _, _, rfl, rfl, rfl⟩
  · exact ⟨(w0 : Stamp), at_ svc, _, _, _, _, rfl, by decide +kernel, by decide +kernel, rfl, rfl, rfl⟩
  · exact ⟨(w0 : Stamp), at_ ({ svc with ply.reasons := 16 }), _, rfl, by decide +kernel, by decide +kernel⟩
  · exact ⟨(w0 : Stamp), at_ svc, _, rfl, by decide +kernel, by decide +kernel, by decide +kernel⟩

theorem witness_PlyMessagesComplete :
    (∃ (e : Stamp) (m : Nat) (h : HelloBody) (s : State) (l : Lane), l = nowOf e s ∧ dieRuns l = true ∧ knownSender l
          ⟨m, 0xFF, .hello h⟩ = true) ∧
    (∃ (e : Stamp) (m : Nat) (lease : Nat) (epoch : Nat) (counter : Nat) (periodUs : Nat) (guardUs : Nat) (s : State)
          (l : Lane) (k : LeaseKind), l = nowOf e s ∧ dieRuns l = true ∧ knownSender l
          ⟨m, lease, .renew epoch counter periodUs guardUs⟩ = true ∧ leaseNamed lease = some k) ∧
    (∃ (e : Stamp) (m : Nat) (lease : Nat) (epoch : Nat) (counter : Nat) (state : Nat) (s : State) (l : Lane)
          (k : LeaseKind), l = nowOf e s ∧ dieRuns l = true ∧ knownSender l ⟨m, lease, .renewAck epoch counter state⟩ =
          true ∧ leaseNamed lease = some k) ∧
    (∃ (e : Stamp) (m : Nat) (lease : Nat) (epoch : Nat) (s : State) (l : Lane) (k : LeaseKind), l = nowOf e s ∧ dieRuns
          l = true ∧ knownSender l ⟨m, lease, .yield epoch⟩ = true ∧ leaseNamed lease = some k) ∧
    (∃ (e : Stamp) (m : Nat) (lease : Nat) (epoch : Nat) (successor : Nat) (reason : Nat) (s : State) (l : Lane)
          (k : LeaseKind), l = nowOf e s ∧ dieRuns l = true ∧ knownSender l ⟨m, lease, .release epoch successor reason⟩
          = true ∧ leaseNamed lease = some k) ∧
    (∃ (e : Stamp) (m : Nat) (lease : Nat) (epoch : Nat) (target : Nat) (s : State) (l : Lane) (k : LeaseKind), l =
          nowOf e s ∧ dieRuns l = true ∧ knownSender l ⟨m, lease, .offer epoch target⟩ = true ∧ leaseNamed lease = some
          k) ∧
    (∃ (e : Stamp) (m : Nat) (lease : Nat) (epoch : Nat) (target : Nat) (s : State) (l : Lane) (k : LeaseKind), l =
          nowOf e s ∧ dieRuns l = true ∧ knownSender l ⟨m, lease, .accept epoch target⟩ = true ∧ leaseNamed lease = some
          k) ∧
    (∃ (e : Stamp) (m : Nat) (plane : Nat) (swapGen : Nat) (absent : Nat) (first : Nat) (digests : List Nat)
          (bad : Option Nat) (s : State) (l : Lane), l = nowOf e s ∧ dieRuns l = true ∧ knownSender l
          ⟨m, 0xFF, .digest plane swapGen absent first digests⟩ = true) ∧
    (∃ (e : Stamp) (m : Nat) (b : Bytes) (s : State) (l : Lane), l = nowOf e s ∧ dieRuns l = true ∧ knownSender l
          ⟨m, 0xFF, .health ⟨b⟩⟩ = true) ∧
    (∃ (e : Stamp) (m : Nat) (tx : Nat) (echoTx : Nat) (echoRx : Nat) (s : State) (l : Lane), l = nowOf e s ∧ dieRuns l
          = true ∧ knownSender l ⟨m, 0xFF, .time tx echoTx echoRx⟩ = true) ∧
    (∃ (e : Stamp) (m : Nat) (sources : Nat) (time : Nat) (s : State) (l : Lane), l = nowOf e s ∧ dieRuns l = true ∧
          knownSender l ⟨m, 0xFF, .tamper sources time⟩ = true) ∧
    (∃ (e : Stamp) (m : Nat) (x : MirrorKind) (s : State) (l : Lane) (p : Nat), l = nowOf e s ∧ dieRuns l = true ∧
          knownSender l ⟨m, 0xFF, .mirrorPins p⟩ = true ∧ x = .pins p) ∧
    (∃ (e : Stamp) (m : Nat) (item : Nat) (offset : Nat) (s : State) (l : Lane), l = nowOf e s ∧ dieRuns l = true ∧
          knownSender l ⟨m, 0xFF, .pullReq item offset⟩ = true) ∧
    (∃ (e : Stamp) (m : Nat) (c : PullItem) (total : Nat) (s : State) (l : Lane), l = nowOf e s ∧ dieRuns l = true ∧
          knownSender l ⟨m, 0xFF, .pullData c total⟩ = true) ∧
    (∃ (e : Stamp) (m : Nat) (plane : Nat) (result : Bool) (fail : Bool) (course : Nat) (bad : Option Nat) (s : State)
          (l : Lane), l = nowOf e s ∧ dieRuns l = true ∧ knownSender l ⟨m, 0xFF, .check plane result fail course⟩ =
          true) ∧
    (∃ (e : Stamp) (q : Nat) (vote : Nat) (s : State) (l : Lane), l = nowOf e s ∧ dieRuns l = true) := by
  refine ⟨?_, ?_, ?_, ?_, ?_, ?_, ?_, ?_, ?_, ?_, ?_, ?_, ?_, ?_, ?_, ?_⟩
  · exact ⟨(w0 : Stamp), (1 : Nat), (hb : HelloBody), at_ svc, _, rfl, by decide +kernel, by decide +kernel⟩
  · exact ⟨(w0 : Stamp), (1 : Nat), (0 : Nat), (0 : Nat), (0 : Nat), (0 : Nat), (0 : Nat), at_ svc, _, _, rfl, by
        decide +kernel, by decide +kernel, rfl⟩
  · exact ⟨(w0 : Stamp), (1 : Nat), (0 : Nat), (0 : Nat), (0 : Nat), (0 : Nat), at_ svc, _, _, rfl, by decide +kernel,
        by decide +kernel, rfl⟩
  · exact ⟨(w0 : Stamp), (1 : Nat), (0 : Nat), (0 : Nat), at_ svc, _, _, rfl, by decide +kernel, by decide +kernel, rfl⟩
  · exact ⟨(w0 : Stamp), (1 : Nat), (0 : Nat), (0 : Nat), (0 : Nat), (0 : Nat), at_ svc, _, _, rfl, by decide +kernel,
        by decide +kernel, rfl⟩
  · exact ⟨(w0 : Stamp), (1 : Nat), (0 : Nat), (0 : Nat), (0 : Nat), at_ svc, _, _, rfl, by decide +kernel, by
        decide +kernel, rfl⟩
  · exact ⟨(w0 : Stamp), (1 : Nat), (0 : Nat), (0 : Nat), (0 : Nat), at_ svc, _, _, rfl, by decide +kernel, by
        decide +kernel, rfl⟩
  · exact ⟨(w0 : Stamp), (1 : Nat), (0 : Nat), (0 : Nat), (0 : Nat), (0 : Nat), ([] : List Nat), (none : Option Nat),
        at_ svc, _, rfl, by decide +kernel, by decide +kernel⟩
  · exact ⟨(w0 : Stamp), (1 : Nat), ([] : Bytes), at_ svc, _, rfl, by decide +kernel, by decide +kernel⟩
  · exact
      ⟨(w0 : Stamp), (1 : Nat), (0 : Nat), (0 : Nat), (0 : Nat), at_ svc, _, rfl, by decide +kernel, by decide +kernel⟩
  · exact ⟨(w0 : Stamp), (1 : Nat), (0 : Nat), (0 : Nat), at_ svc, _, rfl, by decide +kernel, by decide +kernel⟩
  · exact ⟨(w0 : Stamp), (1 : Nat), (.pins 0 : MirrorKind), at_ svc, _, (0 : Nat), rfl, by decide +kernel, by
        decide +kernel, by decide +kernel⟩
  · exact ⟨(w0 : Stamp), (1 : Nat), (0 : Nat), (0 : Nat), at_ svc, _, rfl, by decide +kernel, by decide +kernel⟩
  · exact ⟨(w0 : Stamp), (1 : Nat), (.keyEpoch 0 : PullItem), (0 : Nat), at_ svc, _, rfl, by decide +kernel, by
        decide +kernel⟩
  · exact ⟨(w0 : Stamp), (1 : Nat), (0 : Nat), (false : Bool), (false : Bool), (0 : Nat), (none : Option Nat), at_ svc,
        _, rfl, by decide +kernel, by decide +kernel⟩
  · exact ⟨(w0 : Stamp), (0 : Nat), (0 : Nat), at_ svc, _, rfl, by decide +kernel⟩

theorem witness_ModeEventsComplete :
    (∃ (e : Stamp) (s : State) (l : Lane), l = nowOf e s ∧ l.mode.mode = .start ∧ dieRuns l = true ∧ l.mode.start.step =
          7 ∧ l.time.startSet = none ∧ timeStepDone l = true) ∧
    (∃ (e : Stamp) (built : Option BuiltImage) (s : State) (l : Lane) (q : BuildRun) (g : Staged), l = nowOf e s ∧
          l.mode.build = some q ∧ l.mode.staged = some g ∧ built = none) ∧
    (∃ (e : Stamp) (built : Option BuiltImage) (s : State) (l : Lane) (q : BuildRun) (g : Staged) (x : BuiltImage)
          (b : BootFlash), l = nowOf e s ∧ l.mode.build = some q ∧ l.mode.staged = some g ∧ built = some x ∧ x.length ≤
          25165568 ∧ b = setSlotIn (inactiveIsB l) (trialSlot g x) l.boot ∧ q.restart = false) ∧
    (∃ (e : Stamp) (built : Option BuiltImage) (s : State) (l : Lane) (q : BuildRun) (g : Staged) (x : BuiltImage)
          (b : BootFlash), l = nowOf e s ∧ l.mode.build = some q ∧ l.mode.staged = some g ∧ built = some x ∧ x.length ≤
          25165568 ∧ b = setSlotIn (inactiveIsB l) (trialSlot g x) l.boot ∧ q.restart = true) ∧
    (∃ (e : Stamp) (o : StartOutcome) (s : State) (l : Lane), l = nowOf e s ∧ l.mode.mode = .start ∧ dieRuns l = true ∧
          l.mode.start.step = 0) ∧
    (∃ (e : Stamp) (o : StartOutcome) (s : State) (l : Lane), l = nowOf e s ∧ l.mode.mode = .start ∧ dieRuns l = true ∧
          l.mode.start.step = 1) ∧
    (∃ (e : Stamp) (o : StartOutcome) (s : State) (l : Lane), l = nowOf e s ∧ l.mode.mode = .start ∧ dieRuns l = true ∧
          l.mode.start.step = 2) ∧
    (∃ (e : Stamp) (o : StartOutcome) (s : State) (l : Lane), l = nowOf e s ∧ l.mode.mode = .start ∧ dieRuns l = true ∧
          l.mode.start.step = 3) ∧
    (∃ (e : Stamp) (o : StartOutcome) (s : State) (l : Lane), l = nowOf e s ∧ l.mode.mode = .start ∧ dieRuns l = true ∧
          l.mode.start.step = 4) ∧
    (∃ (e : Stamp) (o : StartOutcome) (s : State) (l : Lane), l = nowOf e s ∧ l.mode.mode = .start ∧ dieRuns l = true ∧
          l.mode.start.step = 5) ∧
    (∃ (e : Stamp) (o : StartOutcome) (s : State) (l : Lane), l = nowOf e s ∧ l.mode.mode = .start ∧ dieRuns l = true ∧
          l.mode.start.step = 6) ∧
    (∃ (e : Stamp) (o : StartOutcome) (s : State) (l : Lane), l = nowOf e s ∧ l.mode.mode = .start ∧ dieRuns l = true ∧
          l.mode.start.step = 7 ∧ timeStepDone l = true) ∧
    (∃ (e : Stamp) (first0 : Bool) (retry0 : Bool) (first1 : Bool) (retry1 : Bool) (s : State) (l : Lane) (l1 : Lane)
          (l2 : Lane) (src : Nat), l = nowOf e s ∧ l.mode.mode = .start ∧ dieRuns l = true ∧ 8 ≤ l.mode.start.step ∧ l1
          = beginPull (setMode .service (startRecords l)) ∧ l2 = startAlarms
          (startRadios first0 retry0 first1 retry1 (rearmStored (startStreams (startPlanes l1)))) ∧ l2.time.startSet =
          some src) ∧
    (∃ (e : Stamp) (first0 : Bool) (retry0 : Bool) (first1 : Bool) (retry1 : Bool) (s : State) (l : Lane) (l1 : Lane)
          (l2 : Lane), l = nowOf e s ∧ l.mode.mode = .start ∧ dieRuns l = true ∧ 8 ≤ l.mode.start.step ∧ l1 = beginPull
          (setMode .service (startRecords l)) ∧ l2 = startAlarms
          (startRadios first0 retry0 first1 retry1 (rearmStored (startStreams (startPlanes l1)))) ∧ l2.time.startSet =
          none) ∧
    (∃ (e : Stamp) (s : State) (l : Lane) (l1 : Lane), l = nowOf e s ∧ l.mode.mode = .start ∧ dieRuns l = true ∧
          l.mode.start.failed = false ∧ l.mode.start.beganAt + secTc 10 ≤ l.tc ∧ l1 =
          { l with
            boot := { l.boot with failures := min 255 (l.boot.failures + 1) },
            mode := { l.mode with start := { l.mode.start with failed := true } } } ∧ (activeHeader l1).state = .valid ∧
          3 ≤ l1.boot.failures) ∧
    (∃ (e : Stamp) (s : State) (l : Lane) (l1 : Lane), l = nowOf e s ∧ l.mode.mode = .start ∧ dieRuns l = true ∧
          l.mode.start.failed = false ∧ l.mode.start.beganAt + secTc 10 ≤ l.tc ∧ l1 =
          { l with
            boot := { l.boot with failures := min 255 (l.boot.failures + 1) },
            mode := { l.mode with start := { l.mode.start with failed := true } } } ∧ l1.boot.failures < 3) ∧
    (∃ (e : Stamp) (s : State) (l : Lane), l = nowOf e s ∧ dieRuns l = true ∧ mayConfirm l = true) ∧
    (∃ (e : Stamp) (s : State) (l : Lane) (t : Nat), l = nowOf e s ∧ l.mode.window = some t ∧ dieRuns l = true ∧ t ≤
          l.tc) ∧
    (∃ (e : Stamp) (s : State) (l : Lane), l = nowOf e s ∧ dieRuns l = true) ∧
    (∃ (e : Stamp) (low : Bool) (held : Nat) (s : State) (l : Lane), l = nowOf e s ∧ l.powered = true ∧ l.dieOk = true ∧
          low = true ∧ 10 ≤ held) ∧
    (∃ (e : Stamp) (low : Bool) (held : Nat) (s : State) (l : Lane), l = nowOf e s ∧ l.powered = true ∧ l.dieOk = true ∧
          low = true ∧ held < 10) ∧
    (∃ (e : Stamp) (low : Bool) (held : Nat) (s : State) (l : Lane), l = nowOf e s ∧ l.powered = true ∧ l.dieOk = true ∧
          low = false ∧ l.mode.rstnLow = true) ∧
    (∃ (e : Stamp) (held : Nat) (s : State) (l : Lane), l = nowOf e s ∧ 1000 ≤ held) ∧
    (∃ (e : Stamp) (held : Nat) (s : State) (l : Lane), l = nowOf e s ∧ held < 1000) ∧
    (∃ (e : Stamp) (s : State) (l : Lane) (t : Nat), l = nowOf e s ∧ l.mode.rtcWakeAt = some t ∧ t ≤ l.tc) := by
  refine ⟨?_, ?_, ?_, ?_, ?_, ?_, ?_, ?_, ?_, ?_, ?_, ?_, ?_, ?_, ?_, ?_, ?_, ?_, ?_, ?_, ?_, ?_, ?_, ?_, ?_⟩
  · exact ⟨(w0 : Stamp), at_ (sta 7), _, rfl, by decide +kernel, by decide +kernel, by decide +kernel, by
        decide +kernel, by decide +kernel⟩
  · exact ⟨(w0 : Stamp), (none : Option BuiltImage), at_ (bld false), _, _, _, rfl, rfl, rfl, by decide +kernel⟩
  · exact ⟨(w0 : Stamp), (some built1 : Option BuiltImage), at_ (bld false), _, _, _, (built1 : BuiltImage), _, rfl,
        rfl, rfl, by decide +kernel, by decide +kernel, rfl, by decide +kernel⟩
  · exact ⟨(w0 : Stamp), (some built1 : Option BuiltImage), at_ (bld true), _, _, _, (built1 : BuiltImage), _, rfl, rfl,
        rfl, by decide +kernel, by decide +kernel, rfl, by decide +kernel⟩
  · exact
      ⟨(w0 : Stamp), (so : StartOutcome), at_ (sta 0), _, rfl, by decide +kernel, by decide +kernel, by decide +kernel⟩
  · exact
      ⟨(w0 : Stamp), (so : StartOutcome), at_ (sta 1), _, rfl, by decide +kernel, by decide +kernel, by decide +kernel⟩
  · exact
      ⟨(w0 : Stamp), (so : StartOutcome), at_ (sta 2), _, rfl, by decide +kernel, by decide +kernel, by decide +kernel⟩
  · exact
      ⟨(w0 : Stamp), (so : StartOutcome), at_ (sta 3), _, rfl, by decide +kernel, by decide +kernel, by decide +kernel⟩
  · exact
      ⟨(w0 : Stamp), (so : StartOutcome), at_ (sta 4), _, rfl, by decide +kernel, by decide +kernel, by decide +kernel⟩
  · exact
      ⟨(w0 : Stamp), (so : StartOutcome), at_ (sta 5), _, rfl, by decide +kernel, by decide +kernel, by decide +kernel⟩
  · exact
      ⟨(w0 : Stamp), (so : StartOutcome), at_ (sta 6), _, rfl, by decide +kernel, by decide +kernel, by decide +kernel⟩
  · exact ⟨(w0 : Stamp), (so : StartOutcome), at_ (sta 7), _, rfl, by decide +kernel, by decide +kernel, by
        decide +kernel, by decide +kernel⟩
  · exact ⟨(w0 : Stamp), (false : Bool), (false : Bool), (false : Bool), (false : Bool), at_
        ({ sta 8 with time.startSet := some 1 }), _, _, _, (1 : Nat), rfl, by decide +kernel, by decide +kernel, by
        decide +kernel, rfl, rfl, by decide +kernel⟩
  · exact ⟨(w0 : Stamp), (false : Bool), (false : Bool), (false : Bool), (false : Bool), at_ (sta 8), _, _, _, rfl, by
        decide +kernel, by decide +kernel, by decide +kernel, rfl, rfl, by decide +kernel⟩
  · exact ⟨(w0 : Stamp), at_ ({ sta 2 with boot.failures := 2, mode.active := .a }), _, _, rfl, by decide +kernel, by
        decide +kernel, by decide +kernel, by decide +kernel, rfl, by decide +kernel, by decide +kernel⟩
  · exact ⟨(w0 : Stamp), at_ (sta 2), _, _, rfl, by decide +kernel, by decide +kernel, by decide +kernel, by
        decide +kernel, rfl, by decide +kernel⟩
  · exact ⟨(w0 : Stamp), at_ ({ svc with
            mode.window := some (10 ^ 13), mode.active := .a, boot.slotA.state := .testing,
            mode.start.testsPassed := true, mode.cleanRounds := 10000 }), _, rfl, by decide +kernel, by decide +kernel⟩
  · exact ⟨(w0 : Stamp), at_ ({ svc with mode.window := some 0 }), _, _, rfl, rfl, by decide +kernel, by decide +kernel⟩
  · exact ⟨(w0 : Stamp), at_ svc, _, rfl, by decide +kernel⟩
  · exact ⟨(w0 : Stamp), (true : Bool), (10 : Nat), at_ svc, _, rfl, by decide +kernel, by decide +kernel, by
        decide +kernel, by decide +kernel⟩
  · exact ⟨(w0 : Stamp), (true : Bool), (9 : Nat), at_ svc, _, rfl, by decide +kernel, by decide +kernel, by
        decide +kernel, by decide +kernel⟩
  · exact ⟨(w0 : Stamp), (false : Bool), (0 : Nat), at_ ({ svc with mode.rstnLow := true }), _, rfl, by decide +kernel,
        by decide +kernel, by decide +kernel, by decide +kernel⟩
  · exact ⟨(w0 : Stamp), (1000 : Nat), at_ svc, _, rfl, by decide +kernel⟩
  · exact ⟨(w0 : Stamp), (999 : Nat), at_ svc, _, rfl, by decide +kernel⟩
  · exact ⟨(w0 : Stamp), at_ ({ asleep with mode.rtcWakeAt := some 0 }), _, _, rfl, rfl, by decide +kernel⟩

theorem witness_StreamEventsComplete :
    (∃ (e : Stamp) (stream : Nat) (f : Bytes) (s : State) (l : Lane) (x : StreamRun), l = nowOf e s ∧ streamRun l stream
          = some x ∧ serving l = true ∧ (x.state = .suspended ∨ x.state = .keyLost)) ∧
    (∃ (e : Stamp) (stream : Nat) (f : Bytes) (s : State) (l : Lane) (x : StreamRun), l = nowOf e s ∧ streamRun l stream
          = some x ∧ serving l = true ∧ x.state ≠ .suspended ∧ x.state ≠ .keyLost) ∧
    (∃ (e : Stamp) (stream : Nat) (s : State) (l : Lane) (x : StreamRun) (p : PmuPart), l = nowOf e s ∧ streamRun l
          stream = some x ∧ (streamCfg l stream).bind pmuPart = some p ∧ x.procedure = true ∧ x.newCfg = none ∧
          p.cfgSource = 0 ∧ serving l = true ∧ x.requestAt + msTc p.cfgRetryMs ≤ l.tc) ∧
    (∃ (e : Stamp) (stream : Nat) (s : State) (l : Lane) (x : StreamRun) (p : PmuPart), l = nowOf e s ∧ streamRun l
          stream = some x ∧ (streamCfg l stream).bind pmuPart = some p ∧ isTcpPmu l stream = true ∧ x.connected = false
          ∧ serving l = true ∧ x.attemptAt + msTc p.cfgRetryMs ≤ l.tc) ∧
    (∃ (e : Stamp) (stream : Nat) (s : State) (l : Lane) (x : StreamRun), l = nowOf e s ∧ streamRun l stream = some x ∧
          isTcpPmu l stream = true ∧ x.connected = false ∧ serving l = true ∧ x.procedure = false) ∧
    (∃ (e : Stamp) (stream : Nat) (s : State) (l : Lane) (x : StreamRun) (p : PmuPart), l = nowOf e s ∧ streamRun l
          stream = some x ∧ isTcpPmu l stream = true ∧ x.connected = false ∧ serving l = true ∧ x.procedure = true ∧
          (streamCfg l stream).bind pmuPart = some p ∧ p.cfgSource = 0) ∧
    (∃ (e : Stamp) (stream : Nat) (s : State) (l : Lane) (x : StreamRun), l = nowOf e s ∧ streamRun l stream = some x ∧
          x.connected = true) ∧
    (∃ (e : Stamp) (stream : Nat) (s : State) (l : Lane) (c : StreamCfg) (x : StreamRun) (p : LegacyPart) (st : Nat)
          (sq : Nat) (til : Nat), l = nowOf e s ∧ streamCfg l stream = some c ∧ streamRun l stream = some x ∧ c.part =
          .legacy p ∧ x.goose = some (st, sq, til) ∧ serving l = true ∧ til ≠ 0 ∧ til ≤ l.tc) ∧
    (∃ (e : Stamp) (stream : Nat) (s : State) (l : Lane) (x : StreamRun), l = nowOf e s ∧ streamRun l stream = some x ∧
          x.state = .learned ∧ x.lastFrameAt + secTc (((x.learnedBy.bind (tget l.cfg.learn)).map (·.idleS)).getD 600) ≤
          l.tc) := by
  refine ⟨?_, ?_, ?_, ?_, ?_, ?_, ?_, ?_, ?_⟩
  · exact ⟨(w0 : Stamp), (0 : Nat), ([] : Bytes), at_ (strm (stc (.pmu pp)) { run0 with state := .suspended }), _, _,
        rfl, rfl, by decide +kernel, by decide +kernel⟩
  · exact ⟨(w0 : Stamp), (0 : Nat), ([] : Bytes), at_ (strm (stc (.pmu pp)) run0), _, _, rfl, rfl, by decide +kernel, by
        decide +kernel, by decide +kernel⟩
  · exact ⟨(w0 : Stamp), (0 : Nat), at_ (strm (stc (.pmu pp)) { run0 with procedure := true }), _, _, _, rfl, rfl, rfl,
        by decide +kernel, by decide +kernel, by decide +kernel, by decide +kernel, by decide +kernel⟩
  · exact ⟨(w0 : Stamp), (0 : Nat), at_ (strm tcpC run0), _, _, _, rfl, rfl, rfl, by decide +kernel, by decide +kernel,
        by decide +kernel, by decide +kernel⟩
  · exact ⟨(w0 : Stamp), (0 : Nat), at_ (strm tcpC run0), _, _, rfl, rfl, by decide +kernel, by decide +kernel, by
        decide +kernel, by decide +kernel⟩
  · exact ⟨(w0 : Stamp), (0 : Nat), at_ (strm tcpC { run0 with procedure := true }), _, _, _, rfl, rfl, by
        decide +kernel, by decide +kernel, by decide +kernel, by decide +kernel, rfl, by decide +kernel⟩
  · exact ⟨(w0 : Stamp), (0 : Nat), at_ (strm tcpC { run0 with connected := true }), _, _, rfl, rfl, by decide +kernel⟩
  · exact ⟨(w0 : Stamp), (0 : Nat), at_ (strm (stc (.legacy lp)) { run0 with goose := some (1, 0, 5) }), _, _, _, _, _,
        _, _, rfl, rfl, rfl, rfl, rfl, by decide +kernel, by decide +kernel, by decide +kernel⟩
  · exact ⟨(w0 : Stamp), (0 : Nat), at_ (strm (stc (.pmu pp)) { run0 with state := .learned }), _, _, rfl, rfl, by
        decide +kernel, by decide +kernel⟩

theorem witness_DecodersComplete :
    (∃ (e : Stamp) (port : Fin 12) (s : State) (l : Lane) (it : QItem) (id : Nat) (pt : Nat) (ar : FineTag) (af : Nat)
          (fr : EthFrame) (src : Bytes) (sp : Nat) (dp : Nat) (p : Bytes), l = nowOf e s ∧ serving l = true ∧ headItem l
          port = some it ∧ it.payload = .ingest id pt ar af fr ∧ fr.content = .udp src sp dp p) ∧
    (∃ (e : Stamp) (port : Fin 12) (s : State) (l : Lane) (it : QItem) (id : Nat) (pt : Nat) (ar : FineTag) (af : Nat)
          (fr : EthFrame) (st : Nat) (p : Bytes), l = nowOf e s ∧ serving l = true ∧ headItem l port = some it ∧
          it.payload = .ingest id pt ar af fr ∧ fr.content = .pmuTcp st p) ∧
    (∃ (e : Stamp) (port : Fin 12) (s : State) (l : Lane) (it : QItem) (id : Nat) (pt : Nat) (ar : FineTag) (af : Nat)
          (fr : EthFrame) (g : SvFrame), l = nowOf e s ∧ serving l = true ∧ headItem l port = some it ∧ it.payload =
          .ingest id pt ar af fr ∧ fr.content = .sv g) ∧
    (∃ (e : Stamp) (port : Fin 12) (s : State) (l : Lane) (it : QItem) (id : Nat) (pt : Nat) (ar : FineTag) (af : Nat)
          (fr : EthFrame) (src : Bytes) (dp : Nat) (hd : SpduHeader) (g : SvFrame), l = nowOf e s ∧ serving l = true ∧
          headItem l port = some it ∧ it.payload = .ingest id pt ar af fr ∧ fr.content = .routedSv src dp hd g ∧
          hd.svSession = true ∧ hd.encrypted = false ∧ hd.macSupported = true) ∧
    (∃ (e : Stamp) (port : Fin 12) (s : State) (l : Lane) (it : QItem) (id : Nat) (pt : Nat) (ar : FineTag) (af : Nat)
          (fr : EthFrame) (src : Bytes) (dp : Nat) (hd : SpduHeader) (g : SvFrame), l = nowOf e s ∧ serving l = true ∧
          headItem l port = some it ∧ it.payload = .ingest id pt ar af fr ∧ fr.content = .routedSv src dp hd g ∧
          hd.encrypted = true ∧ (streamRun (popItem port l) id).any dataAllowed = true) ∧
    (∃ (e : Stamp) (port : Fin 12) (s : State) (l : Lane) (it : QItem) (id : Nat) (pt : Nat) (ar : FineTag) (af : Nat)
          (fr : EthFrame) (g : GooseMsg) (c : StreamCfg) (x : StreamRun) (p : LegacyPart) (au : Bool), l = nowOf e s ∧
          serving l = true ∧ headItem l port = some it ∧ it.payload = .ingest id pt ar af fr ∧ fr.content = .goose g ∧
          streamCfg (popItem port l) id = some c ∧ streamRun (popItem port l) id = some x ∧ c.part = .legacy p ∧
          dataAllowed x = true ∧ g.lengthsOk = true ∧ authOutcome (popItem port l) id g.auth.isSome
          (fun k => g.auth.any (fun a => extensionOk (popItem port l) id a k)) = .accept au) ∧
    (∃ (e : Stamp) (port : Fin 12) (s : State) (l : Lane) (it : QItem) (id : Nat) (pt : Nat) (ar : FineTag) (af : Nat)
          (fr : EthFrame) (g : GooseMsg) (c : StreamCfg) (x : StreamRun) (p : LegacyPart), l = nowOf e s ∧ serving l =
          true ∧ headItem l port = some it ∧ it.payload = .ingest id pt ar af fr ∧ fr.content = .goose g ∧ streamCfg
          (popItem port l) id = some c ∧ streamRun (popItem port l) id = some x ∧ c.part = .legacy p ∧ dataAllowed x =
          true ∧ g.lengthsOk = false) ∧
    (∃ (e : Stamp) (port : Fin 8) (s : State) (l : Lane) (it : QItem) (id : Nat) (ar : FineTag) (af : Nat) (b : Bytes),
          l = nowOf e s ∧ serving l = true ∧ headItem l (12 + port) = some it ∧ it.payload = .serial id ar af b) ∧
    (∃ (e : Stamp) (stream : Nat) (channel : Fin 8) (s : State) (l : Lane) (c : StreamCfg) (v : SvPart) (p : PeCfg)
          (x : PeRun) (b : PeBank) (j : Nat), l = nowOf e s ∧ serving l = true ∧ svStream l stream = some (c, v) ∧ peCfg
          l stream channel = some p ∧ peRun l stream channel = some x ∧ peBank l stream x.activeSlot = some b ∧
          nextOutput c p (delayNow l stream channel c x p.causal) (peSettle c b) x = some (false, j)) ∧
    (∃ (e : Stamp) (stream : Nat) (channel : Fin 8) (s : State) (l : Lane) (c : StreamCfg) (v : SvPart) (p : PeCfg)
          (x : PeRun) (b : PeBank) (j : Nat), l = nowOf e s ∧ serving l = true ∧ svStream l stream = some (c, v) ∧ peCfg
          l stream channel = some p ∧ peRun l stream channel = some x ∧ peBank l stream x.activeSlot = some b ∧
          nextOutput c p (delayNow l stream channel c x p.causal) (peSettle c b) x = some (true, j)) := by
  refine ⟨?_, ?_, ?_, ?_, ?_, ?_, ?_, ?_, ?_, ?_⟩
  · exact ⟨(w0 : Stamp), (0 : Fin 12), at_ (withItem svc 0 (ing (.udp [] 0 0 []))), _, _, _, _, _, _, _, _, _, _, _,
        rfl, by decide +kernel, rfl, rfl, rfl⟩
  · exact ⟨(w0 : Stamp), (0 : Fin 12), at_ (withItem svc 0 (ing (.pmuTcp 0 []))), _, _, _, _, _, _, _, _, _, rfl, by
        decide +kernel, rfl, rfl, rfl⟩
  · exact ⟨(w0 : Stamp), (0 : Fin 12), at_ (withItem svc 0 (ing (.sv svf))), _, _, _, _, _, _, _, _, rfl, by
        decide +kernel, rfl, rfl, rfl⟩
  · exact ⟨(w0 : Stamp), (0 : Fin 12), at_ (withItem svc 0
          (ing (.routedSv [] 0 { svSession := true, encrypted := false, macSupported := true, number := 0 } svf))), _,
        _, _, _, _, _, _, _, _, _, _, rfl, by decide +kernel, rfl, rfl, rfl, by decide +kernel, by decide +kernel, by
        decide +kernel⟩
  · exact ⟨(w0 : Stamp), (0 : Fin 12), at_ (withItem (strm (stc (.sv svp)) run0) 0
          (ing (.routedSv [] 0 { svSession := true, encrypted := true, macSupported := true, number := 0 } svf))), _, _,
        _, _, _, _, _, _, _, _, _, rfl, by decide +kernel, rfl, rfl, rfl, by decide +kernel, by decide +kernel⟩
  · exact ⟨(w0 : Stamp), (0 : Fin 12), at_ (withItem (strm (stc (.legacy lp)) run0) 0 (ing (.goose gm))), _, _, _, _, _,
        _, _, _, _, _, _, _, rfl, by decide +kernel, rfl, rfl, rfl, rfl, rfl, rfl, by decide +kernel, by decide +kernel,
        rfl⟩
  · exact ⟨(w0 : Stamp), (0 : Fin 12), at_
        (withItem (strm (stc (.legacy lp)) run0) 0 (ing (.goose { gm with lengthsOk := false }))), _, _, _, _, _, _, _,
        _, _, _, _, rfl, by decide +kernel, rfl, rfl, rfl, rfl, rfl, rfl, by decide +kernel, by decide +kernel⟩
  · exact ⟨(w0 : Stamp), (0 : Fin 8), at_ (withItem svc 12 (.serial 0 0 0 [])), _, _, _, _, _, _, rfl, by
        decide +kernel, rfl, rfl⟩
  · exact ⟨(w0 : Stamp), (0 : Nat), (0 : Fin 8), at_ (pe0 (per false (some 4))), _, _, _, _, _, _, _, rfl, by
        decide +kernel, rfl, rfl, rfl, rfl, rfl⟩
  · exact ⟨(w0 : Stamp), (0 : Nat), (0 : Fin 8), at_ (pe0 (per true none)), _, _, _, _, _, _, (1 : Nat), rfl, by
        decide +kernel, rfl, rfl, rfl, rfl, by decide +kernel⟩

theorem witness_SkeinEventsComplete :
    (∃ (e : Stamp) (s : State) (l : Lane) (a : Arrival) (t : List Arrival), l = nowOf e s ∧ l.streams.arrivals = a :: t
          ∧ serving l = true) ∧
    (∃ (e : Stamp) (plane : Fin 4) (s : State) (l : Lane) (c : PlaneCfg), l = nowOf e s ∧ planeCfg l plane = some c ∧
          serving l = true ∧ c.running = true ∧ courseInstant c (planeRun l plane).nextOpen ≤ nowUnits l) ∧
    (∃ (e : Stamp) (plane : Fin 4) (s : State) (l : Lane) (c : Course), l = nowOf e s ∧ serving l = true ∧ dueCourse l
          plane (·.deadlineTick) (·.waitUs) = some c) ∧
    (∃ (e : Stamp) (plane : Fin 4) (s : State) (l : Lane) (c : Course), l = nowOf e s ∧ serving l = true ∧ dueCourse l
          plane (fun c => c.quorumTick || c.rules.quorumCount == 0) (·.quorumWaitUs) = some c) ∧
    (∃ (e : Stamp) (late : Option Nat) (s : State) (l : Lane) (a : Arrival) (mask : BitVec 4)
          (t : List (Arrival × BitVec 4)), l = nowOf e s ∧ late = none ∧ l.skein.toHistory = (a, mask) :: t) ∧
    (∃ (e : Stamp) (late : Option Nat) (s : State) (l : Lane) (p : Nat) (n : Nat) (sp : Bool) (a : Arrival)
          (mask : BitVec 4), l = nowOf e s ∧ late = some p ∧ p ≤ 3 ∧ headItem l (22 + p) = some ⟨n, sp, .late a mask⟩)
        := by
  refine ⟨?_, ?_, ?_, ?_, ?_, ?_⟩
  · exact ⟨(w0 : Stamp), at_ ({ svc with streams.arrivals := [arv] }), _, _, _, rfl, rfl, by decide +kernel⟩
  · exact ⟨(w0 : Stamp), (0 : Fin 4), at_ (plane0 []), _, _, rfl, rfl, by decide +kernel, by decide +kernel, by
        decide +kernel⟩
  · exact ⟨(w0 : Stamp), (0 : Fin 4), at_ (plane0 [crs]), _, _, rfl, by decide +kernel, rfl⟩
  · exact ⟨(w0 : Stamp), (0 : Fin 4), at_ (plane0 [{ crs with rules.quorumCount := 1 }]), _,
        ({ crs with rules.quorumCount := 1 } : Course), rfl, by decide +kernel, by decide +kernel⟩
  · exact ⟨(w0 : Stamp), (none : Option Nat), at_ ({ svc with skein.toHistory := [(arv, 0)] }), _, _, _, _, rfl, by
        decide +kernel, rfl⟩
  · exact ⟨(w0 : Stamp), (some 0 : Option Nat), at_ (withItem svc 22 (.late arv 0)), _, _, _, _, _, _, rfl, rfl, by
        decide +kernel, rfl⟩

theorem witness_ArrayEventsComplete :
    (∃ (e : Stamp) (part : Fin 4) (s : State) (l : Lane) (c : ClosedCourse) (t : List ClosedCourse) (rect : Rect), l =
          nowOf e s ∧ serving l = true ∧ (partOf l part).phase = .idle ∧ (partOf l part).repairing = false ∧ changeReady
          l part = false ∧ (partOf l part).queue = c :: t ∧ (partOf l part).rect = some rect ∧ activeBank
          (partOf l part) = none) ∧
    (∃ (e : Stamp) (part : Fin 4) (s : State) (l : Lane) (c : ClosedCourse) (t : List ClosedCourse) (rect : Rect)
          (pat : Pattern), l = nowOf e s ∧ serving l = true ∧ (partOf l part).phase = .idle ∧ (partOf l part).repairing
          = false ∧ changeReady l part = false ∧ (partOf l part).queue = c :: t ∧ (partOf l part).rect = some rect ∧
          activeBank (partOf l part) = some pat ∧ (partOf l part).faulted = false ∧ c.width ≠ patWidth pat) ∧
    (∃ (e : Stamp) (part : Fin 4) (s : State) (l : Lane) (c : ClosedCourse) (x : ClosedCourse) (t : List ClosedCourse)
          (rect : Rect) (pat : Pattern) (l1 : Lane), l = nowOf e s ∧ serving l = true ∧ (partOf l part).phase = .idle ∧
          (partOf l part).repairing = false ∧ changeReady l part = false ∧ (partOf l part).queue = c :: t ∧
          (partOf l part).rect = some rect ∧ activeBank (partOf l part) = some pat ∧ (partOf l part).faulted = false ∧
          c.width = patWidth pat ∧ rateAllowed (patRates pat) c.rate = true ∧ (partOf l part).secondDue = false ∧ x =
          { c with status := withStatus (if l.health.throttled then 0x2000 else 0) c.status } ∧ l1 = setPart part
          { partOf l part with
            queue := t, phase := .casting, row := 0, skipped := [], secondDue := false, portion := false,
            round := some { course := x, attempt := 0, alarms := [], violation := none } } l) ∧
    (∃ (e : Stamp) (part : Fin 4) (err : RowError) (s : State) (l : Lane) (pat : Pattern) (rect : Rect), l = nowOf e s ∧
          activeBank (partOf l part) = some pat ∧ (partOf l part).rect = some rect ∧ serving l = true ∧
          (partOf l part).phase = .casting ∧ err = .none) ∧
    (∃ (e : Stamp) (part : Fin 4) (err : RowError) (s : State) (l : Lane) (pat : Pattern) (rect : Rect), l = nowOf e s ∧
          activeBank (partOf l part) = some pat ∧ (partOf l part).rect = some rect ∧ serving l = true ∧
          (partOf l part).phase = .running ∧ errorApplies l (partOf l part) pat rect err = true ∧
          ((∀ n, err ≠ .fetch n))) ∧
    (∃ (e : Stamp) (part : Fin 4) (err : RowError) (s : State) (l : Lane) (pat : Pattern) (rect : Rect) (n : Nat), l =
          nowOf e s ∧ activeBank (partOf l part) = some pat ∧ (partOf l part).rect = some rect ∧ serving l = true ∧
          (partOf l part).phase = .running ∧ errorApplies l (partOf l part) pat rect err = true ∧ err = .fetch n) ∧
    (∃ (e : Stamp) (part : Fin 4) (s : State) (l : Lane) (row : Nat) (rect : Rect), l = nowOf e s ∧ lastRow
          (partOf l part) = some row ∧ (partOf l part).rect = some rect ∧ serving l = true) ∧
    (∃ (e : Stamp) (part : Fin 4) (s : State) (l : Lane) (row : Nat) (rect : Rect), l = nowOf e s ∧ lastRow
          (partOf l part) = some row ∧ (partOf l part).rect = some rect ∧ serving l = true) ∧
    (∃ (e : Stamp) (part : Fin 4) (s : State) (l : Lane), l = nowOf e s ∧ serving l = true ∧ (partOf l part).phase =
          .running) ∧
    (∃ (e : Stamp) (part : Fin 4) (bad : Option Nat) (err : Option (Nat × Nat)) (s : State) (l : Lane) (pat : Pattern)
          (rect : Rect) (rd : Round) (c : ClosedCourse) (l1 : Lane) (l2 : Lane) (l3 : Lane) (l4 : Lane) (l5 : Lane)
          (l6 : Lane) (out : List OutLine), l = nowOf e s ∧ activeBank (partOf l part) = some pat ∧ (partOf l part).rect
          = some rect ∧ (partOf l part).round = some rd ∧ serving l = true ∧ (partOf l part).phase = .binding ∧ err =
          none ∧ c = rd.course ∧ l1 = settleTiles rect l ∧ out = roundLines l1 rect (partOf l part) pat c ∧ l2 =
          releaseAlarms part rd.alarms
          (cleanEnd part pat rd ((out.filter (fun x => x.1.any (fun k => k.1 == 3))).map (·.2)) l1) ∧ l3 = gaugeSample 3
          part (patRows pat + 8 + patOutLines pat : Nat) l2 ∧ l4 = deliverDerived c.plane c.instant (outputBytes out 1)
          l3 ∧ l5 = feedFeatures c.instant (outputBytes out 2) l4 ∧ l6 = publishCourse c.plane c.number c.instant c.rate
          c.status (some (outputBytes out 0)) l5) ∧
    (∃ (e : Stamp) (part : Fin 4) (bad : Option Nat) (err : Option (Nat × Nat)) (s : State) (l : Lane) (pat : Pattern)
          (rect : Rect) (rd : Round) (tile : Nat) (word : Nat), l = nowOf e s ∧ activeBank (partOf l part) = some pat ∧
          (partOf l part).rect = some rect ∧ (partOf l part).round = some rd ∧ serving l = true ∧ (partOf l part).phase
          = .binding ∧ err = some (tile, word) ∧ inRect rect tile = true) ∧
    (∃ (e : Stamp) (part : Fin 4) (s : State) (l : Lane) (r : Request) (bound : Nat), l = nowOf e s ∧ dieRuns l = true ∧
          changeReady l part = true ∧ (partOf l part).change = some (r, .swap bound)) ∧
    (∃ (e : Stamp) (part : Fin 4) (s : State) (l : Lane) (r : Request) (off : Nat) (d : Bytes), l = nowOf e s ∧ dieRuns
          l = true ∧ changeReady l part = true ∧ (partOf l part).change = some (r, .params off d)) ∧
    (∃ (e : Stamp) (part : Fin 4) (failing : Option Nat) (s : State) (l : Lane) (pat : Pattern) (rect : Rect)
          (rd : Round) (x : ClosedCourse) (l1 : Lane), l = nowOf e s ∧ activeBank (partOf l part) = some pat ∧
          (partOf l part).rect = some rect ∧ (partOf l part).round = some rd ∧ serving l = true ∧ (partOf l part).phase
          = .stopped ∧ rd.attempt = 0 ∧ (partOf l part).queue = [] ∧ (partOf l part).repairing = false ∧ x =
          { rd.course with status := withStatus 0x800 rd.course.status } ∧ l1 = setPart part
          { partOf l part with
            round := some { course := x, attempt := 1, alarms := [], violation := none },
            counters := { (partOf l part).counters with second := bump (partOf l part).counters.second } } l) ∧
    (∃ (e : Stamp) (part : Fin 4) (failing : Option Nat) (s : State) (l : Lane) (pat : Pattern) (rect : Rect)
          (rd : Round) (c : ClosedCourse) (t : List ClosedCourse), l = nowOf e s ∧ activeBank (partOf l part) = some pat
          ∧ (partOf l part).rect = some rect ∧ (partOf l part).round = some rd ∧ serving l = true ∧
          (partOf l part).phase = .stopped ∧ rd.attempt = 0 ∧ (partOf l part).queue = c :: t) ∧
    (∃ (e : Stamp) (part : Fin 4) (failing : Option Nat) (s : State) (l : Lane) (pat : Pattern) (rect : Rect)
          (rd : Round), l = nowOf e s ∧ activeBank (partOf l part) = some pat ∧ (partOf l part).rect = some rect ∧
          (partOf l part).round = some rd ∧ serving l = true ∧ (partOf l part).phase = .stopped ∧ rd.attempt ≠ 0 ∧
          failing = none) ∧
    (∃ (e : Stamp) (part : Fin 4) (s : State) (l : Lane) (r : Request) (image : Bytes) (f : LoadFail), l = nowOf e s ∧
          (partOf l part).verifying = some (r, image, none) ∧ verifyImage l part image image.length = some f) ∧
    (∃ (e : Stamp) (part : Fin 4) (s : State) (l : Lane) (r : Request) (image : Bytes) (lib : Option Nat), l = nowOf e s
          ∧ (partOf l part).verifying = some (r, image, lib) ∧
          (lib ≠ none ∨ verifyImage l part image image.length = none)) ∧
    (∃ (e : Stamp) (lost : List Nat) (s : State) (l : Lane) (tile : Nat) (t : List Nat) (stop : List Nat) (l1 : Lane)
          (l2 : Lane) (l3 : Lane), l = nowOf e s ∧ l.array.repairs = tile :: t ∧ repairReady l tile = true ∧ l1 =
          modTile tile (fun x => { x with mem := (lost.filter (· < 65536)).foldl (fun m w => putWord m w 0) x.mem }) l ∧
          stop = partsWith l1 (fun x => x / 8 == tile / 8 && tile % 8 ≤ x % 8) ∧ l2 =
          { l1 with
            array := { l1.array with repairs := t },
            health := { l1.health with retired := l1.health.retired ++ [physicalTile l tile] } } ∧ l3 = stop.foldl
          (fun acc n => setPart n { partOf acc n with
              repairing := t.any (fun x => (partsWith l2 (fun y => y / 8 == x / 8 && x % 8 ≤ y % 8)).contains n) } acc)
          l2) ∧
    (∃ (e : Stamp) (row : Fin 8) (s : State) (l : Lane), l = nowOf e s ∧ dieRuns l = true ∧ retiredColumn l row = none)
        ∧
    (∃ (e : Stamp) (s : State) (l : Lane) (l1 : Lane), l = nowOf e s ∧ dieRuns l = true ∧ l.health.throttled = false ∧
          l1 = setJunction (max 110 l.health.junction) l) ∧
    (∃ (e : Stamp) (s : State) (l : Lane) (l1 : Lane), l = nowOf e s ∧ dieRuns l = true ∧ l.health.throttled = true ∧
          l.array.throttledAt + secTc 1 ≤ l.tc ∧ l1 = setJunction (min 104 l.health.junction) l) := by
  refine ⟨?_, ?_, ?_, ?_, ?_, ?_, ?_, ?_, ?_, ?_, ?_, ?_, ?_, ?_, ?_, ?_, ?_, ?_, ?_, ?_, ?_, ?_⟩
  · exact ⟨(w0 : Stamp), (0 : Fin 4), at_ (arr { part0 with bank0 := none, queue := [cc] }), _, _, _, _, rfl, by
        decide +kernel, by decide +kernel, by decide +kernel, by decide +kernel, rfl, rfl, by decide +kernel⟩
  · exact ⟨(w0 : Stamp), (0 : Fin 4), at_ (arr { part0 with queue := [{ cc with width := 1 }] }), _, _, _, _, _, rfl, by
        decide +kernel, by decide +kernel, by decide +kernel, by decide +kernel, rfl, rfl, rfl, by decide +kernel, by
        decide +kernel⟩
  · exact ⟨(w0 : Stamp), (0 : Fin 4), at_ (arr { part0 with queue := [cc] }), _, _, _, _, _, _, _, rfl, by
        decide +kernel, by decide +kernel, by decide +kernel, by decide +kernel, rfl, rfl, rfl, by decide +kernel, rfl,
        by decide +kernel, by decide +kernel, rfl, rfl⟩
  · exact ⟨(w0 : Stamp), (0 : Fin 4), (.none : RowError), at_ (arr (busy .casting)), _, _, _, rfl, rfl, rfl, by
        decide +kernel, by decide +kernel, by decide +kernel⟩
  · exact ⟨(w0 : Stamp), (0 : Fin 4), (.corrected 0 : RowError), at_ (arr (busy .running)), _, _, _, rfl, rfl, rfl, by
        decide +kernel, by decide +kernel, by decide +kernel, fun n h => by cases h⟩
  · exact ⟨(w0 : Stamp), (0 : Fin 4), (.fetch 0 : RowError), at_ (arr (busy .running)), _, _, _, (0 : Nat), rfl, rfl,
        rfl, by decide +kernel, by decide +kernel, by decide +kernel, by decide +kernel⟩
  · exact ⟨(w0 : Stamp), (0 : Fin 4), at_ (arr (busy .running)), _, _, _, rfl, rfl, rfl, by decide +kernel⟩
  · exact ⟨(w0 : Stamp), (0 : Fin 4), at_ (arr (busy .running)), _, _, _, rfl, rfl, rfl, by decide +kernel⟩
  · exact ⟨(w0 : Stamp), (0 : Fin 4), at_ (arr (busy .running)), _, rfl, by decide +kernel, by decide +kernel⟩
  · exact ⟨(w0 : Stamp), (0 : Fin 4), (none : Option Nat), (none : Option (Nat × Nat)), at_ (arr (busy .binding)), _, _,
        _, _, _, _, _, _, _, _, _, _, rfl, rfl, rfl, rfl, by decide +kernel, by decide +kernel, by decide +kernel, rfl,
        rfl, rfl, rfl, rfl, rfl, rfl, rfl⟩
  · exact ⟨(w0 : Stamp), (0 : Fin 4), (none : Option Nat), (some (0, 0) : Option (Nat × Nat)), at_
        (arr (busy .binding)), _, _, _, _, (0 : Nat), (0 : Nat), rfl, rfl, rfl, rfl, by decide +kernel, by
        decide +kernel, by decide +kernel, by decide +kernel⟩
  · exact ⟨(w0 : Stamp), (0 : Fin 4), at_ (arr { part0 with change := some (rq0, .swap 0) }), _, (rq0 : Request),
        (0 : Nat), rfl, by decide +kernel, by decide +kernel, by decide +kernel⟩
  · exact ⟨(w0 : Stamp), (0 : Fin 4), at_ (arr { part0 with change := some (rq0, .params 0 []) }), _, _, _, _, rfl, by
        decide +kernel, by decide +kernel, rfl⟩
  · exact ⟨(w0 : Stamp), (0 : Fin 4), (none : Option Nat), at_ (arr (busy .stopped)), _, _, _, _, _, _, rfl, rfl, rfl,
        rfl, by decide +kernel, by decide +kernel, by decide +kernel, by decide +kernel, by decide +kernel, rfl, rfl⟩
  · exact ⟨(w0 : Stamp), (0 : Fin 4), (none : Option Nat), at_ (arr { busy .stopped with queue := [cc] }), _, _, _, _,
        _, _, rfl, rfl, rfl, rfl, by decide +kernel, by decide +kernel, by decide +kernel, rfl⟩
  · exact ⟨(w0 : Stamp), (0 : Fin 4), (none : Option Nat), at_
        (arr { busy .stopped with round := some { rnd with attempt := 1 } }), _, _, _, _, rfl, rfl, rfl, rfl, by
        decide +kernel, by decide +kernel, by decide +kernel, by decide +kernel⟩
  · exact ⟨(w0 : Stamp), (0 : Fin 4), at_ (arr { part0 with verifying := some (rq0, [], none) }), _, (rq0 : Request),
        ([] : Bytes), (⟨.imageInvalid, 1, 0xFF, 0⟩ : LoadFail), rfl, by decide +kernel, by decide +kernel⟩
  · exact ⟨(w0 : Stamp), (0 : Fin 4), at_ (arr { part0 with verifying := some (rq0, [], some 1) }), _, _, _,
        (some 1 : Option Nat), rfl, rfl, by decide +kernel⟩
  · exact ⟨(w0 : Stamp), ([] : List Nat), at_ ({ arr part0 with array.repairs := [0] }), _, _, _, _, _, _, _, rfl, rfl,
        by decide +kernel, rfl, rfl, rfl, rfl⟩
  · exact ⟨(w0 : Stamp), (0 : Fin 8), at_ svc, _, rfl, by decide +kernel, by decide +kernel⟩
  · exact ⟨(w0 : Stamp), at_ svc, _, _, rfl, by decide +kernel, by decide +kernel, rfl⟩
  · exact ⟨(w0 : Stamp), at_ ({ svc with health.throttled := true }), _, _, rfl, by decide +kernel, by decide +kernel,
        by decide +kernel, rfl⟩

theorem witness_PtpEventsComplete :
    (∃ (e : Stamp) (m : PtpEvent) (s : State) (l : Lane), l = nowOf e s ∧ ptpOn l m.port = true ∧ ptpMine l m.port
          m.domain m.version = false) ∧
    (∃ (e : Stamp) (m : PtpEvent) (s : State) (l : Lane), l = nowOf e s ∧ ptpOn l m.port = true ∧ ptpMine l m.port
          m.domain m.version = true ∧ m.twoStep = true) ∧
    (∃ (e : Stamp) (m : PtpEvent) (s : State) (l : Lane), l = nowOf e s ∧ ptpOn l m.port = true ∧ ptpMine l m.port
          m.domain m.version = true ∧ m.twoStep = false) ∧
    (∃ (e : Stamp) (m : PtpEvent) (s : State) (l : Lane) (t2 : Rat) (corr : Rat) (at_ : Nat), l = nowOf e s ∧ ptpOn l
          m.port = true ∧ ptpMine l m.port m.domain m.version = true ∧ (ptpPort l m.port).pendingSync = some
          (m.seq, t2, corr, at_) ∧ l.tc ≤ at_ + msTc 100) ∧
    (∃ (e : Stamp) (port : Fin 12) (domain : Nat) (version : Nat) (seq : Nat) (s : State) (l : Lane), l = nowOf e s ∧
          ptpOn l port = true ∧ ptpMine l port domain version = true ∧ (ptpCfg l port).twoStep = true) ∧
    (∃ (e : Stamp) (port : Fin 12) (domain : Nat) (version : Nat) (seq : Nat) (s : State) (l : Lane), l = nowOf e s ∧
          ptpOn l port = true ∧ ptpMine l port domain version = true ∧ (ptpCfg l port).twoStep = false) ∧
    (∃ (e : Stamp) (m : PdelayAnswer) (s : State) (l : Lane) (t1 : Rat), l = nowOf e s ∧ ptpOn l m.port = true ∧ ptpMine
          l m.port m.domain m.version = true ∧ (ptpPort l m.port).pdelayReq = some (m.seq, t1) ∧ m.followUp = false ∧
          m.twoStep = false) ∧
    (∃ (e : Stamp) (m : PdelayAnswer) (s : State) (l : Lane) (t1 : Rat), l = nowOf e s ∧ ptpOn l m.port = true ∧ ptpMine
          l m.port m.domain m.version = true ∧ (ptpPort l m.port).pdelayReq = some (m.seq, t1) ∧ m.followUp = false ∧
          m.twoStep = true) ∧
    (∃ (e : Stamp) (m : PdelayAnswer) (s : State) (l : Lane) (t1 : Rat) (t2 : Rat) (t4 : Rat), l = nowOf e s ∧ ptpOn l
          m.port = true ∧ ptpMine l m.port m.domain m.version = true ∧ (ptpPort l m.port).pdelayReq = some (m.seq, t1) ∧
          m.followUp = true ∧ (ptpPort l m.port).pdelayResp = some (m.seq, t2, t4)) ∧
    (∃ (e : Stamp) (a : Announce) (s : State) (l : Lane) (l1 : Lane), l = nowOf e s ∧ ptpOn l a.port = true ∧ ptpMine l
          a.port a.domain a.version = true ∧ l1 = decidePorts
          (setPtpPort a.port { ptpPort l a.port with announce := some (a, l.tc) } l) ∧ (ptpPort l1 a.port).state ≠
          .slave) ∧
    (∃ (e : Stamp) (port : Fin 12) (s : State) (l : Lane) (ld : Lane) (l1 : Lane) (q : Nat), l = nowOf e s ∧ ptpOn l
          port = true ∧ ld = decidePorts l ∧ (ptpPort ld port).state ≠ .master ∧ q = ((ptpPort ld port).txSeq + 1) %
          65536 ∧ l1 = setPtpPort port { ptpPort ld port with
            txSeq := q, pdelayReq := some (q, fullNs (nowFull ld) + ((ptpCfg ld port).txExtraNs : Rat)),
            pdelayResp := none } ld) ∧
    (∃ (e : Stamp) (port : Fin 12) (s : State) (l : Lane) (ld : Lane) (l1 : Lane) (l2 : Lane) (q : Nat)
          (today : Bool → Bool), l = nowOf e s ∧ ptpOn l port = true ∧ ld = decidePorts l ∧ (ptpPort ld port).state =
          .master ∧ (ptpCfg ld port).twoStep = false ∧ q = ((ptpPort ld port).txSeq + 1) % 65536 ∧ today =
          (fun del => ld.time.leap.any (fun lp => lp.deletion == del && lp.soc == endOfUtcDay ld && !ld.time.leapDone))
          ∧ l1 = setPtpPort port { ptpPort ld port with
            txSeq := q, pdelayReq := some (q, fullNs (nowFull ld) + ((ptpCfg ld port).txExtraNs : Rat)),
            pdelayResp := none } ld ∧ l2 = emit (.ptp port (.sync q false)) l1) := by
  refine ⟨?_, ?_, ?_, ?_, ?_, ?_, ?_, ?_, ?_, ?_, ?_, ?_⟩
  · exact ⟨(w0 : Stamp), ({ pev true with domain := 1 } : PtpEvent), at_ (ptp0 .reset), _, rfl, by decide +kernel, by
        decide +kernel⟩
  · exact ⟨(w0 : Stamp), (pev true : PtpEvent), at_ (ptp0 .reset), _, rfl, by decide +kernel, by decide +kernel, by
        decide +kernel⟩
  · exact ⟨(w0 : Stamp), (pev false : PtpEvent), at_ (ptp0 .reset), _, rfl, by decide +kernel, by decide +kernel, by
        decide +kernel⟩
  · exact ⟨(w0 : Stamp), (pev true : PtpEvent), at_
        (ptp0 { PtpPortSt.reset with pendingSync := some (1, 0, 0, svc.tc) }), _, (0 : Rat), (0 : Rat), (svc.tc : Nat),
        rfl, by decide +kernel, by decide +kernel, by decide +kernel, by decide +kernel⟩
  · exact ⟨(w0 : Stamp), (0 : Fin 12), (0 : Nat), (2 : Nat), (0 : Nat), at_
        ({ ptp0 .reset with cfg.ptpPorts := [(0, { PtpPortCfg.dflt with enable := true, twoStep := true })] }), _, rfl,
        by decide +kernel, by decide +kernel, by decide +kernel⟩
  · exact ⟨(w0 : Stamp), (0 : Fin 12), (0 : Nat), (2 : Nat), (0 : Nat), at_ (ptp0 .reset), _, rfl, by decide +kernel, by
        decide +kernel, by decide +kernel⟩
  · exact ⟨(w0 : Stamp), (pda false false : PdelayAnswer), at_ (ptp0 { PtpPortSt.reset with pdelayReq := some (1, 0) }),
        _, (0 : Rat), rfl, by decide +kernel, by decide +kernel, by decide +kernel, by decide +kernel, by
        decide +kernel⟩
  · exact ⟨(w0 : Stamp), (pda false true : PdelayAnswer), at_ (ptp0 { PtpPortSt.reset with pdelayReq := some (1, 0) }),
        _, (0 : Rat), rfl, by decide +kernel, by decide +kernel, by decide +kernel, by decide +kernel, by
        decide +kernel⟩
  · exact ⟨(w0 : Stamp), (pda true false : PdelayAnswer), at_
        (ptp0 { PtpPortSt.reset with pdelayReq := some (1, 0), pdelayResp := some (1, 0, 0) }), _, (0 : Rat), (0 : Rat),
        (0 : Rat), rfl, by decide +kernel, by decide +kernel, by decide +kernel, by decide +kernel, by decide +kernel⟩
  · exact ⟨(w0 : Stamp), (ann : Announce), at_
        ({ ptp0 .reset with cfg.ptpPorts := [(0, { PtpPortCfg.dflt with enable := true, role := 2 })] }), _, _, rfl, by
        decide +kernel, by decide +kernel, rfl, by decide +kernel⟩
  · exact ⟨(w0 : Stamp), (0 : Fin 12), at_
        ({ ptp0 .reset with cfg.ptpPorts := [(0, { PtpPortCfg.dflt with enable := true, role := 1 })] }), _, _, _, _,
        rfl, by decide +kernel, rfl, by decide +kernel, rfl, rfl⟩
  · exact ⟨(w0 : Stamp), (0 : Fin 12), at_ (ptp0 { PtpPortSt.reset with state := .master }), _, _, _, _, _, _, rfl, by
        decide +kernel, rfl, by decide +kernel, by decide +kernel, rfl, rfl, rfl, rfl⟩

theorem witness_TimeEventsComplete :
    (∃ (e : Stamp) (edge : Nat) (s : State) (l : Lane), l = nowOf e s ∧ tensionRuns l = true ∧ l.time.compactNext =
          none) ∧
    (∃ (e : Stamp) (m : TodMessage) (s : State) (l : Lane) (utc : Nat) (at_ : Nat) (eg : Rat) (l1 : Lane), l = nowOf e s
          ∧ tensionRuns l = true ∧ m = .zda true utc ∧ l.time.ppsEdge = some (eg, at_) ∧ l.cfg.timeRef.todCompact =
          false ∧ l.tc ≤ at_ + msTc 900 ∧ l1 = { l with time := { l.time with ppsEdge := none } }) ∧
    (∃ (e : Stamp) (m : TodMessage) (s : State) (l : Lane) (b : Bytes), l = nowOf e s ∧ tensionRuns l = true ∧ m =
          .compact b ∧ l.cfg.timeRef.todCompact = true ∧ compactOk b = true) ∧
    (∃ (e : Stamp) (f : IrigFrame) (s : State) (l : Lane) (y : Nat) (sec : Nat) (l1 : Lane), l = nowOf e s ∧ tensionRuns
          l = true ∧ f.am = l.cfg.timeRef.irigAm ∧ f.year = some y ∧ l.cfg.timeRef.irig1344 = false ∧ sec = utcToTai l
          ((((yearDays y + f.day - 1) * 86400 + f.second : Nat) : Int) - 60 * l.cfg.timeRef.irigTzMin).toNat
          (fullNs f.mark) ∧ l1 = setRef .irig { l.time.irig with traceable := false, accuracyNs := 0, utc := none } l ∧
          l1.time.selected ≠ some .irig) ∧
    (∃ (e : Stamp) (k : RefKind) (s : State) (l : Lane) (t : Nat), l = nowOf e s ∧ (refOf l.time k).lastValid = some t ∧
          t + lossWindow l k ≤ l.tc ∧ (refOf l.time k).qualified = true) ∧
    (∃ (e : Stamp) (s : State) (l : Lane) (k : RefKind), l = nowOf e s ∧ bestRef l = some k ∧ l.cfg.timeRef.revertive =
          true ∧ betterThanSelected l k = true ∧ (refOf l.time k).qualifiedAt + secTc l.cfg.timeRef.revertS ≤ l.tc) ∧
    (∃ (e : Stamp) (s : State) (l : Lane), l = nowOf e s ∧ l.time.state = .holdover ∧ estErr l = none ∧ l.time.unlocked
          = false) ∧
    (∃ (e : Stamp) (s : State) (l : Lane) (x : Rat), l = nowOf e s ∧ l.time.state = .holdover ∧ estErr l = some x ∧
          (l.cfg.servo.unlockBoundNs : Rat) < x ∧ l.time.unlocked = false) ∧
    (∃ (e : Stamp) (s : State) (l : Lane), l = nowOf e s ∧ tensionRuns l = true ∧ l.cfg.timeRef.ref10mEnable = true) ∧
    (∃ (e : Stamp) (s : State) (l : Lane), l = nowOf e s ∧ tensionRuns l = true ∧ l.time.state = .locked ∧ l.rtc = none)
        ∧
    (∃ (e : Stamp) (s : State) (l : Lane) (v : Nat) (t : Nat), l = nowOf e s ∧ tensionRuns l = true ∧ l.time.state =
          .locked ∧ l.rtc = some (v, t) ∧ t + secTc 1 ≤ l.tc) ∧
    (∃ (e : Stamp) (s : State) (l : Lane) (t0 : Nat) (i : Nat) (d : Rat) (cf : Int), l = nowOf e s ∧ l.time.lockedSince
          = some t0 ∧ l.cfg.servo.tempLearn = true ∧ l.time.state = .locked ∧ t0 + secTc 600 ≤ l.tc ∧ l.time.lastLearn +
          secTc 60 ≤ l.tc ∧ i = (max 0 (min 15 ((l.health.junction + 45) / 10))).toNat ∧ d =
          (histMean l (secTc 60) (fun x => freqOf x.2.1) (freqOf l.time.y) - holdoverFreq l) * 10000000000 / 16 ∧ cf =
          saturate 16 (roundTenth ((l.cfg.servo.tempTable.getD i 0 : Rat) + d))) ∧
    (∃ (e : Stamp) (s : State) (l : Lane) (i : Nat), l = nowOf e s ∧ leapInstant l.time = some i ∧ i ≤ nowSec l ∧
          l.time.leapDone = false) ∧
    (∃ (e : Stamp) (s : State) (l : Lane) (lp : Leap) (i : Nat), l = nowOf e s ∧ l.time.leap = some lp ∧ leapInstant
          l.time = some i ∧ i + 86400 ≤ nowSec l) := by
  refine ⟨?_, ?_, ?_, ?_, ?_, ?_, ?_, ?_, ?_, ?_, ?_, ?_, ?_, ?_⟩
  · exact ⟨(w0 : Stamp), (0 : Nat), at_ svc, _, rfl, by decide +kernel, by decide +kernel⟩
  · exact ⟨(w0 : Stamp), (.zda true 0 : TodMessage), at_ ({ svc with time.ppsEdge := some (0, svc.tc) }), _, (0 : Nat),
        _, _, _, rfl, by decide +kernel, by decide +kernel, rfl, by decide +kernel, by decide +kernel, rfl⟩
  · exact ⟨(w0 : Stamp), (.compact cpt : TodMessage), at_ ({ svc with cfg.timeRef.todCompact := true }), _,
        (cpt : Bytes), rfl, by decide +kernel, by decide +kernel, by decide +kernel, by decide +kernel⟩
  · exact ⟨(w0 : Stamp), (irg : IrigFrame), at_ svc, _, _, _, _, rfl, by decide +kernel, by decide +kernel, rfl, by
        decide +kernel, rfl, rfl, by decide +kernel⟩
  · exact ⟨(w0 : Stamp), (.pps : RefKind), at_ ({ svc with time.pps := ppsRef }), _, (0 : Nat), rfl, by decide +kernel,
        by decide +kernel, by decide +kernel⟩
  · exact ⟨(w0 : Stamp), at_ ({ svc with time.ptp := ppsRef, time.selected := some .pps }), _, (.ptp : RefKind), rfl, by
        decide +kernel, by decide +kernel, by decide +kernel, by decide +kernel⟩
  · exact ⟨(w0 : Stamp), at_ (hold), _, rfl, by decide +kernel, by decide +kernel, by decide +kernel⟩
  · exact ⟨(w0 : Stamp), at_ ({ hold with time.e0 := some 100000 }), _, _, rfl, by decide +kernel, rfl, by
        decide +kernel, by decide +kernel⟩
  · exact
      ⟨(w0 : Stamp), at_ ({ svc with cfg.timeRef.ref10mEnable := true }), _, rfl, by decide +kernel, by decide +kernel⟩
  · exact
      ⟨(w0 : Stamp), at_ ({ locked with rtc := none }), _, rfl, by decide +kernel, by decide +kernel, by decide +kernel⟩
  · exact ⟨(w0 : Stamp), at_ ({ locked with rtc := some (0, 0) }), _, _, _, rfl, by decide +kernel, by decide +kernel,
        rfl, by decide +kernel⟩
  · exact ⟨(w0 : Stamp), at_ ({ locked with time.lockedSince := some 0 }), _, _, _, _, _, rfl, rfl, by decide +kernel,
        by decide +kernel, by decide +kernel, by decide +kernel, rfl, rfl, rfl⟩
  · exact ⟨(w0 : Stamp), at_ ({ svc with time.leap := some ⟨false, 0⟩, time.time := 2 ^ 80 }), _, (38 : Nat), rfl, by
        decide +kernel, by decide +kernel, by decide +kernel⟩
  · exact ⟨(w0 : Stamp), at_ ({ svc with time.leap := some ⟨false, 0⟩, time.time := 2 ^ 84 }), _, _, _, rfl, rfl, rfl,
        by decide +kernel⟩

theorem witness_MeshEventsComplete :
    (∃ (e : Stamp) (radio : Fin 2) (coin : Bool) (s : State) (l : Lane) (l0 : Lane), l = nowOf e s ∧ serving l = true ∧
          radioRuns (meshRun l radio) = true ∧ (meshRun l radio).state ≠ .stopped ∧ l0 = meshAlarms radio l ∧ slotNow l0
          radio = none) ∧
    (∃ (e : Stamp) (radio : Fin 2) (coin : Bool) (s : State) (l : Lane) (l0 : Lane) (n : Nat) (into : Rat)
          (r1 : MeshRun), l = nowOf e s ∧ serving l = true ∧ radioRuns (meshRun l radio) = true ∧
          (meshRun l radio).state ≠ .stopped ∧ l0 = meshAlarms radio l ∧ slotNow l0 radio = some (n, into) ∧
          (meshRun l0 radio).slot ≠ some n ∧ (meshRun l0 radio).state = .root ∧ (meshRun l0 radio).pending = none ∧ r1 =
          { meshRun l0 radio with slot := some n, pending := none }) ∧
    (∃ (e : Stamp) (radio : Fin 2) (coin : Bool) (s : State) (l : Lane) (l0 : Lane) (n : Nat) (into : Rat)
          (r1 : MeshRun), l = nowOf e s ∧ serving l = true ∧ radioRuns (meshRun l radio) = true ∧
          (meshRun l radio).state ≠ .stopped ∧ l0 = meshAlarms radio l ∧ slotNow l0 radio = some (n, into) ∧
          (meshRun l0 radio).slot ≠ some n ∧ (meshRun l0 radio).state = .joined ∧ (meshRun l0 radio).pending = none ∧ r1
          = { meshRun l0 radio with slot := some n, pending := none }) ∧
    (∃ (e : Stamp) (radio : Fin 2) (ok : Bool) (psdu : Bytes) (riseAgo : Nat) (fallAgo : Nat) (s : State) (l : Lane), l
          = nowOf e s ∧ serving l = true ∧ (meshRun l radio).state = .root ∧ ok = false) ∧
    (∃ (e : Stamp) (radio : Fin 2) (ok : Bool) (psdu : Bytes) (riseAgo : Nat) (fallAgo : Nat) (s : State) (l : Lane), l
          = nowOf e s ∧ serving l = true ∧ (meshRun l radio).state = .root ∧ ok = true ∧ inRange 12 1023 psdu.length =
          false) ∧
    (∃ (e : Stamp) (radio : Fin 2) (ok : Bool) (psdu : Bytes) (riseAgo : Nat) (fallAgo : Nat) (s : State) (l : Lane), l
          = nowOf e s ∧ serving l = true ∧ (meshRun l radio).state = .root ∧ ok = true ∧ inRange 12 1023 psdu.length =
          true ∧ (parsePicot psdu).pan ≠ (meshCfg l radio).panId) ∧
    (∃ (e : Stamp) (radio : Fin 2) (ok : Bool) (psdu : Bytes) (riseAgo : Nat) (fallAgo : Nat) (s : State) (l : Lane)
          (f : PicotRx) (l2 : Lane), l = nowOf e s ∧ serving l = true ∧ (meshRun l radio).state = .root ∧ ok = true ∧
          inRange 12 1023 psdu.length = true ∧ f = parsePicot psdu ∧ f.control = 0xA841 ∧ f.pan =
          (meshCfg l radio).panId ∧ inRange 1 (meshCfg l radio).maxVersion f.version = true ∧ picotRoom psdu f = true ∧
          bodyExact f = true ∧ picotForUs l radio f = true ∧ micOk l radio f = true ∧ (meshCfg l radio).role = 1 ∧
          isRelayed f.type = false ∧ l2 = meshAlarms radio (heardNode radio f.src l) ∧ picotRoomOk l2 radio f = true) ∧
    (∃ (e : Stamp) (radio : Fin 2) (s : State) (l : Lane) (dest : Nat) (seq : Nat) (version : Nat) (at_ : Rat)
          (l1 : Lane), l = nowOf e s ∧ (meshRun l radio).ack = some (dest, seq, version, at_) ∧ at_ ≤ (l.tc : Rat) ∧ l1
          = setMesh radio { meshRun l radio with ack := none } l ∧ mayTransmit l radio = true) ∧
    (∃ (e : Stamp) (radio : Fin 2) (s : State) (l : Lane) (it : QItem) (origin : Nat) (ar : FineTag) (af : Nat)
          (b : Bytes), l = nowOf e s ∧ serving l = true ∧ headItem l (20 + radio) = some it ∧ it.payload = .mesh origin
          ar af b ∧ meshStream (popItem (20 + radio) l) radio origin = none) ∧
    (∃ (e : Stamp) (radio : Fin 2) (s : State) (l : Lane) (it : QItem) (origin : Nat) (id : Nat) (ar : FineTag)
          (af : Nat) (b : Bytes) (l1 : Lane) (l3 : Lane) (c : StreamCfg) (x : StreamRun), l = nowOf e s ∧ serving l =
          true ∧ headItem l (20 + radio) = some it ∧ it.payload = .mesh origin ar af b ∧ l1 = popItem (20 + radio) l ∧
          meshStream l1 radio origin = some id ∧ streamCfg l1 id = some c ∧ streamRun l1 id = some x ∧ dataAllowed x =
          true ∧ tget (meshRun l1 radio).reports origin = none ∧ l3 = countStream id
          (fun k => { k with missing := (k.missing + 0) % 2 ^ 32 })
          (setMesh radio { meshRun l1 radio with reports := tput (meshRun l1 radio).reports origin (field b 0 2) } l1))
        ∧
    (∃ (e : Stamp) (radio : Fin 2) (s : State) (l : Lane) (n : Nat) (into : Rat) (x : MemberSt) (l1 : Lane), l = nowOf e
          s ∧ slotNow l radio = some (n, into) ∧ serving l = true ∧ (meshRun l radio).state = .joined ∧
          (meshRun l radio).member.beaconSf ≠ some (n / slotsPer (meshCfg l radio)) ∧ windowClose l radio
          (meshRun l radio).member into (n % slotsPer (meshCfg l radio)) ≤ (l.tc : Rat) ∧ x =
          { (meshRun l radio).member with
            beaconSf := some (n / slotsPer (meshCfg l radio)), misses := (meshRun l radio).member.misses + 1 } ∧ l1 =
          setMesh radio { meshRun l radio with
            member := x,
            counters := { (meshRun l radio).counters with missed := bump (meshRun l radio).counters.missed } } l) ∧
    (∃ (e : Stamp) (radio : Fin 2) (s : State) (l : Lane), l = nowOf e s ∧ serving l = true ∧ (meshRun l radio).state =
          .scanning ∧ (meshRun l radio).member.candidate = none ∧ (meshRun l radio).member.scanAt +
          (slotsPer (meshCfg l radio) + 1) * slotTc (meshCfg l radio) ≤ l.tc) ∧
    (∃ (e : Stamp) (radio : Fin 2) (child : Option Nat) (s : State) (l : Lane) (tm : Nat), l = nowOf e s ∧ serving l =
          true ∧ child = none ∧ (meshRun l radio).state = .joined ∧ (meshRun l radio).unacked.isSome = true ∧ tm =
          (meshCfg l radio).supervisionSf * slotsPer (meshCfg l radio) * slotTc (meshCfg l radio) ∧
          (meshRun l radio).member.lastAck + tm ≤ l.tc) ∧
    (∃ (e : Stamp) (radio : Fin 2) (child : Option Nat) (s : State) (l : Lane) (a : Nat) (n : NodeRun) (tm : Nat), l =
          nowOf e s ∧ serving l = true ∧ child = some a ∧ tget (meshRun l radio).nodes a = some n ∧
          (meshRun l radio).state = .root ∧ n.joined = true ∧ n.lost = false ∧ tm = (meshCfg l radio).supervisionSf *
          slotsPer (meshCfg l radio) * slotTc (meshCfg l radio) ∧ n.lastHeard + tm ≤ l.tc) ∧
    (∃ (e : Stamp) (radio : Fin 2) (s : State) (l : Lane) (t : Nat), l = nowOf e s ∧ (meshRun l radio).member.request =
          some t ∧ serving l = true ∧ (meshRun l radio).state = .scanning ∧ t + 4 * slotsPer (meshCfg l radio) * slotTc
          (meshCfg l radio) ≤ l.tc) := by
  refine ⟨?_, ?_, ?_, ?_, ?_, ?_, ?_, ?_, ?_, ?_, ?_, ?_, ?_, ?_, ?_⟩
  · exact ⟨(w0 : Stamp), (0 : Fin 2), (false : Bool), at_ (mesh0 memC (mrun .joined)), _, _, rfl, by decide +kernel, by
        decide +kernel, by decide +kernel, rfl, by decide +kernel⟩
  · exact ⟨(w0 : Stamp), (0 : Fin 2), (false : Bool), at_ (mesh0 rootC (mrun .root)), _, _, _, _, _, rfl, by
        decide +kernel, by decide +kernel, by decide +kernel, rfl, rfl, by decide +kernel, by decide +kernel, by
        decide +kernel, rfl⟩
  · exact ⟨(w0 : Stamp), (0 : Fin 2), (false : Bool), at_ (mesh0 memC { mrun .joined with member := memTimed }), _, _,
        _, _, _, rfl, by decide +kernel, by decide +kernel, by decide +kernel, rfl, rfl, by decide +kernel, by
        decide +kernel, by decide +kernel, rfl⟩
  · exact ⟨(w0 : Stamp), (0 : Fin 2), (false : Bool), ([] : Bytes), (0 : Nat), (0 : Nat), at_
        (mesh0 rootC (mrun .root)), _, rfl, by decide +kernel, by decide +kernel, by decide +kernel⟩
  · exact ⟨(w0 : Stamp), (0 : Fin 2), (true : Bool), ([] : Bytes), (0 : Nat), (0 : Nat), at_ (mesh0 rootC (mrun .root)),
        _, rfl, by decide +kernel, by decide +kernel, by decide +kernel, by decide +kernel⟩
  · exact ⟨(w0 : Stamp), (0 : Fin 2), (true : Bool), (pdu 1 : Bytes), (0 : Nat), (0 : Nat), at_
        (mesh0 rootC (mrun .root)), _, rfl, by decide +kernel, by decide +kernel, by decide +kernel, by decide +kernel,
        by decide +kernel⟩
  · exact ⟨(w0 : Stamp), (0 : Fin 2), (true : Bool), (pdu 0 : Bytes), (0 : Nat), (0 : Nat), at_
        (mesh0 rootC (mrun .root)), _, _, _, rfl, by decide +kernel, by decide +kernel, by decide +kernel, by
        decide +kernel, rfl, by decide +kernel, by decide +kernel, by decide +kernel, by decide +kernel, by
        decide +kernel, by decide +kernel, by decide +kernel, by decide +kernel, by decide +kernel, rfl, by
        decide +kernel⟩
  · exact ⟨(w0 : Stamp), (0 : Fin 2), at_ (mesh0 rootC { mrun .root with ack := some (5, 0, 1, 0) }), _, (5 : Nat),
        (0 : Nat), (1 : Nat), (0 : Rat), _, rfl, by decide +kernel, by decide +kernel, rfl, by decide +kernel⟩
  · exact ⟨(w0 : Stamp), (0 : Fin 2), at_ (withItem svc 20 (.mesh 5 0 0 (zeros 16))), _, _, _, _, _, _, rfl, by
        decide +kernel, rfl, rfl, by decide +kernel⟩
  · exact ⟨(w0 : Stamp), (0 : Fin 2), at_ (withItem (strm (stc (.mesh 0 5)) run0) 20 (.mesh 5 0 0 (zeros 16))), _, _, _,
        (0 : Nat), _, _, _, _, _, _, _, rfl, by decide +kernel, rfl, rfl, rfl, by decide +kernel, rfl, rfl, by
        decide +kernel, by decide +kernel, rfl⟩
  · exact ⟨(w0 : Stamp), (0 : Fin 2), at_ ({ mesh0 memC { mrun .joined with member := memTimed } with tc := 10 ^ 9 }),
        _, _, _, _, _, rfl, rfl, by decide +kernel, by decide +kernel, by decide +kernel, by decide +kernel, rfl, rfl⟩
  · exact ⟨(w0 : Stamp), (0 : Fin 2), at_ (mesh0 memC (mrun .scanning)), _, rfl, by decide +kernel, by decide +kernel,
        by decide +kernel, by decide +kernel⟩
  · exact ⟨(w0 : Stamp), (0 : Fin 2), (none : Option Nat), at_
        (mesh0 memC { mrun .joined with
            member := memTimed,
            unacked := some {
                frame := {
                    dest := 0, ackReq := true, version := 1, type := 1, origin := 5, oseq := 0, ttl := 0, body := [],
                    stamp := false }, sent := 1, seq := 0, ackAt := 0 } }), _, _, rfl, by decide +kernel, by
        decide +kernel, by decide +kernel, by decide +kernel, rfl, by decide +kernel⟩
  · exact ⟨(w0 : Stamp), (0 : Fin 2), (some 5 : Option Nat), at_ (mesh0 rootC { mrun .root with nodes := [(5, ndr)] }),
        _, (5 : Nat), _, _, rfl, by decide +kernel, by decide +kernel, rfl, by decide +kernel, by decide +kernel, by
        decide +kernel, rfl, by decide +kernel⟩
  · exact ⟨(w0 : Stamp), (0 : Fin 2), at_
        (mesh0 memC { mrun .scanning with member := { MemberSt.new 0 with request := some 0 } }), _, (0 : Nat), rfl, by
        decide +kernel, by decide +kernel, by decide +kernel, by decide +kernel⟩

theorem witness_SwatchEventsComplete :
    (∃ (e : Stamp) (s : State) (l : Lane) (f : Feed) (t : List Feed), l = nowOf e s ∧ l.swatch.trigFeed = f :: t ∧
          dieRuns l = true) ∧
    (∃ (e : Stamp) (pin : Fin 2) (level : Bool) (held : Nat) (s : State) (l : Lane) (k : Nat) (t : TriggerCfg)
          (l0 : Lane), l = nowOf e s ∧ dieRuns l = true ∧ l.cfg.triggers = [(k, t)] ∧ t.enable = true ∧ t.type = 6 ∧
          t.object = pin.val ∧ level = t.falling ∧ l0 = { l with
            swatch := { l.swatch with
                pinLevels := if level then l.swatch.pinLevels ||| BitVec.ofNat 2 (2 ^ pin.val) else l.swatch.pinLevels
                  &&& ~~~(BitVec.ofNat 2 (2 ^ pin.val)) } }) ∧
    (∃ (e : Stamp) (pin : Fin 2) (level : Bool) (held : Nat) (s : State) (l : Lane) (k : Nat) (t : TriggerCfg)
          (at_ : Int) (l0 : Lane), l = nowOf e s ∧ dieRuns l = true ∧ l.cfg.triggers = [(k, t)] ∧ t.enable = true ∧
          t.type = 6 ∧ t.object = pin.val ∧ level ≠ t.falling ∧ l0 =
          { l with
            swatch := { l.swatch with
                pinLevels := if level then l.swatch.pinLevels ||| BitVec.ofNat 2 (2 ^ pin.val) else l.swatch.pinLevels
                  &&& ~~~(BitVec.ofNat 2 (2 ^ pin.val)) } } ∧ (triggerRun l0 k).state = 2 ∧ t.hold ≤ held ∧ at_ =
          ((l.time.time - tickInc l.time.y * usTc held) / 2 ^ 40 : Nat)) ∧
    (∃ (e : Stamp) (s : State) (l : Lane) (f : Feed) (t : List Feed), l = nowOf e s ∧ l.swatch.rowFeed = f :: t ∧
          dieRuns l = true) ∧
    (∃ (e : Stamp) (profile : Fin 16) (s : State) (l : Lane) (c : ProfileCfg), l = nowOf e s ∧ profileCfg l profile =
          some c ∧ dieRuns l = true ∧ formsRows (profileRun l profile) = true ∧ rowInstant c.rate c.avgN
          (profileRun l profile).nextRow + (usUnits (1000 * c.rowWaitMs) : Nat) ≤ (nowUnits l : Nat)) ∧
    (∃ (e : Stamp) (profile : Fin 16) (s : State) (l : Lane) (c : ProfileCfg) (l1 : Lane), l = nowOf e s ∧ profileCfg l
          profile = some c ∧ dieRuns l = true ∧ awaitsRearm (profileRun l profile) = true ∧ l1 = emptyRing profile l ∧
          takeRing profile c (ringSegments l1 c - (profileRun l profile).ring.length) l1 = none) ∧
    (∃ (e : Stamp) (profile : Fin 16) (s : State) (l : Lane) (c : ProfileCfg) (l1 : Lane) (l2 : Lane), l = nowOf e s ∧
          profileCfg l profile = some c ∧ dieRuns l = true ∧ awaitsRearm (profileRun l profile) = true ∧
          (profileRun l profile).state ≠ .waiting ∧ l1 = emptyRing profile l ∧ takeRing profile c
          (ringSegments l1 c - (profileRun l profile).ring.length) l1 = some l2) ∧
    (∃ (e : Stamp) (level : Nat) (s : State) (l : Lane), l = nowOf e s ∧ level ≤ 384 * 1024) ∧
    (∃ (e : Stamp) (level : Nat) (s : State) (l : Lane) (l2 : Lane) (p : Nat), l = nowOf e s ∧ dieRuns l = true ∧ 384 *
          1024 < level ∧ l.swatch.halvedAt = none ∧ l2 =
          { setBuffer level l with swatch := { (setBuffer level l).swatch with halvedAt := some l.tc } } ∧ busiest l2 =
          some p) ∧
    (∃ (e : Stamp) (level : Nat) (s : State) (l : Lane) (t : Nat) (l1 : Lane), l = nowOf e s ∧ l1 = setBuffer level l ∧
          l1.swatch.lowSince = some t ∧ dieRuns l = true ∧ t + msTc 100 ≤ l.tc) := by
  refine ⟨?_, ?_, ?_, ?_, ?_, ?_, ?_, ?_, ?_, ?_⟩
  · exact ⟨(w0 : Stamp), at_ ({ svc with swatch.trigFeed := [.alarm 0 0] }), _, _, _, rfl, rfl, by decide +kernel⟩
  · exact ⟨(w0 : Stamp), (0 : Fin 2), (false : Bool), (0 : Nat), at_ ({ svc with cfg.triggers := [(0, trg)] }), _,
        (0 : Nat), (trg : TriggerCfg), _, rfl, by decide +kernel, by decide +kernel, by decide +kernel, by
        decide +kernel, by decide +kernel, by decide +kernel, rfl⟩
  · exact ⟨(w0 : Stamp), (0 : Fin 2), (true : Bool), (0 : Nat), at_
        ({ svc with cfg.triggers := [(0, trg)], swatch.triggers := [(0, { TriggerRun.zero with state := 2 })] }), _,
        (0 : Nat), (trg : TriggerCfg), _, _, rfl, by decide +kernel, by decide +kernel, by decide +kernel, by
        decide +kernel, by decide +kernel, by decide +kernel, rfl, by decide +kernel, by decide +kernel, rfl⟩
  · exact ⟨(w0 : Stamp), at_ ({ svc with swatch.rowFeed := [.alarm 0 0] }), _, _, _, rfl, rfl, by decide +kernel⟩
  · exact ⟨(w0 : Stamp), (0 : Fin 16), at_ ({ prof armedR with time.time := 2 ^ 84 }), _, _, rfl, rfl, by
        decide +kernel, by decide +kernel, by decide +kernel⟩
  · exact ⟨(w0 : Stamp), (0 : Fin 16), at_
        ({ prof { ProfileRun.zero with state := .waiting } with swatch.poolMib := 0 }), _, _, _, rfl, rfl, by
        decide +kernel, by decide +kernel, rfl, by decide +kernel⟩
  · exact ⟨(w0 : Stamp), (0 : Fin 16), at_
        ({ prof { ProfileRun.zero with state := .recording } with swatch.poolMib := 4 }), _, _, _, _, rfl, rfl, by
        decide +kernel, by decide +kernel, by decide +kernel, rfl, rfl⟩
  · exact ⟨(w0 : Stamp), (0 : Nat), at_ svc, _, rfl, by decide +kernel⟩
  · exact ⟨(w0 : Stamp), (400 * 1024 : Nat), at_ (prof armedR), _, _, (0 : Nat), rfl, by decide +kernel, by
        decide +kernel, by decide +kernel, rfl, by decide +kernel⟩
  · exact ⟨(w0 : Stamp), (0 : Nat), at_ ({ prof armedR with swatch.lowSince := some 0 }), _, (0 : Nat), _, rfl, rfl, by
        decide +kernel, by decide +kernel, by decide +kernel⟩

theorem witness_KeyEventsComplete :
    (∃ (e : Stamp) (s : State) (l : Lane), l = nowOf e s ∧ l.keys.lockoutUntil ≤ l.tc) ∧
    (∃ (e : Stamp) (first : Bool) (retry : Bool) (s : State) (l : Lane), l = nowOf e s ∧ dieRuns l = true ∧
          l.keys.lastTest + secTc 10 ≤ l.tc ∧ first = true) ∧
    (∃ (e : Stamp) (first : Bool) (retry : Bool) (s : State) (l : Lane), l = nowOf e s ∧ dieRuns l = true ∧
          l.keys.lastTest + secTc 10 ≤ l.tc ∧ first = false ∧ retry = true) ∧
    (∃ (e : Stamp) (first : Bool) (retry : Bool) (s : State) (l : Lane), l = nowOf e s ∧ dieRuns l = true ∧
          l.keys.lastTest + secTc 10 ≤ l.tc ∧ first = false ∧ retry = false) ∧
    (∃ (e : Stamp) (sources : BitVec 10) (s : State) (l : Lane) (l1 : Lane), l = nowOf e s ∧ l1 =
          { l with keys := { l.keys with inputs := l.keys.inputs ||| sources } } ∧ l.dieOk = true ∧ l.powered = true ∧
          l.mode.mode ≠ .dormant ∧ l.mode.mode ≠ .start ∧ sources &&& enabledSources l ≠ 0) ∧
    (∃ (e : Stamp) (sources : BitVec 10) (s : State) (l : Lane) (l1 : Lane), l = nowOf e s ∧ l1 =
          { l with keys := { l.keys with inputs := l.keys.inputs ||| sources } } ∧ l.dieOk = true ∧ l.powered = true ∧
          l.mode.mode = .start ∧ sources &&& enabledSources l ≠ 0) ∧
    (∃ (e : Stamp) (sources : BitVec 10) (s : State) (l : Lane) (l1 : Lane), l = nowOf e s ∧ l1 =
          { l with keys := { l.keys with inputs := l.keys.inputs ||| sources } } ∧ l.dieOk = true ∧ l.powered = true ∧
          l.mode.mode = .dormant ∧ sources &&& enabledSources l &&& dormantSources ≠ 0) ∧
    (∃ (e : Stamp) (sources : BitVec 10) (s : State) (l : Lane) (l1 : Lane), l = nowOf e s ∧ l1 =
          { l with keys := { l.keys with inputs := l.keys.inputs ||| sources } } ∧ l.dieOk = true ∧ l.powered = true ∧
          l.mode.mode ≠ .dormant ∧ sources &&& enabledSources l = 0) ∧
    (∃ (e : Stamp) (source : Fin 10) (s : State) (l : Lane) (m : BitVec 10) (d : BitVec 6), l = nowOf e s ∧ m =
          BitVec.ofNat 10 (2 ^ source.val) ∧ d = l.keys.deferred &&& m.setWidth 6) ∧
    (∃ (e : Stamp) (s : State) (l : Lane), l = nowOf e s ∧ s.overvoltage = false ∧ l.powered = false) ∧
    (∃ (e : Stamp) (s : State) (l : Lane), l = nowOf e s ∧ s.overvoltage = false ∧ l.powered = true) := by
  refine ⟨?_, ?_, ?_, ?_, ?_, ?_, ?_, ?_, ?_, ?_, ?_⟩
  · exact ⟨(w0 : Stamp), at_ svc, _, rfl, by decide +kernel⟩
  · exact ⟨(w0 : Stamp), (true : Bool), (false : Bool), at_ svc, _, rfl, by decide +kernel, by decide +kernel, by
        decide +kernel⟩
  · exact ⟨(w0 : Stamp), (false : Bool), (true : Bool), at_ svc, _, rfl, by decide +kernel, by decide +kernel, by
        decide +kernel, by decide +kernel⟩
  · exact ⟨(w0 : Stamp), (false : Bool), (false : Bool), at_ svc, _, rfl, by decide +kernel, by decide +kernel, by
        decide +kernel, by decide +kernel⟩
  · exact ⟨(w0 : Stamp), (0x40 : BitVec 10), at_ svc, _, _, rfl, rfl, by decide +kernel, by decide +kernel, by
        decide +kernel, by decide +kernel, by decide +kernel⟩
  · exact ⟨(w0 : Stamp), (0x40 : BitVec 10), at_ (sta 1), _, _, rfl, rfl, by decide +kernel, by decide +kernel, by
        decide +kernel, by decide +kernel⟩
  · exact ⟨(w0 : Stamp), (0x40 : BitVec 10), at_ (asleep), _, _, rfl, rfl, by decide +kernel, by decide +kernel, by
        decide +kernel, by decide +kernel⟩
  · exact ⟨(w0 : Stamp), (0 : BitVec 10), at_ svc, _, _, rfl, rfl, by decide +kernel, by decide +kernel, by
        decide +kernel, by decide +kernel⟩
  · exact ⟨(w0 : Stamp), (0 : Fin 10), at_ svc, _, _, _, rfl, rfl, rfl⟩
  · exact ⟨(w0 : Stamp), at_ ({ svc with powered := false }), _, rfl, by decide +kernel, by decide +kernel⟩
  · exact ⟨(w0 : Stamp), at_ svc, _, rfl, by decide +kernel, by decide +kernel⟩

theorem witness_SupplyEventsComplete :
    (∃ (e : Stamp) (mv : Nat) (s : State) (l : Lane), l = nowOf e s ∧ l.powered = true ∧ l.dieOk = true ∧
          l.mode.supply.armed = true ∧ l.mode.mode ≠ .start ∧ dieRuns l = true) ∧
    (∃ (e : Stamp) (mv : Nat) (s : State) (l : Lane) (l2 : Lane), l = nowOf e s ∧ l.powered = true ∧ l.dieOk = true ∧
          l.mode.supply.armed = true ∧ l.mode.mode = .start ∧ l.mode.start.step < 6 ∧ l2 = freshLane .start .vin
          (leave 2 false { l with mode := { l.mode with supply := { l.mode.supply with armed := false } } })) ∧
    (∃ (e : Stamp) (s : State) (l : Lane) (t : Nat) (ended : OutageReport → OutageReport) (l1 : Lane), l = nowOf e s ∧
          l.mode.supply.warnAt = some t ∧ dieRuns l = true ∧ t + msTc 100 ≤ l.tc ∧ ended =
          (fun x => { x with flags := x.flags + b2n (!bit x.flags 0), returnTime := some (nowFull l) }) ∧ l1 =
          { l with
            mode := { l.mode with supply := { l.mode.supply with warnAt := none } },
            journal := l.journal.map (fun (j : Journal) => { j with report := ended j.report }) }) ∧
    (∃ (e : Stamp) (s : State) (l : Lane), l = nowOf e s ∧ l.powered = true ∧ l.dieOk = true) ∧
    (∃ (e : Stamp) (s : State) (l : Lane) (t : Nat), l = nowOf e s ∧ l.mode.supply.heldAt = some t ∧ l.powered = true ∧
          l.dieOk = true ∧ t + msTc 100 ≤ l.tc) ∧
    (∃ (e : Stamp) (celsius : Int) (s : State) (l : Lane), l = nowOf e s ∧ dieRuns l = true ∧ 120 ≤ celsius) ∧
    (∃ (e : Stamp) (celsius : Int) (s : State) (l : Lane), l = nowOf e s ∧ dieRuns l = true ∧ celsius ≤ 110 ∧
          l.health.overheat = true) ∧
    (∃ s : State, s.overvoltage = false) ∧
    (∃ s : State, s.overvoltage = true) := by
  refine ⟨?_, ?_, ?_, ?_, ?_, ?_, ?_, ?_, ?_⟩
  · exact ⟨(w0 : Stamp), (0 : Nat), at_ (supplied), _, rfl, by decide +kernel, by decide +kernel, by decide +kernel, by
        decide +kernel, by decide +kernel⟩
  · exact ⟨(w0 : Stamp), (0 : Nat), at_ ({ supplied with mode.mode := .start, mode.start.step := 2 }), _, _, rfl, by
        decide +kernel, by decide +kernel, by decide +kernel, by decide +kernel, by decide +kernel, rfl⟩
  · exact ⟨(w0 : Stamp), at_ ({ svc with mode.supply := { armed := false, warnAt := some 0, heldAt := none } }), _, _,
        _, _, rfl, rfl, by decide +kernel, by decide +kernel, rfl, rfl⟩
  · exact ⟨(w0 : Stamp), at_ svc, _, rfl, by decide +kernel, by decide +kernel⟩
  · exact ⟨(w0 : Stamp), at_ ({ svc with mode.supply := { armed := false, warnAt := none, heldAt := some 0 } }), _, _,
        rfl, rfl, by decide +kernel, by decide +kernel, by decide +kernel⟩
  · exact ⟨(w0 : Stamp), (120 : Int), at_ svc, _, rfl, by decide +kernel, by decide +kernel⟩
  · exact ⟨(w0 : Stamp), (110 : Int), at_ ({ svc with health.overheat := true }), _, rfl, by decide +kernel, by
        decide +kernel, by decide +kernel⟩
  · exact ⟨State.reset, rfl⟩
  · exact ⟨{ State.reset with overvoltage := true }, rfl⟩

theorem witness_HealthEventsComplete :
    (∃ (e : Stamp) (v : DrillVerdict) (s : State) (l : Lane) (d : DrillRun) (l1 : Lane), l = nowOf e s ∧ l.health.drill
          = some d ∧ l.mode.mode = .drill ∧ dieRuns l = true ∧ drillStatus d v = .ok ∧ d.exitOnDone = false ∧ l1 =
          raiseEvent 370 { l with health := { l.health with drill := none, lastDrill := drillResult d v } }) ∧
    (∃ (e : Stamp) (v : DrillVerdict) (s : State) (l : Lane) (d : DrillRun) (l1 : Lane) (st : Status), l = nowOf e s ∧
          l.health.drill = some d ∧ l.mode.mode = .drill ∧ dieRuns l = true ∧ drillStatus d v = st ∧ st ≠ .ok ∧
          d.exitOnDone = false ∧ l1 = raiseEvent 371
          { l with health := { l.health with drill := none, lastDrill := drillResult d v } }) ∧
    (∃ (e : Stamp) (gauge : Fin 64) (reading : Int) (s : State) (l : Lane) (c : GaugeCfg), l = nowOf e s ∧ tget
          l.cfg.gauges gauge = some c ∧ serving l = true ∧ (gaugeVal l gauge).lastSample + usTc c.intervalUs ≤ l.tc ∧
          c.source = 5) ∧
    (∃ (e : Stamp) (gauge : Fin 64) (reading : Int) (s : State) (l : Lane) (c : GaugeCfg), l = nowOf e s ∧ tget
          l.cfg.gauges gauge = some c ∧ serving l = true ∧ (gaugeVal l gauge).lastSample + usTc c.intervalUs ≤ l.tc ∧
          c.source = 7) ∧
    (∃ (e : Stamp) (gauge : Fin 64) (reading : Int) (s : State) (l : Lane) (c : GaugeCfg), l = nowOf e s ∧ tget
          l.cfg.gauges gauge = some c ∧ serving l = true ∧ (gaugeVal l gauge).lastSample + usTc c.intervalUs ≤ l.tc ∧
          c.source = 8) ∧
    (∃ (e : Stamp) (site : ErrorSite) (repeatOk : Bool) (covered : List (Nat × Word)) (s : State) (l : Lane), l = nowOf
          e s ∧ dieRuns l = true ∧ repeatOk = true) ∧
    (∃ (e : Stamp) (site : ErrorSite) (repeatOk : Bool) (covered : List (Nat × Word)) (s : State) (l : Lane), l = nowOf
          e s ∧ dieRuns l = true ∧ repeatOk = false) ∧
    (∃ (e : Stamp) (site : ErrorSite) (corrected : Bool) (repeatOk : Bool) (s : State) (l : Lane) (a : Nat), l = nowOf e
          s ∧ dieRuns l = true ∧ corrected = true ∧ site = .sram a) ∧
    (∃ (e : Stamp) (site : ErrorSite) (corrected : Bool) (repeatOk : Bool) (s : State) (l : Lane) (p : Nat)
          (o : DramPage), l = nowOf e s ∧ dieRuns l = true ∧ corrected = true ∧ site = .dram p o) ∧
    (∃ (e : Stamp) (site : ErrorSite) (corrected : Bool) (repeatOk : Bool) (s : State) (l : Lane) (a : Nat), l = nowOf e
          s ∧ dieRuns l = true ∧ corrected = false ∧ site = .sram a ∧ repeatOk = true) := by
  refine ⟨?_, ?_, ?_, ?_, ?_, ?_, ?_, ?_, ?_, ?_⟩
  · exact ⟨(w0 : Stamp), (verd 1 : DrillVerdict), at_ (drilling), _, (drl 1 : DrillRun), _, rfl, by decide +kernel, by
        decide +kernel, by decide +kernel, by decide +kernel, by decide +kernel, rfl⟩
  · exact ⟨(w0 : Stamp), (verd 0 : DrillVerdict), at_ (drilling), _, (drl 1 : DrillRun), _, (.faultLasting : Status),
        rfl, by decide +kernel, by decide +kernel, by decide +kernel, by decide +kernel, by decide +kernel, by
        decide +kernel, rfl⟩
  · exact ⟨(w0 : Stamp), (0 : Fin 64), (0 : Int), at_ (gau 5), _, _, rfl, rfl, by decide +kernel, by decide +kernel, by
        decide +kernel⟩
  · exact ⟨(w0 : Stamp), (0 : Fin 64), (0 : Int), at_ (gau 7), _, _, rfl, rfl, by decide +kernel, by decide +kernel, by
        decide +kernel⟩
  · exact ⟨(w0 : Stamp), (0 : Fin 64), (0 : Int), at_ (gau 8), _, _, rfl, rfl, by decide +kernel, by decide +kernel, by
        decide +kernel⟩
  · exact ⟨(w0 : Stamp), (.core 0 : ErrorSite), (true : Bool), ([] : List (Nat × Word)), at_ svc, _, rfl, by
        decide +kernel, by decide +kernel⟩
  · exact ⟨(w0 : Stamp), (.core 0 : ErrorSite), (false : Bool), ([] : List (Nat × Word)), at_ svc, _, rfl, by
        decide +kernel, by decide +kernel⟩
  · exact ⟨(w0 : Stamp), (.sram 0 : ErrorSite), (true : Bool), (false : Bool), at_ svc, _, (0 : Nat), rfl, by
        decide +kernel, by decide +kernel, by decide +kernel⟩
  · exact ⟨(w0 : Stamp), (.dram 0 .firmware : ErrorSite), (true : Bool), (false : Bool), at_ svc, _, (0 : Nat),
        (.firmware : DramPage), rfl, by decide +kernel, by decide +kernel, by decide +kernel⟩
  · exact ⟨(w0 : Stamp), (.sram 0 : ErrorSite), (false : Bool), (true : Bool), at_ svc, _, (0 : Nat), rfl, by
        decide +kernel, by decide +kernel, by decide +kernel, by decide +kernel⟩

theorem witness_HubAndHostRegistersComplete :
    (∃ (e : Stamp) (s : State) (l : Lane), l = nowOf e s ∧ dieRuns l = true ∧ l.mode.hubPresent = true) ∧
    (∃ (e : Stamp) (s : State) (l : Lane) (l1 : Lane), l = nowOf e s ∧ dieRuns l = true ∧ l.mode.hubPresent = true ∧
          l.mode.hubSeenAt + msTc 1 ≤ l.tc ∧ l1 = { l with
            mode := { l.mode with hubPresent := false, hubLostAt := l.tc }, keys := { l.keys with privilege := false },
            host := { l.host with wq := none } }) ∧
    (∃ (e : Stamp) (s : State) (l : Lane), l = nowOf e s ∧ dieRuns l = true ∧ l.mode.hubPresent = false) ∧
    (∃ (e : Stamp) (s : State) (l : Lane), l = nowOf e s ∧ l.powered = true ∧ l.dieOk = true ∧ l.spi = false) ∧
    (∃ (e : Stamp) (s : State) (l : Lane), l = nowOf e s ∧ l.spi = true) ∧
    (∃ (e : Stamp) (a : HostAccess) (s : State) (l : Lane), l = nowOf e s ∧ l.mode.mode = .dormant ∧ l.powered = true ∧
          l.dieOk = true) ∧
    (∃ (e : Stamp) (vector : Fin 11) (s : State) (l : Lane), l = nowOf e s ∧ dieRuns l = true ∧ l.host.heldMsg.contains
          vector.val = true ∧ l.mode.hubPresent = true ∧ holdoffPassed l vector = true ∧ l.host.intCause.getLsbD vector
          = true) ∧
    (∃ (e : Stamp) (v : Word) (s : State) (l : Lane), l = nowOf e s ∧ l.mode.mode ≠ .dormant ∧ dieRuns l = true ∧
          l.mode.hubPresent = true ∧ resetKey v = 0xA5 ∧ resetOp v = 1) ∧
    (∃ (e : Stamp) (v : Word) (s : State) (l : Lane), l = nowOf e s ∧ l.mode.mode ≠ .dormant ∧ dieRuns l = true ∧
          l.mode.hubPresent = true ∧ resetKey v = 0xA5 ∧ resetOp v = 2) ∧
    (∃ (e : Stamp) (ring : Fin 4) (v : Word) (s : State) (l : Lane), l = nowOf e s ∧ l.mode.mode ≠ .dormant ∧ dieRuns l
          = true ∧ l.mode.hubPresent = true ∧ l.spi = false ∧ v.getLsbD 0 = true) ∧
    (∃ (e : Stamp) (ring : Fin 4) (index : Nat) (entries : List (Option Submission)) (s : State) (l : Lane), l = nowOf e
          s ∧ l.mode.mode ≠ .dormant ∧ dieRuns l = true ∧ l.mode.hubPresent = true ∧ l.spi = false) ∧
    (∃ (e : Stamp) (ring : Fin 4) (index : Nat) (s : State) (l : Lane), l = nowOf e s ∧ l.mode.mode ≠ .dormant ∧ dieRuns
          l = true ∧ l.mode.hubPresent = true ∧ l.spi = false) ∧
    (∃ (e : Stamp) (index : Nat) (descs : List (Option TxDescriptor)) (s : State) (l : Lane), l = nowOf e s ∧
          l.mode.mode ≠ .dormant ∧ dieRuns l = true ∧ l.mode.hubPresent = true ∧ l.spi = false) ∧
    (∃ (e : Stamp) (index : Nat) (addrs : List (Option Nat)) (s : State) (l : Lane), l = nowOf e s ∧ l.mode.mode ≠
          .dormant ∧ dieRuns l = true ∧ l.mode.hubPresent = true ∧ l.spi = false) ∧
    (∃ (e : Stamp) (s : State) (l : Lane), l = nowOf e s ∧ l.mode.mode ≠ .dormant ∧ dieRuns l = true ∧ l.mode.hubPresent
          = true ∧ l.spi = false) ∧
    (∃ (e : Stamp) (v : Word) (s : State) (l : Lane), l = nowOf e s ∧ l.mode.mode ≠ .dormant ∧ dieRuns l = true ∧
          l.mode.hubPresent = true ∧ v.getLsbD 0 = true) ∧
    (∃ (e : Stamp) (gauge : Fin 64) (s : State) (l : Lane), l = nowOf e s ∧ l.mode.mode ≠ .dormant ∧ dieRuns l = true ∧
          l.mode.hubPresent = true) ∧
    (∃ (e : Stamp) (gauge : Fin 64) (s : State) (l : Lane), l = nowOf e s ∧ l.mode.mode ≠ .dormant ∧ dieRuns l = true ∧
          l.mode.hubPresent = true) ∧
    (∃ (e : Stamp) (v : Word) (s : State) (l : Lane), l = nowOf e s ∧ l.mode.mode ≠ .dormant ∧ dieRuns l = true ∧
          l.mode.hubPresent = true) ∧
    (∃ (e : Stamp) (v : Word) (s : State) (l : Lane), l = nowOf e s ∧ l.mode.mode ≠ .dormant ∧ dieRuns l = true ∧
          l.mode.hubPresent = true ∧ l.spi = true ∧ doorbellBypass v = false) ∧
    (∃ (e : Stamp) (v : Word) (s : State) (l : Lane), l = nowOf e s ∧ l.mode.mode ≠ .dormant ∧ dieRuns l = true ∧
          l.mode.hubPresent = true ∧ l.spi = true ∧ doorbellBypass v = true) ∧
    (∃ (e : Stamp) (off : Nat) (v : Word) (s : State) (l : Lane), l = nowOf e s ∧ l.mode.mode ≠ .dormant ∧ dieRuns l =
          true ∧ l.mode.hubPresent = true) := by
  refine ⟨?_, ?_, ?_, ?_, ?_, ?_, ?_, ?_, ?_, ?_, ?_, ?_, ?_, ?_, ?_, ?_, ?_, ?_, ?_, ?_, ?_, ?_⟩
  · exact ⟨(w0 : Stamp), at_ svc, _, rfl, by decide +kernel, by decide +kernel⟩
  · exact ⟨(w0 : Stamp), at_ svc, _, _, rfl, by decide +kernel, by decide +kernel, by decide +kernel, rfl⟩
  · exact ⟨(w0 : Stamp), at_ ({ svc with mode.hubPresent := false }), _, rfl, by decide +kernel, by decide +kernel⟩
  · exact ⟨(w0 : Stamp), at_ svc, _, rfl, by decide +kernel, by decide +kernel, by decide +kernel⟩
  · exact ⟨(w0 : Stamp), at_ ({ svc with spi := true }), _, rfl, by decide +kernel⟩
  · exact ⟨(w0 : Stamp), (.read 0 : HostAccess), at_ (asleep), _, rfl, by decide +kernel, by decide +kernel, by
        decide +kernel⟩
  · exact ⟨(w0 : Stamp), (0 : Fin 11), at_ ({ svc with host.heldMsg := [0], host.intCause := 1 }), _, rfl, by
        decide +kernel, by decide +kernel, by decide +kernel, by decide +kernel, by decide +kernel⟩
  · exact ⟨(w0 : Stamp), (0xA501 : Word), at_ svc, _, rfl, by decide +kernel, by decide +kernel, by decide +kernel, by
        decide +kernel, by decide +kernel⟩
  · exact ⟨(w0 : Stamp), (0xA502 : Word), at_ svc, _, rfl, by decide +kernel, by decide +kernel, by decide +kernel, by
        decide +kernel, by decide +kernel⟩
  · exact ⟨(w0 : Stamp), (0 : Fin 4), (1 : Word), at_ svc, _, rfl, by decide +kernel, by decide +kernel, by
        decide +kernel, by decide +kernel, by decide +kernel⟩
  · exact ⟨(w0 : Stamp), (0 : Fin 4), (0 : Nat), ([] : List (Option Submission)), at_ svc, _, rfl, by decide +kernel, by
        decide +kernel, by decide +kernel, by decide +kernel⟩
  · exact ⟨(w0 : Stamp), (0 : Fin 4), (0 : Nat), at_ svc, _, rfl, by decide +kernel, by decide +kernel, by
        decide +kernel, by decide +kernel⟩
  · exact ⟨(w0 : Stamp), (0 : Nat), ([] : List (Option TxDescriptor)), at_ svc, _, rfl, by decide +kernel, by
        decide +kernel, by decide +kernel, by decide +kernel⟩
  · exact ⟨(w0 : Stamp), (0 : Nat), ([] : List (Option Nat)), at_ svc, _, rfl, by decide +kernel, by decide +kernel, by
        decide +kernel, by decide +kernel⟩
  · exact ⟨(w0 : Stamp), at_ svc, _, rfl, by decide +kernel, by decide +kernel, by decide +kernel, by decide +kernel⟩
  · exact ⟨(w0 : Stamp), (1 : Word), at_ svc, _, rfl, by decide +kernel, by decide +kernel, by decide +kernel, by
        decide +kernel⟩
  · exact ⟨(w0 : Stamp), (0 : Fin 64), at_ svc, _, rfl, by decide +kernel, by decide +kernel, by decide +kernel⟩
  · exact ⟨(w0 : Stamp), (0 : Fin 64), at_ svc, _, rfl, by decide +kernel, by decide +kernel, by decide +kernel⟩
  · exact ⟨(w0 : Stamp), (0 : Word), at_ svc, _, rfl, by decide +kernel, by decide +kernel, by decide +kernel⟩
  · exact ⟨(w0 : Stamp), (0 : Word), at_ ({ svc with spi := true }), _, rfl, by decide +kernel, by decide +kernel, by
        decide +kernel, by decide +kernel, by decide +kernel⟩
  · exact ⟨(w0 : Stamp), (0x20000000 : Word), at_ ({ svc with spi := true }), _, rfl, by decide +kernel, by
        decide +kernel, by decide +kernel, by decide +kernel, by decide +kernel⟩
  · exact
      ⟨(w0 : Stamp), (0 : Nat), (0 : Word), at_ svc, _, rfl, by decide +kernel, by decide +kernel, by decide +kernel⟩

theorem witness_NeedleAndQueueRequestsComplete :
    (∃ (e : Stamp) (r : Request) (s : State) (l : Lane), l = nowOf e s ∧ accepted 0x0000 none nopCheck l r) ∧
    (∃ (e : Stamp) (vlan : Bool) (r : Request) (s : State) (l : Lane) (v : Version), l = nowOf e s ∧ accepted 0x0001
          none helloCheck l r ∧ v = (commonVersion (helloMin r) (helloMax r)).getD ⟨2, 0⟩) ∧
    (∃ (e : Stamp) (r : Request) (s : State) (l : Lane), l = nowOf e s ∧ accepted 0x0002 none abortCheck l r) ∧
    (∃ (e : Stamp) (r : Request) (s : State) (l : Lane), l = nowOf e s ∧ accepted 0x0003 none abortCheck l r ∧ entryOf l
          (targetSrc r) (targetTag r) = none) ∧
    (∃ (e : Stamp) (r : Request) (s : State) (l : Lane) (x : TaskEntry), l = nowOf e s ∧ accepted 0x0003 none abortCheck
          l r ∧ entryOf l (targetSrc r) (targetTag r) = some x ∧ (x.phase = .delayed ∨ x.phase = .queued)) ∧
    (∃ (e : Stamp) (r : Request) (s : State) (l : Lane) (x : TaskEntry), l = nowOf e s ∧ accepted 0x0003 none abortCheck
          l r ∧ entryOf l (targetSrc r) (targetTag r) = some x ∧ (x.phase = .inService ∨ x.phase = .committed)) ∧
    (∃ (e : Stamp) (r : Request) (s : State) (l : Lane), l = nowOf e s ∧ accepted 0x0004 none groupSetCheck l r) ∧
    (∃ (e : Stamp) (r : Request) (s : State) (l : Lane), l = nowOf e s ∧ accepted 0x0005 none needleStatusCheck l r) ∧
    (∃ (e : Stamp) (r : Request) (s : State) (l : Lane), l = nowOf e s ∧ accepted 0x0905 (some 0) queueSetCheck l r) ∧
    (∃ (e : Stamp) (r : Request) (s : State) (l : Lane) (l1 : Lane), l = nowOf e s ∧ accepted 0x0905 (some 1)
          queueSetCheck l r ∧ l1 = noteDepth (flowId r) { l with
            cfg := { l.cfg with queues := tput l.cfg.queues (flowId r) (queueAsked r) },
            queueSizes := tput l.queueSizes (flowId r) (queueInForce l (flowId r)) }) ∧
    (∃ (e : Stamp) (read : Nat) (written : Nat) (r : Request) (s : State) (l : Lane) (l1 : Lane) (n : Nat), l = nowOf e
          s ∧ n = flowId r ∧ l1 = progress n read written l ∧ accepted 0x0906 none queueIdCheck l1 r) ∧
    (∃ (e : Stamp) (read : Nat) (written : Nat) (r : Request) (s : State) (l : Lane) (l1 : Lane) (n : Nat), l = nowOf e
          s ∧ n = flowId r ∧ l1 = progress n read written l ∧ accepted 0x0907 none queueIdCheck l1 r) := by
  refine ⟨?_, ?_, ?_, ?_, ?_, ?_, ?_, ?_, ?_, ?_, ?_, ?_⟩
  · exact ⟨(w0 : Stamp), (rq0 : Request), at_ svc, _, rfl, ⟨by decide +kernel, by decide +kernel⟩⟩
  · exact ⟨(w0 : Stamp), (false : Bool), (rq 1 0 (wr 8 [(0, 1, 2), (2, 1, 3), (3, 1, 2)]) : Request), at_ svc, _, _,
        rfl, ⟨by decide +kernel, by decide +kernel⟩, rfl⟩
  · exact ⟨(w0 : Stamp), (rq 2 0 (zeros 8) : Request), at_ svc, _, rfl, ⟨by decide +kernel, by decide +kernel⟩⟩
  · exact ⟨(w0 : Stamp), (rq 3 0 (zeros 8) : Request), at_ svc, _, rfl, ⟨by decide +kernel, by decide +kernel⟩, by
        decide +kernel⟩
  · exact ⟨(w0 : Stamp), (rq 3 0 (wr 8 [(0, 1, 7)]) : Request), at_
        ({ svc with needle.entries := [te 0x0101 .queued] }), _, (te 0x0101 .queued : TaskEntry), rfl,
        ⟨by decide +kernel, by decide +kernel⟩, by decide +kernel, by decide +kernel⟩
  · exact ⟨(w0 : Stamp), (rq 3 0 (wr 8 [(0, 1, 7)]) : Request), at_
        ({ svc with needle.entries := [te 0x0101 .inService] }), _, (te 0x0101 .inService : TaskEntry), rfl,
        ⟨by decide +kernel, by decide +kernel⟩, by decide +kernel, by decide +kernel⟩
  · exact ⟨(w0 : Stamp), (rq 4 0 [1, 15, 1, 15] : Request), at_ svc, _, rfl, ⟨by decide +kernel, by decide +kernel⟩⟩
  · exact ⟨(w0 : Stamp), (rq 5 0 [] : Request), at_ svc, _, rfl, ⟨by decide +kernel, by decide +kernel⟩⟩
  · exact ⟨(w0 : Stamp), (rq 0x0905 0 (zeros 20) : Request), at_ svc, _, rfl, ⟨by decide +kernel, by decide +kernel⟩⟩
  · exact ⟨(w0 : Stamp), (rq 0x0905 0 (wr 20 [(0, 1, 1), (4, 4, 32), (10, 2, 1), (12, 4, 1)]) : Request), at_ svc, _, _,
        rfl, ⟨by decide +kernel, by decide +kernel⟩, rfl⟩
  · exact ⟨(w0 : Stamp), (0 : Nat), (0 : Nat), (rq 0x0906 0 (zeros 4) : Request), at_ svc, _, _, _, rfl, rfl, rfl,
        ⟨by decide +kernel, by decide +kernel⟩⟩
  · exact ⟨(w0 : Stamp), (0 : Nat), (0 : Nat), (rq 0x0907 0 (zeros 4) : Request), at_ svc, _, _, _, rfl, rfl, rfl,
        ⟨by decide +kernel, by decide +kernel⟩⟩

theorem witness_StreamRequestsComplete :
    (∃ (e : Stamp) (r : Request) (s : State) (l : Lane) (c : StreamCfg), l = nowOf e s ∧ accepted 0x0200 none
          streamAddCheck l r ∧ c = streamAsked (body r)) ∧
    (∃ (e : Stamp) (r : Request) (s : State) (l : Lane) (c : StreamCfg) (old : StreamCfg), l = nowOf e s ∧ accepted
          0x0201 (some 0) (modifyCheck modifySetCheck) l r ∧ c = streamAsked (modBody r) ∧ streamCfg l (flowId r) = some
          old ∧ (pmuPart old).map (fun p => (p.idcode, p.srcAddr)) = (pmuPart c).map (fun p => (p.idcode, p.srcAddr))) ∧
    (∃ (e : Stamp) (r : Request) (s : State) (l : Lane) (c : StreamCfg) (old : StreamCfg) (x : StreamRun), l = nowOf e s
          ∧ accepted 0x0201 (some 0) (modifyCheck modifySetCheck) l r ∧ c = streamAsked (modBody r) ∧ streamCfg l
          (flowId r) = some old ∧ (pmuPart old).map (fun p => (p.idcode, p.srcAddr)) ≠ (pmuPart c).map
          (fun p => (p.idcode, p.srcAddr)) ∧ streamRun l (flowId r) = some x ∧ x.state ≠ .suspended) ∧
    (∃ (e : Stamp) (r : Request) (s : State) (l : Lane) (c : StreamCfg) (x : StreamRun) (l1 : Lane), l = nowOf e s ∧
          accepted 0x0201 (some 1) (modifyCheck (fun s q => need (stateIs s (flowId q) .learned) .wrongMode .ok)) l r ∧
          streamCfg l (flowId r) = some c ∧ streamRun l (flowId r) = some x ∧ l1 = enterState (flowId r)
          (servingState c x) (setRun (flowId r) { x with learnedBy := none } l)) ∧
    (∃ (e : Stamp) (r : Request) (s : State) (l : Lane) (d : Bytes) (x : StreamRun) (p : PmuPart), l = nowOf e s ∧
          accepted 0x0201 (some 2) (modifyCheck cfgChunkCheck) l r ∧ streamRun l (flowId r) = some x ∧
          (streamCfg l (flowId r)).bind pmuPart = some p ∧ d = chunkData x.chunk (chunkOffset (body r))
          ((body r).drop 16) ∧ d.length ≠ chunkTotal (body r)) ∧
    (∃ (e : Stamp) (r : Request) (s : State) (l : Lane) (d : Bytes) (x : StreamRun) (p : PmuPart) (k : PmuConfig)
          (l1 : Lane), l = nowOf e s ∧ accepted 0x0201 (some 2) (modifyCheck cfgChunkCheck) l r ∧ streamRun l (flowId r)
          = some x ∧ (streamCfg l (flowId r)).bind pmuPart = some p ∧ d = chunkData x.chunk (chunkOffset (body r))
          ((body r).drop 16) ∧ d.length = chunkTotal (body r) ∧ usableCfg d p.cfgKind p.idcode = some k ∧ l1 = setRun
          (flowId r) { x with chunk := none } l) ∧
    (∃ (e : Stamp) (r : Request) (s : State) (l : Lane) (x : StreamRun) (k : PmuConfig), l = nowOf e s ∧ accepted 0x0201
          (some 3) (modifyCheck (fun s q => need (stateIs s (flowId q) .cfgHold) .wrongMode .ok)) l r ∧ streamRun l
          (flowId r) = some x ∧ x.heldCfg = some k) ∧
    (∃ (e : Stamp) (r : Request) (s : State) (l : Lane) (x : StreamRun), l = nowOf e s ∧ accepted 0x0201 (some 3)
          (modifyCheck (fun s q => need (stateIs s (flowId q) .cfgHold) .wrongMode .ok)) l r ∧ streamRun l (flowId r) =
          some x ∧ x.heldCfg = none) ∧
    (∃ (e : Stamp) (r : Request) (s : State) (l : Lane) (x : StreamRun), l = nowOf e s ∧ accepted 0x0201 (some 4)
          (modifyCheck (fun _ _ => .ok)) l r ∧ streamRun l (flowId r) = some x ∧ x.state ≠ .suspended) ∧
    (∃ (e : Stamp) (r : Request) (s : State) (l : Lane) (x : StreamRun), l = nowOf e s ∧ accepted 0x0201 (some 5)
          (modifyCheck (fun s q => need (stateIs s (flowId q) .suspended) .wrongMode .ok)) l r ∧ streamRun l (flowId r)
          = some x) ∧
    (∃ (e : Stamp) (r : Request) (s : State) (l : Lane), l = nowOf e s ∧ accepted 0x0202 none streamRemoveCheck l r) ∧
    (∃ (e : Stamp) (r : Request) (s : State) (l : Lane), l = nowOf e s ∧ accepted 0x0203 none streamQueryCheck l r) ∧
    (∃ (e : Stamp) (r : Request) (s : State) (l : Lane), l = nowOf e s ∧ accepted 0x0204 none learnCheck l r) ∧
    (∃ (e : Stamp) (r : Request) (s : State) (l : Lane) (p : AuthPolicy) (l1 : Lane), l = nowOf e s ∧ accepted 0x0205
          none authSetCheck l r ∧ p = authAsked (body r) ∧ l1 =
          { l with cfg := { l.cfg with auth := tput l.cfg.auth (flowId r) p } } ∧ stateIs l (flowId r) .keyLost = false)
        ∧
    (∃ (e : Stamp) (r : Request) (s : State) (l : Lane) (p : AuthPolicy) (l1 : Lane), l = nowOf e s ∧ accepted 0x0205
          none authSetCheck l r ∧ p = authAsked (body r) ∧ l1 =
          { l with cfg := { l.cfg with auth := tput l.cfg.auth (flowId r) p } } ∧ stateIs l (flowId r) .keyLost = true ∧
          p.mode = 0) := by
  refine ⟨?_, ?_, ?_, ?_, ?_, ?_, ?_, ?_, ?_, ?_, ?_, ?_, ?_, ?_, ?_⟩
  · exact ⟨(w0 : Stamp), (rq 0x0200 1 pmuB : Request), at_ svc, _, _, rfl, ⟨by decide +kernel, by decide +kernel⟩, rfl⟩
  · exact ⟨(w0 : Stamp), (rq 0x0201 0 (zeros 4 ++ pmuB) : Request), at_
        (strm (stc (.pmu { pp with srcAddr := zeros 16 })) run0), _, _, _, rfl, ⟨by decide +kernel, by decide +kernel⟩,
        rfl, rfl, rfl⟩
  · exact ⟨(w0 : Stamp), (rq 0x0201 0 (zeros 4 ++ pmuB) : Request), at_
        (strm (stc (.pmu { pp with srcAddr := zeros 16, idcode := 2 })) run0), _, _, _, _, rfl,
        ⟨by decide +kernel, by decide +kernel⟩, rfl, rfl, by decide +kernel, rfl, by decide +kernel⟩
  · exact ⟨(w0 : Stamp), (rq 0x0201 0 [1, 0, 0, 0] : Request), at_
        (strm (stc (.pmu pp)) { run0 with state := .learned }), _, _, _, _, rfl, ⟨by decide +kernel, by decide +kernel⟩,
        rfl, rfl, rfl⟩
  · exact ⟨(w0 : Stamp), (rq 0x0201 0 (wr 17 [(0, 1, 2), (4, 4, 2), (12, 4, 1)]) : Request), at_
        (strm (stc (.pmu { pp with cfgSource := 1 })) run0), _, _, _, _, rfl, ⟨by decide +kernel, by decide +kernel⟩,
        rfl, rfl, rfl, by decide +kernel⟩
  · exact ⟨(w0 : Stamp), (rq 0x0201 0 (wr 16 [(0, 1, 2), (4, 4, 54), (12, 4, 54)] ++ cfg2) : Request), at_
        (strm (stc (.pmu { pp with cfgSource := 1 })) run0), _, _, _, _, _, _, rfl,
        ⟨by decide +kernel, by decide +kernel⟩, rfl, rfl, rfl, by decide +kernel, rfl, rfl⟩
  · exact ⟨(w0 : Stamp), (rq 0x0201 0 [3, 0, 0, 0] : Request), at_
        (strm (stc (.pmu pp)) { run0 with state := .cfgHold, heldCfg := some pcfg }), _, _, _, rfl,
        ⟨by decide +kernel, by decide +kernel⟩, rfl, rfl⟩
  · exact ⟨(w0 : Stamp), (rq 0x0201 0 [3, 0, 0, 0] : Request), at_
        (strm (stc (.pmu pp)) { run0 with state := .cfgHold }), _, _, rfl, ⟨by decide +kernel, by decide +kernel⟩, rfl,
        by decide +kernel⟩
  · exact ⟨(w0 : Stamp), (rq 0x0201 0 [4, 0, 0, 0] : Request), at_ (strm (stc (.pmu pp)) run0), _, _, rfl,
        ⟨by decide +kernel, by decide +kernel⟩, rfl, by decide +kernel⟩
  · exact ⟨(w0 : Stamp), (rq 0x0201 0 [5, 0, 0, 0] : Request), at_ (suspS), _, _, rfl,
        ⟨by decide +kernel, by decide +kernel⟩, rfl⟩
  · exact ⟨(w0 : Stamp), (rq 0x0202 0 (zeros 4) : Request), at_ (strm (stc (.pmu pp)) run0), _, rfl,
        ⟨by decide +kernel, by decide +kernel⟩⟩
  · exact ⟨(w0 : Stamp), (rq 0x0203 0 (zeros 4) : Request), at_ svc, _, rfl, ⟨by decide +kernel, by decide +kernel⟩⟩
  · exact ⟨(w0 : Stamp), (rq 0x0204 0 (wr 68 [(2, 1, 1), (4, 4, 1), (28, 2, 1), (30, 2, 1), (32, 2, 1), (34, 2, 10),
              (40, 4, 1), (44, 2, 50), (46, 1, 50), (48, 1, 1), (52, 4, 100)]) : Request), at_ svc, _, rfl,
        ⟨by decide +kernel, by decide +kernel⟩⟩
  · exact ⟨(w0 : Stamp), (rq 0x0205 0 (zeros 12) : Request), at_ (strm (stc (.pmu pp)) run0), _, _, _, rfl,
        ⟨by decide +kernel, by decide +kernel⟩, rfl, rfl, by decide +kernel⟩
  · exact ⟨(w0 : Stamp), (rq 0x0205 0 (zeros 12) : Request), at_ (strm (stc (.pmu pp)) { run0 with state := .keyLost }),
        _, _, _, rfl, ⟨by decide +kernel, by decide +kernel⟩, rfl, rfl, by decide +kernel, by decide +kernel⟩

theorem witness_PickAndSkeinRequestsComplete :
    (∃ (e : Stamp) (r : Request) (s : State) (l : Lane) (p : PeCfg) (id : Nat) (ch : Nat), l = nowOf e s ∧ accepted
          0x0300 none peSetCheck l r ∧ id = flowId r ∧ ch = field (body r) 0 1 ∧ p = peAsked (body r) ∧ p.enable = true
          ∧ (peCfg l id ch).any (·.enable) = false) ∧
    (∃ (e : Stamp) (r : Request) (s : State) (l : Lane) (p : PeCfg) (id : Nat) (ch : Nat) (l2 : Lane), l = nowOf e s ∧
          accepted 0x0300 none peSetCheck l r ∧ id = flowId r ∧ ch = field (body r) 0 1 ∧ p = peAsked (body r) ∧
          p.enable = false ∧ l2 = settleSwaps id ch (withPeCfg (8 * id + ch) p l)) ∧
    (∃ (e : Stamp) (r : Request) (s : State) (l : Lane), l = nowOf e s ∧ accepted 0x0301 none bankCheck l r) ∧
    (∃ (e : Stamp) (r : Request) (s : State) (l : Lane) (id : Nat), l = nowOf e s ∧ accepted 0x0302 none swapCheck l r ∧
          id = flowId r ∧ (peStream l id).fade.isSome = true) ∧
    (∃ (e : Stamp) (r : Request) (s : State) (l : Lane) (id : Nat), l = nowOf e s ∧ accepted 0x0302 none swapCheck l r ∧
          id = flowId r ∧ (peStream l id).fade = none ∧ maskSettles l id (swapAsked r).mask = false) ∧
    (∃ (e : Stamp) (r : Request) (s : State) (l : Lane), l = nowOf e s ∧ accepted 0x0303 none peResetCheck l r) ∧
    (∃ (e : Stamp) (r : Request) (s : State) (l : Lane), l = nowOf e s ∧ accepted 0x0304 none peQueryCheck l r) ∧
    (∃ (e : Stamp) (r : Request) (s : State) (l : Lane), l = nowOf e s ∧ accepted 0x0400 none planeCreateCheck l r) ∧
    (∃ (e : Stamp) (r : Request) (s : State) (l : Lane), l = nowOf e s ∧ accepted 0x0401 (some 0)
          (planeModifyCheck planeSetCheck) l r) ∧
    (∃ (e : Stamp) (r : Request) (s : State) (l : Lane) (sh : Table MapEntry), l = nowOf e s ∧ accepted 0x0401 (some 1)
          (planeModifyCheck mapWriteCheck) l r ∧ sh = (List.range (mapCount (body r))).foldl
          (fun t i => if (mapEntryAt (body r) (12 + 8 * i)).stream = 0 then tdel t (mapFirst (body r) + i) else tput t
            (mapFirst (body r) + i) (mapEntryAt (body r) (12 + 8 * i))) (planeRun l (flowId r)).shadow) ∧
    (∃ (e : Stamp) (r : Request) (s : State) (l : Lane) (p : Nat) (c : PlaneCfg) (first : Nat) (gen : Nat), l = nowOf e
          s ∧ accepted 0x0401 (some 2) (planeModifyCheck mapSwitchCheck) l r ∧ p = flowId r ∧ planeCfg l p = some c ∧
          first = (if c.running then (planeRun l p).nextOpen else firstCourseFrom c (nowUnits l)) ∧ gen = bump
          (planeRun l p).mapGen) ∧
    (∃ (e : Stamp) (r : Request) (s : State) (l : Lane), l = nowOf e s ∧ accepted 0x0401 (some 3)
          (planeModifyCheck (fun _ _ _ => .ok)) l r) ∧
    (∃ (e : Stamp) (r : Request) (s : State) (l : Lane) (p : Nat), l = nowOf e s ∧ accepted 0x0401 (some 4)
          (planeModifyCheck (fun _ _ _ => .ok)) l r ∧ p = flowId r) ∧
    (∃ (e : Stamp) (r : Request) (s : State) (l : Lane) (p : Nat), l = nowOf e s ∧ accepted 0x0402 none planeDeleteCheck
          l r ∧ p = flowId r) ∧
    (∃ (e : Stamp) (r : Request) (s : State) (l : Lane), l = nowOf e s ∧ accepted 0x0403 none planeQueryCheck l r) ∧
    (∃ (e : Stamp) (r : Request) (s : State) (l : Lane) (w : Wale) (t : Int) (rs : List WaleRecord), l = nowOf e s ∧
          accepted 0x0404 none waleReadCheck l r ∧ w = waleOf l (flowId r) ∧ t = joinTag l
          (BitVec.ofNat 40 (field (body r) 0 8)) ∧ rs = (w.records.filter (fun x => decide (t ≤ x.at_))).take
          (field (body r) 10 2)) := by
  refine ⟨?_, ?_, ?_, ?_, ?_, ?_, ?_, ?_, ?_, ?_, ?_, ?_, ?_, ?_, ?_, ?_⟩
  · exact ⟨(w0 : Stamp), (rq 0x0300 0 (wr 16 [(1, 1, 1), (4, 4, 0x3F800000), (12, 2, 50)]) : Request), at_ (svS), _, _,
        _, _, rfl, ⟨by decide +kernel, by decide +kernel⟩, rfl, rfl, rfl, by decide +kernel, by decide +kernel⟩
  · exact ⟨(w0 : Stamp), (rq 0x0300 0 (wr 16 [(4, 4, 0x3F800000), (12, 2, 50)]) : Request), at_ (svS), _, _, _, _, _,
        rfl, ⟨by decide +kernel, by decide +kernel⟩, rfl, rfl, rfl, by decide +kernel, rfl⟩
  · exact ⟨(w0 : Stamp), (rq 0x0301 0 (wr 100 [(0, 1, 1), (1, 1, 1), (2, 1, 1)]) : Request), at_ (svS), _, rfl,
        ⟨by decide +kernel, by decide +kernel⟩⟩
  · exact ⟨(w0 : Stamp), (rq 0x0302 0 (wr 8 [(0, 4, 0x01010001)]) : Request), at_
        ({ peS with pe.streams := [(0, { fade := some swp, held := none, superseded := 0 })] }), _, _, rfl,
        ⟨by decide +kernel, by decide +kernel⟩, rfl, by decide +kernel⟩
  · exact ⟨(w0 : Stamp), (rq 0x0302 0 (wr 8 [(0, 4, 0x01010101)]) : Request), at_ (peS), _, _, rfl,
        ⟨by decide +kernel, by decide +kernel⟩, rfl, by decide +kernel, by decide +kernel⟩
  · exact
      ⟨(w0 : Stamp), (rq 0x0303 0 [1, 0, 0, 0] : Request), at_ (peS), _, rfl, ⟨by decide +kernel, by decide +kernel⟩⟩
  · exact ⟨(w0 : Stamp), (rq 0x0304 0 (zeros 4) : Request), at_ (peS), _, rfl, ⟨by decide +kernel, by decide +kernel⟩⟩
  · exact ⟨(w0 : Stamp), (rq 0x0400 0 (plB 0xFF) : Request), at_ svc, _, rfl, ⟨by decide +kernel, by decide +kernel⟩⟩
  · exact ⟨(w0 : Stamp), (rq 0x0401 0 (zeros 4 ++ plB 0xFF) : Request), at_ (plS), _, rfl,
        ⟨by decide +kernel, by decide +kernel⟩⟩
  · exact ⟨(w0 : Stamp), (rq 0x0401 0 (wr 20 [(0, 1, 1), (8, 4, 1), (12, 2, 1)]) : Request), at_ (plS), _, _, rfl,
        ⟨by decide +kernel, by decide +kernel⟩, rfl⟩
  · exact ⟨(w0 : Stamp), (rq 0x0401 0 (wr 12 [(0, 1, 2), (4, 4, 8)]) : Request), at_ (plS), _, _, _, _, _, rfl,
        ⟨by decide +kernel, by decide +kernel⟩, rfl, rfl, rfl, rfl⟩
  · exact
      ⟨(w0 : Stamp), (rq 0x0401 0 [3, 0, 0, 0] : Request), at_ (plS), _, rfl, ⟨by decide +kernel, by decide +kernel⟩⟩
  · exact ⟨(w0 : Stamp), (rq 0x0401 0 [4, 0, 0, 0] : Request), at_ (plS), _, _, rfl,
        ⟨by decide +kernel, by decide +kernel⟩, rfl⟩
  · exact ⟨(w0 : Stamp), (rq 0x0402 0 (zeros 4) : Request), at_ (plS), _, _, rfl,
        ⟨by decide +kernel, by decide +kernel⟩, rfl⟩
  · exact ⟨(w0 : Stamp), (rq 0x0403 0 (zeros 4) : Request), at_ svc, _, rfl, ⟨by decide +kernel, by decide +kernel⟩⟩
  · exact ⟨(w0 : Stamp), (rq 0x0404 0 (wr 16 [(9, 1, 1), (10, 2, 1)]) : Request), at_ (svS), _, _, _, _, rfl,
        ⟨by decide +kernel, by decide +kernel⟩, rfl, rfl, rfl⟩

theorem witness_PatternRequestsComplete :
    (∃ (e : Stamp) (r : Request) (s : State) (l : Lane), l = nowOf e s ∧ accepted 0x0506 none arrayQueryCheck l r) ∧
    (∃ (e : Stamp) (r : Request) (s : State) (l : Lane) (n : Nat) (d : Bytes), l = nowOf e s ∧ accepted 0x0500 (some 0)
          loadChunkCheck l r ∧ n = flowId r ∧ d = chunkData (partOf l n).staged (chunkOffset (body r))
          ((body r).drop 20) ∧ d.length = chunkTotal (body r)) ∧
    (∃ (e : Stamp) (r : Request) (s : State) (l : Lane) (n : Nat) (d : Bytes), l = nowOf e s ∧ accepted 0x0500 (some 0)
          loadChunkCheck l r ∧ n = flowId r ∧ d = chunkData (partOf l n).staged (chunkOffset (body r))
          ((body r).drop 20) ∧ d.length ≠ chunkTotal (body r)) ∧
    (∃ (e : Stamp) (r : Request) (s : State) (l : Lane) (n : Nat) (id : Nat) (x : Nat × Nat), l = nowOf e s ∧ accepted
          0x0500 (some 1) loadLibraryCheck l r ∧ n = flowId r ∧ shapeOf (partOf l n) = some x ∧ id = field (body r) 16
          2) ∧
    (∃ (e : Stamp) (r : Request) (s : State) (l : Lane) (n : Nat) (rect : Rect), l = nowOf e s ∧ accepted 0x0500
          (some 2) loadReleaseCheck l r ∧ n = flowId r ∧ (partOf l n).rect = some rect) ∧
    (∃ (e : Stamp) (r : Request) (s : State) (l : Lane) (n : Nat), l = nowOf e s ∧ accepted 0x0501 none patSwapCheck l r
          ∧ n = flowId r ∧ planeOf l n = none ∧ (partOf l n).phase = .idle) ∧
    (∃ (e : Stamp) (r : Request) (s : State) (l : Lane) (n : Nat), l = nowOf e s ∧ accepted 0x0501 none patSwapCheck l r
          ∧ n = flowId r ∧ (partOf l n).phase ≠ .idle) ∧
    (∃ (e : Stamp) (r : Request) (s : State) (l : Lane) (n : Nat), l = nowOf e s ∧ accepted 0x0502 none paramCheck l r ∧
          n = flowId r ∧ field (body r) 0 1 = 0) ∧
    (∃ (e : Stamp) (r : Request) (s : State) (l : Lane) (n : Nat) (pat : Pattern), l = nowOf e s ∧ accepted 0x0502 none
          paramCheck l r ∧ n = flowId r ∧ field (body r) 0 1 ≠ 0 ∧ inactiveBank (partOf l n) = some pat) ∧
    (∃ (e : Stamp) (r : Request) (s : State) (l : Lane), l = nowOf e s ∧ accepted 0x0503 none patternQueryCheck l r) ∧
    (∃ (e : Stamp) (r : Request) (s : State) (l : Lane), l = nowOf e s ∧ accepted 0x0507 none resultCheck l r ∧
          resultEntry (partOf l (flowId r)) (field (body r) 0 8) = none) ∧
    (∃ (e : Stamp) (r : Request) (s : State) (l : Lane) (x : RoundResult) (lines : List Bytes), l = nowOf e s ∧ accepted
          0x0507 none resultCheck l r ∧ resultEntry (partOf l (flowId r)) (field (body r) 0 8) = some x ∧ lines =
          (x.lines.drop (field (body r) 8 4)).take (field (body r) 12 2)) ∧
    (∃ (e : Stamp) (r : Request) (s : State) (l : Lane) (p : Part) (d : Bytes), l = nowOf e s ∧ accepted 0x0504 (some 0)
          variantChunkCheck l r ∧ p = partOf l (flowId r) ∧ d = chunkData
          (p.varChunk.bind (fun x => if x.1 = varId r then some x.2 else none)) (chunkOffset (body r))
          ((body r).drop 16) ∧ d.length ≠ chunkTotal (body r)) ∧
    (∃ (e : Stamp) (r : Request) (s : State) (l : Lane) (p : Part) (d : Bytes), l = nowOf e s ∧ accepted 0x0504 (some 0)
          variantChunkCheck l r ∧ p = partOf l (flowId r) ∧ d = chunkData
          (p.varChunk.bind (fun x => if x.1 = varId r then some x.2 else none)) (chunkOffset (body r))
          ((body r).drop 16) ∧ d.length = chunkTotal (body r)) ∧
    (∃ (e : Stamp) (r : Request) (s : State) (l : Lane) (n : Nat) (v : Nat) (rect : Rect) (img : Bytes), l = nowOf e s ∧
          accepted 0x0504 (some 1) variantStageCheck l r ∧ n = flowId r ∧ v = varId r ∧ resident (partOf l n) v = false
          ∧ planeOf l n = none ∧ (partOf l n).rect = some rect ∧ tget (partOf l n).variants v = some img) ∧
    (∃ (e : Stamp) (r : Request) (s : State) (l : Lane), l = nowOf e s ∧ accepted 0x0504 (some 1) variantStageCheck l r
          ∧ resident (partOf l (flowId r)) (varId r) = true) ∧
    (∃ (e : Stamp) (r : Request) (s : State) (l : Lane) (n : Nat) (v : Nat) (p : Nat × PlaneCfg), l = nowOf e s ∧
          accepted 0x0504 (some 1) variantStageCheck l r ∧ n = flowId r ∧ v = varId r ∧ resident (partOf l n) v = false
          ∧ planeOf l n = some p) ∧
    (∃ (e : Stamp) (r : Request) (s : State) (l : Lane), l = nowOf e s ∧ accepted 0x0504 (some 2) variantDeleteCheck l
          r) ∧
    (∃ (e : Stamp) (r : Request) (s : State) (l : Lane), l = nowOf e s ∧ accepted 0x0505 none variantSelectCheck l r) :=
        by
  refine ⟨?_, ?_, ?_, ?_, ?_, ?_, ?_, ?_, ?_, ?_, ?_, ?_, ?_, ?_, ?_, ?_, ?_, ?_, ?_⟩
  · exact ⟨(w0 : Stamp), (rq 0x0506 0 (zeros 4) : Request), at_ svc, _, rfl, ⟨by decide +kernel, by decide +kernel⟩⟩
  · exact ⟨(w0 : Stamp), (rq 0x0500 0 (wr 212 [(4, 4, 192), (12, 4, 192)]) : Request), at_ svc, _, _, _, rfl,
        ⟨by decide +kernel, by decide +kernel⟩, rfl, rfl, by decide +kernel⟩
  · exact ⟨(w0 : Stamp), (rq 0x0500 0 (wr 21 [(4, 4, 192), (12, 4, 1)]) : Request), at_ svc, _, _, _, rfl,
        ⟨by decide +kernel, by decide +kernel⟩, rfl, rfl, by decide +kernel⟩
  · exact ⟨(w0 : Stamp), (rq 0x0500 0 (wr 20 [(0, 1, 1), (16, 2, 4)]) : Request), at_
        (arr { part0 with rect := some (0, 0, 1, 8) }), _, _, _, _, rfl, ⟨by decide +kernel, by decide +kernel⟩, rfl,
        rfl, rfl⟩
  · exact ⟨(w0 : Stamp), (rq 0x0500 0 (wr 20 [(0, 1, 2)]) : Request), at_ (arr part0), _, _, _, rfl,
        ⟨by decide +kernel, by decide +kernel⟩, rfl, rfl⟩
  · exact ⟨(w0 : Stamp), (rq 0x0501 0 (zeros 16) : Request), at_ (arr partP), _, _, rfl,
        ⟨by decide +kernel, by decide +kernel⟩, rfl, by decide +kernel, by decide +kernel⟩
  · exact ⟨(w0 : Stamp), (rq 0x0501 0 (zeros 16) : Request), at_ (arr { partP with phase := .running }), _, _, rfl,
        ⟨by decide +kernel, by decide +kernel⟩, rfl, by decide +kernel⟩
  · exact ⟨(w0 : Stamp), (rq 0x0502 0 (wr 16 [(8, 4, 4)]) : Request), at_ (arr partP), _, _, rfl,
        ⟨by decide +kernel, by decide +kernel⟩, rfl, by decide +kernel⟩
  · exact ⟨(w0 : Stamp), (rq 0x0502 0 (wr 16 [(0, 1, 1), (8, 4, 4)]) : Request), at_ (arr partP), _, _, _, rfl,
        ⟨by decide +kernel, by decide +kernel⟩, rfl, by decide +kernel, rfl⟩
  · exact ⟨(w0 : Stamp), (rq 0x0503 0 (zeros 4) : Request), at_ svc, _, rfl, ⟨by decide +kernel, by decide +kernel⟩⟩
  · exact ⟨(w0 : Stamp), (rq 0x0507 0 (wr 16 [(12, 2, 1)]) : Request), at_ svc, _, rfl,
        ⟨by decide +kernel, by decide +kernel⟩, by decide +kernel⟩
  · exact ⟨(w0 : Stamp), (rq 0x0507 0 (wr 16 [(12, 2, 1)]) : Request), at_
        (arr { part0 with results := [{ course := 1, instant := 0, lines := [], patternId := 0, paramGen := 0 }] }), _,
        _, _, rfl, ⟨by decide +kernel, by decide +kernel⟩, rfl, rfl⟩
  · exact ⟨(w0 : Stamp), (rq 0x0504 0 (wr 17 [(4, 4, 192), (12, 4, 1)]) : Request), at_ svc, _, _, _, rfl,
        ⟨by decide +kernel, by decide +kernel⟩, rfl, rfl, by decide +kernel⟩
  · exact ⟨(w0 : Stamp), (rq 0x0504 0 (wr 208 [(4, 4, 192), (12, 4, 192)]) : Request), at_ svc, _, _, _, rfl,
        ⟨by decide +kernel, by decide +kernel⟩, rfl, rfl, by decide +kernel⟩
  · exact ⟨(w0 : Stamp), (rq 0x0504 0 (wr 16 [(0, 1, 1)]) : Request), at_
        (arr { partV with variants := [(0, vim1)], bank0 := some { pat0 with image := imgV } }), _, _, _, _, _, rfl,
        ⟨by decide +kernel, by decide +kernel⟩, rfl, rfl, by decide +kernel, by decide +kernel, rfl, rfl⟩
  · exact ⟨(w0 : Stamp), (rq 0x0504 0 (wr 16 [(0, 1, 1)]) : Request), at_
        (arr { partV with slotA := some 0, variants := [(0, vim1)], bank0 := some { pat0 with image := imgV } }), _,
        rfl, ⟨by decide +kernel, by decide +kernel⟩, by decide +kernel⟩
  · exact ⟨(w0 : Stamp), (rq 0x0504 0 (wr 16 [(0, 1, 1)]) : Request), at_
        ({ arr { partV with variants := [(0, vim1)], bank0 := some { pat0 with image := imgV } } with
            cfg.planes := [(0, plc)] }), _, _, _, _, rfl, ⟨by decide +kernel, by decide +kernel⟩, rfl, rfl, by
        decide +kernel, rfl⟩
  · exact ⟨(w0 : Stamp), (rq 0x0504 0 (wr 16 [(0, 1, 2)]) : Request), at_ (arr partV), _, rfl,
        ⟨by decide +kernel, by decide +kernel⟩⟩
  · exact ⟨(w0 : Stamp), (rq 0x0505 0 (wr 12 [(0, 1, 255)]) : Request), at_ (arr { part0 with builtIn := true }), _,
        rfl, ⟨by decide +kernel, by decide +kernel⟩⟩

theorem witness_PublishRequestsComplete :
    (∃ (e : Stamp) (r : Request) (s : State) (l : Lane), l = nowOf e s ∧ accepted 0x0604 none routeCheck l r) ∧
    (∃ (e : Stamp) (r : Request) (s : State) (l : Lane) (n : Nat) (p : GoosePub) (l1 : Lane) (l2 : Lane), l = nowOf e s
          ∧ accepted 0x0603 none gooseCheck l r ∧ n = flowId r ∧ p = gooseAsked (body r) ∧ l1 =
          { l with cfg := { l.cfg with goose := tput l.cfg.goose n p } } ∧ l2 =
          (if p.enable && tget l.cfg.goose n != some p then gooseStart n p false l1 else l1)) ∧
    (∃ (e : Stamp) (r : Request) (s : State) (l : Lane) (n : Nat) (c : SessionCfg), l = nowOf e s ∧ accepted 0x0600 none
          openCheck l r ∧ n = flowId r ∧ c = sessionAsked (body r)) ∧
    (∃ (e : Stamp) (r : Request) (s : State) (l : Lane), l = nowOf e s ∧ accepted 0x0601 none sessionModifyCheck l r) ∧
    (∃ (e : Stamp) (r : Request) (s : State) (l : Lane) (n : Nat) (l1 : Lane), l = nowOf e s ∧ accepted 0x0602 none
          closeCheck l r ∧ n = flowId r ∧ l1 =
          (if (tget l.publish.sessions n).any (·.client.isSome) then emit (.tcpFin n) l else l)) ∧
    (∃ (e : Stamp) (r : Request) (s : State) (l : Lane), l = nowOf e s ∧ accepted 0x0606 none publishQueryCheck l r) ∧
    (∃ (e : Stamp) (r : Request) (s : State) (l : Lane) (p : Nat) (c : StreamCfg), l = nowOf e s ∧ accepted 0x0605
          (some 0) derivedCreateCheck l r ∧ p = field (body r) 1 1 ∧ c =
          {
            transport := 0, portMask := 0, rate := ((tget l.cfg.planes p).map (·.rate)).getD 0, freq := 0,
            acceptTest := false, rejectUnsync := false, acceptErr01 := false, cmdEnable := false, tqLimit := 0,
            unlockLimit := 0, historyMs := 2000, part := .derived p (derivedKinds (body r)) }) ∧
    (∃ (e : Stamp) (r : Request) (s : State) (l : Lane), l = nowOf e s ∧ accepted 0x0605 (some 1) derivedRemoveCheck l
          r) := by
  refine ⟨?_, ?_, ?_, ?_, ?_, ?_, ?_, ?_⟩
  · exact ⟨(w0 : Stamp), (rq 0x0604 0 (wr 8 [(2, 2, 1)]) : Request), at_ svc, _, rfl,
        ⟨by decide +kernel, by decide +kernel⟩⟩
  · exact ⟨(w0 : Stamp), (rq 0x0603 0 (wr 288 [(2, 1, 1), (4, 4, 0x01CD0C01), (14, 2, 1), (16, 2, 1), (18, 1, 1),
              (19, 1, 1), (24, 1, 1), (32, 1, 65), (96, 1, 65), (160, 1, 65)]) : Request), at_ svc, _, _, _, _, _, rfl,
        ⟨by decide +kernel, by decide +kernel⟩, rfl, rfl, rfl, rfl⟩
  · exact ⟨(w0 : Stamp), (rq 0x0600 0 sessB : Request), at_ (plS), _, _, _, rfl, ⟨by decide +kernel, by decide +kernel⟩,
        rfl, rfl⟩
  · exact ⟨(w0 : Stamp), (rq 0x0601 0 (zeros 4 ++ sessB) : Request), at_ (sesP), _, rfl,
        ⟨by decide +kernel, by decide +kernel⟩⟩
  · exact ⟨(w0 : Stamp), (rq 0x0602 0 (zeros 4) : Request), at_ (sesP), _, _, _, rfl,
        ⟨by decide +kernel, by decide +kernel⟩, rfl, rfl⟩
  · exact ⟨(w0 : Stamp), (rq 0x0606 0 (zeros 4) : Request), at_ svc, _, rfl, ⟨by decide +kernel, by decide +kernel⟩⟩
  · exact ⟨(w0 : Stamp), (rq 0x0605 0 (wr 9 [(2, 2, 1), (8, 1, 1)]) : Request), at_ (plS), _, _, _, rfl,
        ⟨by decide +kernel, by decide +kernel⟩, rfl, rfl⟩
  · exact ⟨(w0 : Stamp), (rq 0x0605 0 (wr 9 [(0, 1, 1), (2, 2, 1), (8, 1, 1)]) : Request), at_
        (strm (stc (.derived 0 [1])) run0), _, rfl, ⟨by decide +kernel, by decide +kernel⟩⟩

theorem witness_SwatchRequestsComplete :
    (∃ (e : Stamp) (r : Request) (s : State) (l : Lane), l = nowOf e s ∧ accepted 0x0700 (some 0) triggerReadCheck l r)
        ∧
    (∃ (e : Stamp) (r : Request) (s : State) (l : Lane) (i : Nat) (t : TriggerCfg) (l2 : Lane), l = nowOf e s ∧ accepted
          0x0700 (some 1) triggerCheck l r ∧ i = flowId r ∧ t = triggerAsked (body r) ∧ l2 = setTrigger i
          { triggerRun l i with
            state := triggerStart l t, holdCount := 0, past := [], firstTrue := none, lastFalse := none }
          { l with cfg := { l.cfg with triggers := tput l.cfg.triggers i t } }) ∧
    (∃ (e : Stamp) (r : Request) (s : State) (l : Lane), l = nowOf e s ∧ accepted 0x0701 (some 0) armCheck l r) ∧
    (∃ (e : Stamp) (r : Request) (s : State) (l : Lane) (p : Nat) (c : ProfileCfg) (l1 : Lane), l = nowOf e s ∧ accepted
          0x0701 (some 1) disarmCheck l r ∧ p = flowId r ∧ profileCfg l p = some c ∧ l1 = freeRing p
          { l with cfg := { l.cfg with profiles := tput l.cfg.profiles p { c with armed := false } } } ∧
          (profileRun l p).record = none) ∧
    (∃ (e : Stamp) (r : Request) (s : State) (l : Lane) (c : ProfileCfg), l = nowOf e s ∧ accepted 0x0701 (some 2)
          rearmOpCheck l r ∧ profileCfg l (flowId r) = some c) ∧
    (∃ (e : Stamp) (r : Request) (s : State) (l : Lane) (i : Nat) (t : TriggerCfg), l = nowOf e s ∧ accepted 0x0702 none
          commandCheck l r ∧ i = flowId r ∧ tget l.cfg.triggers i = some t ∧ qualified l t (commandInstant l r) = true ∧
          t.profile = 0xFF) ∧
    (∃ (e : Stamp) (r : Request) (s : State) (l : Lane) (i : Nat) (t : TriggerCfg), l = nowOf e s ∧ accepted 0x0702 none
          commandCheck l r ∧ i = flowId r ∧ tget l.cfg.triggers i = some t ∧ qualified l t (commandInstant l r) = true ∧
          t.profile ≠ 0xFF ∧ (profileRun l t.profile).state ≠ .disarmed ∧ (profileRun l t.profile).state ≠ .waiting) ∧
    (∃ (e : Stamp) (r : Request) (s : State) (l : Lane) (i : Nat) (t : TriggerCfg), l = nowOf e s ∧ accepted 0x0702 none
          commandCheck l r ∧ i = flowId r ∧ tget l.cfg.triggers i = some t ∧ qualified l t (commandInstant l r) = false)
        ∧
    (∃ (e : Stamp) (r : Request) (s : State) (l : Lane) (x : Record), l = nowOf e s ∧ accepted 0x0703 none keepCheck l r
          ∧ recordOf l r = some x ∧ x.opened = true) ∧
    (∃ (e : Stamp) (r : Request) (s : State) (l : Lane) (x : Record), l = nowOf e s ∧ accepted 0x0703 none keepCheck l r
          ∧ recordOf l r = some x ∧ x.opened = false ∧ field (body r) 4 1 = 1) ∧
    (∃ (e : Stamp) (r : Request) (s : State) (l : Lane) (x : Record), l = nowOf e s ∧ accepted 0x0703 none keepCheck l r
          ∧ recordOf l r = some x ∧ x.opened = false ∧ field (body r) 4 1 = 0) ∧
    (∃ (e : Stamp) (r : Request) (s : State) (l : Lane), l = nowOf e s ∧ accepted 0x0704 none deleteCheck l r) ∧
    (∃ (e : Stamp) (r : Request) (s : State) (l : Lane), l = nowOf e s ∧ accepted 0x0708 none indexReadCheck l r) ∧
    (∃ (e : Stamp) (r : Request) (s : State) (l : Lane), l = nowOf e s ∧ accepted 0x0705 none skewCheck l r) ∧
    (∃ (e : Stamp) (r : Request) (s : State) (l : Lane) (m : Mark), l = nowOf e s ∧ accepted 0x0706 (some 0)
          markSetCheck l r ∧ markPlace l (flowId r) (field (body r) 4 8) = some m) ∧
    (∃ (e : Stamp) (r : Request) (s : State) (l : Lane), l = nowOf e s ∧ accepted 0x0706 (some 0) markSetCheck l r ∧
          markPlace l (flowId r) (field (body r) 4 8) = none) ∧
    (∃ (e : Stamp) (r : Request) (s : State) (l : Lane), l = nowOf e s ∧ accepted 0x0706 (some 1) markClearCheck l r) ∧
    (∃ (e : Stamp) (r : Request) (s : State) (l : Lane) (m : Mark) (k : Nat) (n : Nat) (rs : List WaleRecord)
          (x : WaleRecord), l = nowOf e s ∧ accepted 0x0707 none markReadCheck l r ∧ k = markKey r (field (body r) 0 1)
          ∧ n = field (body r) 3 1 ∧ (tget l.swatch.marks k).filter (·.valid) = some m ∧ rs =
          ((waleOf l (flowId r)).records.filter (fun y => decide (m.at_ ≤ y.at_))).take (field (body r) 4 2) ∧
          rs.getLast? = some x ∧ field (body r) 1 1 = 1) ∧
    (∃ (e : Stamp) (r : Request) (s : State) (l : Lane) (k : Nat), l = nowOf e s ∧ accepted 0x0707 none markReadCheck l
          r ∧ k = markKey r (field (body r) 0 1) ∧ (tget l.swatch.marks k).filter (·.valid) = none) := by
  refine ⟨?_, ?_, ?_, ?_, ?_, ?_, ?_, ?_, ?_, ?_, ?_, ?_, ?_, ?_, ?_, ?_, ?_, ?_, ?_⟩
  · exact ⟨(w0 : Stamp), (rq 0x0700 0 (zeros 64) : Request), at_ svc, _, rfl, ⟨by decide +kernel, by decide +kernel⟩⟩
  · exact ⟨(w0 : Stamp),
        (rq 0x0700 0 (wr 64 [(0, 1, 1), (2, 1, 8), (10, 2, 1), (24, 2, 1), (26, 2, 0xFFFF), (32, 4, 1)]) : Request), at_
        svc, _, _, _, _, rfl, ⟨by decide +kernel, by decide +kernel⟩, rfl, rfl, rfl⟩
  · exact ⟨(w0 : Stamp), (rq 0x0701 0 armB : Request), at_ (svS1), _, rfl, ⟨by decide +kernel, by decide +kernel⟩⟩
  · exact ⟨(w0 : Stamp), (rq 0x0701 0 [1, 0, 0, 0] : Request), at_ (prof armedR), _, _, _, _, rfl,
        ⟨by decide +kernel, by decide +kernel⟩, rfl, rfl, rfl, by decide +kernel⟩
  · exact ⟨(w0 : Stamp), (rq 0x0701 0 [2, 0, 0, 0] : Request), at_
        ({ svS1 with cfg.profiles := [(0, { pfc with rowWaitMs := 100, channels := [(1, 0)] })] }), _, _, rfl,
        ⟨by decide +kernel, by decide +kernel⟩, rfl⟩
  · exact ⟨(w0 : Stamp), (rq 0x0702 0 (zeros 12) : Request), at_ (trgS cmdT), _, _, _, rfl,
        ⟨by decide +kernel, by decide +kernel⟩, rfl, rfl, by decide +kernel, by decide +kernel⟩
  · exact ⟨(w0 : Stamp), (rq 0x0702 0 (zeros 12) : Request), at_ (trgS { cmdT with profile := 0 }), _, _, _, rfl,
        ⟨by decide +kernel, by decide +kernel⟩, rfl, rfl, by decide +kernel, by decide +kernel, by decide +kernel, by
        decide +kernel⟩
  · exact ⟨(w0 : Stamp), (rq 0x0702 0 (zeros 12) : Request), at_ (trgS { cmdT with qualifier := 1 }), _, _, _, rfl,
        ⟨by decide +kernel, by decide +kernel⟩, rfl, rfl, by decide +kernel⟩
  · exact ⟨(w0 : Stamp), (rq 0x0703 0 (wr 8 [(0, 1, 1)]) : Request), at_ (recS true), _, _, rfl,
        ⟨by decide +kernel, by decide +kernel⟩, rfl, by decide +kernel⟩
  · exact ⟨(w0 : Stamp), (rq 0x0703 0 (wr 8 [(0, 1, 1), (4, 1, 1)]) : Request), at_ (recS false), _, _, rfl,
        ⟨by decide +kernel, by decide +kernel⟩, rfl, by decide +kernel, by decide +kernel⟩
  · exact ⟨(w0 : Stamp), (rq 0x0703 0 (wr 8 [(0, 1, 1)]) : Request), at_ (recS false), _, _, rfl,
        ⟨by decide +kernel, by decide +kernel⟩, rfl, by decide +kernel, by decide +kernel⟩
  · exact ⟨(w0 : Stamp), (rq 0x0704 0 (wr 8 [(0, 1, 1)]) : Request), at_ (recS false), _, rfl,
        ⟨by decide +kernel, by decide +kernel⟩⟩
  · exact ⟨(w0 : Stamp), (rq 0x0708 0 (wr 8 [(4, 2, 1)]) : Request), at_ svc, _, rfl,
        ⟨by decide +kernel, by decide +kernel⟩⟩
  · exact ⟨(w0 : Stamp), (rq 0x0705 0 (zeros 8) : Request), at_ svc, _, rfl, ⟨by decide +kernel, by decide +kernel⟩⟩
  · exact ⟨(w0 : Stamp), (rq 0x0706 0 (zeros 12) : Request), at_ (svS), _, _, rfl,
        ⟨by decide +kernel, by decide +kernel⟩, rfl⟩
  · exact ⟨(w0 : Stamp), (rq 0x0706 0 (wr 12 [(4, 1, 1)]) : Request), at_
        ({ svS with skein.wales := [(0, { records := [{ wr0 with at_ := 2 ^ 40 }], disorder := 0 })] }), _, rfl,
        ⟨by decide +kernel, by decide +kernel⟩, by decide +kernel⟩
  · exact ⟨(w0 : Stamp), (rq 0x0706 0 (wr 12 [(0, 1, 0), (1, 1, 1)]) : Request), at_ (svS), _, rfl,
        ⟨by decide +kernel, by decide +kernel⟩⟩
  · exact ⟨(w0 : Stamp), (rq 0x0707 0 (wr 8 [(1, 1, 1), (3, 1, 1), (4, 2, 1)]) : Request), at_
        ({ svS with swatch.marks := [(0, mk0)], skein.wales := [(0, { records := [wr0], disorder := 0 })] }), _,
        (mk0 : Mark), _, _, _, (wr0 : WaleRecord), rfl, ⟨by decide +kernel, by decide +kernel⟩, rfl, rfl, by
        decide +kernel, rfl, by decide +kernel, by decide +kernel⟩
  · exact ⟨(w0 : Stamp), (rq 0x0707 0 (wr 8 [(1, 1, 1), (3, 1, 1), (4, 2, 1)]) : Request), at_ (svS), _, _, rfl,
        ⟨by decide +kernel, by decide +kernel⟩, rfl, by decide +kernel⟩

theorem witness_TimeAndPortRequestsComplete :
    (∃ (e : Stamp) (r : Request) (s : State) (l : Lane) (l1 : Lane) (l2 : Lane) (k : RefKind), l = nowOf e s ∧ accepted
          0x0800 none timeRefCheck l r ∧ l1 = { l with cfg := { l.cfg with timeRef := timeRefOf (body r) } } ∧ l2 =
          (if (timeRefOf (body r)).ref10mEnable then l1 else { l1 with time := { l1.time with ref10m := false } }) ∧
          l2.time.selected = some k) ∧
    (∃ (e : Stamp) (r : Request) (s : State) (l : Lane) (l1 : Lane) (l2 : Lane), l = nowOf e s ∧ accepted 0x0800 none
          timeRefCheck l r ∧ l1 = { l with cfg := { l.cfg with timeRef := timeRefOf (body r) } } ∧ l2 =
          (if (timeRefOf (body r)).ref10mEnable then l1 else { l1 with time := { l1.time with ref10m := false } }) ∧
          l2.time.selected = none) ∧
    (∃ (e : Stamp) (r : Request) (s : State) (l : Lane), l = nowOf e s ∧ accepted 0x0801 none ptpPortCheck l r) ∧
    (∃ (e : Stamp) (r : Request) (s : State) (l : Lane) (l1 : Lane), l = nowOf e s ∧ accepted 0x0802 none servoCheck l r
          ∧ l1 = { l with cfg := { l.cfg with servo := servoOf (body r) } }) ∧
    (∃ (e : Stamp) (r : Request) (s : State) (l : Lane), l = nowOf e s ∧ accepted 0x0803 none utcSetCheck l r) ∧
    (∃ (e : Stamp) (r : Request) (s : State) (l : Lane), l = nowOf e s ∧ accepted 0x0804 none timeQueryCheck l r) ∧
    (∃ (e : Stamp) (r : Request) (s : State) (l : Lane), l = nowOf e s ∧ accepted 0x0900 none portSetCheck l r ∧ flowId
          r ≤ 11) ∧
    (∃ (e : Stamp) (r : Request) (s : State) (l : Lane), l = nowOf e s ∧ accepted 0x0900 none portSetCheck l r ∧ 11 <
          flowId r) ∧
    (∃ (e : Stamp) (r : Request) (s : State) (l : Lane), l = nowOf e s ∧ accepted 0x0901 none classCheck l r) ∧
    (∃ (e : Stamp) (r : Request) (s : State) (l : Lane), l = nowOf e s ∧ accepted 0x0902 none wakeCheck l r) ∧
    (∃ (e : Stamp) (r : Request) (s : State) (l : Lane), l = nowOf e s ∧ accepted 0x0903 (some 0) pollCheck l r) ∧
    (∃ (e : Stamp) (r : Request) (s : State) (l : Lane) (n : Nat) (l1 : Lane) (l2 : Lane), l = nowOf e s ∧ accepted
          0x0903 (some 1) pollCheck l r ∧ n = flowId r - 12 ∧ l1 = (List.range (pollCount r)).foldl
          (fun (acc : Lane) j => setStation n (pollFirst r + j) (.new (pollAsked (body r) j).enable)
            { acc with
              cfg := { acc.cfg with poll := tput acc.cfg.poll (64 * n + (pollFirst r + j)) (pollAsked (body r) j) } }) l
          ∧ l2 = (if (serialRun l1 n).again.any (fun q => pollFirst r ≤ q.entry && q.entry < pollFirst r + pollCount r)
            then setSerial n { serialRun l1 n with again := none } l1 else l1)) ∧
    (∃ (e : Stamp) (r : Request) (s : State) (l : Lane), l = nowOf e s ∧ accepted 0x0904 none countersCheck l r) := by
  refine ⟨?_, ?_, ?_, ?_, ?_, ?_, ?_, ?_, ?_, ?_, ?_, ?_, ?_⟩
  · exact ⟨(w0 : Stamp), (rq 0x0800 0 (wr 32 [(4, 2, 1), (6, 2, 1), (20, 4, 9600)]) : Request), at_
        ({ svc with time.selected := some .pps }), _, _, _, _, rfl, ⟨by decide +kernel, by decide +kernel⟩, rfl, rfl,
        rfl⟩
  · exact ⟨(w0 : Stamp), (rq 0x0800 0 (wr 32 [(4, 2, 1), (6, 2, 1), (20, 4, 9600)]) : Request), at_ svc, _, _, _, rfl,
        ⟨by decide +kernel, by decide +kernel⟩, rfl, rfl, by decide +kernel⟩
  · exact ⟨(w0 : Stamp), (rq 0x0801 0 (wr 24 [(12, 4, 1)]) : Request), at_ svc, _, rfl,
        ⟨by decide +kernel, by decide +kernel⟩⟩
  · exact ⟨(w0 : Stamp), (rq 0x0802 0 (wr 64 [(0, 4, 0x3F800000), (4, 4, 0x3F800000), (8, 4, 1000), (12, 2, 1),
              (14, 2, 10), (16, 4, 100), (20, 4, 0x3F800000)]) : Request), at_ svc, _, _, rfl,
        ⟨by decide +kernel, by decide +kernel⟩, rfl⟩
  · exact ⟨(w0 : Stamp), (rq 0x0803 0 (zeros 12) : Request), at_ svc, _, rfl, ⟨by decide +kernel, by decide +kernel⟩⟩
  · exact ⟨(w0 : Stamp), (rq 0x0804 0 (zeros 4) : Request), at_ svc, _, rfl, ⟨by decide +kernel, by decide +kernel⟩⟩
  · exact ⟨(w0 : Stamp), (rq 0x0900 0 (wr 48 [(9, 1, 1), (10, 2, 64)]) : Request), at_ svc, _, rfl,
        ⟨by decide +kernel, by decide +kernel⟩, by decide +kernel⟩
  · exact ⟨(w0 : Stamp), (rq 0x0900 12 (wr 16
            [(0, 1, 1), (1, 1, 1), (2, 1, 1), (3, 1, 1), (4, 4, 9600), (8, 2, 5), (10, 2, 11), (12, 2, 1), (15, 1, 1)])
          : Request), at_ svc, _, rfl, ⟨by decide +kernel, by decide +kernel⟩, by decide +kernel⟩
  · exact ⟨(w0 : Stamp), (rq 0x0901 0 (zeros 16) : Request), at_ svc, _, rfl, ⟨by decide +kernel, by decide +kernel⟩⟩
  · exact ⟨(w0 : Stamp), (rq 0x0902 4 (wr 648 ((List.range 8).map (fun f => (10 + 80 * f, 1, 1)))) : Request), at_ svc,
        _, rfl, ⟨by decide +kernel, by decide +kernel⟩⟩
  · exact ⟨(w0 : Stamp), (rq 0x0903 12 [0, 0, 1, 0] : Request), at_ svc, _, rfl, ⟨by decide +kernel, by decide +kernel⟩⟩
  · exact ⟨(w0 : Stamp), (rq 0x0903 12 (wr 12 [(0, 1, 1), (2, 1, 1), (4, 1, 1), (5, 1, 1)]) : Request), at_ svc, _, _,
        _, _, rfl, ⟨by decide +kernel, by decide +kernel⟩, rfl, rfl, rfl⟩
  · exact ⟨(w0 : Stamp), (rq 0x0904 0 (zeros 4) : Request), at_ svc, _, rfl, ⟨by decide +kernel, by decide +kernel⟩⟩

theorem witness_MeshAndPlyRequestsComplete :
    (∃ (e : Stamp) (first : Bool) (retry : Bool) (r : Request) (s : State) (l : Lane) (m : Nat) (c : MeshCfg)
          (l1 : Lane), l = nowOf e s ∧ accepted 0x0A00 none meshSetCheck l r ∧ m = radioOf r ∧ c = meshAsked (body r) ∧
          l1 = { l with cfg := { l.cfg with mesh := tput l.cfg.mesh m c } } ∧ (meshRun l m).state = .root ∧
          { meshCfg l m with map := c.map } = c ∧ (meshCfg l m).map ≠ c.map) ∧
    (∃ (e : Stamp) (first : Bool) (retry : Bool) (r : Request) (s : State) (l : Lane) (m : Nat) (c : MeshCfg)
          (l1 : Lane), l = nowOf e s ∧ accepted 0x0A00 none meshSetCheck l r ∧ m = radioOf r ∧ c = meshAsked (body r) ∧
          l1 = { l with cfg := { l.cfg with mesh := tput l.cfg.mesh m c } } ∧ (meshRun l m).state ≠ .root ∧ radioRuns
          (meshRun l m) = false) ∧
    (∃ (e : Stamp) (r : Request) (s : State) (l : Lane), l = nowOf e s ∧ accepted 0x0A01 none nodeAddCheck l r) ∧
    (∃ (e : Stamp) (r : Request) (s : State) (l : Lane) (m : Nat) (a : Nat) (gone : Grant → Bool), l = nowOf e s ∧
          accepted 0x0A02 none nodeRemoveCheck l r ∧ m = radioOf r ∧ a = field (body r) 0 2 ∧ gone =
          (fun g => g.radio == m && g.node == a)) ∧
    (∃ (e : Stamp) (r : Request) (s : State) (l : Lane) (m : Nat) (g : Grant), l = nowOf e s ∧ accepted 0x0A03 (some 0)
          assignCheck l r ∧ m = radioOf r ∧ g = grantAsked r) ∧
    (∃ (e : Stamp) (r : Request) (s : State) (l : Lane) (m : Nat) (g : Grant), l = nowOf e s ∧ accepted 0x0A03 (some 1)
          releaseCheck l r ∧ m = radioOf r ∧ g = grantAsked r) ∧
    (∃ (e : Stamp) (r : Request) (s : State) (l : Lane), l = nowOf e s ∧ accepted 0x0A04 none meshQueryCheck l r) ∧
    (∃ (e : Stamp) (r : Request) (s : State) (l : Lane) (l1 : Lane), l = nowOf e s ∧ accepted 0x0B00 none plySetCheck l
          r ∧ l1 = { l with cfg := { l.cfg with ply := plyCfgOf (body r) } }) ∧
    (∃ (e : Stamp) (r : Request) (s : State) (l : Lane) (c : PairCfg), l = nowOf e s ∧ accepted 0x0B01 (some 1)
          pairCheck l r ∧ c = pairOf (body r)) ∧
    (∃ (e : Stamp) (r : Request) (s : State) (l : Lane), l = nowOf e s ∧ accepted 0x0B01 (some 0) plyUnpairCheck l r) ∧
    (∃ (e : Stamp) (r : Request) (s : State) (l : Lane) (t : Nat), l = nowOf e s ∧ accepted 0x0B02 none handoverCheck l
          r ∧ t = field (body r) 0 1 ∧ handoverLease l t = .lane ∧ memberAtLeast l t 2 = true) ∧
    (∃ (e : Stamp) (r : Request) (s : State) (l : Lane) (t : Nat), l = nowOf e s ∧ accepted 0x0B02 none handoverCheck l
          r ∧ t = field (body r) 0 1 ∧ handoverLease l t = .lane ∧ memberAtLeast l t 2 = false) ∧
    (∃ (e : Stamp) (r : Request) (s : State) (l : Lane), l = nowOf e s ∧ accepted 0x0B03 none plyQueryCheck l r) ∧
    (∃ (e : Stamp) (r : Request) (s : State) (l : Lane) (c : WitnessCfg), l = nowOf e s ∧ accepted 0x0B04 none
          witnessCheck l r ∧ c = witnessCfgOf (body r)) := by
  refine ⟨?_, ?_, ?_, ?_, ?_, ?_, ?_, ?_, ?_, ?_, ?_, ?_, ?_, ?_⟩
  · exact ⟨(w0 : Stamp), (false : Bool), (false : Bool), (rq 0x0A00 20 (meshB 3) : Request), at_
        (mesh0 (meshAsked (meshB 7)) (mrun .root)), _, _, _, _, rfl, ⟨by decide +kernel, by decide +kernel⟩, rfl, rfl,
        rfl, by decide +kernel, rfl, by decide +kernel⟩
  · exact ⟨(w0 : Stamp), (false : Bool), (false : Bool), (rq 0x0A00 20 (meshB 3) : Request), at_ svc, _, _, _, _, rfl,
        ⟨by decide +kernel, by decide +kernel⟩, rfl, rfl, rfl, by decide +kernel, by decide +kernel⟩
  · exact ⟨(w0 : Stamp), (rq 0x0A01 20 (wr 16 [(0, 1, 9), (8, 2, 6)]) : Request), at_ svc, _, rfl,
        ⟨by decide +kernel, by decide +kernel⟩⟩
  · exact ⟨(w0 : Stamp), (rq 0x0A02 20 (wr 8 [(0, 2, 5)]) : Request), at_ (meshN), _, _, _, _, rfl,
        ⟨by decide +kernel, by decide +kernel⟩, rfl, rfl, rfl⟩
  · exact ⟨(w0 : Stamp), (rq 0x0A03 20 (wr 8 [(0, 2, 5), (2, 1, 1)]) : Request), at_ (meshN), _, _, _, rfl,
        ⟨by decide +kernel, by decide +kernel⟩, rfl, rfl⟩
  · exact ⟨(w0 : Stamp), (rq 0x0A03 20 (wr 8 [(0, 2, 5), (2, 1, 1), (6, 1, 1)]) : Request), at_
        ({ meshN with cfg.grants := [grt] }), _, _, _, rfl, ⟨by decide +kernel, by decide +kernel⟩, rfl, rfl⟩
  · exact ⟨(w0 : Stamp), (rq 0x0A04 20 (zeros 4) : Request), at_ svc, _, rfl, ⟨by decide +kernel, by decide +kernel⟩⟩
  · exact ⟨(w0 : Stamp), (rq 0x0B00 0 (wr 16 [(4, 4, 500), (8, 4, 100), (12, 4, 10)]) : Request), at_ svc, _, _, rfl,
        ⟨by decide +kernel, by decide +kernel⟩, rfl⟩
  · exact ⟨(w0 : Stamp),
        (rq 0x0B01 0 (wr 48 [(0, 1, 1), (4, 1, 1), (6, 2, 47849), (8, 4, 20000), (12, 4, 2000)]) : Request), at_
        (owner), _, _, rfl, ⟨by decide +kernel, by decide +kernel⟩, rfl⟩
  · exact ⟨(w0 : Stamp), (rq 0x0B01 0 (zeros 48) : Request), at_ svc, _, rfl, ⟨by decide +kernel, by decide +kernel⟩⟩
  · exact ⟨(w0 : Stamp), (rq 0x0B02 0 [1, 0, 0, 0] : Request), at_ (offerer ⟨1, 4⟩), _, _, rfl,
        ⟨by decide +kernel, by decide +kernel⟩, rfl, by decide +kernel, by decide +kernel⟩
  · exact ⟨(w0 : Stamp), (rq 0x0B02 0 [1, 0, 0, 0] : Request), at_ (offerer ⟨1, 0⟩), _, _, rfl,
        ⟨by decide +kernel, by decide +kernel⟩, rfl, by decide +kernel, by decide +kernel⟩
  · exact ⟨(w0 : Stamp), (rq 0x0B03 0 (zeros 4) : Request), at_ svc, _, rfl, ⟨by decide +kernel, by decide +kernel⟩⟩
  · exact ⟨(w0 : Stamp), (rq 0x0B04 0 (wr 24 [(4, 2, 1), (6, 2, 100)]) : Request), at_ svc, _, _, rfl,
        ⟨by decide +kernel, by decide +kernel⟩, rfl⟩

theorem witness_KeyRequestsComplete :
    (∃ (e : Stamp) (r : Request) (s : State) (l : Lane) (g : Bytes × Lane) (k : KeySlot), l = nowOf e s ∧ accepted
          0x0C00 none keyGenCheck l r ∧ g = generateMaterial (reqType r) (leaveZeroised l) ∧ k =
          {
            state := .valid, type := reqType r, usage := reqUsage r, persistent := bit (field (body r) 2 1) 0,
            generated := true, keyId := field (body r) 4 4, generation := 0, parent := none, material := g.1 }) ∧
    (∃ (e : Stamp) (r : Request) (s : State) (l : Lane) (k : KeySlot) (l1 : Lane) (epoch : Nat), l = nowOf e s ∧
          accepted 0x0C01 none keyWriteCheck l r ∧ k = {
            state := .valid, type := reqType r, usage := reqUsage r, persistent := bit (field (body r) 2 1) 0,
            generated := false, keyId := field (body r) 4 4, generation := 0, parent := none,
            material := writeMaterial r } ∧ l1 = fillSlot (flowId r) k (leaveZeroised l) ∧ epoch =
          (if field (body r) 8 4 = 0 then l1.keys.keyEpoch else field (body r) 8 4)) ∧
    (∃ (e : Stamp) (r : Request) (s : State) (l : Lane) (p : KeySlot) (k : KeySlot), l = nowOf e s ∧ accepted 0x0C02
          none keyDeriveCheck l r ∧ p = slotOf l (deriveParent r) ∧ k =
          {
            state := .valid, type := deriveType r, usage := deriveUsage r, persistent := bit (field (body r) 3 1) 0,
            generated := false, keyId := field (body r) 4 4, generation := 0,
            parent := some (deriveParent r, p.generation),
            material := hkdf (deriveIkm p (derivePeer r)) (deriveSalt r) (deriveInfo r) (generatedLen (deriveType r)) })
        ∧
    (∃ (e : Stamp) (r : Request) (s : State) (l : Lane) (n : Nat), l = nowOf e s ∧ accepted 0x0C03 none keyDeleteCheck l
          r ∧ n = flowId r) ∧
    (∃ (e : Stamp) (r : Request) (s : State) (l : Lane) (n : Nat) (k : KeySlot), l = nowOf e s ∧ accepted 0x0C04 none
          keyInvalidateCheck l r ∧ n = flowId r ∧ k =
          { slotOf l n with state := .invalid, material := [], generation := bump (slotOf l n).generation }) ∧
    (∃ (e : Stamp) (r : Request) (s : State) (l : Lane), l = nowOf e s ∧ accepted 0x0C05 none attestCheck l r) ∧
    (∃ (e : Stamp) (r : Request) (s : State) (l : Lane), l = nowOf e s ∧ accepted 0x0C06 none challengeCheck l r) ∧
    (∃ (e : Stamp) (r : Request) (s : State) (l : Lane), l = nowOf e s ∧ accepted 0x0C07 (some 0) respondCheck l r) ∧
    (∃ (e : Stamp) (r : Request) (s : State) (l : Lane), l = nowOf e s ∧ accepted 0x0C07 (some 1) dropCheck l r) ∧
    (∃ (e : Stamp) (r : Request) (s : State) (l : Lane), l = nowOf e s ∧ accepted 0x0C07 (some 2) respondCheck l r ∧
          (l.vault.owners = [] ∨ l.keys.privilege = true) ∧ l.vault.owners.length < 4) ∧
    (∃ (e : Stamp) (r : Request) (s : State) (l : Lane), l = nowOf e s ∧ accepted 0x0C07 (some 2) respondCheck l r ∧
          l.vault.owners ≠ [] ∧ l.keys.privilege = false) ∧
    (∃ (e : Stamp) (r : Request) (s : State) (l : Lane), l = nowOf e s ∧ accepted 0x0C08 (some 0) slvStatusCheck l r) ∧
    (∃ (e : Stamp) (r : Request) (s : State) (l : Lane), l = nowOf e s ∧ accepted 0x0C08 (some 1) slvSlotsCheck l r) ∧
    (∃ (e : Stamp) (r : Request) (s : State) (l : Lane) (en : BitVec 6), l = nowOf e s ∧ accepted 0x0C08 (some 2)
          tamperSetCheck l r ∧ en = BitVec.ofNat 6 (field (body r) 4 2)) ∧
    (∃ (e : Stamp) (r : Request) (s : State) (l : Lane), l = nowOf e s ∧ accepted 0x0C08 (some 3) tamperAckCheck l r) :=
        by
  refine ⟨?_, ?_, ?_, ?_, ?_, ?_, ?_, ?_, ?_, ?_, ?_, ?_, ?_, ?_, ?_⟩
  · exact ⟨(w0 : Stamp), (rq 0x0C00 2 (wr 8 [(0, 1, 3)]) : Request), at_ (owner), _, _, _, rfl,
        ⟨by decide +kernel, by decide +kernel⟩, rfl, rfl⟩
  · exact ⟨(w0 : Stamp), (rq 0x0C01 2 (wr 32 [(0, 1, 1), (12, 2, 16)]) : Request), at_ (owner), _, _, _, _, rfl,
        ⟨by decide +kernel, by decide +kernel⟩, rfl, rfl, rfl⟩
  · exact ⟨(w0 : Stamp), (rq 0x0C02 2 (wr 44 [(0, 1, 1), (1, 1, 1)]) : Request), at_ (owner), _, _, _, rfl,
        ⟨by decide +kernel, by decide +kernel⟩, rfl, rfl⟩
  · exact ⟨(w0 : Stamp), (rq 0x0C03 1 (zeros 4) : Request), at_ (owner), _, _, rfl,
        ⟨by decide +kernel, by decide +kernel⟩, rfl⟩
  · exact ⟨(w0 : Stamp), (rq 0x0C04 1 (zeros 4) : Request), at_ (owner), _, _, _, rfl,
        ⟨by decide +kernel, by decide +kernel⟩, rfl, rfl⟩
  · exact ⟨(w0 : Stamp), (rq 0x0C05 1 (wr 36 [(0, 1, 1), (1, 1, 255)]) : Request), at_ (owner), _, rfl,
        ⟨by decide +kernel, by decide +kernel⟩⟩
  · exact ⟨(w0 : Stamp), (rq 0x0C06 0 (zeros 4) : Request), at_ svc, _, rfl, ⟨by decide +kernel, by decide +kernel⟩⟩
  · exact ⟨(w0 : Stamp), (rq 0x0C07 0 (rspB 0) : Request), at_ svc, _, rfl, ⟨by decide +kernel, by decide +kernel⟩⟩
  · exact ⟨(w0 : Stamp), (rq 0x0C07 0 (wr 200 [(0, 1, 1)]) : Request), at_ svc, _, rfl,
        ⟨by decide +kernel, by decide +kernel⟩⟩
  · exact ⟨(w0 : Stamp), (rq 0x0C07 0 (rspB 2) : Request), at_ svc, _, rfl, ⟨by decide +kernel, by decide +kernel⟩, by
        decide +kernel, by decide +kernel⟩
  · exact ⟨(w0 : Stamp), (rq 0x0C07 0 (rspB 2) : Request), at_ ({ svc with vault.owners := [[]] }), _, rfl,
        ⟨by decide +kernel, by decide +kernel⟩, by decide +kernel, by decide +kernel⟩
  · exact ⟨(w0 : Stamp), (rq 0x0C08 0 (zeros 4) : Request), at_ svc, _, rfl, ⟨by decide +kernel, by decide +kernel⟩⟩
  · exact ⟨(w0 : Stamp), (rq 0x0C08 0 (wr 4 [(0, 1, 1), (2, 1, 1)]) : Request), at_ svc, _, rfl,
        ⟨by decide +kernel, by decide +kernel⟩⟩
  · exact ⟨(w0 : Stamp), (rq 0x0C08 0 (wr 8 [(0, 1, 2), (6, 2, 10)]) : Request), at_ (owner), _, _, rfl,
        ⟨by decide +kernel, by decide +kernel⟩, rfl⟩
  · exact ⟨(w0 : Stamp), (rq 0x0C08 0 (wr 4 [(0, 1, 3)]) : Request), at_ (owner), _, rfl,
        ⟨by decide +kernel, by decide +kernel⟩⟩

theorem witness_ModeAndHealthRequestsComplete :
    (∃ (e : Stamp) (r : Request) (s : State) (l : Lane) (m : Mode), l = nowOf e s ∧ accepted 0x0101 none modeSetCheck l
          r ∧ Mode.ofCode (modeAsked r) = some m) ∧
    (∃ (e : Stamp) (r : Request) (s : State) (l : Lane), l = nowOf e s ∧ accepted 0x0102 (some 0) laneResetCheck l r) ∧
    (∃ (e : Stamp) (r : Request) (s : State) (l : Lane), l = nowOf e s ∧ accepted 0x0102 (some 1) laneResetCheck l r) ∧
    (∃ (e : Stamp) (r : Request) (s : State) (l : Lane), l = nowOf e s ∧ accepted 0x0103 none configCommitCheck l r) ∧
    (∃ (e : Stamp) (r : Request) (s : State) (l : Lane), l = nowOf e s ∧ accepted 0x0104 none configReadCheck l r) ∧
    (∃ (e : Stamp) (r : Request) (s : State) (l : Lane) (split : RunConfig → RunConfig), l = nowOf e s ∧ accepted 0x0105
          none poolSplitCheck l r ∧ split =
          (fun c => { c with swatchMib := field (body r) 0 4, segShift := field (body r) 4 1 })) ∧
    (∃ (e : Stamp) (r : Request) (s : State) (l : Lane), l = nowOf e s ∧ accepted 0x0100 none sysInfoCheck l r) ∧
    (∃ (e : Stamp) (r : Request) (s : State) (l : Lane), l = nowOf e s ∧ accepted 0x0D00 none updateBeginCheck l r) ∧
    (∃ (e : Stamp) (r : Request) (s : State) (l : Lane) (x : Staged), l = nowOf e s ∧ accepted 0x0D01 none
          updateChunkCheck l r ∧ l.mode.staged = some x) ∧
    (∃ (e : Stamp) (r : Request) (s : State) (l : Lane) (l1 : Lane), l = nowOf e s ∧ accepted 0x0D02 none
          updateFinishCheck l r ∧ l1 = emptyInactive l) ∧
    (∃ (e : Stamp) (r : Request) (s : State) (l : Lane), l = nowOf e s ∧ accepted 0x0D03 (some 0) confirmCheck l r ∧
          (activeHeader l).state = .testing) ∧
    (∃ (e : Stamp) (r : Request) (s : State) (l : Lane), l = nowOf e s ∧ accepted 0x0D03 (some 0) confirmCheck l r ∧
          (activeHeader l).state ≠ .testing) ∧
    (∃ (e : Stamp) (r : Request) (s : State) (l : Lane), l = nowOf e s ∧ accepted 0x0D03 (some 1) rejectCheck l r) ∧
    (∃ (e : Stamp) (r : Request) (s : State) (l : Lane) (isB : Bool) (boot : BootFlash), l = nowOf e s ∧ accepted 0x0D04
          none slotSelectCheck l r ∧ isB = (field (body r) 0 1 == 1) ∧ (slotIn l.boot (!isB)).state ≠ .testing ∧ boot =
          { l.boot with selectedB := isB, failures := 0 } ∧ bit (field (body r) 1 1) 0 = false) ∧
    (∃ (e : Stamp) (r : Request) (s : State) (l : Lane) (isB : Bool) (boot : BootFlash) (l1 : Lane), l = nowOf e s ∧
          accepted 0x0D04 none slotSelectCheck l r ∧ isB = (field (body r) 0 1 == 1) ∧ (slotIn l.boot (!isB)).state ≠
          .testing ∧ boot = { l.boot with selectedB := isB, failures := 0 } ∧ bit (field (body r) 1 1) 0 = true ∧ l1 =
          postReply r .ok false [] { l with boot := boot }) ∧
    (∃ (e : Stamp) (r : Request) (s : State) (l : Lane) (n : Nat), l = nowOf e s ∧ accepted 0x0E00 none gaugeSetCheck l
          r ∧ n = flowId r) ∧
    (∃ (e : Stamp) (r : Request) (s : State) (l : Lane), l = nowOf e s ∧ accepted 0x0E01 none gaugeSnapshotCheck l r ∧
          field (body r) 0 1 = 1) ∧
    (∃ (e : Stamp) (r : Request) (s : State) (l : Lane), l = nowOf e s ∧ accepted 0x0E01 none gaugeSnapshotCheck l r ∧
          field (body r) 0 1 ≠ 1) ∧
    (∃ (e : Stamp) (r : Request) (s : State) (l : Lane), l = nowOf e s ∧ accepted 0x0E02 none faultReadCheck l r) ∧
    (∃ (e : Stamp) (r : Request) (s : State) (l : Lane) (d : DrillRun), l = nowOf e s ∧ accepted 0x0E03 none drillCheck
          l r ∧ d = {
            req := r, tests := field (body r) 0 1, scenario := field (body r) 1 1,
            exitOnDone := bit (field (body r) 2 1) 0, repeats := field (body r) 3 1,
            portMask := BitVec.ofNat 32 (field (body r) 4 4) }) ∧
    (∃ (e : Stamp) (r : Request) (s : State) (l : Lane), l = nowOf e s ∧ accepted 0x0E04 none healthQueryCheck l r) :=
        by
  refine ⟨?_, ?_, ?_, ?_, ?_, ?_, ?_, ?_, ?_, ?_, ?_, ?_, ?_, ?_, ?_, ?_, ?_, ?_, ?_, ?_, ?_⟩
  · exact ⟨(w0 : Stamp), (rq 0x0101 0 (wr 8 [(0, 1, 4)]) : Request), at_ svc, _, (.drill : Mode), rfl,
        ⟨by decide +kernel, by decide +kernel⟩, by decide +kernel⟩
  · exact ⟨(w0 : Stamp), (rq 0x0102 0 (zeros 4) : Request), at_ svc, _, rfl, ⟨by decide +kernel, by decide +kernel⟩⟩
  · exact ⟨(w0 : Stamp), (rq 0x0102 0 (wr 4 [(0, 1, 1)]) : Request), at_ svc, _, rfl,
        ⟨by decide +kernel, by decide +kernel⟩⟩
  · exact ⟨(w0 : Stamp), (rq 0x0103 0 [] : Request), at_ svc, _, rfl, ⟨by decide +kernel, by decide +kernel⟩⟩
  · exact ⟨(w0 : Stamp), (rq 0x0104 0 (wr 8 [(4, 4, 1)]) : Request), at_ svc, _, rfl,
        ⟨by decide +kernel, by decide +kernel⟩⟩
  · exact ⟨(w0 : Stamp), (rq 0x0105 0 (wr 8 [(0, 4, 1), (4, 1, 20)]) : Request), at_ svc, _, _, rfl,
        ⟨by decide +kernel, by decide +kernel⟩, rfl⟩
  · exact ⟨(w0 : Stamp), (rq 0x0100 0 (zeros 4) : Request), at_ svc, _, rfl, ⟨by decide +kernel, by decide +kernel⟩⟩
  · exact ⟨(w0 : Stamp), (rq 0x0D00 0 (wr 68 [(0, 4, 64)]) : Request), at_ svc, _, rfl,
        ⟨by decide +kernel, by decide +kernel⟩⟩
  · exact ⟨(w0 : Stamp), (rq 0x0D01 0 (wr 9 [(4, 4, 1)]) : Request), at_
        ({ svc with mode.staged := some { stg with totalLen := 64 } }), _, _, rfl,
        ⟨by decide +kernel, by decide +kernel⟩, rfl⟩
  · exact ⟨(w0 : Stamp), (rq 0x0D02 0 (wr 8 [(0, 4, 60)]) : Request), at_ ({ svc with mode.staged := some stg }), _, _,
        rfl, ⟨by decide +kernel, by decide +kernel⟩, rfl⟩
  · exact ⟨(w0 : Stamp), (rq 0x0D03 0 (zeros 4) : Request), at_ (testing), _, rfl,
        ⟨by decide +kernel, by decide +kernel⟩, by decide +kernel⟩
  · exact ⟨(w0 : Stamp), (rq 0x0D03 0 (zeros 4) : Request), at_ (twoSlots), _, rfl,
        ⟨by decide +kernel, by decide +kernel⟩, by decide +kernel⟩
  · exact ⟨(w0 : Stamp), (rq 0x0D03 0 (wr 4 [(0, 1, 1)]) : Request), at_ (testing), _, rfl,
        ⟨by decide +kernel, by decide +kernel⟩⟩
  · exact ⟨(w0 : Stamp), (rq 0x0D04 0 (wr 4 [(0, 1, 1)]) : Request), at_ (twoSlots), _, _, _, rfl,
        ⟨by decide +kernel, by decide +kernel⟩, rfl, by decide +kernel, rfl, by decide +kernel⟩
  · exact ⟨(w0 : Stamp), (rq 0x0D04 0 (wr 4 [(0, 1, 1), (1, 1, 1)]) : Request), at_ (twoSlots), _, _, _, _, rfl,
        ⟨by decide +kernel, by decide +kernel⟩, rfl, by decide +kernel, rfl, by decide +kernel, rfl⟩
  · exact ⟨(w0 : Stamp), (rq 0x0E00 0 (wr 16 [(8, 4, 1), (12, 4, 10)]) : Request), at_ svc, _, _, rfl,
        ⟨by decide +kernel, by decide +kernel⟩, rfl⟩
  · exact ⟨(w0 : Stamp), (rq 0x0E01 0 [1, 0, 0, 0] : Request), at_ svc, _, rfl, ⟨by decide +kernel, by decide +kernel⟩,
        by decide +kernel⟩
  · exact ⟨(w0 : Stamp), (rq 0x0E01 0 (zeros 4) : Request), at_ svc, _, rfl, ⟨by decide +kernel, by decide +kernel⟩, by
        decide +kernel⟩
  · exact ⟨(w0 : Stamp), (rq 0x0E02 0 (wr 8 [(4, 2, 1)]) : Request), at_ svc, _, rfl,
        ⟨by decide +kernel, by decide +kernel⟩⟩
  · exact ⟨(w0 : Stamp), (rq 0x0E03 0 (wr 8 [(0, 1, 1), (1, 1, 1), (3, 1, 1)]) : Request), at_
        ({ svc with mode.mode := .drill }), _, _, rfl, ⟨by decide +kernel, by decide +kernel⟩, rfl⟩
  · exact ⟨(w0 : Stamp), (rq 0x0E04 0 (zeros 4) : Request), at_ svc, _, rfl, ⟨by decide +kernel, by decide +kernel⟩⟩

end Sys2Proof.Tests
end

section
/-!
PROOFS. What a command of one lane is: its lane's effect run by `runLane`, and for a request the service of its opcode. With
them the statements about the other lane and about refused requests.
-/
namespace Sys2Proof.Machine

/-! ### Commands of one lane -/

theorem exec_glegalRequestArrival (e : Stamp) (vlan : Bool) (r : Request) (s : State) :
    exec (.glegalRequestArrival e vlan r) s = runLane e (fun l => laneArrival (udpLimit l r.src vlan) r l) s := rfl

theorem exec_glegalDatagramReceive (e : Stamp) (vlan : Bool) (addr : Bytes) (fragment : Bool) (d : Bytes) (s : State) :
    exec (.glegalDatagramReceive e vlan addr fragment d) s =
      runLane e (fun l => laneDatagram (udpLimit l (((peerOf l addr).map (·.1)).getD 0) vlan) addr fragment d l) s := rfl

theorem exec_hello (e : Stamp) (vlan : Bool) (r : Request) (s : State) :
    exec (.hello e vlan r) s =
      runLane e (serve 0x0001 none helloCheck (fun q l => helloApply (udpLimit l q.src vlan) q l) r) s := rfl

/-- The one command whose effect on its lane depends on the package: under the overvoltage latch it only passes time. -/
theorem exec_keepAliveSupplyLoss (e : Stamp) (s : State) :
    exec (.keepAliveSupplyLoss e) s = runLane e (if s.overvoltage then id else laneKeepAliveLoss) s := by
  show (if s.overvoltage then runLane e id s else runLane e laneKeepAliveLoss s) = _
  split <;> rfl

/-- A stamped command runs an effect on its own lane. (`cases h` closes the commands of the whole package.) -/
theorem exec_runsLane {c : Instr} {e : Stamp} (h : stampOf c = some e) (s : State) : ∃ f, exec c s = runLane e f s := by
  cases c with
  | glegalRequestArrival e' vlan r => cases h; exact ⟨_, exec_glegalRequestArrival ..⟩
  | glegalDatagramReceive e' vlan addr fragment d => cases h; exact ⟨_, exec_glegalDatagramReceive ..⟩
  | hello e' vlan r => cases h; exact ⟨_, exec_hello ..⟩
  | keepAliveSupplyLoss e' => cases h; exact ⟨_, exec_keepAliveSupplyLoss ..⟩
  | _ => cases h <;> exact ⟨_, rfl⟩

theorem eq_setLane_of_runLane {e : Stamp} {f : Lane → Lane} {s t : State} (h : runLane e f s = .next t) :
    t = s.setLane e.lane (t.lane e.lane) := by
  obtain rfl := Host.Outcome.next.inj h
  rw [State.setLane_lane]

/-- What a command of one lane answers, from its effect on the lane at the command's time. -/
theorem runLane_nowOf {e : Stamp} {f : Lane → Lane} {s : State} {m : Lane} (h : f (nowOf e s) = m) :
    runLane e f s = .next (s.setLane e.lane m) := by
  rw [← h]
  rfl

/-- Settles O4: a stamped command is a `runLane`, which replaces its lane and nothing else. -/
theorem oneLanesCommandLeavesTheOther : Obligations.OneLanesCommandLeavesTheOther := by
  intro c e s t he ht
  obtain ⟨f, hf⟩ := exec_runsLane he s
  exact eq_setLane_of_runLane (hf ▸ ht)

/-! ### Requests -/

/-- The command of a request serves it under its row's opcode, op and check: with its reply at once (`serve`), or held until its
commit point (`serveHeld`, R87). (`cases h` closes the commands that serve no request.) -/
theorem exec_request {c : Instr} {row : RequestRow} (h : requestRow c = some row) (s : State) :
    (∃ apply, exec c s = runLane row.stamp (serve row.opcode row.op row.check apply row.request) s) ∨
    ∃ start, exec c s = runLane row.stamp (serveHeld row.opcode row.op row.check start row.request) s := by
  cases c with
  | abort | cancel | leaseHandover | roleRespondTake | roleRespondBind | peBankSwap | sessionModify | patternLoadChunk
  | patternLoadLibrary | patternSwap | patternParamSet | resultRead | swatchTrigger | markSetSet | markRead
  | variantStageChunk | variantStageStage | variantSelect | modeSet | laneResetRestart | laneResetSalvage | drillRun
  | updateFinish | updateConfirmReject | slotSelect => cases h; exact .inr ⟨_, rfl⟩
  | hello e vlan r => cases h; exact .inl ⟨_, exec_hello ..⟩
  | _ => cases h <;> exact .inl ⟨_, rfl⟩

theorem serve_refused {opcode op check apply r l} (h : names opcode op r = true) (hs : serviceStatus check l r ≠ .ok) :
    serve opcode op check apply r l = refuse r (serviceStatus check l r) l := by
  rw [serve, if_pos h]
  split
  · contradiction
  · rfl

theorem serveHeld_refused {opcode op check start r l} (h : names opcode op r = true) (hs : serviceStatus check l r ≠ .ok) :
    serveHeld opcode op check start r l = refuse r (serviceStatus check l r) l := by
  rw [serveHeld, if_pos h]
  split
  · contradiction
  · rfl

/-- A refused QUEUE_FLUSH comes after the progress of the queue's fronts, the model's choice (log 29). -/
theorem laneQueueFlush_refused {read written r l m} (hm : m = progress (flowId r) read written l)
    (h : names 0x0906 none r = true) (hs : serviceStatus queueIdCheck m r ≠ .ok) :
    laneQueueFlush read written r l = refuse r (serviceStatus queueIdCheck m r) m := by
  rw [laneQueueFlush, if_pos h, ← hm, serve_refused h hs]

/-- A refused QUEUE_DROP_REST comes after the progress of the queue's fronts, the model's choice (log 29). -/
theorem laneQueueDropRest_refused {read written r l m} (hm : m = progress (flowId r) read written l)
    (h : names 0x0907 none r = true) (hs : serviceStatus queueIdCheck m r ≠ .ok) :
    laneQueueDropRest read written r l = refuse r (serviceStatus queueIdCheck m r) m := by
  rw [laneQueueDropRest, if_pos h, ← hm, serve_refused h hs]

/-- Settles O9: both services of a request answer a failed check by a refusal alone. -/
theorem refusedRequestsOnlyReply : Obligations.RefusedRequestsOnlyReply := by
  refine ⟨?request, ?queueFlush, ?queueDropRest⟩
  case request =>
    rintro c row s _ hc rfl hn hs
    obtain ⟨apply, hx⟩ | ⟨start, hx⟩ := exec_request hc s
    · rw [hx]
      exact runLane_nowOf (serve_refused hn hs)
    · rw [hx]
      exact runLane_nowOf (serveHeld_refused hn hs)
  case queueFlush =>
    intro e read written r s l hl hn hs
    exact runLane_nowOf (laneQueueFlush_refused hl hn hs)
  case queueDropRest =>
    intro e read written r s l hl hn hs
    exact runLane_nowOf (laneQueueDropRest_refused hl hn hs)

end Sys2Proof.Machine
end

section
/-!
PROOFS. Fine tags (R10, R12): the signed difference of two tags, and the tag of an instant.
-/
namespace Sys2Proof.Machine

theorem tagDiff_eq_signed (a b : FineTag) : tagDiff a b = signed 40 (a.toNat + 2 ^ 40 - b.toNat) := by
  have hsub : (a - b).toNat = (a.toNat + 2 ^ 40 - b.toNat) % 2 ^ 40 := by
    rw [BitVec.toNat_sub]
    have hb := b.isLt
    congr 1
    omega
  rw [tagDiff, signed, BitVec.toInt_eq_toNat_cond, hsub]
  congr 1
  rw [eq_iff_iff]
  omega

theorem tagLater_iff (a b : FineTag) : tagLater a b = true ↔ 0 < tagDiff a b := decide_eq_true_iff

theorem tagDiff_eq_zero (a b : FineTag) : tagDiff a b = 0 ↔ a = b := by
  rw [tagDiff_eq_signed, signed, ← BitVec.toNat_inj]
  have ha := a.isLt
  have hb := b.isLt
  split <;> omega

/-- The difference changes its sign with the order of the tags, but for −2^39, which is its own negative modulo 2^40. -/
theorem tagDiff_swap (a b : FineTag) : tagDiff b a = if tagDiff a b = -(2 ^ 39) then -(2 ^ 39) else -tagDiff a b := by
  rw [tagDiff_eq_signed, tagDiff_eq_signed, signed, signed]
  have ha := a.isLt
  have hb := b.isLt
  split <;> split <;> split <;> omega

theorem not_tagLater_of_half {a b : FineTag} (h : tagDiff a b = -(2 ^ 39)) :
    tagLater a b = false ∧ tagLater b a = false ∧ a ≠ b := by
  refine ⟨?_, ?_, ?_⟩
  · simp [tagLater, h]
  · simp [tagLater, tagDiff_swap a b, h]
  · rintro rfl
    simp [tagDiff] at h

theorem tagLater_swap {a b : FineTag} (h : tagDiff a b ≠ -(2 ^ 39)) (hne : a ≠ b) : tagLater a b = !tagLater b a := by
  have h0 : tagDiff a b ≠ 0 := mt (tagDiff_eq_zero a b).1 hne
  rw [Bool.eq_not, ne_eq, Bool.eq_iff_iff, tagLater_iff, tagLater_iff, tagDiff_swap a b, if_neg h]
  omega

/-- Settles O17, by the sign of the difference the other way round. -/
theorem tagComparison : Obligations.TagComparison :=
  ⟨tagDiff_eq_signed, tagLater_iff, tagDiff_eq_zero, fun _ _ => not_tagLater_of_half, fun _ _ => tagLater_swap⟩

theorem nowTag_toNat (l : Lane) : (nowTag l).toNat = nowUnits l % 2 ^ 40 := by
  rw [nowTag, nowUnits, BitVec.toNat_ofNat]

theorem nowTag_seconds (l : Lane) : (nowTag l).toNat / 2 ^ 24 = nowFull l / 2 ^ 32 % 2 ^ 16 := by
  rw [nowTag_toNat, nowUnits, nowFull]
  omega

theorem nowTag_fraction (l : Lane) : (nowTag l).toNat % 2 ^ 24 = nowFull l % 2 ^ 32 / 2 ^ 8 := by
  rw [nowTag_toNat, nowUnits, nowFull]
  omega

/-- Settles O18: the tag is the time in 2^-24 s modulo 2^40, which is 65,536 s. -/
theorem tagOfTheTime : Obligations.TagOfTheTime :=
  fun l => ⟨nowTag_seconds l, nowTag_fraction l, nowTag_toNat l⟩

end Sys2Proof.Machine
end

section
/-!
PROOFS. The hub and the host (chapter 20): when an access of the host reaches its lane, and what each of its commands does then.
-/
namespace Sys2Proof.Machine

section HubAndFunction
variable {l : Lane}

theorem laneHeartbeat_present (runs : dieRuns l = true) (hub : l.mode.hubPresent = true) :
    laneHeartbeat l = { l with mode := { l.mode with hubSeenAt := l.tc } } := by
  simp [laneHeartbeat, runs, hub]

theorem laneHubLost_silent {l1 : Lane} (runs : dieRuns l = true) (hub : l.mode.hubPresent = true)
    (silent : l.mode.hubSeenAt + msTc 1 ≤ l.tc)
    (h1 : l1 = { l with
      mode := { l.mode with hubPresent := false, hubLostAt := l.tc }, keys := { l.keys with privilege := false },
      host := { l.host with wq := none } }) :
    laneHubLost l = plySettle (raiseCond 256 (hostWitnessLost .device (hostWitnessLost .lane l1))) := by
  simp [laneHubLost, runs, hub, silent, h1]

theorem laneHubReturn_absent (runs : dieRuns l = true) (gone : l.mode.hubPresent = false) :
    laneHubReturn l = plySettle
      (resumeHost (logFault .event .none 0 0 (some 256) (le 8 (4 * (l.tc - l.mode.hubLostAt)))
        (dropCond 256 { l with mode := { l.mode with hubPresent := true, hubSeenAt := l.tc } }))) := by
  simp [laneHubReturn, runs, gone]

theorem laneFunctionReset_pcie (power : l.powered = true) (die : l.dieOk = true) (pcie : l.spi = false) :
    laneFunctionReset l = functionReset l := by
  simp [laneFunctionReset, power, die, pcie]

theorem laneFunctionReset_spi (spi : l.spi = true) : laneFunctionReset l = l := by
  simp [laneFunctionReset, spi]

theorem laneHostDormant_wakes {a : HostAccess} (asleep : l.mode.mode = .dormant) (power : l.powered = true)
    (die : l.dieOk = true) : laneHostDormant a l = wake .hostAccess (answerDormant a l) := by
  simp [laneHostDormant, asleep, power, die]

theorem laneHoldoffExpiry_signals {b : Nat} (runs : dieRuns l = true) (held : l.host.heldMsg.contains b = true)
    (hub : l.mode.hubPresent = true) (passed : holdoffPassed l b = true) (cause : l.host.intCause.getLsbD b = true) :
    laneHoldoffExpiry b l =
      signalCause b { l with host := { l.host with heldMsg := l.host.heldMsg.filter (· != b) } } := by
  rw [laneHoldoffExpiry, runs, held, hub, passed]
  exact if_pos cause

end HubAndFunction

section HostAccess
variable {l : Lane} (awake : l.mode.mode ≠ .dormant) (runs : dieRuns l = true) (hub : l.mode.hubPresent = true)
include awake runs hub

/-- An access of the host to a lane that is not DORMANT, runs, and has its hub (R30, R34). -/
theorem hostOp_reaches (f : Lane → Lane) : hostOp f l = f l := by
  simp [hostOp, awake, runs, hub]

theorem pcieOp_reaches (pcie : l.spi = false) (f : Lane → Lane) : pcieOp f l = f l := by
  simp [pcieOp, hostOp_reaches awake runs hub, pcie]

theorem spiOp_reaches (spi : l.spi = true) (f : Lane → Lane) : spiOp f l = f l := by
  simp [spiOp, hostOp_reaches awake runs hub, spi]

theorem laneSysResetRestart_keyed {v : Word} (key : resetKey v = 0xA5) (op : resetOp v = 1) :
    laneSysResetRestart v l = resetToStart .hostReset l := by
  simp [laneSysResetRestart, hostOp_reaches awake runs hub, key, op]

theorem laneSysResetSalvage_keyed {v : Word} (key : resetKey v = 0xA5) (op : resetOp v = 2) :
    laneSysResetSalvage v l = resetToSalvage .hostReset l := by
  simp [laneSysResetSalvage, hostOp_reaches awake runs hub, key, op]

theorem laneTnsLatch_latches {v : Word} (latch : v.getLsbD 0 = true) : laneTnsLatch v l = latchTime l := by
  simp [laneTnsLatch, hostOp_reaches awake runs hub, latch]

theorem laneGauSnapshot_gauge (gauge : Fin 64) : laneGauSnapshot gauge l = copyGauge gauge l := by
  rw [laneGauSnapshot, hostOp_reaches awake runs hub, Nat.mod_eq_of_lt gauge.isLt]

theorem laneGauSnapshotClear_gauge (gauge : Fin 64) :
    laneGauSnapshotClear gauge l = clearGauge gauge (copyGauge gauge l) := by
  rw [laneGauSnapshotClear, hostOp_reaches awake runs hub, Nat.mod_eq_of_lt gauge.isLt]

theorem laneRingEnable_set {v : Word} (pcie : l.spi = false) (ring : Fin 4) (enable : v.getLsbD 0 = true) :
    laneRingEnable ring v l = ringCtrl ring v l := by
  simp [laneRingEnable, pcieOp_reaches awake runs hub pcie, ring.isLt, enable]

theorem laneSqDoorbell_ring (pcie : l.spi = false) (ring : Fin 4) (index : Nat) (entries : List (Option Submission)) :
    laneSqDoorbell ring index entries l = ringDoorbell ring (index % 256) entries l := by
  simp [laneSqDoorbell, pcieOp_reaches awake runs hub pcie, ring.isLt]

theorem laneCqHeadWrite_ring (pcie : l.spi = false) (ring : Fin 4) (index : Nat) :
    laneCqHeadWrite ring index l = ringCqHead ring (index % 256) l := by
  simp [laneCqHeadWrite, pcieOp_reaches awake runs hub pcie, ring.isLt]

theorem laneMbxDoorbell_submits {v : Word} (spi : l.spi = true) (normal : doorbellBypass v = false) :
    laneMbxDoorbell v l = mailboxSubmit v l := by
  simp [laneMbxDoorbell, spiOp_reaches awake runs hub spi, normal]

theorem laneMbxBypass_bypasses {v : Word} (spi : l.spi = true) (bypass : doorbellBypass v = true) :
    laneMbxBypass v l = mailboxBypass v l := by
  simp [laneMbxBypass, spiOp_reaches awake runs hub spi, bypass]

end HostAccess

/-- Settles O50, a clause per command: each command's effect on a lane that the access reaches. -/
theorem hubAndHostRegistersComplete : Obligations.HubAndHostRegistersComplete := by
  refine ⟨?hubHeartbeatSend, ?hubLost, ?hubReturn, ?functionLevelReset, ?functionLevelResetSpi, ?hostAccessWhileDormant,
    ?intHoldoffExpiry, ?sysResetRestart, ?sysResetSalvage, ?glgRingEnable, ?glgSqDoorbell, ?glgCqHeadWrite,
    ?hfrTxDoorbell, ?hfrRxTailWrite, ?hfrRxDropRead, ?tnsLatch, ?gauSelSnapshot, ?gauSelSnapshotClear,
    ?plyWitnessWrite, ?mbxDoorbell, ?mbxDoorbellBypass, ?registerWrite⟩
  case hubHeartbeatSend =>
    rintro e s _ rfl runs hub
    exact runLane_nowOf (laneHeartbeat_present runs hub)
  case hubLost =>
    rintro e s _ l1 rfl runs hub silent h1
    exact runLane_nowOf (laneHubLost_silent runs hub silent h1)
  case hubReturn =>
    rintro e s _ rfl runs gone
    exact runLane_nowOf (laneHubReturn_absent runs gone)
  case functionLevelReset =>
    rintro e s _ rfl power die pcie
    exact runLane_nowOf (laneFunctionReset_pcie power die pcie)
  case functionLevelResetSpi =>
    rintro e s _ rfl spi
    exact runLane_nowOf (laneFunctionReset_spi spi)
  case hostAccessWhileDormant =>
    rintro e a s _ rfl asleep power die
    exact runLane_nowOf (laneHostDormant_wakes asleep power die)
  case intHoldoffExpiry =>
    rintro e vector s _ rfl runs held hub passed cause
    exact runLane_nowOf (laneHoldoffExpiry_signals runs held hub passed cause)
  case sysResetRestart =>
    rintro e v s _ rfl awake runs hub key op
    exact runLane_nowOf (laneSysResetRestart_keyed awake runs hub key op)
  case sysResetSalvage =>
    rintro e v s _ rfl awake runs hub key op
    exact runLane_nowOf (laneSysResetSalvage_keyed awake runs hub key op)
  case glgRingEnable =>
    rintro e ring v s _ rfl awake runs hub pcie enable
    exact runLane_nowOf (laneRingEnable_set awake runs hub pcie ring enable)
  case glgSqDoorbell =>
    rintro e ring index entries s _ rfl awake runs hub pcie
    exact runLane_nowOf (laneSqDoorbell_ring awake runs hub pcie ring index entries)
  case glgCqHeadWrite =>
    rintro e ring index s _ rfl awake runs hub pcie
    exact runLane_nowOf (laneCqHeadWrite_ring awake runs hub pcie ring index)
  case hfrTxDoorbell =>
    rintro e index descs s _ rfl awake runs hub pcie
    exact runLane_nowOf (pcieOp_reaches awake runs hub pcie _)
  case hfrRxTailWrite =>
    rintro e index addrs s _ rfl awake runs hub pcie
    exact runLane_nowOf (pcieOp_reaches awake runs hub pcie _)
  case hfrRxDropRead =>
    rintro e s _ rfl awake runs hub pcie
    exact runLane_nowOf (pcieOp_reaches awake runs hub pcie _)
  case tnsLatch =>
    rintro e v s _ rfl awake runs hub latch
    exact runLane_nowOf (laneTnsLatch_latches awake runs hub latch)
  case gauSelSnapshot =>
    rintro e gauge s _ rfl awake runs hub
    exact runLane_nowOf (laneGauSnapshot_gauge awake runs hub gauge)
  case gauSelSnapshotClear =>
    rintro e gauge s _ rfl awake runs hub
    exact runLane_nowOf (laneGauSnapshotClear_gauge awake runs hub gauge)
  case plyWitnessWrite =>
    rintro e v s _ rfl awake runs hub
    exact runLane_nowOf (hostOp_reaches awake runs hub _)
  case mbxDoorbell =>
    rintro e v s _ rfl awake runs hub spi normal
    exact runLane_nowOf (laneMbxDoorbell_submits awake runs hub spi normal)
  case mbxDoorbellBypass =>
    rintro e v s _ rfl awake runs hub spi bypass
    exact runLane_nowOf (laneMbxBypass_bypasses awake runs hub spi bypass)
  case registerWrite =>
    rintro e off v s _ rfl awake runs hub
    exact runLane_nowOf (hostOp_reaches awake runs hub _)

end Sys2Proof.Machine
end

section
/-!
PROOFS. The serial ports (chapter 14): what each event of a port does to a lane that serves it.
-/
namespace Sys2Proof.Machine

/-- A command names one of the eight serial ports, so the guard of their functions against any other number never applies. -/
theorem serialPort_not_gt (port : Fin 8) : ¬ 7 < port.val := by omega

section SerialEvents
variable {l : Lane} {port : Fin 8} (serves : serving l = true)
include serves

theorem lanePollSend_requests {p : SerialRun} {q : PollRequest} (holds : isLeaseholder l = true)
    (on : (serialCfg l port).framing ≠ 0) (view : p = pollView l port) (free : p.outstanding = none)
    (unheld : p.held = false) (idle : p.lineAt + idleNeeded l port ≤ l.tc)
    (next : nextRequest (setSerial port p l) port = some q) {q1 : PollRequest} (hq : q1 = { q with sentAt := l.tc })
    {l1 : Lane}
    (h1 : l1 = setSerial port
      { p with
        outstanding := some q1, again := none, lastEntry := some q.entry, lineAt := l.tc,
        polledUnder := some (leaseEpochs l), counters := { p.counters with framesTx := bump p.counters.framesTx } }
      (setSerial port p l)) :
    lanePollSend port l = emit (.serial port (requestFrame (serialCfg l port) (pollCfg l port q.entry).linkAddr q1))
      (setStation port q.entry (afterRequest l.tc q1 (station l1 port q.entry)) l1) := by
  subst view hq h1
  simp [lanePollSend, serialPort_not_gt, serves, holds, on, free, unheld, Nat.not_lt.2 idle, next]

theorem laneResponseTimeout_passed {q : PollRequest} (waits : (serialRun l port).outstanding = some q)
    (passed : q.sentAt + msTc (serialCfg l port).respTimeoutMs ≤ l.tc) :
    laneResponseTimeout port l =
      requestFails port q (countSerial port (fun k => { k with timeouts := bump k.timeouts }) l) := by
  simp [laneResponseTimeout, waits, serves, passed]

theorem laneOfflineRetry_passed {entry : Fin 64} (offline : (station l port entry).state = .offline)
    (passed : (station l port entry).offlineAt + secTc (serialCfg l port).offlineRetryS ≤ l.tc) :
    laneOfflineRetry port entry l =
      offlineAlarm port (setStation port entry { station l port entry with state := .resetting, step := 0 } l) := by
  simp [laneOfflineRetry, serves, offline, passed]

theorem laneUnsolicited_counts (free : (serialRun l port).outstanding = none) (count : Nat) :
    laneUnsolicited port count l =
      countSerial port (fun k => { k with unsolicited := (k.unsolicited + count) % 2 ^ 32 }) l := by
  simp [laneUnsolicited, serialPort_not_gt, serves, free]

theorem laneObservedPoll_follows {octets : Bytes} {q : PollRequest} (standby : isLeaseholder l = false)
    (on : (serialCfg l port).framing ≠ 0)
    (seen : observedRequest l port (parseLine (serialCfg l port).framing octets) = some q) :
    laneObservedPoll port octets l = setStation port q.entry
      (afterRequest l.tc q
        { station l port q.entry with state := if q.fc = 10 ∨ q.fc = 11 then .polling else .resetting })
      (setSerial port
        { serialRun l port with outstanding := some q, again := none, lastEntry := some q.entry, lineAt := l.tc }
        l) := by
  by_cases data : q.fc = 10 ∨ q.fc = 11
  · simp [laneObservedPoll, serialPort_not_gt, serves, standby, on, seen, data]
  · simp [laneObservedPoll, serialPort_not_gt, serves, standby, on, seen, data]

section Responses
variable {octets : Bytes} (on : (serialCfg l port).framing ≠ 0) (straight : looped l (12 + port) = false)
include on straight

theorem laneSerialResponse_unsolicited (free : (serialRun l port).outstanding = none) (charError : Bool) :
    laneSerialResponse port octets charError l =
      countSerial port (fun k => { k with unsolicited := (k.unsolicited + octets.length) % 2 ^ 32 }) l := by
  simp [laneSerialResponse, serialPort_not_gt, serves, on, straight, free]

variable {q : PollRequest} (waits : (serialRun l port).outstanding = some q)
include waits

theorem laneSerialResponse_charError :
    laneSerialResponse port octets true l =
      requestFails port q (countSerial port (fun k => { k with charErrors := bump k.charErrors }) l) := by
  simp [laneSerialResponse, serialPort_not_gt, serves, on, straight, waits]

theorem laneSerialResponse_badCheck (line : parseLine (serialCfg l port).framing octets = .badCheck) :
    laneSerialResponse port octets false l =
      requestFails port q (countSerial port (fun k => { k with checkErrors := bump k.checkErrors }) l) := by
  simp [laneSerialResponse, serialPort_not_gt, serves, on, straight, waits, line]

/-- A frame that no rejection takes and whose link address, where it carries one, is the station's. -/
theorem laneSerialResponse_good {f : LineFrame} (line : parseLine (serialCfg l port).framing octets = f)
    (char : f ≠ .badChar) (check : f ≠ .badCheck) (length : f ≠ .badLength)
    (addr : (responseAddr f).all (· == (pollCfg l port q.entry).linkAddr) = true) :
    laneSerialResponse port octets false l = goodResponse port q octets f l := by
  cases f with
  | badChar => contradiction
  | badCheck => contradiction
  | badLength => contradiction
  | single | fixed | variable_ =>
    simp [laneSerialResponse, serialPort_not_gt, serves, on, straight, waits, line, addr]

end Responses

end SerialEvents

/-- Settles O33, a clause per command and outcome: each event's effect on a lane that serves its serial ports. -/
theorem serialEventsComplete : Obligations.SerialEventsComplete := by
  refine ⟨?pollRequestSend, ?responseUnsolicited, ?responseCharError, ?responseBadCheck, ?responseGood,
    ?responseTimeout, ?offlineRetryExpiry, ?unsolicitedCharacter, ?observedPollRequest⟩
  case pollRequestSend =>
    rintro e port s _ q q1 _ l1 p rfl serves holds on view free unheld idle rfl next hq h1
    exact runLane_nowOf (lanePollSend_requests serves holds on view free unheld idle next hq h1)
  case responseUnsolicited =>
    rintro e port octets charError s _ rfl serves on straight free
    exact runLane_nowOf (laneSerialResponse_unsolicited serves on straight free charError)
  case responseCharError =>
    rintro e port octets _ s _ q rfl serves on straight waits rfl
    exact runLane_nowOf (laneSerialResponse_charError serves on straight waits)
  case responseBadCheck =>
    rintro e port octets _ s _ q rfl serves on straight waits rfl line
    exact runLane_nowOf (laneSerialResponse_badCheck serves on straight waits line)
  case responseGood =>
    rintro e port octets _ s _ q f rfl serves on straight waits rfl line char check length addr
    exact runLane_nowOf (laneSerialResponse_good serves on straight waits line char check length addr)
  case responseTimeout =>
    rintro e port s _ q rfl waits serves passed
    exact runLane_nowOf (laneResponseTimeout_passed serves waits passed)
  case offlineRetryExpiry =>
    rintro e port entry s _ rfl serves offline passed
    exact runLane_nowOf (laneOfflineRetry_passed serves offline passed)
  case unsolicitedCharacter =>
    rintro e port count s _ rfl serves free
    exact runLane_nowOf (laneUnsolicited_counts serves free count)
  case observedPollRequest =>
    rintro e port octets s _ q rfl serves standby on seen
    exact runLane_nowOf (laneObservedPoll_follows serves standby on seen)

end Sys2Proof.Machine
end

section
/-!
PROOFS. Every step keeps the invariants of the package: the effect of each command keeps those of its lane (`Laws/Kept`), for a
command of one lane and for one of the package.
-/
namespace Sys2Proof.Machine

/-- An effect on a lane that keeps the lane's invariants, its identity, its count and its strap. -/
def Keeps (f : Lane → Lane) : Prop := ∀ B l, l.Kept B → (f l).Kept B

/-- A stamped command runs an effect that keeps its lane. (`cases h` closes the commands of the whole package.) -/
theorem exec_keepsLane {c : Instr} {e : Stamp} (h : stampOf c = some e) (s : State) :
    ∃ f, exec c s = runLane e f s ∧ Keeps f := by
  cases c with
  | glegalRequestArrival _ vlan r =>
    cases h; exact ⟨fun l => laneArrival (udpLimit l r.src vlan) r l, rfl, fun _ _ => laneArrival_kept _ _ _⟩
  | glegalDatagramReceive _ vlan addr fragment d =>
    cases h
    exact ⟨_, exec_glegalDatagramReceive .., fun _ _ => laneDatagram_kept _ _ _ _ _⟩
  | hello _ vlan r => cases h; exact ⟨fun l => laneHello (udpLimit l r.src vlan) r l, rfl, fun _ _ => laneHello_kept _ _ _⟩
  | keepAliveSupplyLoss =>
    cases h
    refine ⟨_, exec_keepAliveSupplyLoss .., fun _ l hl => ?_⟩
    split
    · exact hl
    · exact laneKeepAliveLoss_kept l hl
  | needleDispatch => cases h; exact ⟨_, rfl, fun _ => laneDispatch_kept⟩
  | delayListTick => cases h; exact ⟨_, rfl, fun _ => laneDelayTick_kept⟩
  | abortTakesEffect => cases h; exact ⟨_, rfl, fun _ => laneAbortTakesEffect_kept⟩
  | nop => cases h; exact ⟨_, rfl, fun _ => laneNop_kept _⟩
  | abort => cases h; exact ⟨_, rfl, fun _ => laneAbort_kept _⟩
  | cancel => cases h; exact ⟨_, rfl, fun _ => laneCancel_kept _⟩
  | needleGroupSet => cases h; exact ⟨_, rfl, fun _ => laneGroupSet_kept _⟩
  | needleStatus => cases h; exact ⟨_, rfl, fun _ => laneNeedleStatus_kept _⟩
  | streamAdd => cases h; exact ⟨_, rfl, fun _ => laneStreamAdd_kept _⟩
  | streamModifySet => cases h; exact ⟨_, rfl, fun _ => laneModifySet_kept _⟩
  | streamModifyAdopt => cases h; exact ⟨_, rfl, fun _ => laneModifyAdopt_kept _⟩
  | streamModifyCfgChunk => cases h; exact ⟨_, rfl, fun _ => laneModifyChunk_kept _⟩
  | streamModifyAcceptCfg => cases h; exact ⟨_, rfl, fun _ => laneModifyAccept_kept _⟩
  | streamModifySuspend => cases h; exact ⟨_, rfl, fun _ => laneModifySuspend_kept _⟩
  | streamModifyResume => cases h; exact ⟨_, rfl, fun _ => laneModifyResume_kept _⟩
  | streamRemove => cases h; exact ⟨_, rfl, fun _ => laneStreamRemove_kept _⟩
  | streamQuery => cases h; exact ⟨_, rfl, fun _ => laneStreamQuery_kept _⟩
  | streamLearnSet => cases h; exact ⟨_, rfl, fun _ => laneLearnSet_kept _⟩
  | streamAuthSet => cases h; exact ⟨_, rfl, fun _ => laneAuthSet_kept _⟩
  | ethernetFrameReceive => cases h; exact ⟨_, rfl, fun _ => laneFrameReceive_kept _ _⟩
  | pmuDataFrameDecode => cases h; exact ⟨_, rfl, fun _ => lanePmuDecode_kept _⟩
  | configurationFrameReceive => cases h; exact ⟨_, rfl, fun _ => laneCfgReceive_kept _ _⟩
  | configurationRequestRetry => cases h; exact ⟨_, rfl, fun _ => laneCfgRetry_kept _⟩
  | pmuTcpConnectAttempt => cases h; exact ⟨_, rfl, fun _ => laneTcpAttempt_kept _⟩
  | pmuTcpConnectionOpen => cases h; exact ⟨_, rfl, fun _ => laneTcpOpen_kept _⟩
  | pmuTcpConnectionClose => cases h; exact ⟨_, rfl, fun _ => laneTcpClose_kept _⟩
  | svFrameDecode => cases h; exact ⟨_, rfl, fun _ => laneSvDecode_kept _⟩
  | routedSvDecode => cases h; exact ⟨_, rfl, fun _ => laneRoutedSvDecode_kept _⟩
  | gooseSubscriptionDecode => cases h; exact ⟨_, rfl, fun _ => laneGooseDecode_kept _⟩
  | gooseTalExpiry => cases h; exact ⟨_, rfl, fun _ => laneTalExpiry_kept _⟩
  | polledAsduDecode => cases h; exact ⟨_, rfl, fun _ => lanePolledAsdu_kept _⟩
  | learnedContextIdleExpiry => cases h; exact ⟨_, rfl, fun _ => laneLearnedIdle_kept _⟩
  | queueSetRead => cases h; exact ⟨_, rfl, fun _ => laneQueueRead_kept _⟩
  | queueSetSet => cases h; exact ⟨_, rfl, fun _ => laneQueueSet_kept _⟩
  | queueFlush => cases h; exact ⟨_, rfl, fun _ => laneQueueFlush_kept _ _ _⟩
  | queueDropRest => cases h; exact ⟨_, rfl, fun _ => laneQueueDropRest_kept _ _ _⟩
  | queueWriteUnblock => cases h; exact ⟨_, rfl, fun _ => laneWriteUnblock_kept _⟩
  | pauseFrameSend => cases h; exact ⟨_, rfl, fun _ => lanePauseSend_kept _⟩
  | pauseRepeat => cases h; exact ⟨_, rfl, fun _ => lanePauseRepeat_kept _⟩
  | peChannelSet => cases h; exact ⟨_, rfl, fun _ => lanePeChannelSet_kept _⟩
  | peBankLoad => cases h; exact ⟨_, rfl, fun _ => lanePeBankLoad_kept _⟩
  | peBankSwap => cases h; exact ⟨_, rfl, fun _ => lanePeBankSwap_kept _⟩
  | peReset => cases h; exact ⟨_, rfl, fun _ => lanePeReset_kept _⟩
  | peQuery => cases h; exact ⟨_, rfl, fun _ => lanePeQuery_kept _⟩
  | phasorOutput => cases h; exact ⟨_, rfl, fun _ => lanePhasorOutput_kept _ _⟩
  | alignerValueWrite => cases h; exact ⟨_, rfl, fun _ => laneAlignerWrite_kept⟩
  | courseInstantReached => cases h; exact ⟨_, rfl, fun _ => laneCourseInstant_kept _⟩
  | deadlineTick => cases h; exact ⟨_, rfl, fun _ => laneDeadlineTick_kept _⟩
  | quorumTick => cases h; exact ⟨_, rfl, fun _ => laneQuorumTick_kept _⟩
  | waleHistoryWrite => cases h; exact ⟨_, rfl, fun _ => laneWaleWrite_kept _⟩
  | planeCreate => cases h; exact ⟨_, rfl, fun _ => lanePlaneCreate_kept _⟩
  | planeModifySet => cases h; exact ⟨_, rfl, fun _ => lanePlaneSet_kept _⟩
  | planeModifyMapWrite => cases h; exact ⟨_, rfl, fun _ => laneMapWrite_kept _⟩
  | planeModifyMapSwitch => cases h; exact ⟨_, rfl, fun _ => laneMapSwitch_kept _⟩
  | planeModifyMapClear => cases h; exact ⟨_, rfl, fun _ => laneMapClear_kept _⟩
  | planeModifyStop => cases h; exact ⟨_, rfl, fun _ => lanePlaneStop_kept _⟩
  | planeDelete => cases h; exact ⟨_, rfl, fun _ => lanePlaneDelete_kept _⟩
  | planeQuery => cases h; exact ⟨_, rfl, fun _ => lanePlaneQuery_kept _⟩
  | waleRead => cases h; exact ⟨_, rfl, fun _ => laneWaleRead_kept _⟩
  | castOn => cases h; exact ⟨_, rfl, fun _ => laneCastOn_kept _⟩
  | bundleIssue => cases h; exact ⟨_, rfl, fun _ => laneBundleIssue_kept _ _⟩
  | arrayResultWrite => cases h; exact ⟨_, rfl, fun _ => laneResultWrite_kept _⟩
  | storeMemoryWrite => cases h; exact ⟨_, rfl, fun _ => laneStoreWrite_kept _⟩
  | networkLatchArrival => cases h; exact ⟨_, rfl, fun _ => laneLatchArrival_kept _⟩
  | bindOff => cases h; exact ⟨_, rfl, fun _ => laneBindOff_kept _ _ _⟩
  | roundBoundaryApply => cases h; exact ⟨_, rfl, fun _ => laneBoundaryApply_kept _⟩
  | roundRetry => cases h; exact ⟨_, rfl, fun _ => laneRoundRetry_kept _ _⟩
  | tileRepair => cases h; exact ⟨_, rfl, fun _ => laneTileRepair_kept _⟩
  | spareSelfTestFailure => cases h; exact ⟨_, rfl, fun _ => laneSpareFailure_kept _⟩
  | throttleEntry => cases h; exact ⟨_, rfl, fun _ => laneThrottleEntry_kept⟩
  | throttleExit => cases h; exact ⟨_, rfl, fun _ => laneThrottleExit_kept⟩
  | arrayQuery => cases h; exact ⟨_, rfl, fun _ => laneArrayQuery_kept _⟩
  | patternLoadChunk => cases h; exact ⟨_, rfl, fun _ => lanePatternLoadChunk_kept _⟩
  | patternLoadLibrary => cases h; exact ⟨_, rfl, fun _ => lanePatternLoadLibrary_kept _⟩
  | patternLoadRelease => cases h; exact ⟨_, rfl, fun _ => lanePatternLoadRelease_kept _⟩
  | patternVerificationComplete => cases h; exact ⟨_, rfl, fun _ => laneVerificationComplete_kept _⟩
  | patternSwap => cases h; exact ⟨_, rfl, fun _ => lanePatternSwap_kept _⟩
  | patternParamSet => cases h; exact ⟨_, rfl, fun _ => lanePatternParamSet_kept _⟩
  | patternQuery => cases h; exact ⟨_, rfl, fun _ => lanePatternQuery_kept _⟩
  | resultRead => cases h; exact ⟨_, rfl, fun _ => laneResultRead_kept _⟩
  | variantStageChunk => cases h; exact ⟨_, rfl, fun _ => laneVariantChunk_kept _⟩
  | variantStageStage => cases h; exact ⟨_, rfl, fun _ => laneVariantStage_kept _⟩
  | variantStageDelete => cases h; exact ⟨_, rfl, fun _ => laneVariantDelete_kept _⟩
  | variantSelect => cases h; exact ⟨_, rfl, fun _ => laneVariantSelect_kept _⟩
  | alarmHoldExpiry => cases h; exact ⟨_, rfl, fun _ => laneAlarmHold_kept _⟩
  | alarmRouteSet => cases h; exact ⟨_, rfl, fun _ => laneAlarmRoute_kept _⟩
  | goosePubSet => cases h; exact ⟨_, rfl, fun _ => laneGoosePub_kept _⟩
  | gooseRepeat => cases h; exact ⟨_, rfl, fun _ => laneGooseRepeat_kept _⟩
  | sessionOpen => cases h; exact ⟨_, rfl, fun _ => laneSessionOpen_kept _⟩
  | sessionModify => cases h; exact ⟨_, rfl, fun _ => laneSessionModify_kept _⟩
  | sessionAnnounceCommit => cases h; exact ⟨_, rfl, fun _ => laneAnnounceCommit_kept _⟩
  | sessionClose => cases h; exact ⟨_, rfl, fun _ => laneSessionClose_kept _⟩
  | publishQuery => cases h; exact ⟨_, rfl, fun _ => lanePublishQuery_kept _⟩
  | derivedStreamCreate => cases h; exact ⟨_, rfl, fun _ => laneDerivedCreate_kept _⟩
  | derivedStreamRemove => cases h; exact ⟨_, rfl, fun _ => laneDerivedRemove_kept _⟩
  | sessionDataOff => cases h; exact ⟨_, rfl, fun _ => laneDataOff_kept _ _ _⟩
  | sessionDataOn => cases h; exact ⟨_, rfl, fun _ => laneDataOn_kept _ _ _⟩
  | sessionSendHeader => cases h; exact ⟨_, rfl, fun _ => laneSendHeader_kept _ _ _⟩
  | sessionSendCfg1 => cases h; exact ⟨_, rfl, fun _ => laneSendCfg1_kept _ _ _⟩
  | sessionSendCfg2 => cases h; exact ⟨_, rfl, fun _ => laneSendCfg2_kept _ _ _⟩
  | sessionSendCfg3 => cases h; exact ⟨_, rfl, fun _ => laneSendCfg3_kept _ _ _⟩
  | sessionTcpConnect => cases h; exact ⟨_, rfl, fun _ => laneTcpConnect_kept _ _⟩
  | egressFrameTransmit => cases h; exact ⟨_, rfl, fun _ => laneEgress_kept _ _⟩
  | triggerSetRead => cases h; exact ⟨_, rfl, fun _ => laneTriggerRead_kept _⟩
  | triggerSetSet => cases h; exact ⟨_, rfl, fun _ => laneTriggerSet_kept _⟩
  | swatchArmArm => cases h; exact ⟨_, rfl, fun _ => laneArm_kept _⟩
  | swatchArmDisarm => cases h; exact ⟨_, rfl, fun _ => laneDisarm_kept _⟩
  | swatchArmRearm => cases h; exact ⟨_, rfl, fun _ => laneRearmOp_kept _⟩
  | swatchTrigger => cases h; exact ⟨_, rfl, fun _ => laneSwatchTrigger_kept _⟩
  | swatchKeep => cases h; exact ⟨_, rfl, fun _ => laneSwatchKeep_kept _⟩
  | swatchDelete => cases h; exact ⟨_, rfl, fun _ => laneSwatchDelete_kept _⟩
  | swatchIndexRead => cases h; exact ⟨_, rfl, fun _ => laneIndexRead_kept _⟩
  | skewTableSet => cases h; exact ⟨_, rfl, fun _ => laneSkewSet_kept _⟩
  | markSetSet => cases h; exact ⟨_, rfl, fun _ => laneMarkSet_kept _⟩
  | markSetClear => cases h; exact ⟨_, rfl, fun _ => laneMarkClear_kept _⟩
  | markRead => cases h; exact ⟨_, rfl, fun _ => laneMarkRead_kept _⟩
  | triggerValueEvaluate => cases h; exact ⟨_, rfl, fun _ => laneTriggerEvaluate_kept⟩
  | swtPinEdge => cases h; exact ⟨_, rfl, fun _ => lanePinEdge_kept _ _ _⟩
  | swatchSampleArrival => cases h; exact ⟨_, rfl, fun _ => laneSampleArrival_kept⟩
  | swatchRowWaitExpiry => cases h; exact ⟨_, rfl, fun _ => laneRowWait_kept _⟩
  | profileRearm => cases h; exact ⟨_, rfl, fun _ => laneRearm_kept _⟩
  | writeBufferHalving => cases h; exact ⟨_, rfl, fun _ => laneHalving_kept _⟩
  | rowRateRestore => cases h; exact ⟨_, rfl, fun _ => laneRateRestore_kept _⟩
  | timeRefSet => cases h; exact ⟨_, rfl, fun _ => laneTimeRefSet_kept _⟩
  | ptpPortSet => cases h; exact ⟨_, rfl, fun _ => lanePtpPortSet_kept _⟩
  | servoSet => cases h; exact ⟨_, rfl, fun _ => laneServoSet_kept _⟩
  | utcOffsetSet => cases h; exact ⟨_, rfl, fun _ => laneUtcOffsetSet_kept _⟩
  | timeQuery => cases h; exact ⟨_, rfl, fun _ => laneTimeQuery_kept _⟩
  | ptpSyncReceive => cases h; exact ⟨_, rfl, fun _ => lanePtpSync_kept _⟩
  | ptpFollowUpReceive => cases h; exact ⟨_, rfl, fun _ => lanePtpFollowUp_kept _⟩
  | pdelayReqReceive => cases h; exact ⟨_, rfl, fun _ => lanePdelayReq_kept _ _ _ _⟩
  | pdelayRespReceive => cases h; exact ⟨_, rfl, fun _ => lanePdelayResp_kept _⟩
  | announceReceive => cases h; exact ⟨_, rfl, fun _ => laneAnnounce_kept _⟩
  | ptpMasterSend => cases h; exact ⟨_, rfl, fun _ => lanePtpMasterSend_kept _⟩
  | ppsEdge => cases h; exact ⟨_, rfl, fun _ => lanePpsEdge_kept _⟩
  | todMessageReceive => cases h; exact ⟨_, rfl, fun _ => laneTod_kept _⟩
  | irigFrameReceive => cases h; exact ⟨_, rfl, fun _ => laneIrig_kept _⟩
  | referenceLoss => cases h; exact ⟨_, rfl, fun _ => laneReferenceLoss_kept _⟩
  | revertExpiry => cases h; exact ⟨_, rfl, fun _ => laneRevertExpiry_kept⟩
  | unlockBoundCross => cases h; exact ⟨_, rfl, fun _ => laneUnlockCross_kept⟩
  | ref10mQualify => cases h; exact ⟨_, rfl, fun _ => laneRef10mQualify_kept⟩
  | ref10mLost => cases h; exact ⟨_, rfl, fun _ => laneRef10mLost_kept⟩
  | rtcWrite => cases h; exact ⟨_, rfl, fun _ => laneRtcWrite_kept⟩
  | tempTableLearn => cases h; exact ⟨_, rfl, fun _ => laneTempLearn_kept⟩
  | leapOffsetChange => cases h; exact ⟨_, rfl, fun _ => laneLeapChange_kept⟩
  | leapStateDiscard => cases h; exact ⟨_, rfl, fun _ => laneLeapDiscard_kept⟩
  | laneTimeExchange => cases h; exact ⟨_, rfl, fun _ => laneTimeExchange_kept⟩
  | startTimeWaitExpiry => cases h; exact ⟨_, rfl, fun _ => laneStartTimeWait_kept⟩
  | portSet => cases h; exact ⟨_, rfl, fun _ => lanePortSet_kept _⟩
  | classifierSet => cases h; exact ⟨_, rfl, fun _ => laneClassifierSet_kept _⟩
  | wakeSet => cases h; exact ⟨_, rfl, fun _ => laneWakeSet_kept _⟩
  | pollTableSetRead => cases h; exact ⟨_, rfl, fun _ => lanePollRead_kept _⟩
  | pollTableSetWrite => cases h; exact ⟨_, rfl, fun _ => lanePollWrite_kept _⟩
  | portCounters => cases h; exact ⟨_, rfl, fun _ => lanePortCounters_kept _⟩
  | pauseTimerExpiry => cases h; exact ⟨_, rfl, fun _ => lanePauseExpiry_kept _⟩
  | linkUp => cases h; exact ⟨_, rfl, fun _ => laneLinkUp_kept _⟩
  | linkDown => cases h; exact ⟨_, rfl, fun _ => laneLinkDown_kept _⟩
  | wakeFrame => cases h; exact ⟨_, rfl, fun _ => laneWakeFrame_kept _ _⟩
  | pollRequestSend => cases h; exact ⟨_, rfl, fun _ => lanePollSend_kept _⟩
  | serialResponseReceive => cases h; exact ⟨_, rfl, fun _ => laneSerialResponse_kept _ _ _⟩
  | responseTimeout => cases h; exact ⟨_, rfl, fun _ => laneResponseTimeout_kept _⟩
  | offlineRetryExpiry => cases h; exact ⟨_, rfl, fun _ => laneOfflineRetry_kept _ _⟩
  | unsolicitedCharacter => cases h; exact ⟨_, rfl, fun _ => laneUnsolicited_kept _ _⟩
  | meshSet => cases h; exact ⟨_, rfl, fun _ => laneMeshSet_kept _ _ _⟩
  | meshNodeAdd => cases h; exact ⟨_, rfl, fun _ => laneNodeAdd_kept _⟩
  | meshNodeRemove => cases h; exact ⟨_, rfl, fun _ => laneNodeRemove_kept _⟩
  | meshSlotAssignAssign => cases h; exact ⟨_, rfl, fun _ => laneSlotAssign_kept _⟩
  | meshSlotAssignRelease => cases h; exact ⟨_, rfl, fun _ => laneSlotRelease_kept _⟩
  | meshQuery => cases h; exact ⟨_, rfl, fun _ => laneMeshQuery_kept _⟩
  | meshSlotStart => cases h; exact ⟨_, rfl, fun _ => laneSlotStart_kept _ _⟩
  | picotFrameReceive => cases h; exact ⟨_, rfl, fun _ => lanePicotReceive_kept _ _ _ _ _⟩
  | meshAckSend => cases h; exact ⟨_, rfl, fun _ => laneAckSend_kept _⟩
  | meshReportDelivery => cases h; exact ⟨_, rfl, fun _ => laneReportDelivery_kept _⟩
  | meshBeaconMiss => cases h; exact ⟨_, rfl, fun _ => laneBeaconMiss_kept _⟩
  | meshScanChannelExpiry => cases h; exact ⟨_, rfl, fun _ => laneScanExpiry_kept _⟩
  | meshSupervisionTimeout => cases h; exact ⟨_, rfl, fun _ => laneSupervision_kept _ _⟩
  | joinResponseWaitExpiry => cases h; exact ⟨_, rfl, fun _ => laneJoinExpiry_kept _⟩
  | seenCacheExpiry => cases h; exact ⟨_, rfl, fun _ => laneSeenExpiry_kept _⟩
  | plySet => cases h; exact ⟨_, rfl, fun _ => lanePlySet_kept _⟩
  | plyPairPair => cases h; exact ⟨_, rfl, fun _ => lanePlyPair_kept _⟩
  | plyPairUnpair => cases h; exact ⟨_, rfl, fun _ => lanePlyUnpair_kept _⟩
  | leaseHandover => cases h; exact ⟨_, rfl, fun _ => laneLeaseHandover_kept _⟩
  | plyQuery => cases h; exact ⟨_, rfl, fun _ => lanePlyQuery_kept _⟩
  | witnessSet => cases h; exact ⟨_, rfl, fun _ => laneWitnessSet_kept _⟩
  | renewSend => cases h; exact ⟨_, rfl, fun _ => laneRenewSend_kept _⟩
  | renewAckTimeout => cases h; exact ⟨_, rfl, fun _ => laneRenewAckTimeout_kept _⟩
  | leaseExpiry => cases h; exact ⟨_, rfl, fun _ => laneLeaseExpiry_kept _⟩
  | silenceTakeover => cases h; exact ⟨_, rfl, fun _ => laneSilenceTakeover_kept _⟩
  | claimRepeat => cases h; exact ⟨_, rfl, fun _ => laneClaimRepeat_kept _⟩
  | freeLeaseWaitExpiry => cases h; exact ⟨_, rfl, fun _ => laneFreeLeaseWait_kept _⟩
  | plyHelloPeriodic => cases h; exact ⟨_, rfl, fun _ => lanePlyHelloPeriodic_kept⟩
  | witnessPing => cases h; exact ⟨_, rfl, fun _ => laneWitnessPing_kept _⟩
  | witnessUnavailable => cases h; exact ⟨_, rfl, fun _ => laneWitnessUnavailable_kept _⟩
  | offerTimeout => cases h; exact ⟨_, rfl, fun _ => laneOfferTimeout_kept⟩
  | plyIdleFrame => cases h; exact ⟨_, rfl, fun _ => lanePlyIdle_kept _⟩
  | plyFrameReceive => cases h; exact ⟨_, rfl, fun _ => lanePlyFrame_kept _ _ _⟩
  | plyLinkLoss => cases h; exact ⟨_, rfl, fun _ => lanePlyLinkLoss_kept _⟩
  | plyLinkRetrain => cases h; exact ⟨_, rfl, fun _ => lanePlyRetrain_kept _⟩
  | plyHello => cases h; exact ⟨_, rfl, fun _ => lanePlyHello_kept _ _⟩
  | plyRenew => cases h; exact ⟨_, rfl, fun _ => lanePlyRenew_kept _ _ _ _ _ _⟩
  | plyRenewAck => cases h; exact ⟨_, rfl, fun _ => lanePlyRenewAck_kept _ _ _ _ _⟩
  | plyYield => cases h; exact ⟨_, rfl, fun _ => lanePlyYield_kept _ _ _⟩
  | plyRelease => cases h; exact ⟨_, rfl, fun _ => lanePlyRelease_kept _ _ _ _ _⟩
  | plyOffer => cases h; exact ⟨_, rfl, fun _ => lanePlyOffer_kept _ _ _ _⟩
  | plyAccept => cases h; exact ⟨_, rfl, fun _ => lanePlyAccept_kept _ _ _ _⟩
  | plyDigest => cases h; exact ⟨_, rfl, fun _ => lanePlyDigest_kept _ _ _ _ _ _ _⟩
  | plyHealth => cases h; exact ⟨_, rfl, fun _ => lanePlyHealth_kept _ _⟩
  | plyTime => cases h; exact ⟨_, rfl, fun _ => lanePlyTimeMessage_kept _ _ _ _⟩
  | plyTamper => cases h; exact ⟨_, rfl, fun _ => lanePlyTamper_kept _ _ _⟩
  | plyMirror => cases h; exact ⟨_, rfl, fun _ => lanePlyMirror_kept _ _⟩
  | plyPullReq => cases h; exact ⟨_, rfl, fun _ => lanePlyPullReq_kept _ _ _⟩
  | plyPullData => cases h; exact ⟨_, rfl, fun _ => lanePlyPullData_kept _ _ _⟩
  | plyCheck => cases h; exact ⟨_, rfl, fun _ => lanePlyCheck_kept _ _ _ _ _ _⟩
  | plyWitnessQuery => cases h; exact ⟨_, rfl, fun _ => lanePlyWitnessQuery_kept _ _⟩
  | plyWitnessVote => cases h; exact ⟨_, rfl, fun _ => lanePlyVote_kept _ _⟩
  | azwellDatagramReceive => cases h; exact ⟨_, rfl, fun _ => laneAzwellReceive_kept _ _⟩
  | azwellRetransmit => cases h; exact ⟨_, rfl, fun _ => laneAzwellRetransmit_kept _⟩
  | azwellLinkLoss => cases h; exact ⟨_, rfl, fun _ => laneAzwellLoss_kept _⟩
  | digestUnmatchedExpiry => cases h; exact ⟨_, rfl, fun _ => laneDigestExpiry_kept⟩
  | healthSend => cases h; exact ⟨_, rfl, fun _ => laneHealthSend_kept⟩
  | timeReasonClear => cases h; exact ⟨_, rfl, fun _ => laneTimeReasonClear_kept⟩
  | keyGenerate => cases h; exact ⟨_, rfl, fun _ => laneKeyGenerate_kept _⟩
  | keyWrite => cases h; exact ⟨_, rfl, fun _ => laneKeyWrite_kept _⟩
  | keyDerive => cases h; exact ⟨_, rfl, fun _ => laneKeyDerive_kept _⟩
  | keyDelete => cases h; exact ⟨_, rfl, fun _ => laneKeyDelete_kept _⟩
  | keyInvalidate => cases h; exact ⟨_, rfl, fun _ => laneKeyInvalidate_kept _⟩
  | keyAttest => cases h; exact ⟨_, rfl, fun _ => laneKeyAttest_kept _⟩
  | roleChallenge => cases h; exact ⟨_, rfl, fun _ => laneRoleChallenge_kept _⟩
  | roleRespondTake => cases h; exact ⟨_, rfl, fun _ => laneRespondTake_kept _⟩
  | roleRespondDrop => cases h; exact ⟨_, rfl, fun _ => laneRespondDrop_kept _⟩
  | roleRespondBind => cases h; exact ⟨_, rfl, fun _ => laneRespondBind_kept _⟩
  | roleLockoutExpiry => cases h; exact ⟨_, rfl, fun _ => laneLockoutExpiry_kept⟩
  | slvQueryStatus => cases h; exact ⟨_, rfl, fun _ => laneSlvStatus_kept _⟩
  | slvQuerySlots => cases h; exact ⟨_, rfl, fun _ => laneSlvSlots_kept _⟩
  | slvQueryTamperSet => cases h; exact ⟨_, rfl, fun _ => laneSlvTamperSet_kept _⟩
  | slvQueryTamperAck => cases h; exact ⟨_, rfl, fun _ => laneSlvTamperAck_kept _⟩
  | selvedgeSelfTest => cases h; exact ⟨_, rfl, fun _ => laneSelfTest_kept _ _⟩
  | tamperDetect => cases h; exact ⟨_, rfl, fun _ => laneTamper_kept _⟩
  | modeSet => cases h; exact ⟨_, rfl, fun _ => laneModeSet_kept _⟩
  | laneResetRestart => cases h; exact ⟨_, rfl, fun _ => laneResetRestart_kept _⟩
  | laneResetSalvage => cases h; exact ⟨_, rfl, fun _ => laneResetSalvage_kept _⟩
  | configCommit => cases h; exact ⟨_, rfl, fun _ => laneConfigCommit_kept _⟩
  | configRead => cases h; exact ⟨_, rfl, fun _ => laneConfigRead_kept _⟩
  | poolSplitSet => cases h; exact ⟨_, rfl, fun _ => lanePoolSplit_kept _⟩
  | sysInfo => cases h; exact ⟨_, rfl, fun _ => laneSysInfo_kept _⟩
  | updateBegin => cases h; exact ⟨_, rfl, fun _ => laneUpdateBegin_kept _⟩
  | updateChunk => cases h; exact ⟨_, rfl, fun _ => laneUpdateChunk_kept _⟩
  | updateFinish => cases h; exact ⟨_, rfl, fun _ => laneUpdateFinish_kept _⟩
  | updateBuildComplete => cases h; exact ⟨_, rfl, fun _ => laneBuildComplete_kept _⟩
  | updateConfirmConfirm => cases h; exact ⟨_, rfl, fun _ => laneUpdateConfirm_kept _⟩
  | updateConfirmReject => cases h; exact ⟨_, rfl, fun _ => laneUpdateReject_kept _⟩
  | slotSelect => cases h; exact ⟨_, rfl, fun _ => laneSlotSelect_kept _⟩
  | startSequence => cases h; exact ⟨_, rfl, fun _ => laneStartStep_kept _⟩
  | startComplete => cases h; exact ⟨_, rfl, fun _ => laneStartComplete_kept _ _ _ _⟩
  | startFailureTimeout => cases h; exact ⟨_, rfl, fun _ => laneStartTimeout_kept⟩
  | imageConfirmation => cases h; exact ⟨_, rfl, fun _ => laneConfirmation_kept⟩
  | confirmWindowClose => cases h; exact ⟨_, rfl, fun _ => laneWindowClose_kept⟩
  | watchdogExpiry => cases h; exact ⟨_, rfl, fun _ => laneWatchdog_kept⟩
  | rstnLow => cases h; exact ⟨_, rfl, fun _ => laneRstn_kept _ _⟩
  | wakePin => cases h; exact ⟨_, rfl, fun _ => laneWakePin_kept _⟩
  | rtcWakeAlarm => cases h; exact ⟨_, rfl, fun _ => laneRtcWake_kept⟩
  | vinWarning => cases h; exact ⟨_, rfl, fun _ => laneVinWarning_kept _⟩
  | rideThrough => cases h; exact ⟨_, rfl, fun _ => laneRideThrough_kept⟩
  | vinWarningArm => cases h; exact ⟨_, rfl, fun _ => laneWarningArm_kept⟩
  | earlyWarningRestart => cases h; exact ⟨_, rfl, fun _ => laneEarlyRestart_kept⟩
  | junctionOverheat => cases h; exact ⟨_, rfl, fun _ => laneOverheat_kept _⟩
  | junctionOverheatClear => cases h; exact ⟨_, rfl, fun _ => laneOverheatClear_kept _⟩
  | gaugeSet => cases h; exact ⟨_, rfl, fun _ => laneGaugeSet_kept _⟩
  | gaugeSnapshot => cases h; exact ⟨_, rfl, fun _ => laneGaugeSnapshot_kept _⟩
  | faultLogRead => cases h; exact ⟨_, rfl, fun _ => laneFaultLogRead_kept _⟩
  | drillRun => cases h; exact ⟨_, rfl, fun _ => laneDrillRun_kept _⟩
  | drillVerdict => cases h; exact ⟨_, rfl, fun _ => laneDrillVerdict_kept _⟩
  | healthQuery => cases h; exact ⟨_, rfl, fun _ => laneHealthQuery_kept _⟩
  | gaugeIntervalSample => cases h; exact ⟨_, rfl, fun _ => laneIntervalSample_kept _ _⟩
  | errorRetry => cases h; exact ⟨_, rfl, fun _ => laneErrorRetry_kept _ _ _⟩
  | scrubErrorFound => cases h; exact ⟨_, rfl, fun _ => laneScrub_kept _ _ _⟩
  | sysResetRestart => cases h; exact ⟨_, rfl, fun _ => laneSysResetRestart_kept _⟩
  | sysResetSalvage => cases h; exact ⟨_, rfl, fun _ => laneSysResetSalvage_kept _⟩
  | glgRingEnable => cases h; exact ⟨_, rfl, fun _ => laneRingEnable_kept _ _⟩
  | glgSqDoorbell => cases h; exact ⟨_, rfl, fun _ => laneSqDoorbell_kept _ _ _⟩
  | glgCqHeadWrite => cases h; exact ⟨_, rfl, fun _ => laneCqHeadWrite_kept _ _⟩
  | hfrTxDoorbell => cases h; exact ⟨_, rfl, fun _ => laneHfrTxDoorbell_kept _ _⟩
  | hfrRxTailWrite => cases h; exact ⟨_, rfl, fun _ => laneHfrRxTail_kept _ _⟩
  | hfrRxDropRead => cases h; exact ⟨_, rfl, fun _ => laneRxDropRead_kept⟩
  | intHoldoffExpiry => cases h; exact ⟨_, rfl, fun _ => laneHoldoffExpiry_kept _⟩
  | tnsLatch => cases h; exact ⟨_, rfl, fun _ => laneTnsLatch_kept _⟩
  | gauSelSnapshot => cases h; exact ⟨_, rfl, fun _ => laneGauSnapshot_kept _⟩
  | gauSelSnapshotClear => cases h; exact ⟨_, rfl, fun _ => laneGauSnapshotClear_kept _⟩
  | plyWitnessWrite => cases h; exact ⟨_, rfl, fun _ => lanePlyWitnessWrite_kept _⟩
  | mbxDoorbell => cases h; exact ⟨_, rfl, fun _ => laneMbxDoorbell_kept _⟩
  | mbxDoorbellBypass => cases h; exact ⟨_, rfl, fun _ => laneMbxBypass_kept _⟩
  | registerWrite => cases h; exact ⟨_, rfl, fun _ => laneRegisterWrite_kept _ _⟩
  | hostAccessWhileDormant => cases h; exact ⟨_, rfl, fun _ => laneHostDormant_kept _⟩
  | functionLevelReset => cases h; exact ⟨_, rfl, fun _ => laneFunctionReset_kept⟩
  | hubHeartbeatSend => cases h; exact ⟨_, rfl, fun _ => laneHeartbeat_kept⟩
  | hubLost => cases h; exact ⟨_, rfl, fun _ => laneHubLost_kept⟩
  | hubReturn => cases h; exact ⟨_, rfl, fun _ => laneHubReturn_kept⟩
  | laneDieFailure => cases h; exact ⟨_, rfl, fun _ => laneDieFailure_kept⟩
  | tamperInputNormal => cases h; exact ⟨_, rfl, fun _ => laneTamperNormal_kept _⟩
  | observedPollRequest => cases h; exact ⟨_, rfl, fun _ => laneObservedPoll_kept _ _⟩
  | sessionTcpDisconnect => cases h; exact ⟨_, rfl, fun _ => laneTcpDisconnect_kept _⟩
  | _ => cases h


/-- A command of the package runs one effect in both lanes, and each lane is kept. (`cases h` closes the stamped commands.) -/
theorem exec_keepsBoth {c : Instr} {e : PackageStamp} (h : packageStampOf c = some e) (s : State) :
    ∃ f s', exec c s = runBoth e f s' ∧ s'.laneA = s.laneA ∧ s'.laneB = s.laneB ∧ Keeps f := by
  cases c with
  | vinPowerUp =>
    cases h
    by_cases latched : s.overvoltage = true
    · exact ⟨id, s, if_pos latched, rfl, rfl, fun _ _ hl => hl⟩
    · exact ⟨powerOn, s, if_neg latched, rfl, rfl, fun _ => powerOn_kept⟩
  | overvoltageRestart =>
    cases h
    by_cases latched : s.overvoltage = true
    · exact ⟨powerOn, { s with overvoltage := false }, if_pos latched, rfl, rfl, fun _ => powerOn_kept⟩
    · exact ⟨id, s, if_neg latched, rfl, rfl, fun _ _ hl => hl⟩
  | vinOvervoltage => cases h; exact ⟨powerOff, { s with overvoltage := true }, rfl, rfl, rfl, fun _ => powerOff_kept⟩
  | vinSupplyLoss => cases h; exact ⟨powerOff, { s with overvoltage := false }, rfl, rfl, rfl, fun _ => powerOff_kept⟩
  | pcieHotReset => cases h; exact ⟨lanePcieReset, s, rfl, rfl, rfl, fun _ => lanePcieReset_kept⟩
  | hostPerstn => cases h; exact ⟨lanePerstn, s, rfl, rfl, rfl, fun _ => lanePerstn_kept⟩
  | _ => cases h

theorem stamped_or_package (c : Instr) : (∃ e, stampOf c = some e) ∨ ∃ e, packageStampOf c = some e := by
  cases c with
  | vinPowerUp | overvoltageRestart | vinOvervoltage | vinSupplyLoss | pcieHotReset | hostPerstn => exact .inr ⟨_, rfl⟩
  | _ => exact .inl ⟨_, rfl⟩

/-! ### Sound lanes and packages -/

theorem advance_ok {l : Lane} (h : l.Ok) (n : Nat) : (advance n l).Ok := ⟨rfl, h.2⟩

theorem Keeps.id_eq {f : Lane → Lane} (hf : Keeps f) {l : Lane} (h : l.Ok) : (f l).id = l.id :=
  congrArg (·.1) (hf _ l h).1

theorem Keeps.ok {f : Lane → Lane} (hf : Keeps f) {l : Lane} (h : l.Ok) : (f l).Ok :=
  ⟨rfl, (hf _ l h).2⟩

/-- One lane of a sound package replaced by a sound lane of its place. -/
theorem State.Ok.setLane {s : State} (h : s.Ok) {i : LaneId} {l : Lane} (hid : l.id = i) (hl : l.Ok) : (s.setLane i l).Ok := by
  obtain ⟨ida, idb, oka, okb⟩ := h
  cases i with
  | a => exact ⟨hid, idb, hl, okb⟩
  | b => exact ⟨ida, hid, oka, hl⟩

theorem State.Ok.lane {s : State} (h : s.Ok) (i : LaneId) : (s.lane i).id = i ∧ (s.lane i).Ok := by
  obtain ⟨ida, idb, oka, okb⟩ := h
  cases i with
  | a => exact ⟨ida, oka⟩
  | b => exact ⟨idb, okb⟩

theorem runLane_ok {e : Stamp} {f : Lane → Lane} {s t : State} (hf : Keeps f) (h : s.Ok) (ht : runLane e f s = .next t) : t.Ok := by
  obtain rfl := Host.Outcome.next.inj ht
  obtain ⟨hid, hl⟩ := h.lane e.lane
  have now := advance_ok hl e.ticks
  exact h.setLane ((hf.id_eq now).trans hid) (hf.ok now)

theorem runBoth_ok {e : PackageStamp} {f : Lane → Lane} {s t : State} (hf : Keeps f) (h : s.Ok) (ht : runBoth e f s = .next t) :
    t.Ok := by
  obtain rfl := Host.Outcome.next.inj ht
  obtain ⟨ida, idb, oka, okb⟩ := h
  have nowA := advance_ok oka e.ticksA
  have nowB := advance_ok okb e.ticksB
  exact ⟨(hf.id_eq nowA).trans ida, (hf.id_eq nowB).trans idb, hf.ok nowA, hf.ok nowB⟩

theorem exec_ok {c : Instr} {s t : State} (h : s.Ok) (ht : exec c s = .next t) : t.Ok := by
  obtain ⟨e, he⟩ | ⟨e, he⟩ := stamped_or_package c
  · obtain ⟨f, hx, hf⟩ := exec_keepsLane he s
    exact runLane_ok hf h (hx ▸ ht)
  · obtain ⟨f, s', hx, ha, hb, hf⟩ := exec_keepsBoth he s
    have h' : s'.Ok := by rwa [State.Ok, ha, hb]
    exact runBoth_ok hf h' (hx ▸ ht)

/-- Settles O8: a step idles or runs the front command, whose effect keeps its lane or both lanes. -/
theorem stepKeepsTheInvariant : Obligations.StepKeepsTheInvariant := by
  intro s t h ht
  rw [step] at ht
  split at ht
  · obtain rfl := Host.Outcome.next.inj ht
    exact h
  · rename_i c rest _
    exact exec_ok (s := { s with pending := rest }) h ht

end Sys2Proof.Machine
end

section
/-!
PROOFS. The package right after reset: `freshLane` leaves empty tables, which read as their defaults under every key.
-/
namespace Sys2Proof.Machine

theorem laneAtReset_ok (i : LaneId) : (laneAtReset i).Ok :=
  ⟨rfl, tilesOk_nil, entriesOk_nil, logOk_nil⟩

/-- Settles O7: at reset the array's tiles, the task entries and the fault log are empty lists. -/
theorem resetIsSound : Obligations.ResetIsSound :=
  ⟨rfl, rfl, laneAtReset_ok .a, laneAtReset_ok .b⟩

theorem State.reset_lane (i : LaneId) : State.reset.lane i = laneAtReset i := by
  cases i <;> rfl

/-- A register or word of a tile that no table lists reads 0. -/
theorem tile_zero_reads (w r : Nat) :
    memWord .zero w = 0 ∧ sreg .zero r = 0 ∧ vreg .zero r = List.replicate 16 0 := by
  refine ⟨rfl, ?_, rfl⟩
  rw [sreg]
  split <;> rfl

/-- Settles O6, field by field of the lane as `freshLane` builds it. What the rules leave open at reset (the powered lanes, the empty
lists, the array's zeros before START zeroes it) is the model's choice (log 30, also 1, 4, 5 and 26). -/
theorem resetState : Obligations.ResetState := by
  refine ⟨rfl, rfl, fun i => ?_⟩
  rw [State.reset_lane]
  exact ⟨rfl, rfl, rfl, rfl, rfl, rfl, fun _ => rfl, rfl, rfl, fun _ => rfl, rfl, fun _ => rfl,
    fun _ w r => tile_zero_reads w r⟩

end Sys2Proof.Machine
end

section
/-!
PROOFS. Replies (R60, R64, R91, R646, R654, R97): what a delivery touches, and what posting a reply does to the Needle, to its
source and to what the lane has driven outwards.
-/
namespace Sys2Proof.Machine

/-! ### Deliveries -/

/-- `t` is `l` after packets went to source `src`: the host's registers, the source's reply queue and its peer may have changed,
and what was driven outwards is no further reply. -/
structure Delivered (src : Nat) (l t : Lane) : Prop where
  frame : t = { l with host := t.host, queues := t.queues, peers := t.peers, out := t.out }
  queue : ∀ n, n ≠ 52 + src → queueOf t n = queueOf l n
  peer : ∀ p, p ≠ src → tget t.peers p = tget l.peers p
  out : ∃ rest, t.out = l.out ++ rest ∧ ∀ (i : Nat) (p : Bytes), Output.reply i p ∉ rest

namespace Delivered
variable {src : Nat} {l m t : Lane}

theorem refl (l : Lane) : Delivered src l l :=
  ⟨rfl, fun _ _ => rfl, fun _ _ => rfl, [], (List.append_nil _).symm, fun _ _ => List.not_mem_nil⟩

theorem trans (h : Delivered src l m) (k : Delivered src m t) : Delivered src l t := by
  obtain ⟨r1, o1, n1⟩ := h.out
  obtain ⟨r2, o2, n2⟩ := k.out
  refine ⟨?_, fun n hn => (k.queue n hn).trans (h.queue n hn), fun p hp => (k.peer p hp).trans (h.peer p hp), r1 ++ r2, ?_, ?_⟩
  · rw [k.frame, h.frame]
  · rw [o2, o1, List.append_assoc]
  · intro i p hp
    exact (List.mem_append.1 hp).elim (n1 i p) (n2 i p)

theorem setHost (l : Lane) (h : HostSt) : Delivered src l { l with host := h } :=
  ⟨rfl, fun _ _ => rfl, fun _ _ => rfl, [], (List.append_nil _).symm, fun _ _ => List.not_mem_nil⟩

theorem emitOther {o : Output} (l : Lane) (ho : ∀ i p, Output.reply i p ≠ o) : Delivered src l (emit o l) :=
  ⟨rfl, fun _ _ => rfl, fun _ _ => rfl, [o], rfl, fun i p hp => ho i p (List.mem_singleton.1 hp)⟩

theorem hostWrite (addr : Nat) (d : Bytes) (l : Lane) : Delivered src l (emit (.hostWrite addr d) l) :=
  emitOther l fun _ _ => Output.noConfusion

theorem ofSetQueue (q : Queue) (l : Lane) : Delivered src l (setQueue (52 + src) q l) :=
  ⟨rfl, fun _ hn => queueOf_setQueue_other _ _ _ _ hn, fun _ _ => rfl, [], (List.append_nil _).symm, fun _ _ => List.not_mem_nil⟩

theorem setPeer (p : Peer) (l : Lane) : Delivered src l { l with peers := tput l.peers src p } :=
  ⟨rfl, fun _ _ => rfl, fun _ hp => tget_tput_other _ _ _ _ hp, [], (List.append_nil _).symm, fun _ _ => List.not_mem_nil⟩

theorem needle_eq (h : Delivered src l t) : t.needle = l.needle := by rw [h.frame]
theorem mode_eq (h : Delivered src l t) : t.mode = l.mode := by rw [h.frame]
theorem powered_eq (h : Delivered src l t) : t.powered = l.powered := by rw [h.frame]
theorem dieOk_eq (h : Delivered src l t) : t.dieOk = l.dieOk := by rw [h.frame]

end Delivered

theorem signalCause_delivered (src b : Nat) (l : Lane) : Delivered src l (signalCause b l) := by
  rw [signalCause]
  split
  · exact .refl l
  · split
    · exact (Delivered.setHost l _).trans (.emitOther _ fun _ _ => Output.noConfusion)
    · exact .setHost l _

theorem setCause_delivered (src b : Nat) (l : Lane) : Delivered src l (setCause b l) :=
  (Delivered.setHost l _).trans (signalCause_delivered src b _)

theorem writeCompletion_delivered (src n : Nat) (p : Bytes) (i c : Nat) (l : Lane) :
    Delivered src l (writeCompletion n p i c l) :=
  (Delivered.hostWrite _ _ l).trans ((Delivered.setHost _ _).trans (setCause_delivered src n _))

theorem completeRing_delivered (src n : Nat) (slot : HostSlot) (p : Bytes) (l : Lane) :
    Delivered src l (completeRing n slot p l) := by
  rw [completeRing]
  split
  · exact writeCompletion_delivered ..
  · exact (Delivered.hostWrite _ _ l).trans (writeCompletion_delivered ..)

theorem enqueueOrWait_delivered (src k : Nat) (p : QPayload) (l : Lane) :
    Delivered src l (enqueueOrWait (52 + src) k p l) := by
  rw [enqueueOrWait]
  split <;> exact .ofSetQueue _ l

theorem deliverRing_delivered (src : Nat) (slot : HostSlot) (p : Bytes) (l : Lane) :
    Delivered src l (deliverRing src slot p l) := by
  rw [deliverRing]
  split
  · exact .refl l
  · split
    · exact enqueueOrWait_delivered ..
    · exact completeRing_delivered ..

theorem deliverPeer_delivered (src seq : Nat) (p : Bytes) (l : Lane) : Delivered src l (deliverPeer src seq p l) := by
  rw [deliverPeer]
  split
  · exact .refl l
  · dsimp only
    split
    · exact .refl l
    · exact (Delivered.setPeer _ l).trans (.emitOther _ fun _ _ => Output.noConfusion)

theorem deliverMailbox_delivered (src : Nat) (p : Bytes) (l : Lane) : Delivered src l (deliverMailbox src p l) :=
  (Delivered.setHost l _).trans (setCause_delivered src src _)

theorem deliverBypass_delivered (src : Nat) (p : Bytes) (l : Lane) : Delivered src l (deliverBypass src p l) :=
  (Delivered.setHost l _).trans (setCause_delivered src src _)

/-- By the path of the request, unless its completion is discarded. -/
theorem deliver_delivered (r : Request) (p : Bytes) (l : Lane) : Delivered r.src l (deliver r p l) := by
  rw [deliver]
  split
  · exact .setHost l _
  · split
    · exact deliverRing_delivered ..
    · exact deliverMailbox_delivered ..
    · exact deliverBypass_delivered ..
    · exact deliverPeer_delivered ..

/-! ### A posted reply -/

/-- The lane to which a posted reply is delivered: the entry is free, the mark is gone, the reply stands outwards. -/
def replied (r : Request) (p : Bytes) (l : Lane) : Lane :=
  freeEntry r.src r.tag (emit (.reply r.src p) { l with pe := { l.pe with info := l.pe.info.filter (· != (r.src, r.tag)) } })

theorem postReply_delivers (r : Request) (st : Status) (info : Bool) (result : Bytes) (l : Lane) :
    ∃ flags, postReply r st info result l =
      deliver r (replyPacket r st flags result) (replied r (replyPacket r st flags result) l) := ⟨_, rfl⟩

theorem postReply_delivered (r : Request) (st : Status) (info : Bool) (result : Bytes) (l : Lane) :
    ∃ flags, Delivered r.src (replied r (replyPacket r st flags result) l) (postReply r st info result l) := by
  obtain ⟨flags, h⟩ := postReply_delivers r st info result l
  exact ⟨flags, h ▸ deliver_delivered ..⟩

/-- Settles O11, from the frame of the delivery. -/
theorem replyFrame : Obligations.ReplyFrame := by
  rintro r st info result l _ rfl
  obtain ⟨flags, h⟩ := postReply_delivered r st info result l
  refine ⟨?_, h.queue, h.peer⟩
  rw [h.frame]
  rfl

theorem postReply_entries (r : Request) (st : Status) (info : Bool) (result : Bytes) (l : Lane) :
    (postReply r st info result l).needle.entries =
      l.needle.entries.filter (fun e => !(e.req.src == r.src && e.req.tag == r.tag)) := by
  obtain ⟨flags, h⟩ := postReply_delivered r st info result l
  rw [h.needle_eq]
  rfl

theorem postReply_out (r : Request) (st : Status) (info : Bool) (result : Bytes) (l : Lane) :
    ∃ (flags : Nat) (rest : List Output), (postReply r st info result l).out =
        l.out ++ .reply r.src (replyPacket r st flags result) :: rest ∧
      ∀ (src : Nat) (p : Bytes), Output.reply src p ∉ rest := by
  obtain ⟨flags, h⟩ := postReply_delivered r st info result l
  obtain ⟨rest, hout, hrest⟩ := h.out
  refine ⟨flags, rest, ?_, hrest⟩
  rw [hout]
  exact List.append_assoc _ _ _

/-- An entry is of another source or another tag. -/
theorem not_sameKey_iff {src src' : Nat} {tag tag' : Word} :
    (!(src' == src && tag' == tag)) = true ↔ src' ≠ src ∨ tag' ≠ tag := by
  rw [Bool.not_eq_true', ← Bool.not_eq_true, Bool.and_eq_true, beq_iff_eq, beq_iff_eq, Classical.not_and_iff_not_or_not]

theorem mem_postReply_entries {r : Request} {st : Status} {info : Bool} {result : Bytes} {l : Lane} {x : TaskEntry} :
    x ∈ (postReply r st info result l).needle.entries ↔
      x ∈ l.needle.entries ∧ (x.req.src ≠ r.src ∨ x.req.tag ≠ r.tag) := by
  rw [postReply_entries, List.mem_filter, not_sameKey_iff]

theorem entryOf_eq_none_iff {l : Lane} {src : Nat} {tag : Word} :
    entryOf l src tag = none ↔ ∀ x ∈ l.needle.entries, x.req.src ≠ src ∨ x.req.tag ≠ tag := by
  simp only [entryOf, List.find?_eq_none, Bool.and_eq_true, beq_iff_eq, Classical.not_and_iff_not_or_not, ne_eq]

theorem entryOf_postReply_self (r : Request) (st : Status) (info : Bool) (result : Bytes) (l : Lane) :
    entryOf (postReply r st info result l) r.src r.tag = none :=
  entryOf_eq_none_iff.2 fun _ hx => (mem_postReply_entries.1 hx).2

/-! ### The reply packet -/

theorem leNat_le (n v : Nat) : leNat (le n v) = v % 256 ^ n := by
  induction n generalizing v with
  | zero => simp [le, leNat, Nat.mod_one]
  | succ n ih =>
    calc leNat (le (n + 1) v)
        = v % 256 + 256 * (v / 256 % 256 ^ n) := by rw [le, leNat, ih, BitVec.toNat_ofNat]
      _ = v % 256 ^ (n + 1) := by rw [Nat.pow_succ', Nat.mod_mul]

theorem length_replyPacket (r : Request) (st : Status) (flags : Nat) (result : Bytes) :
    (replyPacket r st flags result).length = 16 + result.length := by
  simp [replyPacket, le, zeros]
  omega

theorem status_code_lt (st : Status) : st.code < 256 ^ 2 := by
  cases st <;> decide

/-- The fields of the header read back what was written at their offsets (R60). -/
theorem replyPacket_fields (r : Request) (st : Status) (flags : Nat) (result : Bytes) :
    field (replyPacket r st flags result) 0 1 = (if st = .badVersion then 3 else r.version.major % 256) ∧
    field (replyPacket r st flags result) 1 1 = (if st = .badVersion then 2 else r.version.minor % 256) ∧
    field (replyPacket r st flags result) 2 2 = st.code ∧ field (replyPacket r st flags result) 4 2 = flags % 65536 ∧
    field (replyPacket r st flags result) 8 4 = r.tag.toNat ∧
    field (replyPacket r st flags result) 12 4 = result.length % 2 ^ 32 := by
  refine ⟨?major, ?minor, ?status, leNat_le 2 flags, ?tag, leNat_le 4 result.length⟩
  case major =>
    refine (leNat_le 1 _).trans ?_
    by_cases h : st = .badVersion <;> simp [h]
  case minor =>
    refine (leNat_le 1 _).trans ?_
    by_cases h : st = .badVersion <;> simp [h]
  case status => exact (leNat_le 2 st.code).trans (Nat.mod_eq_of_lt (status_code_lt st))
  case tag => exact (leNat_le 4 r.tag.toNat).trans (Nat.mod_eq_of_lt r.tag.isLt)

/-- Settles O12: the reply is posted once, before its delivery, and its packet reads back. -/
theorem replyIsOnePacket : Obligations.ReplyIsOnePacket := by
  refine ⟨?posted, ?packet⟩
  case posted =>
    rintro r st info result l _ rfl
    exact ⟨entryOf_postReply_self .., fun x hx hk => mem_postReply_entries.2 ⟨hx, hk⟩, postReply_out ..⟩
  case packet =>
    intro r st flags result
    obtain ⟨major, minor, status, flag, tag, length⟩ := replyPacket_fields r st flags result
    exact ⟨length_replyPacket .., major, minor, status, flag, tag, length, rfl⟩

end Sys2Proof.Machine
end

section
/-!
PROOFS. The windows of datagram peers (R100) and the versions of HELLO (R69).
-/
namespace Sys2Proof.Machine

/-! ### The window of a peer (R100) -/

theorem isDuplicate_iff (h : Nat) (seen : List Nat) (q : Nat) : isDuplicate h seen q = true ↔ q + 64 < h ∨ q ∈ seen := by
  simp [isDuplicate]

theorem mem_acceptSeq {h : Nat} {seen : List Nat} {q x : Nat} :
    x ∈ (acceptSeq h seen q).2 ↔ x = q ∨ x ∈ seen ∧ max h q ≤ x + 64 := by
  simp [acceptSeq]

/-- A sequence that leaves the list of those seen lies below the window, where it is a duplicate all the same. -/
theorem isDuplicate_acceptSeq (h : Nat) (seen : List Nat) (q x : Nat) :
    isDuplicate (acceptSeq h seen q).1 (acceptSeq h seen q).2 x = true ↔
      x = q ∨ isDuplicate h seen x = true ∨ x + 64 < q := by
  have highest : (acceptSeq h seen q).1 = max h q := rfl
  rw [isDuplicate_iff, isDuplicate_iff, mem_acceptSeq, highest]
  by_cases mem : x ∈ seen
  · simp only [mem, true_and, or_true, true_or, iff_true]
    omega
  · simp only [mem, false_and, or_false]
    omega

/-- Settles O16. The edge of the window, q + 64 < h, is the model's reading of R100 (log 37). -/
theorem sequenceWindow : Obligations.SequenceWindow :=
  ⟨isDuplicate_iff, isDuplicate_acceptSeq, fun _ _ _ => rfl⟩

/-! ### The highest common version (R69) -/

theorem versionLe_iff (a b : Version) : a.le b = true ↔ a.major < b.major ∨ a.major = b.major ∧ a.minor ≤ b.minor := by
  simp [Version.le]

theorem versionLe_antisymm {a b : Version} (h : a.le b = true) (k : b.le a = true) : a = b := by
  rw [versionLe_iff] at h k
  cases a
  cases b
  simp only [Version.mk.injEq]
  dsimp only at h k
  omega

theorem versionLe_refl (a : Version) : a.le a = true := by
  simp [Version.le]

/-- The last of a rising list is the one that all others lie below. -/
theorem getLast?_eq_some_iff_of_rising {vs : List Version} (rising : vs.Pairwise (fun a b => a.le b = true)) (v : Version) :
    vs.getLast? = some v ↔ v ∈ vs ∧ ∀ u ∈ vs, u.le v = true := by
  have last_le : ∀ w, vs.getLast? = some w → w ∈ vs ∧ ∀ u ∈ vs, u.le w = true := by
    intro w hw
    obtain ⟨ys, rfl⟩ := List.getLast?_eq_some_iff.1 hw
    refine ⟨List.mem_append_right _ (List.mem_singleton_self w), fun u hu => ?_⟩
    obtain hu | hu := List.mem_append.1 hu
    · exact (List.pairwise_append.1 rising).2.2 u hu w (List.mem_singleton_self w)
    · rw [List.mem_singleton.1 hu]
      exact versionLe_refl w
  refine ⟨last_le v, fun ⟨hv, hmax⟩ => ?_⟩
  have hw := List.getLast?_eq_some_getLast (List.ne_nil_of_mem hv)
  obtain ⟨mem, le⟩ := last_le _ hw
  rw [hw, versionLe_antisymm (hmax _ mem) (le v hv)]

theorem versions_rising : versions.Pairwise (fun a b => a.le b = true) := by decide

theorem commonVersion_eq_some_iff (lo hi v : Version) : commonVersion lo hi = some v ↔
    v ∈ versions ∧ lo.le v = true ∧ v.le hi = true ∧ ∀ u ∈ versions, lo.le u = true → u.le hi = true → u.le v = true := by
  rw [commonVersion, getLast?_eq_some_iff_of_rising (versions_rising.filter _)]
  simp only [List.mem_filter, Bool.and_eq_true, and_assoc, and_imp]

theorem commonVersion_eq_none_iff (lo hi : Version) :
    commonVersion lo hi = none ↔ ∀ u ∈ versions, ¬(lo.le u = true ∧ u.le hi = true) := by
  simp only [commonVersion, List.getLast?_eq_none_iff, List.filter_eq_nil_iff, Bool.and_eq_true]

/-- Settles O19: the four versions stand in rising order, so the last within the range is the highest. -/
theorem highestCommonVersion : Obligations.HighestCommonVersion :=
  fun lo hi => ⟨commonVersion_eq_some_iff lo hi, commonVersion_eq_none_iff lo hi⟩

end Sys2Proof.Machine
end

section
/-!
PROOFS. The opcodes that each mode accepts (R74), and a host's access to a DORMANT lane (R599).
-/
namespace Sys2Proof.Machine

/-! ### Modes and opcodes -/

theorem modeAccepts_start (r : Request) : modeAccepts .start r = true ↔
    r.opcode / 256 = 0 ∨ r.opcode = 0x0100 ∨ (r.opcode = 0x0101 ∧ modeAsked r = 5) ∨ r.opcode = 0x0102 := by
  simp only [modeAccepts, modeAsked, Bool.or_eq_true, Bool.and_eq_true, decide_eq_true_eq, beq_iff_eq]
  omega

theorem modeAccepts_salvage (r : Request) : modeAccepts .salvage r = true ↔
    r.opcode / 256 = 0 ∨ r.opcode = 0x0100 ∨ (r.opcode = 0x0101 ∧ modeAsked r = 1) ∨ r.opcode = 0x0102 ∨
      r.opcode / 256 = 0x0D ∨ r.opcode = 0x0E02 ∨ r.opcode = 0x0E04 := by
  simp only [modeAccepts, modeAsked, Bool.or_eq_true, Bool.and_eq_true, decide_eq_true_eq, beq_iff_eq]
  omega

theorem modeAccepts_iff (m : Mode) (r : Request) : modeAccepts m r = true ↔
    (m = .service ∨ m = .holdover ∨ m = .drill) ∨
    (m = .start ∧ (r.opcode / 256 = 0 ∨ r.opcode = 0x0100 ∨ (r.opcode = 0x0101 ∧ modeAsked r = 5) ∨ r.opcode = 0x0102)) ∨
    (m = .salvage ∧ (r.opcode / 256 = 0 ∨ r.opcode = 0x0100 ∨ (r.opcode = 0x0101 ∧ modeAsked r = 1) ∨ r.opcode = 0x0102 ∨
      r.opcode / 256 = 0x0D ∨ r.opcode = 0x0E02 ∨ r.opcode = 0x0E04)) := by
  cases m with
  | dormant => simp [modeAccepts]
  | start => simp [modeAccepts_start]
  | salvage => simp [modeAccepts_salvage]
  | service | holdover | drill => simp [modeAccepts]

theorem dispatchStatus_wrongMode {l : Lane} {r : Request} (h : modeAccepts l.mode.mode r = false) :
    dispatchStatus l r = .wrongMode := by
  simp [dispatchStatus, h]

/-! ### A DORMANT lane -/

theorem refuseDormant_answers {x : Submission} (req : 16 ≤ x.reqLen) (rsp : 16 ≤ x.rspLen) (n i : Nat) (l : Lane) :
    refuseDormant n i x l = completeRing n ⟨x.rspAddr, x.rspLen, i⟩
      (replyPacket (packetRequest n (.ring ⟨x.rspAddr, x.rspLen, i⟩) (fit x.reqLen x.packet)) .wrongMode 0 []) l := by
  simp [refuseDormant, Nat.not_lt.2 req, Nat.not_lt.2 rsp]

theorem refuseDormant_delivered (n i : Nat) (x : Submission) (l : Lane) : Delivered n l (refuseDormant n i x l) := by
  rw [refuseDormant]
  split <;> exact completeRing_delivered ..

theorem refuseAllDormant_delivered (n : Nat) (es : List (Option Submission)) (l : Lane) :
    Delivered n l (refuseAllDormant n es l) := by
  induction es generalizing l with
  | nil => exact .refl l
  | cons x es ih =>
    cases x with
    | none => exact .refl l
    | some x =>
      rw [refuseAllDormant]
      split
      · exact (Delivered.setHost l _).trans ((refuseDormant_delivered ..).trans (ih _))
      · exact .refl l

/-- What the hub answers for a DORMANT lane leaves the lane itself as it is. -/
theorem answerDormant_delivered (a : HostAccess) (l : Lane) : ∃ n, Delivered n l (answerDormant a l) := by
  cases a with
  | read off => exact ⟨0, .emitOther l fun _ _ => Output.noConfusion⟩
  | write off v => exact ⟨0, .refl l⟩
  | doorbell n tail es =>
    refine ⟨n, ?_⟩
    rw [answerDormant]
    split
    · exact .refl l
    · exact refuseAllDormant_delivered ..

/-- The access wakes the lane into START (R599). -/
theorem laneHostDormant_starts {l : Lane} (a : HostAccess) (asleep : l.mode.mode = .dormant) (power : l.powered = true)
    (die : l.dieOk = true) (rstn : l.mode.rstnLow = false) :
    laneHostDormant a l = freshLane .start .hostAccess (answerDormant a l) := by
  obtain ⟨n, h⟩ := answerDormant_delivered a l
  rw [laneHostDormant_wakes asleep power die, wake]
  simp [h.mode_eq, h.powered_eq, h.dieOk_eq, asleep, power, die, rstn]

/-- Settles O20: the opcodes of each mode, and the access of the host that finds the lane DORMANT. -/
theorem modesAcceptOpcodes : Obligations.ModesAcceptOpcodes := by
  refine ⟨modeAccepts_iff, fun _ _ => dispatchStatus_wrongMode, fun n i x l req rsp => refuseDormant_answers req rsp n i l, ?_⟩
  rintro e a s _ rfl asleep power die rstn
  refine ⟨_, runLane_nowOf (laneHostDormant_starts a asleep power die rstn), ?_⟩
  rw [State.setLane_lane]
  exact ⟨rfl, rfl⟩

end Sys2Proof.Machine
end

section
/-!
PROOFS. Dispatch (R79 to R83): what a visit finds, and what makes a request ready.
-/
namespace Sys2Proof.Machine

/-- The visits end at a group with credit, and take what that group can dispatch. -/
theorem visitGroups_candidate {l : Lane} {fuel g credit v c : Nat} {x : TaskEntry}
    (h : visitGroups l fuel g credit = some (x, v, c)) : candidate l v = some x := by
  induction fuel generalizing g credit with
  | zero => cases h
  | succ fuel ih =>
    unfold visitGroups at h
    split at h
    · rename_i hx
      obtain ⟨rfl, rfl, rfl⟩ : _ ∧ _ ∧ _ := by simpa using h
      exact hx
    · exact ih h

theorem candidate_eq_some {l : Lane} {g : Nat} {x : TaskEntry} (h : candidate l g = some x) :
    earliest l g = some x ∧ (isBarrier x.req = true → inService l = []) := by
  rw [candidate] at h
  split at h
  · rename_i e he
    split at h
    · cases h
    · rename_i alone
      cases h
      refine ⟨he, fun barrier => ?_⟩
      simpa [barrier] using alone
  · cases h

theorem mem_readyOf {l : Lane} {g : Nat} {x : TaskEntry} :
    x ∈ readyOf l g ↔ x ∈ l.needle.entries ∧ ready l x = true ∧ x.req.group = g := by
  simp [readyOf]

theorem mem_inService {l : Lane} {y : TaskEntry} :
    y ∈ inService l ↔ y ∈ l.needle.entries ∧ (y.phase = .inService ∨ y.phase = .committed) := by
  simp [inService]

section Ready
variable {l : Lane} {x : TaskEntry} (h : ready l x = true)
include h

theorem ready_queued : x.phase = .queued := by
  simp only [ready, Bool.and_eq_true, beq_iff_eq] at h
  exact h.1.1.1

theorem ready_headsFlow {y : TaskEntry} (hy : y ∈ l.needle.entries) (queued : y.phase = .queued)
    (flow : flowOf y.req = flowOf x.req) : x.joined ≤ y.joined := by
  simp only [ready, headsFlow, Bool.and_eq_true, List.all_eq_true] at h
  simpa [queued, flow] using h.1.1.2 y hy

theorem ready_flowFree {y : TaskEntry} (hy : y ∈ inService l) : flowOf y.req ≠ flowOf x.req := by
  simp only [ready, flowFree, Bool.and_eq_true, List.all_eq_true] at h
  simpa using h.1.2 y hy

/-- A barrier in service holds back what was admitted after it (R81). -/
theorem ready_notBehindBarrier {y : TaskEntry} (hy : y ∈ inService l) (barrier : isBarrier y.req = true) : x.adm ≤ y.adm := by
  obtain ⟨mem, phase⟩ := mem_inService.1 hy
  simp only [ready, heldBack, Bool.and_eq_true, Bool.not_eq_true', List.any_eq_false] at h
  have free := h.2 y mem
  obtain phase | phase := phase <;> simpa [barrier, phase] using free

end Ready

theorem earliest_ready {l : Lane} {g : Nat} {x : TaskEntry} (h : earliest l g = some x) :
    x ∈ l.needle.entries ∧ ready l x = true ∧ x.req.group = g :=
  mem_readyOf.1 (List.mem_of_head? h)

/-- Entries stand in the order of admission, and so do the ready ones of a group. -/
theorem earliest_le {l : Lane} {g : Nat} {x y : TaskEntry} (order : l.needle.entries.Pairwise (fun a b => a.adm < b.adm))
    (h : earliest l g = some x) (hy : y ∈ readyOf l g) : x.adm ≤ y.adm := by
  obtain ⟨rest, hrest⟩ := List.head?_eq_some_iff.1 h
  have sorted : (readyOf l g).Pairwise (fun a b => a.adm < b.adm) := order.filter _
  rw [hrest] at sorted hy
  obtain rfl | hy := List.mem_cons.1 hy
  · exact Nat.le_refl _
  · exact Nat.le_of_lt (List.rel_of_pairwise_cons sorted hy)

/-- Settles O21: what is dispatched is the earliest ready request of the visited group. -/
theorem dispatchTakesTheEarliestReady : Obligations.DispatchTakesTheEarliestReady := by
  intro l fuel g credit v c x h
  obtain ⟨first, alone⟩ := candidate_eq_some (visitGroups_candidate h)
  obtain ⟨mem, isReady, group⟩ := earliest_ready first
  exact ⟨mem, ready_queued isReady, group, fun _ => ready_flowFree isReady, fun _ => ready_headsFlow isReady, alone,
    fun _ => ready_notBehindBarrier isReady, fun order _ => earliest_le order first⟩

end Sys2Proof.Machine
end

section
/-!
PROOFS. What a posted reply leaves of the Needle and drives outwards, and with it CANCEL (R89) and the cancelling of undispatched
requests when service is left (R76, R593).
-/
namespace Sys2Proof.Machine

/-! ### Entries and replies -/

/-- The reply of a request with a status and a result stands among what a lane has driven outwards. -/
def Answered (r : Request) (st : Status) (result : Bytes) (l : Lane) : Prop :=
  ∃ flags, Output.reply r.src (replyPacket r st flags result) ∈ l.out

theorem answered_postReply (r : Request) (st : Status) (info : Bool) (result : Bytes) (l : Lane) :
    Answered r st result (postReply r st info result l) := by
  obtain ⟨flags, rest, hout, -⟩ := postReply_out r st info result l
  exact ⟨flags, by simp [hout]⟩

theorem Answered.postReply {q : Request} {st : Status} {result : Bytes} {l : Lane} (h : Answered q st result l) (r : Request)
    (st' : Status) (info : Bool) (result' : Bytes) : Answered q st result (postReply r st' info result' l) := by
  obtain ⟨flags, hmem⟩ := h
  obtain ⟨_, rest, hout, -⟩ := postReply_out r st' info result' l
  exact ⟨flags, hout ▸ List.mem_append_left _ hmem⟩

theorem entryOf_eq_some {l : Lane} {src : Nat} {tag : Word} {x : TaskEntry} (h : entryOf l src tag = some x) :
    x ∈ l.needle.entries ∧ x.req.src = src ∧ x.req.tag = tag := by
  have found := List.find?_some h
  simp only [Bool.and_eq_true, beq_iff_eq] at found
  exact ⟨List.mem_of_find?_eq_some h, found⟩

theorem entryOf_postReply_none {l : Lane} {src : Nat} {tag : Word} (h : entryOf l src tag = none) (r : Request) (st : Status)
    (info : Bool) (result : Bytes) : entryOf (postReply r st info result l) src tag = none := by
  rw [entryOf_eq_none_iff] at h ⊢
  exact fun x hx => h x (mem_postReply_entries.1 hx).1

/-- A reply to a request without an entry leaves the entries as they are. -/
theorem postReply_entries_of_none {r : Request} {l : Lane} (h : entryOf l r.src r.tag = none) (st : Status) (info : Bool)
    (result : Bytes) : (postReply r st info result l).needle.entries = l.needle.entries := by
  rw [postReply_entries, List.filter_eq_self]
  exact fun x hx => not_sameKey_iff.2 (entryOf_eq_none_iff.1 h x hx)

/-- No two sound entries are of one source and tag (R63). -/
theorem entriesOk_unique {es : List TaskEntry} (h : entriesOk es) {a b : TaskEntry} (ha : a ∈ es) (hb : b ∈ es)
    (src : a.req.src = b.req.src) (tag : a.req.tag = b.req.tag) : a = b := by
  obtain ⟨-, differ⟩ := h
  induction es with
  | nil => cases ha
  | cons e es ih =>
    obtain ⟨head, tail⟩ := List.pairwise_cons.1 differ
    obtain rfl | ha' := List.mem_cons.1 ha
    · obtain rfl | hb' := List.mem_cons.1 hb
      · rfl
      · exact absurd ⟨src, tag⟩ (head b hb')
    · obtain rfl | hb' := List.mem_cons.1 hb
      · exact absurd ⟨src.symm, tag.symm⟩ (head a ha')
      · exact ih ha' hb' tail

/-! ### CANCEL (R89) -/

section Cancel
variable {r : Request} {l : Lane}

theorem cancelTarget_absent (h : entryOf l (targetSrc r) (targetTag r) = none) :
    cancelTarget r l = postReply r .okTooLate false (targetState 4) l := by
  simp [cancelTarget, h]

theorem cancelTarget_undispatched {x : TaskEntry} (h : entryOf l (targetSrc r) (targetTag r) = some x)
    (phase : x.phase = .delayed ∨ x.phase = .queued) :
    cancelTarget r l = postReply r .ok false (targetState 1) (refuse x.req .cancelled l) := by
  obtain phase | phase := phase <;> simp [cancelTarget, h, phase]

theorem cancelTarget_dispatched {x : TaskEntry} (h : entryOf l (targetSrc r) (targetTag r) = some x)
    (phase : x.phase = .inService ∨ x.phase = .committed) :
    cancelTarget r l = postReply r .okTooLate false (targetState 3) l := by
  obtain phase | phase := phase <;> simp [cancelTarget, h, phase]

theorem laneCancel_accepted (h : accepted 0x0003 none abortCheck l r) : laneCancel r l = cancelTarget r l :=
  serveHeld_ok h.1 h.2

end Cancel

/-- Settles O27, by where the target stands. -/
theorem cancelOutcomes : Obligations.CancelOutcomes := by
  rintro e r s t l rfl - acc own ht
  have hx : exec (.cancel e r) s = .next (s.setLane e.lane (cancelTarget r (nowOf e s))) :=
    runLane_nowOf (laneCancel_accepted acc)
  obtain rfl := Host.Outcome.next.inj (hx.symm.trans ht)
  rw [State.setLane_lane]
  refine ⟨fun x found phase => ?undispatched, fun x found phase => ?dispatched, fun absent => ?absent⟩
  case undispatched =>
    rw [cancelTarget_undispatched found phase]
    obtain ⟨-, src, tag⟩ := entryOf_eq_some found
    obtain ⟨f, cancelled⟩ := (answered_postReply x.req .cancelled false [] (nowOf e s)).postReply r .ok false (targetState 1)
    obtain ⟨g, own⟩ := answered_postReply r .ok false (targetState 1) (refuse x.req .cancelled (nowOf e s))
    refine ⟨entryOf_postReply_none ?_ .., f, g, cancelled, own⟩
    rw [← src, ← tag]
    exact entryOf_postReply_self ..
  case dispatched =>
    rw [cancelTarget_dispatched found phase]
    exact ⟨postReply_entries_of_none own .., answered_postReply ..⟩
  case absent =>
    rw [cancelTarget_absent absent]
    exact ⟨postReply_entries_of_none own .., answered_postReply ..⟩

/-! ### Many requests refused with one status -/

section RefuseAll
variable (st : Status)

/-- The requests of some entries are refused one after the other. -/
def refuseAll (xs : List TaskEntry) (l : Lane) : Lane := xs.foldl (fun acc e => refuse e.req st acc) l

theorem refuseAll_cons (x : TaskEntry) (xs : List TaskEntry) (l : Lane) :
    refuseAll st (x :: xs) l = refuseAll st xs (refuse x.req st l) := rfl

theorem refuseAll_frame (xs : List TaskEntry) (l : Lane) : refuseAll st xs l =
    { l with needle := (refuseAll st xs l).needle, host := (refuseAll st xs l).host, queues := (refuseAll st xs l).queues
             peers := (refuseAll st xs l).peers, pe := (refuseAll st xs l).pe, out := (refuseAll st xs l).out } := by
  induction xs generalizing l with
  | nil => rfl
  | cons x xs ih =>
    obtain ⟨frame, -, -⟩ := replyFrame x.req st false [] l _ rfl
    rw [refuseAll_cons, ih, refuse, frame]

/-- An entry stays unless one of the requests refused is of its source and tag. -/
theorem refuseAll_entries (xs : List TaskEntry) (l : Lane) : (refuseAll st xs l).needle.entries =
    l.needle.entries.filter (fun y => xs.all fun x => !sameRequest y.req x.req) := by
  induction xs generalizing l with
  | nil => exact (List.filter_eq_self.2 fun _ _ => rfl).symm
  | cons x xs ih =>
    rw [refuseAll_cons, ih, refuse, postReply_entries, List.filter_filter]
    refine List.filter_congr fun y _ => ?_
    rw [List.all_cons, Bool.and_comm]
    rfl

theorem Answered.refuseAll {q : Request} {st' : Status} {result : Bytes} {l : Lane} (h : Answered q st' result l)
    (xs : List TaskEntry) : Answered q st' result (refuseAll st xs l) := by
  induction xs generalizing l with
  | nil => exact h
  | cons x xs ih => exact ih (h.postReply ..)

theorem answered_refuseAll {xs : List TaskEntry} {x : TaskEntry} (hx : x ∈ xs) (l : Lane) :
    Answered x.req st [] (refuseAll st xs l) := by
  induction xs generalizing l with
  | nil => cases hx
  | cons y ys ih =>
    obtain rfl | hx := List.mem_cons.1 hx
    · exact Answered.refuseAll st (answered_postReply ..) ys
    · exact ih hx _

end RefuseAll

/-! ### Leaving service (R593) -/

/-- The requests admitted and not yet dispatched. -/
def undispatched (l : Lane) : List TaskEntry := l.needle.entries.filter (fun e => e.phase == .delayed || e.phase == .queued)

theorem cancelUndispatched_eq (l : Lane) : cancelUndispatched l = refuseAll .cancelled (undispatched l) l := rfl

theorem mem_undispatched {l : Lane} {x : TaskEntry} :
    x ∈ undispatched l ↔ x ∈ l.needle.entries ∧ (x.phase = .delayed ∨ x.phase = .queued) := by
  simp [undispatched]

/-- An entry shares its source and tag with an undispatched one only when it is itself undispatched. -/
theorem not_sameRequest_undispatched_iff {l : Lane} (h : entriesOk l.needle.entries) {y : TaskEntry}
    (hy : y ∈ l.needle.entries) :
    (∀ x ∈ undispatched l, sameRequest y.req x.req = false) ↔ y.phase = .inService ∨ y.phase = .committed := by
  have dispatched : (y.phase = .inService ∨ y.phase = .committed) ↔ y ∉ undispatched l := by
    rw [mem_undispatched]
    cases hp : y.phase <;> simp [hy]
  rw [dispatched]
  constructor
  · intro apart mem
    simpa [sameRequest] using apart y mem
  · intro hn x hx
    rw [← Bool.not_eq_true]
    intro same
    simp only [sameRequest, Bool.and_eq_true, beq_iff_eq] at same
    exact hn (entriesOk_unique h hy (mem_undispatched.1 hx).1 same.1 same.2 ▸ hx)

/-- Settles O23: each undispatched request is refused once, and no entry in service shares its source and tag. -/
theorem undispatchedRequestsAreCancelled : Obligations.UndispatchedRequestsAreCancelled := by
  rintro l _ h rfl
  rw [cancelUndispatched_eq]
  have frame := refuseAll_frame .cancelled (undispatched l) l
  refine ⟨?entries, fun x hx phase => answered_refuseAll .cancelled (mem_undispatched.2 ⟨hx, phase⟩) l, ?_, ?_, ?_, ?_, ?_⟩
  case entries =>
    rw [refuseAll_entries]
    refine List.filter_congr fun y hy => ?_
    rw [Bool.eq_iff_iff]
    simpa using not_sameRequest_undispatched_iff h hy
  all_goals rw [frame]

end Sys2Proof.Machine
end

section
/-!
PROOFS. The delay lists (R84 to R86): which entries leave them at a tick, and which stay.
-/
namespace Sys2Proof.Machine

/-! ### The due entries -/

theorem mem_insertDue {e y : TaskEntry} {xs : List TaskEntry} : y ∈ insertDue e xs ↔ y = e ∨ y ∈ xs := by
  induction xs with
  | nil => simp [insertDue]
  | cons x xs ih =>
    rw [insertDue]
    split
    · exact List.mem_cons
    · rw [List.mem_cons, ih, List.mem_cons]
      exact or_left_comm

theorem mem_foldl_insertDue {y : TaskEntry} (xs acc : List TaskEntry) :
    y ∈ xs.foldl (fun acc e => insertDue e acc) acc ↔ y ∈ xs ∨ y ∈ acc := by
  induction xs generalizing acc with
  | nil => simp
  | cons x xs ih =>
    rw [List.foldl_cons, ih, mem_insertDue, List.mem_cons, or_left_comm, or_assoc]

theorem mem_dueOrder {l : Lane} {y : TaskEntry} : y ∈ dueOrder l ↔ y ∈ l.needle.entries ∧ dueNow l y = true := by
  rw [dueOrder, mem_foldl_insertDue, List.mem_filter]
  simp

theorem dueNow_iff {l : Lane} {x : TaskEntry} :
    dueNow l x = true ↔ x.phase = .delayed ∧ tagLater (dueTag x.req) (nowTag l) = false := by
  simp [dueNow]

/-! ### One entry joins its flow -/

/-- A swap that joins its flow refuses the stream's held swap, or nothing is superseded (R201). -/
theorem peSupersede_cases (r : Request) (l : Lane) : peSupersede r l = l ∨
    ∃ q l', peSupersede r l = refuse q .superseded l' ∧ l'.needle = l.needle := by
  rw [peSupersede]
  split
  · split
    · exact .inr ⟨_, _, rfl, rfl⟩
    · exact .inl rfl
  · exact .inl rfl

theorem peSupersede_entries_subset {r : Request} {l : Lane} {x : TaskEntry} (h : x ∈ (peSupersede r l).needle.entries) :
    x ∈ l.needle.entries := by
  obtain same | ⟨q, l', refused, needle⟩ := peSupersede_cases r l
  · rwa [same] at h
  · rw [refused] at h
    rw [← needle]
    exact (mem_postReply_entries.1 h).1

/-- No bank swap waits to be superseded. -/
def NoHeldSwap (l : Lane) : Prop := ∀ p ∈ l.pe.streams, p.2.held = none

theorem peSupersede_of_noHeldSwap {l : Lane} (h : NoHeldSwap l) (r : Request) : peSupersede r l = l := by
  rw [peSupersede]
  split
  · split
    · rename_i found
      cases h _ (mem_of_tget found)
    · rfl
  · rfl

/-- An entry leaves its delay list and joins the tail of its flow. -/
def joinDue (l : Lane) (e : TaskEntry) : Lane := peSupersede e.req { l with needle := joinFlow l.needle e }

theorem laneDelayTick_eq (l : Lane) : laneDelayTick l = (dueOrder l).foldl joinDue l := rfl

/-- What is still delayed after an entry has joined was there before, and is another entry. -/
theorem delayed_of_joinDue {l : Lane} {e x : TaskEntry} (hx : x ∈ (joinDue l e).needle.entries) (delayed : x.phase = .delayed) :
    x ∈ l.needle.entries ∧ x.adm ≠ e.adm := by
  obtain ⟨y, hy, hxy⟩ := List.mem_map.1 (peSupersede_entries_subset hx)
  split at hxy
  · subst hxy
    cases delayed
  · subst hxy
    exact ⟨hy, ‹_›⟩

theorem delayed_of_foldl_joinDue {xs : List TaskEntry} {l : Lane} {x : TaskEntry}
    (hx : x ∈ (xs.foldl joinDue l).needle.entries) (delayed : x.phase = .delayed) :
    x ∈ l.needle.entries ∧ ∀ e ∈ xs, x.adm ≠ e.adm := by
  induction xs generalizing l with
  | nil => exact ⟨hx, fun _ he => nomatch he⟩
  | cons e xs ih =>
    obtain ⟨hjoin, apart⟩ := ih hx
    obtain ⟨mem, ne⟩ := delayed_of_joinDue hjoin delayed
    exact ⟨mem, List.forall_mem_cons.2 ⟨ne, apart⟩⟩

theorem joinDue_of_noHeldSwap {l : Lane} (h : NoHeldSwap l) (e : TaskEntry) :
    joinDue l e = { l with needle := joinFlow l.needle e } :=
  peSupersede_of_noHeldSwap (l := { l with needle := joinFlow l.needle e }) h e.req

theorem mem_joinFlow {n : NeedleSt} {e x : TaskEntry} (hx : x ∈ n.entries) (ne : x.adm ≠ e.adm) :
    x ∈ (joinFlow n e).entries :=
  List.mem_map.2 ⟨x, hx, if_neg ne⟩

/-- Without a swap to supersede, the entries that do not join stay as they are. -/
theorem mem_foldl_joinDue {xs : List TaskEntry} {l : Lane} {x : TaskEntry} (noSwap : NoHeldSwap l)
    (hx : x ∈ l.needle.entries) (apart : ∀ e ∈ xs, x.adm ≠ e.adm) : x ∈ (xs.foldl joinDue l).needle.entries := by
  induction xs generalizing l with
  | nil => exact hx
  | cons e xs ih =>
    obtain ⟨ne, apart⟩ := List.forall_mem_cons.1 apart
    rw [List.foldl_cons, joinDue_of_noHeldSwap noSwap]
    exact ih (l := { l with needle := joinFlow l.needle e }) noSwap (mem_joinFlow hx ne) apart

/-- Settles O22: each due entry is met by the tick, and the tick moves no other. -/
theorem delayTickEmptiesDueEntries : Obligations.DelayTickEmptiesDueEntries := by
  rintro e s t l rfl ht
  have hx : exec (.delayListTick e) s = .next (s.setLane e.lane (laneDelayTick (nowOf e s))) := rfl
  obtain rfl := Host.Outcome.next.inj (hx.symm.trans ht)
  rw [State.setLane_lane, laneDelayTick_eq]
  refine ⟨fun x hx delayed => ?due, fun noSwap x hx delayed later apart => ?waits⟩
  case due =>
    obtain ⟨mem, apart⟩ := delayed_of_foldl_joinDue hx delayed
    refine eq_true_of_ne_false fun early => ?_
    have due : dueNow (nowOf e s) x = true := dueNow_iff.2 ⟨delayed, early⟩
    exact apart x (mem_dueOrder.2 ⟨mem, due⟩) rfl
  case waits =>
    refine mem_foldl_joinDue noSwap hx fun y hy => ?_
    obtain ⟨mem, due⟩ := mem_dueOrder.1 hy
    exact (apart y mem due).symm

end Sys2Proof.Machine
end

section
/-!
PROOFS. Admission (R72): the parameter check that a held tag or a wrong group fails (R63, R73), and what an arrival does.
-/
namespace Sys2Proof.Machine

/-! ### Tags and groups -/

theorem tagHeld_iff (l : Lane) (src : Nat) (tag : Word) : tagHeld l src tag = true ↔
    (∃ x ∈ l.needle.entries, x.req.src = src ∧ x.req.tag = tag) ∨
      (∃ a ∈ l.needle.aborts, a.req.src = src ∧ a.req.tag = tag) := by
  simp [tagHeld]

theorem groupOk_iff (r : Request) : groupOk r = true ↔ r.group ≤ 3 ∧ (4 ≤ r.src ∨ r.group = r.src) := by
  simp [groupOk]

theorem groupOk_peer {r : Request} (h : 4 ≤ r.src) : groupOk r = true ↔ r.group ≤ 3 := by
  simp [groupOk_iff, h]

theorem fieldsOk_false {l : Lane} {r : Request}
    (h : tagHeld l r.src r.tag = true ∨ (r.src ≤ 3 ∧ r.group ≠ r.src) ∨ 3 < r.group) : fieldsOk l r = false := by
  obtain held | wrongGroup := h
  · simp [fieldsOk, held]
  · have : groupOk r = false := by
      rw [← Bool.not_eq_true, groupOk_iff]
      omega
    simp [fieldsOk, this]

/-- The parameters are the first check that a request with sound version, length and opcode can fail. -/
theorem admissionStatus_badParam {l : Lane} {r : Request} {m : Nat} (version : versionOk l r = true) (length : lengthOk r = true)
    (peer : isPeer r.src = true → r.paramLen ≤ m) (opcode : opcodeOk r = true) (fields : fieldsOk l r = false) :
    admissionStatus l r m = .badParam := by
  have fits : (!isPeer r.src || r.paramLen ≤ m) = true := by
    cases h : isPeer r.src with
    | false => rfl
    | true => simpa using peer h
  simp [admissionStatus, need, version, length, fits, opcode, fields]

/-! ### Arrival -/

section Arrive
variable {m : Nat} {r : Request} {l : Lane}

theorem arrive_admits (h : admissionStatus l r m = .ok) (task : opBypass r.opcode = false) :
    arrive m r l = admitTask r l := by
  simp [arrive, h, task]

theorem arrive_bypasses (h : admissionStatus l r m = .ok) (bypass : opBypass r.opcode = true) :
    arrive m r l = serveBypass m r l := by
  simp [arrive, h, bypass]

theorem arrive_refuses {st : Status} (h : admissionStatus l r m = st) (bad : st ≠ .ok) :
    arrive m r l = refuseArrival r st (countBusy st l) := by
  simp [arrive, h, bad]

end Arrive

theorem refuseArrival_needle (r : Request) (st : Status) (l : Lane) : (refuseArrival r st l).needle = l.needle :=
  (deliver_delivered r (replyPacket r st 0 []) (emit (.reply r.src (replyPacket r st 0 [])) l)).needle_eq

theorem refuseArrival_replies (r : Request) (st : Status) (l : Lane) :
    Output.reply r.src (replyPacket r st 0 []) ∈ (refuseArrival r st l).out := by
  obtain ⟨rest, hout, -⟩ := (deliver_delivered r (replyPacket r st 0 []) (emit (.reply r.src (replyPacket r st 0 [])) l)).out
  rw [refuseArrival, hout]
  simp [emit]

/-- Settles O29. That an ABORT holds its tag as an entry does is the model's choice (log 39), and so are the flags of 0 (log 35). -/
theorem heldTagsAreRefused : Obligations.HeldTagsAreRefused := by
  refine ⟨tagHeld_iff, fun l r m version length peer opcode h =>
    admissionStatus_badParam version length peer opcode (fieldsOk_false h), fun r => groupOk_peer, ?_⟩
  rintro e vlan r s _ rfl h
  refine ⟨_, runLane_nowOf (arrive_refuses h (by decide)), ?_⟩
  rw [State.setLane_lane]
  exact ⟨refuseArrival_needle .., refuseArrival_replies ..⟩

end Sys2Proof.Machine
end

section
/-!
PROOFS. The events of the Needle and of the management port (R72, R83, R84, R88, R99 to R102), one lemma for each way that a lane
can answer.
-/
namespace Sys2Proof.Machine

/-! ### Dispatch -/

section Dispatch
variable {l : Lane} {en : TaskEntry} {g c : Nat}

theorem laneDispatch_visits (free : (inService l).length < 4)
    (visit : visitGroups l 5 l.needle.visit l.needle.credit = some (en, g, c)) :
    laneDispatch l = dispatch en { l with needle := { l.needle with visit := g, credit := c } } := by
  rw [laneDispatch, if_neg (Nat.not_le.2 free), visit]

theorem dispatch_ok (h : dispatchStatus l en.req = .ok) :
    dispatch en l = { l with needle := { l.needle with entries := l.needle.entries.map (fun x =>
      if x.adm = en.adm then { x with phase := if opCommitsAtDispatch x.req.opcode then .committed else .inService }
      else x) } } := by
  rw [dispatch, h]

theorem dispatch_refused {st : Status} (h : dispatchStatus l en.req = st) (bad : st ≠ .ok) :
    dispatch en l = refuse en.req st l := by
  rw [dispatch, h]
  split
  · contradiction
  · rfl

end Dispatch

/-! ### ABORT (R88) -/

section Abort
variable {l : Lane} {a : PendingAbort}

theorem laneAbortTakesEffect_takes {rest : List PendingAbort} (h : l.needle.aborts = a :: rest) :
    laneAbortTakesEffect l = takeAbort a { l with needle := { l.needle with aborts := rest } } := by
  rw [laneAbortTakesEffect, h]

theorem takeAbort_absent (h : entryOf l a.targetSrc a.targetTag = none) :
    takeAbort a l = postReply a.req .okTooLate false (targetState 4) l := by
  simp [takeAbort, h]

variable {x : TaskEntry} (h : entryOf l a.targetSrc a.targetTag = some x)
include h

theorem takeAbort_undispatched (phase : x.phase = .delayed ∨ x.phase = .queued) :
    takeAbort a l = postReply a.req .ok false (targetState 1) (refuse x.req .aborted l) := by
  obtain phase | phase := phase <;> simp [takeAbort, h, phase]

theorem takeAbort_inService (phase : x.phase = .inService) :
    takeAbort a l = postReply a.req .ok false (targetState 2) (refuse x.req .aborted (withdraw x.req l)) := by
  simp [takeAbort, h, phase]

theorem takeAbort_committed (phase : x.phase = .committed) :
    takeAbort a l = postReply a.req .okTooLate false (targetState 3)
      { l with needle := { l.needle with entries := l.needle.entries.map (fun y =>
        if y.req.src == a.targetSrc && y.req.tag == a.targetTag then { y with lateAbort := true } else y) } } := by
  simp [takeAbort, h, phase]

end Abort

/-! ### Datagrams (R99 to R102) -/

section Datagram
variable {l : Lane} {addr d : Bytes} {m n : Nat} {p : Peer} (runs : dieRuns l = true)
include runs

theorem laneDatagram_fragment :
    laneDatagram m addr true d l = { l with needle := { l.needle with dgFragments := bump l.needle.dgFragments } } := by
  simp [laneDatagram, runs]

theorem laneDatagram_unknown (unknown : peerOf l addr = none) : laneDatagram m addr false d l = dropDatagram addr l := by
  simp [laneDatagram, runs, unknown]

variable (peer : peerOf l addr = some (n, p))
include peer

theorem laneDatagram_bad (bad : datagramOk l p d = false) : laneDatagram m addr false d l = dropDatagram addr l := by
  simp [laneDatagram, runs, peer, bad]

variable (good : datagramOk l p d = true)
include good

theorem laneDatagram_repeats {old : Nat × Bytes} (dup : isDuplicate p.highest p.seen (field d 4 8) = true)
    (kept : p.replies.find? (fun x => x.1 == field d 4 8) = some old) :
    laneDatagram m addr false d l = emit (.mgmt n old.2) l := by
  simp [laneDatagram, runs, peer, good, dup, kept]

theorem laneDatagram_duplicate (dup : isDuplicate p.highest p.seen (field d 4 8) = true)
    (gone : p.replies.find? (fun x => x.1 == field d 4 8) = none) :
    laneDatagram m addr false d l = { l with needle := { l.needle with dgDuplicates := bump l.needle.dgDuplicates } } := by
  simp [laneDatagram, runs, peer, good, dup, gone]

theorem laneDatagram_arrives (fresh : isDuplicate p.highest p.seen (field d 4 8) = false) :
    laneDatagram m addr false d l =
      arrive m (packetRequest n (.peer (field d 4 8)) ((d.drop 12).take (d.length - 28)))
        { l with peers := tput l.peers n { p with
            highest := (acceptSeq p.highest p.seen (field d 4 8)).1
            seen := (acceptSeq p.highest p.seen (field d 4 8)).2 } } := by
  simp [laneDatagram, runs, peer, good, fresh]

end Datagram

theorem udpLimit_peer {l : Lane} {addr : Bytes} {n : Nat} {p : Peer} (peer : peerOf l addr = some (n, p)) (vlan : Bool) :
    udpLimit l (((peerOf l addr).map (·.1)).getD 0) vlan = udpLimit l n vlan := by
  rw [peer]
  rfl

/-- Settles O31, a clause per command and outcome. -/
theorem needleEventsComplete : Obligations.NeedleEventsComplete := by
  refine ⟨?admitted, ?bypass, ?refused, ?dispatched, ?dispatchRefused, fun e s l hl => hl ▸ rfl, ?abortAbsent, ?abortUndispatched,
    ?abortInService, ?abortCommitted, ?fragment, ?unknown, ?bad, ?repeats, ?duplicate, ?arrives⟩
  case admitted =>
    rintro e vlan r s _ rfl ok task
    exact runLane_nowOf (arrive_admits ok task)
  case bypass =>
    rintro e vlan r s _ rfl ok bypass
    exact runLane_nowOf (arrive_bypasses ok bypass)
  case refused =>
    rintro e vlan r s _ st rfl h bad
    exact runLane_nowOf (arrive_refuses h bad)
  case dispatched =>
    rintro e s _ en g c rfl free visit ok
    exact runLane_nowOf ((laneDispatch_visits free visit).trans (dispatch_ok ok))
  case dispatchRefused =>
    rintro e s _ en g c st rfl free visit h bad
    exact runLane_nowOf ((laneDispatch_visits free visit).trans (dispatch_refused h bad))
  case abortAbsent =>
    rintro e s _ a rest rfl first absent
    exact runLane_nowOf ((laneAbortTakesEffect_takes first).trans (takeAbort_absent absent))
  case abortUndispatched =>
    rintro e s _ a rest x rfl first target phase
    exact runLane_nowOf ((laneAbortTakesEffect_takes first).trans (takeAbort_undispatched target phase))
  case abortInService =>
    rintro e s _ a rest x rfl first target phase
    exact runLane_nowOf ((laneAbortTakesEffect_takes first).trans (takeAbort_inService target phase))
  case abortCommitted =>
    rintro e s _ a rest x rfl first target phase
    exact runLane_nowOf ((laneAbortTakesEffect_takes first).trans (takeAbort_committed target phase))
  case fragment =>
    rintro e vlan addr _ d s _ rfl runs rfl
    rw [exec_glegalDatagramReceive]
    exact runLane_nowOf (laneDatagram_fragment runs)
  case unknown =>
    rintro e vlan addr _ d s _ rfl runs rfl unknown
    rw [exec_glegalDatagramReceive]
    exact runLane_nowOf (laneDatagram_unknown runs unknown)
  case bad =>
    rintro e vlan addr _ d s _ n p rfl runs rfl peer bad
    rw [exec_glegalDatagramReceive]
    exact runLane_nowOf (laneDatagram_bad runs peer bad)
  case repeats =>
    rintro e vlan addr _ d s _ n p old rfl runs rfl peer good dup kept
    rw [exec_glegalDatagramReceive]
    exact runLane_nowOf (laneDatagram_repeats runs peer good dup kept)
  case duplicate =>
    rintro e vlan addr _ d s _ n p rfl runs rfl peer good dup gone
    rw [exec_glegalDatagramReceive]
    exact runLane_nowOf (laneDatagram_duplicate runs peer good dup gone)
  case arrives =>
    rintro e vlan addr _ d s _ n p rfl runs rfl peer good fresh
    rw [exec_glegalDatagramReceive]
    refine runLane_nowOf ((laneDatagram_arrives runs peer good fresh).trans ?_)
    rw [udpLimit_peer peer]

end Sys2Proof.Machine
end

section
/-!
PROOFS. The requests of the Needle (R67 to R94) and of the queues (R157 to R169), once they are accepted.
-/
namespace Sys2Proof.Machine

section Accepted
variable {opcode : Nat} {op : Option Nat} {check : Lane → Request → Status} {l : Lane} {r : Request}
  (acc : accepted opcode op check l r)
include acc

theorem serve_accepted (apply : Request → Lane → Lane × Bytes) :
    serve opcode op check apply r l = postReply r .ok false (apply r l).2 (apply r l).1 :=
  serve_ok acc.1 acc.2

theorem serveHeld_accepted (start : Request → Lane → Lane) : serveHeld opcode op check start r l = start r l :=
  serveHeld_ok acc.1 acc.2

end Accepted

/-- An accepted QUEUE_FLUSH acts on the fronts that it carries, the model's choice (log 29). -/
theorem laneQueueFlush_accepted {read written : Nat} {r : Request} {l m : Lane} (hm : m = progress (flowId r) read written l)
    (acc : accepted 0x0906 none queueIdCheck m r) :
    laneQueueFlush read written r l = postReply r .ok false (flushApply r m).2 (flushApply r m).1 := by
  rw [laneQueueFlush, if_pos acc.1, ← hm, serve_accepted acc]

/-- An accepted QUEUE_DROP_REST acts on the fronts that it carries, the model's choice (log 29). -/
theorem laneQueueDropRest_accepted {read written : Nat} {r : Request} {l m : Lane} (hm : m = progress (flowId r) read written l)
    (acc : accepted 0x0907 none queueIdCheck m r) :
    laneQueueDropRest read written r l = postReply r .ok false (dropRestApply r m).2 (dropRestApply r m).1 := by
  rw [laneQueueDropRest, if_pos acc.1, ← hm, serve_accepted acc]

/-- Settles O51, a clause per request. What QUEUE_FLUSH and QUEUE_DROP_REST do to the fronts first is the model's choice (log 29). -/
theorem needleAndQueueRequestsComplete : Obligations.NeedleAndQueueRequestsComplete := by
  refine ⟨?nop, ?hello, ?abort, ?cancelAbsent, ?cancelUndispatched, ?cancelDispatched, ?groupSet, ?status, ?queueRead, ?queueSet,
    ?queueFlush, ?queueDropRest⟩
  case nop | groupSet | status | queueRead =>
    rintro e r s _ rfl acc
    exact runLane_nowOf (serve_accepted acc _)
  case hello =>
    rintro e vlan r s _ v rfl acc rfl
    rw [exec_hello]
    exact runLane_nowOf (serve_accepted acc _)
  case abort =>
    rintro e r s _ rfl acc
    exact runLane_nowOf (serveHeld_accepted acc _)
  case cancelAbsent =>
    rintro e r s _ rfl acc absent
    exact runLane_nowOf ((laneCancel_accepted acc).trans (cancelTarget_absent absent))
  case cancelUndispatched =>
    rintro e r s _ x rfl acc target phase
    exact runLane_nowOf ((laneCancel_accepted acc).trans (cancelTarget_undispatched target phase))
  case cancelDispatched =>
    rintro e r s _ x rfl acc target phase
    exact runLane_nowOf ((laneCancel_accepted acc).trans (cancelTarget_dispatched target phase))
  case queueSet =>
    rintro e r s _ _ rfl acc rfl
    exact runLane_nowOf (serve_accepted acc _)
  case queueFlush =>
    rintro e read written r s _ _ n rfl rfl rfl acc
    exact runLane_nowOf (laneQueueFlush_accepted rfl acc)
  case queueDropRest =>
    rintro e read written r s _ _ n rfl rfl rfl acc
    exact runLane_nowOf (laneQueueDropRest_accepted rfl acc)

end Sys2Proof.Machine
end

section
/-!
PROOFS. The events of stream contexts: configurations, connections and ageing (R106 to R149).
-/
namespace Sys2Proof.Machine

section StreamEvents
variable {l : Lane} {id : Nat} {x : StreamRun} (run : streamRun l id = some x)
include run

section Configurations
variable (serves : serving l = true)
include serves

theorem laneCfgReceive_drops (f : Bytes) (shut : x.state = .suspended ∨ x.state = .keyLost) :
    laneCfgReceive id f l = countStream id (fun c => { c with state := bump c.state }) l := by
  simp [laneCfgReceive, run, serves, shut]

theorem laneCfgReceive_takes (f : Bytes) (unsuspended : x.state ≠ .suspended) (keyed : x.state ≠ .keyLost) :
    laneCfgReceive id f l = receiveCfg id f l := by
  simp [laneCfgReceive, run, serves, unsuspended, keyed]

theorem laneCfgRetry_due {p : PmuPart} (pmu : (streamCfg l id).bind pmuPart = some p) (pending : x.procedure = true)
    (unanswered : x.newCfg = none) (asks : p.cfgSource = 0) (due : x.requestAt + msTc p.cfgRetryMs ≤ l.tc) :
    laneCfgRetry id l = requestCfg id (setRun id { x with requestAt := l.tc } l) := by
  simp [laneCfgRetry, run, serves, pmu, pending, unanswered, asks, due]

end Configurations

section Connections
variable (tcp : isTcpPmu l id = true) (closed : x.connected = false) (serves : serving l = true)
include tcp closed serves

theorem laneTcpAttempt_due {p : PmuPart} (pmu : (streamCfg l id).bind pmuPart = some p)
    (due : x.attemptAt + msTc p.cfgRetryMs ≤ l.tc) :
    laneTcpAttempt id l = emit (.tcpConnect id) (setRun id { x with attemptAt := l.tc } l) := by
  simp [laneTcpAttempt, run, pmu, tcp, closed, serves, due]

theorem laneTcpOpen_idle (idle : x.procedure = false) :
    laneTcpOpen id l = turnOn id (setRun id { x with connected := true, requestAt := l.tc } l) := by
  simp [laneTcpOpen, run, tcp, closed, serves, idle]

theorem laneTcpOpen_pending {p : PmuPart} (pending : x.procedure = true)
    (pmu : (streamCfg l id).bind pmuPart = some p) (asks : p.cfgSource = 0) :
    laneTcpOpen id l =
      turnOn id (requestCfg id (setRun id { x with connected := true, requestAt := l.tc } l)) := by
  simp [laneTcpOpen, run, tcp, closed, serves, pending, pmu, asks]

end Connections

theorem laneTcpClose_connected (connected : x.connected = true) :
    laneTcpClose id l = setRun id { x with connected := false, attemptAt := l.tc } l := by
  simp [laneTcpClose, run, connected]

theorem laneTalExpiry_passed {c : StreamCfg} {p : LegacyPart} {st sq til : Nat} (cfg : streamCfg l id = some c)
    (legacy : c.part = .legacy p) (goose : x.goose = some (st, sq, til)) (serves : serving l = true)
    (runs : til ≠ 0) (passed : til ≤ l.tc) :
    laneTalExpiry id l =
      invalidatePoints id p.points.length (setRun id { x with goose := some (st, sq, 0) } l) := by
  simp [laneTalExpiry, cfg, run, legacy, goose, serves, runs, passed]

theorem laneLearnedIdle_passed (learned : x.state = .learned)
    (passed : x.lastFrameAt + secTc (((x.learnedBy.bind (tget l.cfg.learn)).map (·.idleS)).getD 600) ≤ l.tc) :
    laneLearnedIdle id l = freeStream id l := by
  rw [laneLearnedIdle, run]
  exact if_pos (by simp only [learned, passed, decide_true, Bool.and_self])

end StreamEvents

/-- Settles O39, a clause per command and outcome. -/
theorem streamEventsComplete : Obligations.StreamEventsComplete := by
  refine ⟨?cfgDropped, ?cfgTaken, ?requestRetry, ?connectAttempt, ?openIdle, ?openPending, ?close, ?talExpiry, ?idleExpiry⟩
  case cfgDropped =>
    rintro e id f s _ x rfl run serves shut
    exact runLane_nowOf (laneCfgReceive_drops run serves f shut)
  case cfgTaken =>
    rintro e id f s _ x rfl run serves unsuspended keyed
    exact runLane_nowOf (laneCfgReceive_takes run serves f unsuspended keyed)
  case requestRetry =>
    rintro e id s _ x p rfl run pmu pending unanswered asks serves due
    exact runLane_nowOf (laneCfgRetry_due run serves pmu pending unanswered asks due)
  case connectAttempt =>
    rintro e id s _ x p rfl run pmu tcp closed serves due
    exact runLane_nowOf (laneTcpAttempt_due run tcp closed serves pmu due)
  case openIdle =>
    rintro e id s _ x rfl run tcp closed serves idle
    exact runLane_nowOf (laneTcpOpen_idle run tcp closed serves idle)
  case openPending =>
    rintro e id s _ x p rfl run tcp closed serves pending pmu asks
    exact runLane_nowOf (laneTcpOpen_pending run tcp closed serves pending pmu asks)
  case close =>
    rintro e id s _ x rfl run connected
    exact runLane_nowOf (laneTcpClose_connected run connected)
  case talExpiry =>
    rintro e id s _ c x p st sq til rfl cfg run legacy goose serves runs passed
    exact runLane_nowOf (laneTalExpiry_passed run cfg legacy goose serves runs passed)
  case idleExpiry =>
    rintro e id s _ x rfl run learned passed
    exact runLane_nowOf (laneLearnedIdle_passed run learned passed)

end Sys2Proof.Machine
end

section
/-!
PROOFS. The decoders (R109 to R146, R185): what each takes from its ingest queue, and what it does with it.
-/
namespace Sys2Proof.Machine

section Decoders
variable {l : Lane} (serves : serving l = true)
include serves

section EthernetItems
variable {n : Nat} {it : QItem} {id pt af : Nat} {ar : FineTag} {fr : EthFrame} (head : headItem l n = some it)
  (item : it.payload = .ingest id pt ar af fr)
include head item

omit serves in
/-- The head of an ingest queue written out down to the frame's content, by which a decoder takes its items. -/
theorem headItem_ingest {c : Content} (content : fr.content = c) :
    headItem l n = some { it with payload := .ingest id pt ar af { fr with content := c } } := by
  rw [head, ← content, ← item]

theorem lanePmuDecode_udp {src p : Bytes} {sp dp : Nat} (content : fr.content = .udp src sp dp p) :
    lanePmuDecode n l = pmuFrame id pt p true ar (popItem n l) := by
  simp [lanePmuDecode, serves, headItem_ingest head item content]

theorem lanePmuDecode_tcp {st : Nat} {p : Bytes} (content : fr.content = .pmuTcp st p) :
    lanePmuDecode n l = pmuFrame id pt p false ar (popItem n l) := by
  simp [lanePmuDecode, serves, headItem_ingest head item content]

theorem laneSvDecode_sv {g : SvFrame} (content : fr.content = .sv g) :
    laneSvDecode n l = svChecked id pt af g none (popItem n l) := by
  simp [laneSvDecode, serves, headItem_ingest head item content]

section RoutedSv
variable {src : Bytes} {dp : Nat} {hd : SpduHeader} {g : SvFrame} (content : fr.content = .routedSv src dp hd g)
include content

theorem laneRoutedSvDecode_sv (session : hd.svSession = true) (clear : hd.encrypted = false)
    (mac : hd.macSupported = true) :
    laneRoutedSvDecode n l = svChecked id pt af g (some hd.number) (popItem n l) := by
  simp [laneRoutedSvDecode, serves, headItem_ingest head item content, session, clear, mac]

/-- An encrypted session is refused whatever its lengths are, the model's choice (log 41). -/
theorem laneRoutedSvDecode_encrypted (encrypted : hd.encrypted = true)
    (allowed : (streamRun (popItem n l) id).any dataAllowed = true) :
    laneRoutedSvDecode n l = rejectDecode id (popItem n l) := by
  simp [laneRoutedSvDecode, serves, headItem_ingest head item content, encrypted, allowed]

end RoutedSv

section Goose
variable {g : GooseMsg} {c : StreamCfg} {x : StreamRun} {p : LegacyPart} (content : fr.content = .goose g)
  (cfg : streamCfg (popItem n l) id = some c) (run : streamRun (popItem n l) id = some x) (legacy : c.part = .legacy p)
  (allowed : dataAllowed x = true)
include content cfg run legacy allowed

theorem laneGooseDecode_accepted {au : Bool} (lengths : g.lengthsOk = true)
    (auth : authOutcome (popItem n l) id g.auth.isSome
      (fun k => g.auth.any (fun a => extensionOk (popItem n l) id a k)) = .accept au) :
    laneGooseDecode n l = gooseMessage id pt c p x g au ar (popItem n l) := by
  simp [laneGooseDecode, serves, headItem_ingest head item content, cfg, run, legacy, allowed, lengths, auth]

theorem laneGooseDecode_badLength (lengths : g.lengthsOk = false) :
    laneGooseDecode n l = rejectSize id (popItem n l) := by
  simp [laneGooseDecode, serves, headItem_ingest head item content, cfg, run, legacy, allowed, lengths]

end Goose

end EthernetItems

theorem lanePolledAsdu_serial {n id af : Nat} {it : QItem} {ar : FineTag} {b : Bytes}
    (head : headItem l (12 + n) = some it) (item : it.payload = .serial id ar af b) :
    lanePolledAsdu n l = polledAsdu n id b ar (popItem (12 + n) l) := by
  have taken : headItem l (12 + n) = some { it with payload := .serial id ar af b } := by rw [head, ← item]
  simp [lanePolledAsdu, serves, taken]

section Phasors
variable {id ch j : Nat} {c : StreamCfg} {v : SvPart} {p : PeCfg} {x : PeRun} {b : PeBank}
  (stream : svStream l id = some (c, v)) (cfg : peCfg l id ch = some p) (run : peRun l id ch = some x)
  (bank : peBank l id x.activeSlot = some b)
include stream cfg run bank

theorem lanePhasorOutput_main
    (next : nextOutput c p (delayNow l id ch c x p.causal) (peSettle c b) x = some (false, j)) :
    lanePhasorOutput id ch l = mainOutput id ch c p b x j l := by
  simp [lanePhasorOutput, serves, stream, cfg, run, bank, next]

theorem lanePhasorOutput_single
    (next : nextOutput c p (delayNow l id ch c x p.causal) (peSettle c b) x = some (true, j)) :
    lanePhasorOutput id ch l = singleOutput id ch c p b x j l := by
  simp [lanePhasorOutput, serves, stream, cfg, run, bank, next]

end Phasors

end Decoders

/-- Settles O40, a clause per kind of item and outcome. That an encrypted session is refused whatever its lengths are is the model's
choice (log 41). -/
theorem decodersComplete : Obligations.DecodersComplete := by
  refine ⟨?pmuUdp, ?pmuTcp, ?sv, ?routedSv, ?routedSvEncrypted, ?gooseAccepted, ?gooseBadLength, ?polledAsdu, ?mainOutput,
    ?singleOutput⟩
  case pmuUdp =>
    rintro e port s _ it id pt ar af fr src sp dp p rfl serves head item content
    exact runLane_nowOf (lanePmuDecode_udp serves head item content)
  case pmuTcp =>
    rintro e port s _ it id pt ar af fr st p rfl serves head item content
    exact runLane_nowOf (lanePmuDecode_tcp serves head item content)
  case sv =>
    rintro e port s _ it id pt ar af fr g rfl serves head item content
    exact runLane_nowOf (laneSvDecode_sv serves head item content)
  case routedSv =>
    rintro e port s _ it id pt ar af fr src dp hd g rfl serves head item content session clear mac
    exact runLane_nowOf (laneRoutedSvDecode_sv serves head item content session clear mac)
  case routedSvEncrypted =>
    rintro e port s _ it id pt ar af fr src dp hd g rfl serves head item content encrypted allowed
    exact runLane_nowOf (laneRoutedSvDecode_encrypted serves head item content encrypted allowed)
  case gooseAccepted =>
    rintro e port s _ it id pt ar af fr g c x p au rfl serves head item content cfg run legacy allowed lengths auth
    exact runLane_nowOf (laneGooseDecode_accepted serves head item content cfg run legacy allowed lengths auth)
  case gooseBadLength =>
    rintro e port s _ it id pt ar af fr g c x p rfl serves head item content cfg run legacy allowed lengths
    exact runLane_nowOf (laneGooseDecode_badLength serves head item content cfg run legacy allowed lengths)
  case polledAsdu =>
    rintro e port s _ it id ar af b rfl serves head item
    exact runLane_nowOf (lanePolledAsdu_serial serves head item)
  case mainOutput =>
    rintro e id ch s _ c v p x b j rfl serves stream cfg run bank next
    exact runLane_nowOf (lanePhasorOutput_main serves stream cfg run bank next)
  case singleOutput =>
    rintro e id ch s _ c v p x b j rfl serves stream cfg run bank next
    exact runLane_nowOf (lanePhasorOutput_single serves stream cfg run bank next)

end Sys2Proof.Machine
end

section
/-!
PROOFS. The requests of stream contexts (R114 to R118, R143, R147), once they are accepted.
-/
namespace Sys2Proof.Machine

/-- An accepted request has the effect and the result that its opcode gives it. -/
theorem serve_applies {opcode : Nat} {op : Option Nat} {check : Lane → Request → Status}
    {apply : Request → Lane → Lane × Bytes} {r : Request} {l m : Lane} {result : Bytes}
    (acc : accepted opcode op check l r) (applies : apply r l = (m, result)) :
    serve opcode op check apply r l = postReply r .ok false result m := by
  rw [serve_accepted acc, applies]

section Applied
variable {r : Request} {l : Lane}

section ModifySet
variable {c old : StreamCfg} (asked : c = streamAsked (modBody r)) (cfg : streamCfg l (flowId r) = some old)
include asked cfg

/-- SET keeps the stream's state where the PMU's IDCODE and address stay (R116). -/
theorem modifySetApply_samePmu
    (same : (pmuPart old).map (fun p => (p.idcode, p.srcAddr)) = (pmuPart c).map (fun p => (p.idcode, p.srcAddr))) :
    modifySetApply r l = ({ l with cfg := { l.cfg with streams := tput l.cfg.streams (flowId r) c } }, []) := by
  subst asked
  simp [modifySetApply, cfg, same]

theorem modifySetApply_newPmu {x : StreamRun}
    (changed : (pmuPart old).map (fun p => (p.idcode, p.srcAddr)) ≠ (pmuPart c).map (fun p => (p.idcode, p.srcAddr)))
    (run : streamRun l (flowId r) = some x) (unsuspended : x.state ≠ .suspended) :
    modifySetApply r l =
      (startProcedure (flowId r) (enterState (flowId r) .pendingCfg (setRun (flowId r)
        { x with cfg := none, newCfg := none, heldCfg := none, procedure := false, resume := .pendingCfg }
        { l with cfg := { l.cfg with streams := tput l.cfg.streams (flowId r) c } })), []) := by
  subst asked
  simp [modifySetApply, cfg, changed, run, unsuspended]

end ModifySet

section Running
variable {x : StreamRun} (run : streamRun l (flowId r) = some x)
include run

theorem adoptApply_run {c : StreamCfg} {l1 : Lane} (cfg : streamCfg l (flowId r) = some c)
    (h1 : l1 = enterState (flowId r) (servingState c x) (setRun (flowId r) { x with learnedBy := none } l)) :
    adoptApply r l = (if servingState c x = .pendingCfg then startProcedure (flowId r) l1 else l1, []) := by
  subst h1
  simp [adoptApply, cfg, run]

section Chunks
variable {d : Bytes} {p : PmuPart} (pmu : (streamCfg l (flowId r)).bind pmuPart = some p)
  (delivered : d = chunkData x.chunk (chunkOffset (body r)) ((body r).drop 16))
include pmu delivered

theorem cfgChunkApply_partial (more : d.length ≠ chunkTotal (body r)) :
    cfgChunkApply r l = (setRun (flowId r) { x with chunk := some (chunkTotal (body r), d) } l, []) := by
  subst delivered
  simp [cfgChunkApply, run, pmu, more]

/-- The last byte makes the whole a frame from the PMU, and a usable one is stored (R116, R687). -/
theorem cfgChunkApply_whole {k : PmuConfig} {l1 : Lane} (whole : d.length = chunkTotal (body r))
    (usable : usableCfg d p.cfgKind p.idcode = some k) (h1 : l1 = setRun (flowId r) { x with chunk := none } l) :
    cfgChunkApply r l =
      (receiveCfg (flowId r) d (startProcedure (flowId r)
        { l1 with cfg := { l1.cfg with hostCfg := tput l.cfg.hostCfg (flowId r) k } }), []) := by
  subst delivered h1
  simp [cfgChunkApply, run, pmu, whole, usable]

end Chunks

theorem acceptApply_held {k : PmuConfig} (held : x.heldCfg = some k) :
    acceptApply r l =
      (turnOn (flowId r) (enterState (flowId r) .active (setRun (flowId r) (applyCfg k x) l)), []) := by
  simp [acceptApply, run, held]

theorem acceptApply_confRev (unheld : x.heldCfg = none) :
    acceptApply r l =
      (turnOn (flowId r) (enterState (flowId r) .active (setRun (flowId r)
        { x with procedure := false, confRev := x.heldConfRev.getD x.confRev, heldConfRev := none } l)), []) := by
  simp [acceptApply, run, unheld]

theorem suspendApply_run (unsuspended : x.state ≠ .suspended) :
    suspendApply r l =
      (enterState (flowId r) .suspended (setRun (flowId r) { x with resume := x.state } l), []) := by
  simp [suspendApply, run, unsuspended]

theorem resumeApply_run : resumeApply r l = (enterState (flowId r) x.resume l, []) := by
  simp [resumeApply, run]

end Running

section AuthSet
variable {p : AuthPolicy} {l1 : Lane} (asked : p = authAsked (body r))
  (h1 : l1 = { l with cfg := { l.cfg with auth := tput l.cfg.auth (flowId r) p } })
include asked h1

theorem authSetApply_keyed (keyed : stateIs l (flowId r) .keyLost = false) : authSetApply r l = (l1, []) := by
  subst asked h1
  simp [authSetApply, keyed]

theorem authSetApply_off (lost : stateIs l (flowId r) .keyLost = true) (off : p.mode = 0) :
    authSetApply r l = (enterState (flowId r) .active l1, []) := by
  subst asked h1
  simp [authSetApply, lost, off]

end AuthSet

end Applied

/-- Settles O52, a clause per request and outcome. -/
theorem streamRequestsComplete : Obligations.StreamRequestsComplete := by
  refine ⟨?add, ?setSame, ?setNew, ?adopt, ?chunkPartial, ?chunkWhole, ?acceptHeld, ?acceptConfRev, ?suspend, ?resume, ?remove,
    ?query, ?learnSet, ?authKeyed, ?authOff⟩
  case add =>
    rintro e r s _ c rfl acc rfl
    exact runLane_nowOf (serve_accepted acc _)
  case setSame =>
    rintro e r s _ c old rfl acc asked cfg same
    exact runLane_nowOf (serve_applies acc (modifySetApply_samePmu asked cfg same))
  case setNew =>
    rintro e r s _ c old x rfl acc asked cfg changed run unsuspended
    exact runLane_nowOf (serve_applies acc (modifySetApply_newPmu asked cfg changed run unsuspended))
  case adopt =>
    rintro e r s _ c x l1 rfl acc cfg run h1
    exact runLane_nowOf (serve_applies acc (adoptApply_run run cfg h1))
  case chunkPartial =>
    rintro e r s _ d x p rfl acc run pmu delivered more
    exact runLane_nowOf (serve_applies acc (cfgChunkApply_partial run pmu delivered more))
  case chunkWhole =>
    rintro e r s _ d x p k l1 rfl acc run pmu delivered whole usable h1
    exact runLane_nowOf (serve_applies acc (cfgChunkApply_whole run pmu delivered whole usable h1))
  case acceptHeld =>
    rintro e r s _ x k rfl acc run held
    exact runLane_nowOf (serve_applies acc (acceptApply_held run held))
  case acceptConfRev =>
    rintro e r s _ x rfl acc run unheld
    exact runLane_nowOf (serve_applies acc (acceptApply_confRev run unheld))
  case suspend =>
    rintro e r s _ x rfl acc run unsuspended
    exact runLane_nowOf (serve_applies acc (suspendApply_run run unsuspended))
  case resume =>
    rintro e r s _ x rfl acc run
    exact runLane_nowOf (serve_applies acc (resumeApply_run run))
  case remove | query | learnSet =>
    rintro e r s _ rfl acc
    exact runLane_nowOf (serve_accepted acc _)
  case authKeyed =>
    rintro e r s _ p l1 rfl acc asked h1 keyed
    exact runLane_nowOf (serve_applies acc (authSetApply_keyed asked h1 keyed))
  case authOff =>
    rintro e r s _ p l1 rfl acc asked h1 lost off
    exact runLane_nowOf (serve_applies acc (authSetApply_off asked h1 lost off))

end Sys2Proof.Machine
end

section
/-!
PROOFS. The queues (R159, R162, R165, R169): what a producer that never waits leaves of the queue it writes, and what a flush keeps.
That an item is appended whole or dropped at once is the model's choice (log 19).
-/
namespace Sys2Proof.Machine

/-! ### Entries held -/

theorem queueHeld_noPartial (q : Queue) : queueHeld { q with partialLen := 0 } = (q.items.map (·.entries)).sum - q.read := rfl

theorem queueHeld_noPartial_le (q : Queue) : queueHeld { q with partialLen := 0 } ≤ queueHeld q := by
  rw [queueHeld_noPartial, queueHeld]
  exact Nat.le_add_right ..

theorem appendItem_payloads (ring spill entries : Nat) (p : QPayload) (q : Queue) :
    (appendItem ring spill entries p q).items.map (·.payload) = q.items.map (·.payload) ++ [p] := List.map_append

/-- The new item adds no more than its own entries. -/
theorem queueHeld_appendItem_le (ring spill entries : Nat) (p : QPayload) (q : Queue) :
    queueHeld (appendItem ring spill entries p q) ≤ queueHeld q + entries := by
  simp only [queueHeld, appendItem, List.map_append, List.map_cons, List.map_nil, List.sum_append, List.sum_singleton]
  omega

/-! ### A producer that never waits (R162, R165) -/

section Offer
variable {n entries : Nat} {p : QPayload} {l : Lane} {q : Queue} (unread : q = { queueOf l n with partialLen := 0 })
include unread

theorem enqueueOrDrop_dropping (drops : q.dropping = true) :
    enqueueOrDrop n entries p l = setQueue n { q with dropping := false } l := by
  subst unread
  exact if_pos drops

theorem enqueueOrDrop_fits (keeps : q.dropping = false) (fits : queueHeld q + entries ≤ depthLimit l n) :
    enqueueOrDrop n entries p l = setQueue n (appendItem (queueInForce l n).1 (queueInForce l n).2 entries p q) l := by
  subst unread
  exact (if_neg (ne_true_of_eq_false keeps)).trans (if_pos fits)

theorem enqueueOrDrop_full (keeps : q.dropping = false) (full : depthLimit l n < queueHeld q + entries) :
    enqueueOrDrop n entries p l = setQueue n { q with droppedFull := bump q.droppedFull } l := by
  subst unread
  exact (if_neg (ne_true_of_eq_false keeps)).trans (if_neg (Nat.not_le_of_lt full))

/-- In each case the one queue is written, and it stays within D where it was within D. -/
theorem enqueueOrDrop_setsQueue : ∃ q', enqueueOrDrop n entries p l = setQueue n q' l ∧
    (queueHeld (queueOf l n) ≤ depthLimit l n → queueHeld q' ≤ depthLimit l n) := by
  have noMore : queueHeld q ≤ queueHeld (queueOf l n) := unread ▸ queueHeld_noPartial_le (queueOf l n)
  by_cases drops : q.dropping = true
  · exact ⟨_, enqueueOrDrop_dropping unread drops, Nat.le_trans noMore⟩
  have keeps := eq_false_of_ne_true drops
  by_cases fits : queueHeld q + entries ≤ depthLimit l n
  · exact ⟨_, enqueueOrDrop_fits unread keeps fits, fun _ => Nat.le_trans (queueHeld_appendItem_le ..) fits⟩
  · exact ⟨_, enqueueOrDrop_full unread keeps (Nat.lt_of_not_ge fits), Nat.le_trans noMore⟩

end Offer

/-! ### QUEUE_FLUSH and QUEUE_DROP_REST (R165, R169) -/

theorem flushQueue_dropping (q : Queue) : (flushQueue q).dropping = true ↔ q.dropping = true ∨ q.partialLen ≠ 0 := by
  simp [flushQueue]

theorem dropRest_unbegun {q : Queue} (unbegun : q.read = 0) : dropRest q = q := if_pos unbegun

/-- Settles O28: every case of a write sets the one queue. That the item is whole and its drop immediate is the model's choice
(log 19), and so is where QUEUE_FLUSH finds the fronts (log 29). -/
theorem queuesDropWhatDoesNotFit : Obligations.QueuesDropWhatDoesNotFit := by
  refine ⟨?write, fun q => ⟨rfl, rfl, flushQueue_dropping q⟩, fun _ => dropRest_unbegun⟩
  rintro n k p l _ q unread rfl
  obtain ⟨q', written, bounded⟩ := enqueueOrDrop_setsQueue (entries := k) (p := p) unread
  refine ⟨?lane, ?others, ?dropping, ?full, ?fits, ?depth⟩
  case lane =>
    rw [written]
    rfl
  case others =>
    intro i other
    rw [written, queueOf_setQueue_other _ _ _ _ other]
  case dropping =>
    intro drops
    rw [enqueueOrDrop_dropping unread drops, queueOf_setQueue]
  case full =>
    intro keeps full
    rw [enqueueOrDrop_full unread keeps full, queueOf_setQueue]
  case fits =>
    intro keeps fits
    rw [enqueueOrDrop_fits unread keeps fits, queueOf_setQueue]
    exact ⟨appendItem_payloads .., rfl⟩
  case depth =>
    rwa [written, queueOf_setQueue]

end Sys2Proof.Machine
end

section
/-!
PROOFS. The events of queues and Ethernet ports (R160, R163, R483 to R495), and the wake filters of DORMANT (R494).
-/
namespace Sys2Proof.Machine

/-- The ports of chapter 14 are numbered 0 to 11. -/
@[simp] theorem not_eleven_lt_port (port : Fin 12) : ¬ 11 < port.val := Nat.not_lt_of_ge (Nat.le_of_lt_succ port.isLt)

theorem laneWriteUnblock_queue (queue : Fin 58) (l : Lane) : laneWriteUnblock queue l = unblock queue l :=
  if_pos (Nat.le_of_lt_succ queue.isLt)

theorem frameError_runt (l : Lane) (n : Nat) {f : EthFrame} (short : f.length < 64) :
    frameError l n f = some (fun c => { c with runts := bump c.runts }) := if_pos short

section Ports
variable {l : Lane} {port : Fin 12}

section Pause
variable (enabled : (queueCfg l port).pauseEnable = true) (runs : dieRuns l = true)
include enabled runs

theorem lanePauseSend_high (high : (queueCfg l port).highWm ≤ queueHeld (queueOf l port))
    (unseen : (queueOf l port).highSeen = false) :
    lanePauseSend port l = sendPause port (queueCfg l port).pauseQuanta (some l.tc) l := by
  simp [lanePauseSend, enabled, runs, high, unseen]

theorem lanePauseSend_low (below : queueHeld (queueOf l port) < (queueCfg l port).highWm)
    (low : queueHeld (queueOf l port) ≤ (queueCfg l port).lowWm) (paused : (queueOf l port).paused.isSome = true) :
    lanePauseSend port l = sendPause port 0 none l := by
  simp [lanePauseSend, enabled, runs, Nat.not_le_of_lt below, low, paused]

theorem lanePauseRepeat_due {t : Nat} (paused : (queueOf l port).paused = some t)
    (above : (queueCfg l port).lowWm < queueHeld (queueOf l port))
    (due : (queueCfg l port).pauseQuanta * quantum (ethCfg l port).mode ≤ (l.tc - t) * 800) :
    lanePauseRepeat port l = sendPause port (queueCfg l port).pauseQuanta (some l.tc) l := by
  simp [lanePauseRepeat, enabled, runs, paused, above, due]

end Pause

theorem lanePauseExpiry_passed {t : Nat} (paused : (ethRun l port).pausedUntil = some t) (passed : t ≤ l.tc) :
    lanePauseExpiry port l = releaseFast port l := by
  simp [lanePauseExpiry, paused, passed]

theorem laneWakeFrame_matches {f : EthFrame} {k : Nat} (asleep : l.mode.mode = .dormant)
    (wakes : port.val = 4 ∨ port.val = 5) (opened : (ethCfg l port).mode ≠ 0) (sound : frameError l port f = none)
    (found : wakeFilterOf l port f.bytes = some k) (woken : (wake .wakeFrame l).mode.mode ≠ .dormant) :
    laneWakeFrame port f l =
      { wake .wakeFrame l with mode := { (wake .wakeFrame l).mode with wakePort := port, wakeFilter := k } } := by
  have wakePort : (port.val == 4 || port.val == 5) = true := by simpa using wakes
  simp [laneWakeFrame, asleep, wakePort, opened, sound, found, woken]

section Running
variable (runs : dieRuns l = true)
include runs

theorem laneLinkUp_opened (opened : (ethCfg l port).mode ≠ 0) :
    laneLinkUp port l = dropCond (304 + port) (setEth port { ethRun l port with up := true } l) := by
  simp [laneLinkUp, runs, opened]

theorem laneLinkDown_opened (up : (ethRun l port).up = true) (opened : (ethCfg l port).mode ≠ 0) :
    laneLinkDown port l = raiseCond (304 + port)
      (setEth port { ethRun l port with
        up := false,
        counters := { (ethRun l port).counters with linkDowns := bump (ethRun l port).counters.linkDowns } } l) := by
  simp [laneLinkDown, runs, up, opened]

section Egress
variable {n : Nat} {sp : Bool} {what : EgressItem} {len : Nat} {ptp : Bool} {desc : Option (Nat × Bool)}

theorem laneEgress_linkDown (underrun : Bool)
    (head : headItem l (26 + port) = some ⟨n, sp, .egress what len ptp desc⟩) (down : (ethRun l port).up = false) :
    laneEgress port underrun l =
      txWriteBack desc 2 (countEth port (fun k => { k with txLinkDown := bump k.txLinkDown }) (takeEgress port l)) := by
  simp [laneEgress, runs, head, down]

section Unpaused
variable (up : (ethRun l port).up = true) (unpaused : (ethRun l port).pausedUntil = none)
include up unpaused

theorem laneEgress_gated (underrun : Bool)
    (head : headItem l (26 + port) = some ⟨n, sp, .egress what len ptp desc⟩) (gated : gatedItem what = true)
    (unleased : isLeaseholder l = false) : laneEgress port underrun l = takeEgress port l := by
  simp [laneEgress, runs, head, up, unpaused, gated, unleased]

section Ungated
variable (head : headItem l (26 + port) = some ⟨n, sp, .egress what len false desc⟩) (ungated : gatedItem what = false)
  (single : (ethCfg l port).prp = false)
include head ungated single

theorem laneEgress_oversize (underrun : Bool) (host : hostItem what = true)
    (large : maxFrame (ethCfg l port).maxFrame < len) :
    laneEgress port underrun l =
      txWriteBack desc 1 (countEth port (fun k => { k with txOversize := bump k.txOversize }) (takeEgress port l)) := by
  simp [laneEgress, runs, head, up, unpaused, ungated, single, host, large]

/-- A frame that fits leaves the port, counted with its length on the wire (R485, R490); without PRP the sequence number stays. -/
theorem laneEgress_sends {l1 : Lane} (fits : len ≤ maxFrame (ethCfg l port).maxFrame)
    (h1 : l1 = countEth port (fun k => { k with
      txFrames := bump k.txFrames, txBytes := (k.txBytes + wireLength (ethCfg l port) len false) % 2 ^ 64 })
      (takeEgress port l)) :
    laneEgress port false l = txWriteBack desc 0
      (emit (egressOutput port what)
        (setEth port { ethRun l1 port with prpSeq := (ethRun l port).prpSeq } (sampleEgress what l1))) := by
  subst h1
  simp [laneEgress, runs, head, up, unpaused, ungated, single, Nat.not_lt_of_ge fits]

end Ungated

end Unpaused

end Egress

section Receive
variable (up : (ethRun l port).up = true) (opened : (ethCfg l port).mode ≠ 0) (unlooped : looped l port = false)
  {f : EthFrame}
include up opened unlooped

/-- A frame that fails a check of R484 is only counted. -/
theorem laneFrameReceive_failing {count : EthCounters → EthCounters} (fails : frameError l port f = some count) :
    laneFrameReceive port f l = countEth port count l := by
  simp [laneFrameReceive, runs, up, opened, unlooped, fails]

theorem laneFrameReceive_sound (sound : frameError l port f = none) :
    laneFrameReceive port f l = classify port f (countEth port
      (fun c => { c with rxFrames := bump c.rxFrames, rxBytes := (c.rxBytes + f.length) % 2 ^ 64 }) l) := by
  simp [laneFrameReceive, runs, up, opened, unlooped, sound]

end Receive

end Running

end Ports

/-- Settles O32, a clause per command and outcome. -/
theorem queueAndPortEventsComplete : Obligations.QueueAndPortEventsComplete := by
  refine ⟨?unblock, ?pauseHigh, ?pauseLow, ?pauseRepeat, ?pauseExpiry, ?linkUp, ?linkDown, ?egressLinkDown, ?egressGated,
    ?egressOversize, ?egressSends, ?wakeFrame, ?receiveRunt, ?receiveSound⟩
  case unblock =>
    rintro e queue s _ rfl
    exact runLane_nowOf (laneWriteUnblock_queue queue _)
  case pauseHigh =>
    rintro e port s _ rfl enabled runs high unseen
    exact runLane_nowOf (lanePauseSend_high enabled runs high unseen)
  case pauseLow =>
    rintro e port s _ rfl enabled runs below low paused
    exact runLane_nowOf (lanePauseSend_low enabled runs below low paused)
  case pauseRepeat =>
    rintro e port s _ t rfl paused enabled above due runs
    exact runLane_nowOf (lanePauseRepeat_due enabled runs paused above due)
  case pauseExpiry =>
    rintro e port s _ t rfl paused passed
    exact runLane_nowOf (lanePauseExpiry_passed paused passed)
  case linkUp =>
    rintro e port s _ rfl runs opened
    exact runLane_nowOf (laneLinkUp_opened runs opened)
  case linkDown =>
    rintro e port s _ rfl runs up opened
    exact runLane_nowOf (laneLinkDown_opened runs up opened)
  case egressLinkDown =>
    rintro e port underrun s _ n sp what len ptp desc rfl runs head down
    exact runLane_nowOf (laneEgress_linkDown runs underrun head down)
  case egressGated =>
    rintro e port underrun s _ n sp what len ptp desc rfl runs head up unpaused gated unleased
    exact runLane_nowOf (laneEgress_gated runs up unpaused underrun head gated unleased)
  case egressOversize =>
    rintro e port underrun s _ n sp what len desc rfl runs head up unpaused ungated host single large
    exact runLane_nowOf (laneEgress_oversize runs up unpaused head ungated single underrun host large)
  case egressSends =>
    rintro e port _ s _ n sp what len desc rfl runs head up unpaused ungated single fits rfl
    exact runLane_nowOf (laneEgress_sends runs up unpaused head ungated single fits rfl)
  case wakeFrame =>
    rintro e port f s _ k rfl asleep wakes opened sound found woken
    exact runLane_nowOf (laneWakeFrame_matches asleep wakes opened sound found woken)
  case receiveRunt =>
    rintro e port f s _ rfl runs up opened unlooped short
    exact runLane_nowOf (laneFrameReceive_failing runs up opened unlooped (frameError_runt _ port short))
  case receiveSound =>
    rintro e port f s _ rfl runs up opened unlooped sound
    exact runLane_nowOf (laneFrameReceive_sound runs up opened unlooped sound)

end Sys2Proof.Machine
end

section
/-!
PROOFS. The requests of phasor estimation (R175 to R210) and of Skein (R239 to R246), once they are accepted.
-/
namespace Sys2Proof.Machine

section Applied
variable {r : Request} {l : Lane}

section ChannelSet
variable {p : PeCfg} (asked : p = peAsked (body r))
include asked

/-- A channel that becomes enabled starts anew on the bank that it asks for (R175, R204). -/
theorem peSetApply_enables {id ch : Nat} (hid : id = flowId r) (hch : ch = field (body r) 0 1) (enables : p.enable = true)
    (idle : (peCfg l id ch).any (·.enable) = false) :
    peSetApply r l = (setPeRun id ch (peStart p.bankSlot) (withPeCfg (8 * id + ch) p l), []) := by
  subst asked hid hch
  simp [peSetApply, enables, idle]

/-- A channel that the request disables settles its swaps (R205) and loses its run. -/
theorem peSetApply_disables {id ch : Nat} {m : Lane} (hid : id = flowId r) (hch : ch = field (body r) 0 1)
    (disables : p.enable = false) (settled : m = settleSwaps id ch (withPeCfg (8 * id + ch) p l)) :
    peSetApply r l = ({ m with pe := { m.pe with channels := tdel m.pe.channels (8 * id + ch) } }, []) := by
  subst asked hid hch settled
  simp [peSetApply, disables]

end ChannelSet

section BankSwap
variable {id : Nat} (hid : id = flowId r)
include hid

/-- Behind a fade in progress the swap is held (R200). -/
theorem swapStart_fading (fading : (peStream l id).fade.isSome = true) :
    swapStart r l = setPeStream id { peStream l id with held := some (swapAsked r) } l := by
  subst hid
  simp [swapStart, fading]

/-- With no fade in progress and no masked channel settling, the fade of the swap starts (R197). -/
theorem swapStart_unfaded (unfaded : (peStream l id).fade = none)
    (settled : maskSettles l id (swapAsked r).mask = false) :
    swapStart r l = setPeStream id { peStream l id with fade := some (swapAsked r) }
      { l with
        pe := { l.pe with
          channels := l.pe.channels.map (fun x => if x.1 / 8 = id then (x.1, { x.2 with fadeDone := 0 }) else x) } } := by
  subst hid
  simp [swapStart, unfaded, settled]

end BankSwap

/-- The shadow map becomes the active one; a BUILDING plane runs from its first course at or after now (R240). -/
theorem mapSwitchApply_configured {p first gen : Nat} {c : PlaneCfg} (hp : p = flowId r) (cfg : planeCfg l p = some c)
    (hfirst : first = if c.running then (planeRun l p).nextOpen else firstCourseFrom c (nowUnits l))
    (hgen : gen = bump (planeRun l p).mapGen) :
    mapSwitchApply r l =
      (setPlane p { planeRun l p with
          mapGen := gen, nextOpen := first, oldest := if c.running then (planeRun l p).oldest else first }
        { l with
          cfg := { l.cfg with
            planes := tput l.cfg.planes p
              { c with running := true, width := field (body r) 4 4, map := (planeRun l p).shadow } } },
        le 8 first ++ le 4 gen ++ zeros 4) := by
  subst hp hfirst hgen
  simp [mapSwitchApply, cfg]

end Applied

/-- Settles O53, a clause per request and outcome. -/
theorem pickAndSkeinRequestsComplete : Obligations.PickAndSkeinRequestsComplete := by
  refine ⟨?channelEnables, ?channelDisables, ?bankLoad, ?swapHeld, ?swapStarts, ?peReset, ?peQuery, ?planeCreate, ?planeSet,
    ?mapWrite, ?mapSwitch, ?mapClear, ?planeStop, ?planeDelete, ?planeQuery, ?waleRead⟩
  case channelEnables =>
    rintro e r s _ p id ch rfl acc hid hch asked enables idle
    exact runLane_nowOf (serve_applies acc (peSetApply_enables asked hid hch enables idle))
  case channelDisables =>
    rintro e r s _ p id ch m rfl acc hid hch asked disables settled
    exact runLane_nowOf (serve_applies acc (peSetApply_disables asked hid hch disables settled))
  case swapHeld =>
    rintro e r s _ id rfl acc hid fading
    exact runLane_nowOf ((serveHeld_accepted acc _).trans (swapStart_fading hid fading))
  case swapStarts =>
    rintro e r s _ id rfl acc hid unfaded settled
    exact runLane_nowOf ((serveHeld_accepted acc _).trans (swapStart_unfaded hid unfaded settled))
  case mapSwitch =>
    rintro e r s _ p c first gen rfl acc hp cfg hfirst hgen
    exact runLane_nowOf (serve_applies acc (mapSwitchApply_configured hp cfg hfirst hgen))
  case bankLoad | peReset | peQuery | planeCreate | planeSet | mapClear | planeQuery =>
    rintro e r s _ rfl acc
    exact runLane_nowOf (serve_accepted acc _)
  case mapWrite =>
    rintro e r s _ sh rfl acc rfl
    exact runLane_nowOf (serve_accepted acc _)
  case planeStop | planeDelete =>
    rintro e r s _ p rfl acc rfl
    exact runLane_nowOf (serve_accepted acc _)
  case waleRead =>
    rintro e r s _ w t rs rfl acc rfl rfl rfl
    exact runLane_nowOf (serve_accepted acc _)

end Sys2Proof.Machine
end

section
/-!
PROOFS. The events of Skein (R220 to R237): what an arrival, a course instant, a tick and the history writer do to a lane.
-/
namespace Sys2Proof.Machine

section SkeinEvents
variable {l : Lane}

section Serving
variable (serves : serving l = true)
include serves

theorem laneAlignerWrite_oldest {a : Arrival} {t : List Arrival} (arrivals : l.streams.arrivals = a :: t) :
    laneAlignerWrite l = alignArrival a { l with streams := { l.streams with arrivals := t } } := by
  simp [laneAlignerWrite, arrivals, serves]

theorem laneCourseInstant_reached {p : Nat} {c : PlaneCfg} (cfg : planeCfg l p = some c) (runs : c.running = true)
    (reached : courseInstant c (planeRun l p).nextOpen ≤ nowUnits l) :
    laneCourseInstant p l = openCourses p (firstCourseFrom c (nowUnits l + 1) - 1) l := by
  simp [laneCourseInstant, cfg, serves, runs, reached]

theorem laneDeadlineTick_due {p : Nat} {c : Course} (due : dueCourse l p (·.deadlineTick) (·.waitUs) = some c) :
    laneDeadlineTick p l = closeCourses p (modCourse p c.number (fun x => { x with deadlineTick := true }) l) := by
  simp [laneDeadlineTick, serves, due]

/-- A course whose rules ask for no quorum never has its quorum tick due (R226). -/
theorem laneQuorumTick_due {p : Nat} {c : Course}
    (due : dueCourse l p (fun c => c.quorumTick || c.rules.quorumCount == 0) (·.quorumWaitUs) = some c) :
    laneQuorumTick p l = closeCourses p (modCourse p c.number (fun x => { x with quorumTick := true }) l) := by
  simp [laneQuorumTick, serves, due]

end Serving

section History
variable {a : Arrival} {mask : BitVec 4}

theorem laneWaleWrite_direct {t : List (Arrival × BitVec 4)} (waiting : l.skein.toHistory = (a, mask) :: t) :
    laneWaleWrite none l = writeHistory a mask { l with skein := { l.skein with toHistory := t } } := by
  simp [laneWaleWrite, waiting]

/-- The late-frame queues are queues 22 to 25, one for each plane (R235). -/
theorem laneWaleWrite_late {p n : Nat} {sp : Bool} (plane : p ≤ 3)
    (head : headItem l (22 + p) = some ⟨n, sp, .late a mask⟩) :
    laneWaleWrite (some p) l = writeHistory a mask (popItem (22 + p) l) := by
  simp [laneWaleWrite, head, plane]

end History

end SkeinEvents

/-- Settles O41, a clause per command, and two for the history: its direct way and the late-frame queues. -/
theorem skeinEventsComplete : Obligations.SkeinEventsComplete := by
  refine ⟨?alignerValueWrite, ?courseInstantReached, ?deadlineTick, ?quorumTick, ?historyDirect, ?historyLate⟩
  case alignerValueWrite =>
    rintro e s _ a t rfl arrivals serves
    exact runLane_nowOf (laneAlignerWrite_oldest serves arrivals)
  case courseInstantReached =>
    rintro e plane s _ c rfl cfg serves runs reached
    exact runLane_nowOf (laneCourseInstant_reached serves cfg runs reached)
  case deadlineTick =>
    rintro e plane s _ c rfl serves due
    exact runLane_nowOf (laneDeadlineTick_due serves due)
  case quorumTick =>
    rintro e plane s _ c rfl serves due
    exact runLane_nowOf (laneQuorumTick_due serves due)
  case historyDirect =>
    rintro e _ s _ a mask t rfl rfl waiting
    exact runLane_nowOf (laneWaleWrite_direct waiting)
  case historyLate =>
    rintro e _ s _ p n sp a mask rfl rfl plane head
    exact runLane_nowOf (laneWaleWrite_late plane head)

end Sys2Proof.Machine
end

section
/-!
PROOFS. The bundle's encoding (R276): each slot, and so the bundle, says the same as its bits.
-/
namespace Sys2Proof.Machine

/-! ### Slots

A field read from a concatenation is the field of the part that holds it; fields that lie one above the other join again to the bits
that they were read from. -/

section Slots
open BitVec (extractLsb'_append_eq_of_le extractLsb'_append_eq_of_add_le extractLsb'_eq_self
  extractLsb'_append_extractLsb'_eq_extractLsb')

@[simp] theorem decodeV_encodeV (v : VSlot) : decodeV (encodeV v) = v := by
  simp (disch := decide) only [decodeV, encodeV, extractLsb'_append_eq_of_le, extractLsb'_append_eq_of_add_le,
    extractLsb'_eq_self, Nat.reduceSub]

@[simp] theorem encodeV_decodeV (b : BitVec 48) : encodeV (decodeV b) = b := by
  simp (disch := decide) only [decodeV, encodeV, extractLsb'_append_extractLsb'_eq_extractLsb', extractLsb'_eq_self]

@[simp] theorem decodeS_encodeS (s : SSlot) : decodeS (encodeS s) = s := by
  simp (disch := decide) only [decodeS, encodeS, extractLsb'_append_eq_of_le, extractLsb'_append_eq_of_add_le,
    extractLsb'_eq_self, Nat.reduceSub]

@[simp] theorem encodeS_decodeS (b : BitVec 32) : encodeS (decodeS b) = b := by
  simp (disch := decide) only [decodeS, encodeS, extractLsb'_append_extractLsb'_eq_extractLsb', extractLsb'_eq_self]

@[simp] theorem decodeL_encodeL (x : LSlot) : decodeL (encodeL x) = x := by
  simp (disch := decide) only [decodeL, encodeL, extractLsb'_append_eq_of_le, extractLsb'_append_eq_of_add_le,
    extractLsb'_eq_self, Nat.reduceSub]

@[simp] theorem encodeL_decodeL (b : BitVec 24) : encodeL (decodeL b) = b := by
  simp (disch := decide) only [decodeL, encodeL, extractLsb'_append_extractLsb'_eq_extractLsb', extractLsb'_eq_self]

@[simp] theorem decodeT_encodeT (t : TSlot) : decodeT (encodeT t) = t := by
  simp (disch := decide) only [decodeT, encodeT, extractLsb'_append_eq_of_le, extractLsb'_append_eq_of_add_le,
    extractLsb'_eq_self, Nat.reduceSub]

@[simp] theorem encodeT_decodeT (b : BitVec 24) : encodeT (decodeT b) = b := by
  simp (disch := decide) only [decodeT, encodeT, extractLsb'_append_extractLsb'_eq_extractLsb', extractLsb'_eq_self]

@[simp] theorem decodeN_encodeN (n : NSlot) : decodeN (encodeN n) = n := by
  simp (disch := decide) only [decodeN, encodeN, extractLsb'_append_eq_of_le, extractLsb'_append_eq_of_add_le,
    extractLsb'_eq_self, Nat.reduceSub]

@[simp] theorem encodeN_decodeN (b : BitVec 16) : encodeN (decodeN b) = b := by
  simp (disch := decide) only [decodeN, encodeN, extractLsb'_append_extractLsb'_eq_extractLsb', extractLsb'_eq_self]

@[simp] theorem decodeC_encodeC (c : CSlot) : decodeC (encodeC c) = c := by
  simp (disch := decide) only [decodeC, encodeC, extractLsb'_append_eq_of_le, extractLsb'_append_eq_of_add_le,
    extractLsb'_eq_self, Nat.reduceSub]

@[simp] theorem encodeC_decodeC (b : BitVec 24) : encodeC (decodeC b) = b := by
  simp (disch := decide) only [decodeC, encodeC, extractLsb'_append_extractLsb'_eq_extractLsb', extractLsb'_eq_self]

/-! ### Bundles -/

/-- Every field of a bundle reads back from its 192 bits. -/
theorem decodeBundle_encodeBundle (b : Bundle) : decodeBundle (encodeBundle b) = b := by
  simp (disch := decide) only [decodeBundle, encodeBundle, extractLsb'_append_eq_of_le, extractLsb'_append_eq_of_add_le,
    extractLsb'_eq_self, Nat.reduceSub, decodeV_encodeV, decodeS_encodeS, decodeL_encodeL, decodeT_encodeT, decodeN_encodeN,
    decodeC_encodeC]

/-- The fields of a bundle hold every one of its 192 bits. -/
theorem encodeBundle_decodeBundle (w : BitVec 192) : encodeBundle (decodeBundle w) = w := by
  simp (disch := decide) only [decodeBundle, encodeBundle, encodeV_decodeV, encodeS_decodeS, encodeL_decodeL, encodeT_decodeT,
    encodeN_decodeN, encodeC_decodeC, extractLsb'_append_extractLsb'_eq_extractLsb', extractLsb'_eq_self]

end Slots

/-- Settles O13, for every bundle and every word. -/
theorem bundleRoundTrip : Obligations.BundleRoundTrip := ⟨decodeBundle_encodeBundle, encodeBundle_decodeBundle⟩

end Sys2Proof.Machine
end

section
/-!
PROOFS. A tile's memory and registers (R250, R259): what a read returns after a write, and that the canonical form of a table is
unique among those that read alike.
-/
namespace Sys2Proof.Machine

/-! ### Tables -/

section Tables
variable {α : Type}

/-- In a table of rising keys every listed entry is the one that its key reads. -/
theorem mem_iff_tget {t : Table α} (rising : trising t = true) (k : Nat) (v : α) : (k, v) ∈ t ↔ tget t k = some v := by
  refine ⟨fun h => ?_, mem_of_tget⟩
  rw [trising_iff] at rising
  induction t with
  | nil => cases h
  | cons e t ih =>
    obtain ⟨above, rising⟩ := List.pairwise_cons.1 rising
    rcases List.mem_cons.1 h with rfl | h
    · simp [tget]
    · have other : e.1 ≠ k := Nat.ne_of_lt (above _ h)
      simpa [tget, other] using ih rising h

theorem nodup_of_trising {t : Table α} (rising : trising t = true) : t.Nodup :=
  ((trising_iff t).1 rising).imp fun below same => Nat.ne_of_lt below (congrArg Prod.fst same)

/-- Tables of rising keys that read alike are the same table. -/
theorem eq_of_tget_eq {s t : Table α} (hs : trising s = true) (ht : trising t = true) (reads : ∀ k, tget s k = tget t k) :
    s = t := by
  have same : s.Perm t := (List.perm_ext_iff_of_nodup (nodup_of_trising hs) (nodup_of_trising ht)).2 fun e => by
    rw [mem_iff_tget hs, mem_iff_tget ht, reads]
  exact same.eq_of_pairwise (fun _ _ _ _ above below => absurd above (Nat.lt_asymm below)) ((trising_iff s).1 hs)
    ((trising_iff t).1 ht)

variable [DecidableEq α] {d : α}

theorem canonical_iff (t : Table α) : canonical d t = true ↔ trising t = true ∧ ∀ e ∈ t, e.2 ≠ d := by
  simp [canonical]

/-- In a table in canonical form the value of a key decides whether the key is listed. -/
theorem tget_of_tgetD {t : Table α} (can : canonical d t = true) (k : Nat) :
    tget t k = if tgetD t k d = d then none else some (tgetD t k d) := by
  have listed := ((canonical_iff t).1 can).2
  cases h : tget t k with
  | none => simp [tgetD, h]
  | some v =>
    have kept : v ≠ d := listed (k, v) (mem_of_tget h)
    simp [tgetD, h, kept]

/-- The canonical form is unique among the tables that read alike. -/
theorem eq_of_tgetD_eq {s t : Table α} (hs : canonical d s = true) (ht : canonical d t = true)
    (reads : ∀ k, tgetD s k d = tgetD t k d) : s = t := by
  refine eq_of_tget_eq ((canonical_iff s).1 hs).1 ((canonical_iff t).1 ht).1 fun k => ?_
  rw [tget_of_tgetD hs, tget_of_tgetD ht, reads]

theorem tgetD_putD (t : Table α) (k i : Nat) (v : α) : tgetD (putD d t k v) i d = if i = k then v else tgetD t i d := by
  split
  case isTrue h => rw [h, tgetD_putD_same]
  case isFalse h => exact tgetD_putD_other d t k i v h

end Tables

/-! ### Registers -/

/-- s0 discards writes and reads 0 (R250). -/
theorem sreg_writeDest (t : Tile) (r i : Nat) (w : Word) :
    sreg (writeDest (.sca r w) t) i = if i = r ∧ r ≠ 0 then w else sreg t i := by
  by_cases zero : r = 0
  · simp [writeDest, zero]
  · by_cases same : i = r
    · simp [writeDest, sreg, zero, same, tgetD_putD_same]
    · simp [writeDest, sreg, zero, same, tgetD_putD_other]

/-- p0 discards writes and reads all ones (R250); any other takes the bits of the lanes that the mask names. -/
theorem preg_writeDest (t : Tile) (r i : Nat) (mask bits : BitVec 16) :
    preg (writeDest (.prd r mask bits) t) i =
      if i = r ∧ r ≠ 0 then (bits &&& mask) ||| (preg t r &&& ~~~mask) else preg t i := by
  by_cases zero : r = 0
  · simp [writeDest, zero]
  · by_cases same : i = r
    · simp [writeDest, preg, zero, same, tgetD_putD_same]
    · simp [writeDest, preg, zero, same, tgetD_putD_other]

/-- A result lands in a register, and never in the data SRAM (R252). -/
theorem writeDest_mem (t : Tile) (d : Dest) : (writeDest d t).mem = t.mem := by
  cases d with
  | vec r mask lanes => rfl
  | sca r w =>
    rw [writeDest]
    split <;> rfl
  | prd r mask bits =>
    rw [writeDest]
    split <;> rfl

/-- Settles O14: a word of the data SRAM and a register are entries of tables in canonical form. -/
theorem tileReadsWhatWasWritten : Obligations.TileReadsWhatWasWritten :=
  ⟨tgetD_putD, fun _ k w => Memory.wf_putWord k w, fun _ _ hm hn => eq_of_tgetD_eq hm hn, sreg_writeDest, preg_writeDest,
    writeDest_mem⟩

end Sys2Proof.Machine
end

section
/-!
PROOFS. The requests of the array, of a partition's patterns and of their variants (R291, R304 to R312, R323, R324, R338 to R340),
once they are accepted.
-/
namespace Sys2Proof.Machine

section Applied
variable {r : Request} {l : Lane} {n : Nat}

/-! ### PATTERN_LOAD (R305, R309) -/

section LoadChunk
variable {d : Bytes} (hn : n = flowId r)
  (data : d = chunkData (partOf l n).staged (chunkOffset (body r)) ((body r).drop 20))
include hn data

/-- The last chunk of an image starts its verification, which replies (R305). -/
theorem loadChunkStart_last (whole : d.length = chunkTotal (body r)) :
    loadChunkStart r l = setPart n { partOf l n with staged := none, verifying := some (r, d, none) } l := by
  subst hn data
  simp [loadChunkStart, whole]

theorem loadChunkStart_more (part : d.length ≠ chunkTotal (body r)) :
    loadChunkStart r l =
      postReply r .ok false [] (setPart n { partOf l n with staged := some (chunkTotal (body r), d) } l) := by
  subst hn data
  simp [loadChunkStart, part]

end LoadChunk

theorem loadLibraryStart_shaped {id : Nat} {x : Nat × Nat} (hn : n = flowId r) (shape : shapeOf (partOf l n) = some x)
    (hid : id = field (body r) 16 2) :
    loadLibraryStart r l =
      setPart n { partOf l n with verifying := some (r, libraryImage id x.1 x.2, some id) } l := by
  subst hn hid
  simp [loadLibraryStart, shape]

/-- RELEASE of a defined partition clears the tiles of its rectangle (R309). -/
theorem loadReleaseApply_defined {rect : Rect} (hn : n = flowId r) (defined : (partOf l n).rect = some rect) :
    loadReleaseApply r l =
      (setPart n { Part.empty with
          staged := (partOf l n).staged, variants := (partOf l n).variants, varChunk := (partOf l n).varChunk }
        { l with array := { l.array with tiles := l.array.tiles.filter (fun x => !inRect rect x.1) } }, []) := by
  subst hn
  simp [loadReleaseApply, defined]

/-! ### PATTERN_SWAP and PATTERN_PARAM_SET (R311, R312) -/

/-- With no plane bound an IDLE partition swaps at dispatch (R311). -/
theorem patSwapStart_unbound (hn : n = flowId r) (unbound : planeOf l n = none) (idle : (partOf l n).phase = .idle) :
    patSwapStart r l = applySwap n (postReply r .ok false [] l) := by
  subst hn
  simp [patSwapStart, unbound, idle]

/-- While a round is in progress the swap waits for its boundary (R311). -/
theorem patSwapStart_busy (hn : n = flowId r) (busy : (partOf l n).phase ≠ .idle) :
    patSwapStart r l = setPart n { partOf l n with change := some (r, .swap (swapFrom r)) } l := by
  subst hn
  simp [patSwapStart, busy]

/-- The active bank's block waits for a boundary (R312). -/
theorem paramStart_active (hn : n = flowId r) (bank : field (body r) 0 1 = 0) :
    paramStart r l =
      setPart n { partOf l n with change := some (r, .params (field (body r) 4 4) ((body r).drop 12)) } l := by
  subst hn
  simp [paramStart, bank]

/-- The inactive bank's block is written at dispatch (R312). -/
theorem paramStart_inactive {pat : Pattern} (hn : n = flowId r) (bank : field (body r) 0 1 ≠ 0)
    (loaded : inactiveBank (partOf l n) = some pat) :
    paramStart r l =
      postReply r .ok false [] (setPart n
        (setInactive (some { pat with params := splice pat.params (field (body r) 4 4) ((body r).drop 12) }) (partOf l n))
        l) := by
  subst hn
  simp [paramStart, bank, loaded]

/-! ### RESULT_READ (R324) -/

theorem resultStart_absent (absent : resultEntry (partOf l (flowId r)) (field (body r) 0 8) = none) :
    resultStart r l = postReply r .noResource false (resultRange (partOf l (flowId r))) l := by
  simp [resultStart, absent]

theorem resultStart_found {x : RoundResult} {lines : List Bytes}
    (found : resultEntry (partOf l (flowId r)) (field (body r) 0 8) = some x)
    (asked : lines = (x.lines.drop (field (body r) 8 4)).take (field (body r) 12 2)) :
    resultStart r l =
      postReply r .ok false (le 8 x.course ++ le 8 x.instant ++ le 4 x.lines.length ++ le 2 lines.length ++ zeros 2 ++
        le 4 x.patternId ++ le 4 x.paramGen ++ lines.flatten) l := by
  subst asked
  simp [resultStart, found]

/-! ### VARIANT_STAGE (R338, R339) -/

section VariantChunk
variable {p : Part} {d : Bytes} (hp : p = partOf l (flowId r))
  (data : d = chunkData (p.varChunk.bind (fun x => if x.1 = varId r then some x.2 else none)) (chunkOffset (body r))
    ((body r).drop 16))
include hp data

theorem variantChunkStart_more (part : d.length ≠ chunkTotal (body r)) :
    variantChunkStart r l =
      postReply r .ok false [] (setPart (flowId r) { p with varChunk := some (varId r, chunkTotal (body r), d) } l) := by
  subst hp data
  simp [variantChunkStart, part]

variable (whole : d.length = chunkTotal (body r))
include whole

/-- A variant that fails a check is not stored (R338). -/
theorem variantChunkStart_fails {f : LoadFail} (fails : variantFail l d (chunkTotal (body r)) = some f) :
    variantChunkStart r l =
      postReply r f.status false (failResult f) (setPart (flowId r) { p with varChunk := none } l) := by
  subst hp data
  simp [variantChunkStart, whole, fails]

theorem variantChunkStart_stores (passes : variantFail l d (chunkTotal (body r)) = none) :
    variantChunkStart r l =
      postReply r .ok false []
        (setPart (flowId r) { p with varChunk := none, variants := tput p.variants (varId r) d } l) := by
  subst hp data
  simp [variantChunkStart, whole, passes]

end VariantChunk

theorem variantStageStart_resident (there : resident (partOf l (flowId r)) (varId r) = true) :
    variantStageStart r l = postReply r .ok false [] l := by
  simp [variantStageStart, there]

section VariantStage
variable {v : Nat} (hn : n = flowId r) (hv : v = varId r) (absent : resident (partOf l n) v = false)
include hn hv absent

/-- With no plane bound the whole copy is written at dispatch (R339). -/
theorem variantStageStart_unbound {rect : Rect} {img : Bytes} (unbound : planeOf l n = none)
    (defined : (partOf l n).rect = some rect) (stored : tget (partOf l n).variants v = some img) :
    variantStageStart r l =
      postReply r .ok false [] (writeSlot rect img (inactiveSlot (partOf l n)) 0 (varLines img)
        (setPart n (setSlot (inactiveSlot (partOf l n)) (some v) (openSlot (inactiveSlot (partOf l n)) (partOf l n)))
          l)) := by
  subst hn hv
  simp [variantStageStart, absent, unbound, defined, stored]

/-- With a plane bound the copy goes in portions, at boundaries (R339). -/
theorem variantStageStart_bound {p : Nat × PlaneCfg} (bound : planeOf l n = some p) :
    variantStageStart r l = setPart n { partOf l n with change := some (r, .stage v 0) } l := by
  subst hn hv
  simp [variantStageStart, absent, bound]

end VariantStage

end Applied

/-- Settles O54, a clause per request and outcome. -/
theorem patternRequestsComplete : Obligations.PatternRequestsComplete := by
  refine ⟨?arrayQuery, ?chunkLast, ?chunkMore, ?library, ?release, ?swapUnbound, ?swapBusy, ?paramActive, ?paramInactive,
    ?patternQuery, ?resultAbsent, ?resultFound, ?variantMore, ?variantLast, ?stageUnbound, ?stageResident, ?stageBound,
    ?variantDelete, ?variantSelect⟩
  case arrayQuery | patternQuery | variantDelete =>
    rintro e r s _ rfl acc
    exact runLane_nowOf (serve_accepted acc _)
  case variantSelect =>
    rintro e r s _ rfl acc
    exact runLane_nowOf (serveHeld_accepted acc _)
  case chunkLast =>
    rintro e r s _ n d rfl acc hn data whole
    exact runLane_nowOf ((serveHeld_accepted acc _).trans (loadChunkStart_last hn data whole))
  case chunkMore =>
    rintro e r s _ n d rfl acc hn data part
    exact runLane_nowOf ((serveHeld_accepted acc _).trans (loadChunkStart_more hn data part))
  case library =>
    rintro e r s _ n id x rfl acc hn shape hid
    exact runLane_nowOf ((serveHeld_accepted acc _).trans (loadLibraryStart_shaped hn shape hid))
  case release =>
    rintro e r s _ n rect rfl acc hn defined
    exact runLane_nowOf (serve_applies acc (loadReleaseApply_defined hn defined))
  case swapUnbound =>
    rintro e r s _ n rfl acc hn unbound idle
    exact runLane_nowOf ((serveHeld_accepted acc _).trans (patSwapStart_unbound hn unbound idle))
  case swapBusy =>
    rintro e r s _ n rfl acc hn busy
    exact runLane_nowOf ((serveHeld_accepted acc _).trans (patSwapStart_busy hn busy))
  case paramActive =>
    rintro e r s _ n rfl acc hn bank
    exact runLane_nowOf ((serveHeld_accepted acc _).trans (paramStart_active hn bank))
  case paramInactive =>
    rintro e r s _ n pat rfl acc hn bank loaded
    exact runLane_nowOf ((serveHeld_accepted acc _).trans (paramStart_inactive hn bank loaded))
  case resultAbsent =>
    rintro e r s _ rfl acc absent
    exact runLane_nowOf ((serveHeld_accepted acc _).trans (resultStart_absent absent))
  case resultFound =>
    rintro e r s _ x lines rfl acc found asked
    exact runLane_nowOf ((serveHeld_accepted acc _).trans (resultStart_found found asked))
  case variantMore =>
    rintro e r s _ p d rfl acc hp data part
    exact runLane_nowOf ((serveHeld_accepted acc _).trans (variantChunkStart_more hp data part))
  case variantLast =>
    rintro e r s _ p d rfl acc hp data whole
    refine runLane_nowOf ((serveHeld_accepted acc _).trans ?_)
    split
    case h_1 f fails => exact variantChunkStart_fails hp data whole fails
    case h_2 passes => exact variantChunkStart_stores hp data whole passes
  case stageUnbound =>
    rintro e r s _ n v rect img rfl acc hn hv absent unbound defined stored
    exact runLane_nowOf ((serveHeld_accepted acc _).trans
      (variantStageStart_unbound hn hv absent unbound defined stored))
  case stageResident =>
    rintro e r s _ rfl acc there
    exact runLane_nowOf ((serveHeld_accepted acc _).trans (variantStageStart_resident there))
  case stageBound =>
    rintro e r s _ n v p rfl acc hn hv absent bound
    exact runLane_nowOf ((serveHeld_accepted acc _).trans (variantStageStart_bound hn hv absent bound))

end Sys2Proof.Machine
end

section
/-!
PROOFS. The events of the array (R248 to R290) and of the rounds and patterns of its partitions (R306 to R321): what each does to a
lane.
-/
namespace Sys2Proof.Machine

section ArrayEvents
variable {l : Lane} {n : Nat}

/-! ### Cast-on (R279) -/

section CastOn
variable {c : ClosedCourse} {t : List ClosedCourse} {rect : Rect} (serves : serving l = true)
  (idle : (partOf l n).phase = .idle) (sound : (partOf l n).repairing = false) (still : changeReady l n = false)
  (queue : (partOf l n).queue = c :: t) (defined : (partOf l n).rect = some rect)
include serves idle sound still queue defined

theorem laneCastOn_unloaded (empty : activeBank (partOf l n) = none) :
    laneCastOn n l = skipCourse n c 3 (setPart n { partOf l n with queue := t } l) := by
  simp [laneCastOn, serves, idle, sound, still, queue, defined, empty]

variable {pat : Pattern} (loaded : activeBank (partOf l n) = some pat) (good : (partOf l n).faulted = false)
include loaded good

theorem laneCastOn_mismatch (width : c.width ≠ patWidth pat) :
    laneCastOn n l = skipCourse n c 2 (setPart n { partOf l n with queue := t } l) := by
  simp [laneCastOn, serves, idle, sound, still, queue, defined, loaded, good, width]

/-- A first attempt: the course goes into the tiles by the layout, with its header line (R279, R316). -/
theorem laneCastOn_casts {x : ClosedCourse} {l1 : Lane} (width : c.width = patWidth pat)
    (rate : rateAllowed (patRates pat) c.rate = true) (first : (partOf l n).secondDue = false)
    (hx : x = { c with status := withStatus (if l.health.throttled then 0x2000 else 0) c.status })
    (h1 : l1 = setPart n
      { partOf l n with
        queue := t, phase := .casting, row := 0, skipped := [], secondDue := false, portion := false,
        round := some { course := x, attempt := 0, alarms := [], violation := none } } l) :
    laneCastOn n l = writeHeader n pat x 0
      ((layoutOf pat.image).foldl (fun acc en => modTile (tileAt rect en.tile) (castEntry x en) acc) l1) := by
  subst hx h1
  simp [laneCastOn, serves, idle, sound, still, queue, defined, loaded, good, width, rate, first, b2n]

end CastOn

/-! ### The rows (R248, R284) -/

section Rows
variable {rect : Rect} (serves : serving l = true) (defined : (partOf l n).rect = some rect)
include serves defined

section BundleIssue
variable {pat : Pattern} (loaded : activeBank (partOf l n) = some pat)
include loaded

/-- A partition that Cast-on has filled begins its round with row 0. -/
theorem laneBundleIssue_begins (cast : (partOf l n).phase = .casting) :
    laneBundleIssue n .none l = issueRow n pat rect .none (startRound n pat rect l) := by
  simp [laneBundleIssue, serves, defined, loaded, cast, errorApplies]

variable (runs : (partOf l n).phase = .running)
include runs

theorem laneBundleIssue_runs {err : RowError} (applies : errorApplies l (partOf l n) pat rect err = true)
    (fetched : ∀ tile, err ≠ .fetch tile) : laneBundleIssue n err l = issueRow n pat rect err l := by
  cases err with
  | fetch tile => exact absurd rfl (fetched tile)
  | none | corrected | uncorrectable => simp [laneBundleIssue, serves, defined, loaded, runs, applies]

/-- A bundle that fails at fetch stops the partition before it would issue (R284). -/
theorem laneBundleIssue_fetchFails {tile : Nat} (applies : errorApplies l (partOf l n) pat rect (.fetch tile) = true) :
    laneBundleIssue n (.fetch tile) l =
      settleTiles rect (memoryError n tile (2 ^ 16 + (tileOf l tile).pc) 7 ((partOf l n).row - 1) l) := by
  simp [laneBundleIssue, serves, defined, loaded, runs, applies]

end BundleIssue

variable {row : Nat} (last : lastRow (partOf l n) = some row)
include last

theorem laneResultWrite_settles : laneResultWrite n l = modTiles rect (fun _ t => settleResults row t) l := by
  simp [laneResultWrite, serves, defined, last]

theorem laneStoreWrite_settles : laneStoreWrite n l = modTiles rect (fun _ t => settleStores row t) l := by
  simp [laneStoreWrite, serves, defined, last]

end Rows

theorem laneLatchArrival_discards (serves : serving l = true) (runs : (partOf l n).phase = .running) :
    laneLatchArrival n l =
      setPart n { partOf l n with buses := (partOf l n).buses.filter (fun b => decide ((partOf l n).row ≤ b.at_)) } l := by
  simp [laneLatchArrival, serves, runs]

/-! ### Bind-off and retry (R280, R320, R321) -/

section Rounds
variable {pat : Pattern} {rect : Rect} {rd : Round} (serves : serving l = true)
  (loaded : activeBank (partOf l n) = some pat) (defined : (partOf l n).rect = some rect)
  (round : (partOf l n).round = some rd)
include serves loaded defined round

section BindOff
variable (binds : (partOf l n).phase = .binding) (bad : Option Nat)
include binds

/-- The clean end of a round, and the delivery of its output lines by their kinds (R280, R317, R318). -/
theorem laneBindOff_delivers {c : ClosedCourse} {l1 l2 l3 l4 l5 l6 : Lane} {out : List OutLine} (hc : c = rd.course)
    (h1 : l1 = settleTiles rect l) (hout : out = roundLines l1 rect (partOf l n) pat c)
    (h2 : l2 = releaseAlarms n rd.alarms
      (cleanEnd n pat rd ((out.filter (fun x => x.1.any (fun k => k.1 == 3))).map (·.2)) l1))
    (h3 : l3 = gaugeSample 3 n (patRows pat + 8 + patOutLines pat : Nat) l2)
    (h4 : l4 = deliverDerived c.plane c.instant (outputBytes out 1) l3)
    (h5 : l5 = feedFeatures c.instant (outputBytes out 2) l4)
    (h6 : l6 = publishCourse c.plane c.number c.instant c.rate c.status (some (outputBytes out 0)) l5) :
    laneBindOff n bad none l =
      produceDigest c.plane c.number (some (roundDigest pat (partOf l n).paramGen rd (out.map (·.2)))) bad l6 := by
  subst hc h1 hout h2 h3 h4 h5 h6
  simp [laneBindOff, serves, loaded, defined, round, binds]

/-- An uncorrectable word that Bind-off reads is a violation (R283). -/
theorem laneBindOff_uncorrectable {tile word : Nat} (inside : inRect rect tile = true) :
    laneBindOff n bad (some (tile, word)) l =
      memoryError n tile word 6 ((partOf l n).row - 1) (settleTiles rect l) := by
  simp [laneBindOff, serves, loaded, defined, round, binds, inside]

end BindOff

section Retry
variable (stopped : (partOf l n).phase = .stopped)
include stopped

/-- The round repeats its course, with RETRY in its status, when no other waits (R320). -/
theorem laneRoundRetry_repeats {x : ClosedCourse} {l1 : Lane} (failing : Option Nat) (first : rd.attempt = 0)
    (alone : (partOf l n).queue = []) (sound : (partOf l n).repairing = false)
    (hx : x = { rd.course with status := withStatus 0x800 rd.course.status })
    (h1 : l1 = setPart n
      { partOf l n with
        round := some { course := x, attempt := 1, alarms := [], violation := none },
        counters := { (partOf l n).counters with second := bump (partOf l n).counters.second } } l) :
    laneRoundRetry n failing l = startRound n pat rect (writeHeader n pat x 1 l1) := by
  subst hx h1
  simp [laneRoundRetry, serves, loaded, defined, round, stopped, first, alone, sound]

theorem laneRoundRetry_yields {c : ClosedCourse} {t : List ClosedCourse} (failing : Option Nat) (first : rd.attempt = 0)
    (waits : (partOf l n).queue = c :: t) : laneRoundRetry n failing l = giveUp n rd true l := by
  simp [laneRoundRetry, serves, loaded, defined, round, stopped, first, waits]

/-- A second violation is a lasting fault; with no tile found the active bank is FAULTED (R321). -/
theorem laneRoundRetry_lasting (second : rd.attempt ≠ 0) :
    laneRoundRetry n none l = markFaulted n (giveUp n rd false (lastingFault .round n
      (setPart n
        { partOf l n with
          counters := { (partOf l n).counters with lasting := bump (partOf l n).counters.lasting } } l))) := by
  simp [laneRoundRetry, serves, loaded, defined, round, stopped, second]

end Retry

end Rounds

/-! ### The round boundary and verification (R306, R310) -/

section Boundary
variable {r : Request} (runs : dieRuns l = true) (ready : changeReady l n = true)
include runs ready

theorem laneBoundaryApply_swap {bound : Nat} (waits : (partOf l n).change = some (r, .swap bound)) :
    laneBoundaryApply n l =
      applySwap n (postReply r .ok false [] (setPart n { partOf l n with change := none } l)) := by
  simp [laneBoundaryApply, runs, ready, waits]

theorem laneBoundaryApply_params {off : Nat} {d : Bytes} (waits : (partOf l n).change = some (r, .params off d)) :
    laneBoundaryApply n l =
      postReply r .ok false [] (applyParams n off d (setPart n { partOf l n with change := none } l)) := by
  simp [laneBoundaryApply, runs, ready, waits]

end Boundary

section Verification
variable {r : Request} {image : Bytes}

theorem laneVerificationComplete_fails {f : LoadFail} (verifies : (partOf l n).verifying = some (r, image, none))
    (fails : verifyImage l n image image.length = some f) :
    laneVerificationComplete n l =
      postReply r f.status false (failResult f) (setPart n { partOf l n with verifying := none } l) := by
  simp [laneVerificationComplete, verifies, fails]

/-- An image of the library has been checked with its firmware (R306). -/
theorem laneVerificationComplete_passes {lib : Option Nat} (verifies : (partOf l n).verifying = some (r, image, lib))
    (passes : lib ≠ none ∨ verifyImage l n image image.length = none) :
    laneVerificationComplete n l = postReply r .ok false [] (commitImage n image lib l) := by
  cases lib with
  | none => simp [laneVerificationComplete, verifies, passes.resolve_left (fun h => h rfl)]
  | some id => simp [laneVerificationComplete, verifies]

end Verification

/-! ### Repair and throttling (R287 to R290) -/

/-- The oldest repair completes once the partitions that it stops stand between rounds (R287). -/
theorem laneTileRepair_completes {lost t stop : List Nat} {tile : Nat} {l1 l2 l3 : Lane}
    (oldest : l.array.repairs = tile :: t) (ready : repairReady l tile = true)
    (h1 : l1 = modTile tile
      (fun x => { x with mem := (lost.filter (· < 65536)).foldl (fun m w => putWord m w 0) x.mem }) l)
    (hstop : stop = partsWith l1 (fun x => x / 8 == tile / 8 && tile % 8 ≤ x % 8))
    (h2 : l2 = { l1 with
      array := { l1.array with repairs := t },
      health := { l1.health with retired := l1.health.retired ++ [physicalTile l tile] } })
    (h3 : l3 = stop.foldl (fun acc n => setPart n { partOf acc n with
      repairing := t.any (fun x => (partsWith l2 (fun y => y / 8 == x / 8 && x % 8 ≤ y % 8)).contains n) } acc) l2) :
    laneTileRepair lost l =
      raiseEvent 261 (logFault .event .sram 0 tile none (le 4 (lost.filter (· < 65536)).length) l3) := by
  subst h1 hstop h2 h3
  simp [laneTileRepair, oldest, ready]

section Running
variable (runs : dieRuns l = true)
include runs

theorem laneSpareFailure_counts (row : Fin 8) (unused : retiredColumn l row = none) :
    laneSpareFailure row l =
      { l with
        health := { l.health with
          spareFailed := l.health.spareFailed ||| BitVec.ofNat 8 (2 ^ row.val),
          selfTestFail := l.health.selfTestFail + 1 } } := by
  simp [laneSpareFailure, row.isLt, runs, unused]

/-- The sensor reads the entry temperature or more, the model's choice (log 49). -/
theorem laneThrottleEntry_enters {l1 : Lane} (fast : l.health.throttled = false)
    (h1 : l1 = setJunction (max 110 l.health.junction) l) :
    laneThrottleEntry l = raiseEvent 262
      { l1 with
        health := { l1.health with throttled := true },
        array := { l1.array with throttleEntries := bump l1.array.throttleEntries, throttledAt := l1.tc } } := by
  subst h1
  simp [laneThrottleEntry, runs, fast]

/-- The sensor reads the exit temperature or less, at least 1 s after the entry, the model's choice (log 49). -/
theorem laneThrottleExit_exits {l1 : Lane} (slow : l.health.throttled = true)
    (passed : l.array.throttledAt + secTc 1 ≤ l.tc) (h1 : l1 = setJunction (min 104 l.health.junction) l) :
    laneThrottleExit l = raiseEvent 263
      { l1 with
        health := { l1.health with throttled := false },
        array := { l1.array with throttledTc := l1.array.throttledTc + (l1.tc - l1.array.throttledAt) } } := by
  subst h1
  simp [laneThrottleExit, runs, slow, passed]

end Running

end ArrayEvents

/-- Settles O42, a clause per command and outcome. -/
theorem arrayEventsComplete : Obligations.ArrayEventsComplete := by
  refine ⟨?castUnloaded, ?castMismatch, ?castOn, ?roundBegins, ?rowIssues, ?fetchFails, ?resultWrite, ?storeWrite,
    ?latchArrival, ?bindOff, ?bindOffUncorrectable, ?boundarySwap, ?boundaryParams, ?retryRepeats, ?retryYields,
    ?retryLasting, ?verificationFails, ?verificationPasses, ?tileRepair, ?spareFailure, ?throttleEntry, ?throttleExit⟩
  case castUnloaded =>
    rintro e part s _ c t rect rfl serves idle sound still queue defined empty
    exact runLane_nowOf (laneCastOn_unloaded serves idle sound still queue defined empty)
  case castMismatch =>
    rintro e part s _ c t rect pat rfl serves idle sound still queue defined loaded good width
    exact runLane_nowOf (laneCastOn_mismatch serves idle sound still queue defined loaded good width)
  case castOn =>
    rintro e part s _ c x t rect pat l1 rfl serves idle sound still queue defined loaded good width rate first hx h1
    exact runLane_nowOf
      (laneCastOn_casts serves idle sound still queue defined loaded good width rate first hx h1)
  case roundBegins =>
    rintro e part _ s _ pat rect rfl loaded defined serves cast rfl
    exact runLane_nowOf (laneBundleIssue_begins serves defined loaded cast)
  case rowIssues =>
    rintro e part err s _ pat rect rfl loaded defined serves runs applies fetched
    exact runLane_nowOf (laneBundleIssue_runs serves defined loaded runs applies fetched)
  case fetchFails =>
    rintro e part _ s _ pat rect tile rfl loaded defined serves runs applies rfl
    exact runLane_nowOf (laneBundleIssue_fetchFails serves defined loaded runs applies)
  case resultWrite =>
    rintro e part s _ row rect rfl last defined serves
    exact runLane_nowOf (laneResultWrite_settles serves defined last)
  case storeWrite =>
    rintro e part s _ row rect rfl last defined serves
    exact runLane_nowOf (laneStoreWrite_settles serves defined last)
  case latchArrival =>
    rintro e part s _ rfl serves runs
    exact runLane_nowOf (laneLatchArrival_discards serves runs)
  case bindOff =>
    rintro e part bad _ s _ pat rect rd c l1 l2 l3 l4 l5 l6 out rfl loaded defined round serves binds rfl hc h1 hout h2 h3
      h4 h5 h6
    exact runLane_nowOf
      (laneBindOff_delivers serves loaded defined round binds bad hc h1 hout h2 h3 h4 h5 h6)
  case bindOffUncorrectable =>
    rintro e part bad _ s _ pat rect rd tile word rfl loaded defined round serves binds rfl inside
    exact runLane_nowOf (laneBindOff_uncorrectable serves loaded defined round binds bad inside)
  case boundarySwap =>
    rintro e part s _ r bound rfl runs ready waits
    exact runLane_nowOf (laneBoundaryApply_swap runs ready waits)
  case boundaryParams =>
    rintro e part s _ r off d rfl runs ready waits
    exact runLane_nowOf (laneBoundaryApply_params runs ready waits)
  case retryRepeats =>
    rintro e part failing s _ pat rect rd x l1 rfl loaded defined round serves stopped first alone sound hx h1
    exact runLane_nowOf
      (laneRoundRetry_repeats serves loaded defined round stopped failing first alone sound hx h1)
  case retryYields =>
    rintro e part failing s _ pat rect rd c t rfl loaded defined round serves stopped first waits
    exact runLane_nowOf (laneRoundRetry_yields serves loaded defined round stopped failing first waits)
  case retryLasting =>
    rintro e part _ s _ pat rect rd rfl loaded defined round serves stopped second rfl
    exact runLane_nowOf (laneRoundRetry_lasting serves loaded defined round stopped second)
  case verificationFails =>
    rintro e part s _ r image f rfl verifies fails
    exact runLane_nowOf (laneVerificationComplete_fails verifies fails)
  case verificationPasses =>
    rintro e part s _ r image lib rfl verifies passes
    exact runLane_nowOf (laneVerificationComplete_passes verifies passes)
  case tileRepair =>
    rintro e lost s _ tile t stop l1 l2 l3 rfl oldest ready h1 hstop h2 h3
    exact runLane_nowOf (laneTileRepair_completes oldest ready h1 hstop h2 h3)
  case spareFailure =>
    rintro e row s _ rfl runs unused
    exact runLane_nowOf (laneSpareFailure_counts runs row unused)
  case throttleEntry =>
    rintro e s _ l1 rfl runs fast h1
    exact runLane_nowOf (laneThrottleEntry_enters runs fast h1)
  case throttleExit =>
    rintro e s _ l1 rfl runs slow passed h1
    exact runLane_nowOf (laneThrottleExit_exits runs slow passed h1)

end Sys2Proof.Machine
end

section
/-!
PROOFS. The messages of the pair (chapter 16): what a message from a known member does to a lane whose die runs.
-/
namespace Sys2Proof.Machine

section PlyMessages
variable {l : Lane}

theorem withLease_named {n : Nat} {k : LeaseKind} (named : leaseNamed n = some k) (f : LeaseKind → Lane → Lane) :
    withLease n f l = f k l := by
  simp [withLease, named]

/-- A vote comes from a witness, which is no member of the pair (R546). -/
theorem knownSender_witnessVote (m lease q vote : Nat) : knownSender l ⟨m, lease, .witnessVote q vote⟩ = true := by
  simp [knownSender]

section Delivered
variable {az : Bool} {m : PlyMsg} {bad : Option Nat} (runs : dieRuns l = true) (known : knownSender l m = true)
include runs known

theorem deliverMessage_known : deliverMessage az m bad l = followPull (onMessage az m bad l) := by
  simp [deliverMessage, runs, known]

/-- A message about the lease that it names has its effect on that lease. -/
theorem deliverMessage_aboutLease {k : LeaseKind} {f : LeaseKind → Lane → Lane} (named : leaseNamed m.lease = some k)
    (about : onMessage az m bad l = withLease m.lease f l) : deliverMessage az m bad l = followPull (f k l) := by
  rw [deliverMessage_known runs known, about, withLease_named named]

end Delivered

end PlyMessages

/-- Settles O37, a clause per message: messages about a lease act on the lease that they name, the others at once. -/
theorem plyMessagesComplete : Obligations.PlyMessagesComplete := by
  refine ⟨?hello, ?renew, ?renewAck, ?yield, ?release, ?offer, ?accept, ?digest, ?health, ?time, ?tamper, ?mirrorPins,
    ?pullReq, ?pullData, ?check, ?witnessVote⟩
  case renew =>
    rintro e m lease epoch counter periodUs guardUs s _ k rfl runs known named
    exact runLane_nowOf (deliverMessage_aboutLease runs known named rfl)
  case renewAck | release =>
    rintro e m lease _ _ _ s _ k rfl runs known named
    exact runLane_nowOf (deliverMessage_aboutLease runs known named rfl)
  case yield =>
    rintro e m lease epoch s _ k rfl runs known named
    exact runLane_nowOf (deliverMessage_aboutLease runs known named rfl)
  case offer | accept =>
    rintro e m lease epoch target s _ k rfl runs known named
    exact runLane_nowOf (deliverMessage_aboutLease runs known named rfl)
  case hello | health =>
    rintro e m _ s _ rfl runs known
    exact runLane_nowOf (deliverMessage_known runs known)
  case digest =>
    rintro e m plane swapGen absent first digests bad s _ rfl runs known
    exact runLane_nowOf (deliverMessage_known runs known)
  case time =>
    rintro e m tx echoTx echoRx s _ rfl runs known
    exact runLane_nowOf (deliverMessage_known runs known)
  case tamper | pullReq | pullData =>
    rintro e m _ _ s _ rfl runs known
    exact runLane_nowOf (deliverMessage_known runs known)
  case mirrorPins =>
    rintro e m _ s _ p rfl runs known rfl
    exact runLane_nowOf (deliverMessage_known runs known)
  case check =>
    rintro e m plane result fail course bad s _ rfl runs known
    exact runLane_nowOf (deliverMessage_known runs known)
  case witnessVote =>
    rintro e q vote s _ rfl runs
    exact runLane_nowOf (deliverMessage_known runs (knownSender_witnessVote ..))

end Sys2Proof.Machine
end

section
/-!
PROOFS. The events of publishing and alarms (R383, R389, R397, R398): what each does to a lane that it reaches.
-/
namespace Sys2Proof.Machine

section PublishEvents
variable {l : Lane} {n : Nat}

theorem laneAlarmHold_settles (runs : dieRuns l = true) : laneAlarmHold n l = settleAlarm n l := by
  simp [laneAlarmHold, runs]

/-- A repeat that is due raises sqNum and doubles the interval that follows, up to t_max_ms (R389). -/
theorem laneGooseRepeat_due {p : GoosePub} (cfg : tget l.cfg.goose n = some p) (enabled : p.enable = true)
    (serves : serving l = true) (holds : isLeaseholder l = true) (repeats : (gooseRun l n).intervalMs ≠ 0)
    (due : (gooseRun l n).nextAt ≤ l.tc) :
    laneGooseRepeat n l = gooseTransmit n p { gooseRun l n with sqNum := gooseNext (gooseRun l n).sqNum }
      (min (2 * (gooseRun l n).intervalMs) p.tMaxMs) false l := by
  simp [laneGooseRepeat, cfg, enabled, serves, holds, repeats, due]

section SessionRuns
variable {x : SessionRun} (run : tget l.publish.sessions n = some x)
include run

/-- The announced configuration applies once announce_s has passed, and its request is answered (R398). -/
theorem laneAnnounceCommit_passed {c : SessionCfg} {t : Nat} {r : Request} (announced : x.announce = some (c, t, r))
    (passed : t ≤ l.tc) :
    laneAnnounceCommit n l = postReply r .ok false []
      { l with
        cfg := { l.cfg with sessions := tput l.cfg.sessions n c },
        publish := { l.publish with
          sessions := tput l.publish.sessions n { x with
            announce := none, cfgcnt := (x.cfgcnt + 1) % 65536,
            sending := x.sending || (!c.tcp && !c.cmdAccept) } } } := by
  simp [laneAnnounceCommit, run, announced, passed]

theorem laneTcpDisconnect_connected {client : Bytes} (connected : x.client = some client) :
    laneTcpDisconnect n l = setSession n { x with client := none, sending := false, waiting := [] } l := by
  simp [laneTcpDisconnect, run, connected]

section Served
variable {c : SessionCfg} (cfg : tget l.cfg.sessions n = some c) (serves : serving l = true)
include cfg serves

/-- A command that names the session's IDCODE and passes its CHK acts when the connected client sends it (R397). -/
theorem sessionCommand_fromClient (act : Nat → Lane → Lane) (tcp : c.tcp = true) {client : Bytes}
    (connected : x.client = some client) : sessionCommand act n c.idcode true l = act n l := by
  simp [sessionCommand, run, cfg, serves, tcp, connected]

/-- A UDP session without cmd_accept counts the command and does not act on it (R397). -/
theorem sessionCommand_ignored (act : Nat → Lane → Lane) (udp : c.tcp = false) (ignores : c.cmdAccept = false) :
    sessionCommand act n c.idcode true l = setSession n { x with commands := bump x.commands } l := by
  simp [sessionCommand, run, cfg, serves, udp, ignores]

section Connect
variable (tcp : c.tcp = true) (holds : isLeaseholder l = true) (addr : Bytes)
include tcp holds

theorem laneTcpConnect_listening (listens : x.client = none) :
    laneTcpConnect n addr l = setSession n
      { x with client := some (fit 16 addr), sending := c.autoStart, connections := bump x.connections } l := by
  simp [laneTcpConnect, run, cfg, serves, tcp, holds, listens]

/-- A further connection attempt is reset (R398). -/
theorem laneTcpConnect_connected {client : Bytes} (connected : x.client = some client) :
    laneTcpConnect n addr l = emit (.tcpReset n) l := by
  simp [laneTcpConnect, run, cfg, serves, tcp, holds, connected]

end Connect

end Served

end SessionRuns

end PublishEvents

/-- Settles O34, a clause per command and outcome. -/
theorem alarmAndGooseEventsComplete : Obligations.AlarmAndGooseEventsComplete := by
  refine ⟨?alarmHold, ?gooseRepeat, ?announceCommit, ?dataOff, ?dataOn, ?sendHeader, ?sendCfg1, ?sendCfg2, ?sendCfg3,
    ?ignored, ?connects, ?connectReset, ?disconnects⟩
  case alarmHold =>
    rintro e alarm s _ rfl runs
    exact runLane_nowOf (laneAlarmHold_settles runs)
  case gooseRepeat =>
    rintro e pub s _ p rfl cfg enabled serves holds repeats due
    exact runLane_nowOf (laneGooseRepeat_due cfg enabled serves holds repeats due)
  case announceCommit =>
    rintro e session s _ x c t r rfl run announced passed
    exact runLane_nowOf (laneAnnounceCommit_passed run announced passed)
  case dataOff | dataOn | sendHeader | sendCfg1 | sendCfg2 | sendCfg3 =>
    rintro e session _ _ s _ c x client rfl cfg run serves rfl rfl tcp connected
    exact runLane_nowOf (sessionCommand_fromClient run cfg serves _ tcp connected)
  case ignored =>
    rintro e session _ _ s _ c x rfl cfg run serves rfl rfl udp ignores
    exact runLane_nowOf (sessionCommand_ignored run cfg serves _ udp ignores)
  case connects =>
    rintro e session addr s _ c x rfl cfg run tcp serves holds listens
    exact runLane_nowOf (laneTcpConnect_listening run cfg serves tcp holds addr listens)
  case connectReset =>
    rintro e session addr s _ c x client rfl cfg run tcp serves holds connected
    exact runLane_nowOf (laneTcpConnect_connected run cfg serves tcp holds addr connected)
  case disconnects =>
    rintro e session s _ x client rfl run connected
    exact runLane_nowOf (laneTcpDisconnect_connected run connected)

end Sys2Proof.Machine
end

section
/-!
PROOFS. The publishing requests (R384 to R406), once they are accepted.
-/
namespace Sys2Proof.Machine

/-- Settles O55, a clause per request. SESSION_MODIFY alone is held, until its announcement has run (R398). -/
theorem publishRequestsComplete : Obligations.PublishRequestsComplete := by
  refine ⟨?alarmRoute, ?goosePub, ?sessionOpen, ?sessionModify, ?sessionClose, ?publishQuery, ?derivedCreate,
    ?derivedRemove⟩
  case alarmRoute | publishQuery | derivedRemove =>
    rintro e r s _ rfl acc
    exact runLane_nowOf (serve_accepted acc _)
  case goosePub =>
    rintro e r s _ n p l1 l2 rfl acc rfl rfl rfl rfl
    exact runLane_nowOf (serve_accepted acc gooseApply)
  case sessionOpen =>
    rintro e r s _ n c rfl acc rfl rfl
    exact runLane_nowOf (serve_accepted acc openApply)
  case sessionModify =>
    rintro e r s _ rfl acc
    exact runLane_nowOf (serveHeld_accepted acc announceStart)
  case sessionClose =>
    rintro e r s _ n l1 rfl acc rfl rfl
    exact runLane_nowOf (serve_accepted acc closeApply)
  case derivedCreate =>
    rintro e r s _ p c rfl acc rfl rfl
    exact runLane_nowOf (serve_accepted acc derivedCreateApply)

end Sys2Proof.Machine
end

section
/-!
PROOFS. The events of the Swatch recorder (R414 to R431): what each does to a lane that it reaches.
-/
namespace Sys2Proof.Machine

section SwatchEvents
variable {l : Lane}

/-! ### Feeds and trigger pins (R414, R416, R417) -/

section Feeds
variable (runs : dieRuns l = true)
include runs

theorem laneTriggerEvaluate_oldest {f : Feed} {t : List Feed} (oldest : l.swatch.trigFeed = f :: t) :
    laneTriggerEvaluate l =
      l.cfg.triggers.foldl (evalTrigger f) { l with swatch := { l.swatch with trigFeed := t } } := by
  simp [laneTriggerEvaluate, oldest, runs]

theorem laneSampleArrival_oldest {f : Feed} {t : List Feed} (oldest : l.swatch.rowFeed = f :: t) :
    laneSampleArrival l =
      l.cfg.profiles.foldl (feedProfile f) { l with swatch := { l.swatch with rowFeed := t } } := by
  simp [laneSampleArrival, oldest, runs]

section PinEdge
variable {k pin held : Nat} {t : TriggerCfg} {level : Bool} {l0 : Lane}
  (only : l.cfg.triggers = [(k, t)]) (enabled : t.enable = true) (onPin : t.type = 6) (object : t.object = pin)
  (seen : l0 = { l with swatch := { l.swatch with
    pinLevels := if level then l.swatch.pinLevels ||| BitVec.ofNat 2 (2 ^ pin)
      else l.swatch.pinLevels &&& ~~~(BitVec.ofNat 2 (2 ^ pin)) } })
include only enabled onPin object seen

/-- The level opposite to the sense's re-enables the pin's trigger (R416). -/
theorem lanePinEdge_reenables (opposite : level = t.falling) :
    lanePinEdge pin level held l = setTrigger k { triggerRun l0 k with state := 2 } l0 := by
  simp only [lanePinEdge, ← seen]
  simp [runs, only, enabled, onPin, object, opposite]

/-- The sense's level, held long enough, fires the pin's armed trigger at the edge (R416). -/
theorem lanePinEdge_fires {edge : Int} (sense : level ≠ t.falling) (armed : (triggerRun l0 k).state = 2)
    (long : t.hold ≤ held) (atEdge : edge = ((l.time.time - tickInc l.time.y * usTc held) / 2 ^ 40 : Nat)) :
    lanePinEdge pin level held l = fire k t edge none (setTrigger k { triggerRun l0 k with state := 3 } l0) := by
  simp only [lanePinEdge, ← seen, ← atEdge]
  simp [runs, only, enabled, onPin, object, sense, armed, long]

end PinEdge

end Feeds

/-! ### Rows and re-arming (R414, R426, R427) -/

section Profile
variable {p : Nat} {c : ProfileCfg} (cfg : profileCfg l p = some c) (runs : dieRuns l = true)
include cfg runs

theorem laneRowWait_passed (forms : formsRows (profileRun l p) = true)
    (passed : rowInstant c.rate c.avgN (profileRun l p).nextRow + (usUnits (1000 * c.rowWaitMs) : Nat) ≤ (nowUnits l : Nat)) :
    laneRowWait p l = formRows p c (profileRun l p).inputs.length (formRow p c l) := by
  simp [laneRowWait, cfg, runs, forms, passed]

variable (awaits : awaitsRearm (profileRun l p) = true)
include awaits

/-- Without its segments the profile is WAITING, and its ring is as it was (R427). -/
theorem laneRearm_waits
    (short : takeRing p c (ringSegments (emptyRing p l) c - (profileRun l p).ring.length) (emptyRing p l) = none) :
    laneRearm p l = setProfile p { profileRun l p with state := .waiting, inputs := [], half := [] } l := by
  simp [laneRearm, cfg, runs, awaits, short]

/-- After a record the profile goes on at the row after the record's last, and its held fires act (R426, R427). -/
theorem laneRearm_continues {l2 : Lane} (recorded : (profileRun l p).state ≠ .waiting)
    (taken : takeRing p c (ringSegments (emptyRing p l) c - (profileRun l p).ring.length) (emptyRing p l) = some l2) :
    laneRearm p l = actHeld p (profileRun l p).held
      (setProfile p { profileRun l2 p with state := .armed, held := [] } l2) := by
  simp [laneRearm, cfg, runs, awaits, taken, recorded]

end Profile

/-! ### The write buffer (R430, R431) -/

section WriteBuffer
variable {level : Nat}

theorem laneHalving_below (low : level ≤ 384 * 1024) : laneHalving level l = setBuffer level l := by
  simp [laneHalving, low]

variable (runs : dieRuns l = true)
include runs

theorem laneHalving_first {l2 : Lane} {p : Nat} (high : 384 * 1024 < level) (first : l.swatch.halvedAt = none)
    (marked : l2 = { setBuffer level l with swatch := { (setBuffer level l).swatch with halvedAt := some l.tc } })
    (most : busiest l2 = some p) :
    laneHalving level l = setProfile p { profileRun l2 p with shift := (profileRun l2 p).shift + 1 } l2 := by
  subst marked
  simp [laneHalving, runs, Nat.not_le.2 high, first, most]

theorem laneRateRestore_passed {t : Nat} (low : (setBuffer level l).swatch.lowSince = some t)
    (passed : t + msTc 100 ≤ l.tc) :
    laneRateRestore level l =
      { setBuffer level l with swatch := { (setBuffer level l).swatch with
        lowSince := some l.tc
        profiles := (setBuffer level l).swatch.profiles.map (fun x => (x.1, { x.2 with shift := x.2.shift - 1 })) } } := by
  simp [laneRateRestore, low, runs, passed]

end WriteBuffer

end SwatchEvents

/-- Settles O46, a clause per command and outcome. -/
theorem swatchEventsComplete : Obligations.SwatchEventsComplete := by
  refine ⟨?evaluates, ?pinReenables, ?pinFires, ?sampleArrives, ?rowWait, ?rearmWaits, ?rearmContinues, ?bufferLow,
    ?halves, ?restores⟩
  case evaluates =>
    rintro e s _ f t rfl oldest runs
    exact runLane_nowOf (laneTriggerEvaluate_oldest runs oldest)
  case pinReenables =>
    rintro e pin level held s _ k t l0 rfl runs only enabled onPin object opposite seen
    exact runLane_nowOf (lanePinEdge_reenables runs only enabled onPin object seen opposite)
  case pinFires =>
    rintro e pin level held s _ k t edge l0 rfl runs only enabled onPin object sense seen armed long atEdge
    exact runLane_nowOf (lanePinEdge_fires runs only enabled onPin object seen sense armed long atEdge)
  case sampleArrives =>
    rintro e s _ f t rfl oldest runs
    exact runLane_nowOf (laneSampleArrival_oldest runs oldest)
  case rowWait =>
    rintro e profile s _ c rfl cfg runs forms passed
    exact runLane_nowOf (laneRowWait_passed cfg runs forms passed)
  case rearmWaits =>
    rintro e profile s _ c _ rfl cfg runs awaits rfl short
    exact runLane_nowOf (laneRearm_waits cfg runs awaits short)
  case rearmContinues =>
    rintro e profile s _ c _ l2 rfl cfg runs awaits recorded rfl taken
    exact runLane_nowOf (laneRearm_continues cfg runs awaits recorded taken)
  case bufferLow =>
    rintro e level s _ rfl low
    exact runLane_nowOf (laneHalving_below low)
  case halves =>
    rintro e level s _ l2 p rfl runs high first marked most
    exact runLane_nowOf (laneHalving_first runs high first marked most)
  case restores =>
    rintro e level s _ t _ rfl rfl low runs passed
    exact runLane_nowOf (laneRateRestore_passed runs low passed)

end Sys2Proof.Machine
end

section
/-!
PROOFS. The requests of the Swatch and of rewind marks (R412 to R444), once they are accepted.
-/
namespace Sys2Proof.Machine

section Applied
variable {r : Request} {l : Lane}

/-! ### SWATCH_ARM (R413) -/

/-- DISARM of a profile without an open record stops it; its held fires are missed, the model's choice (log 48). -/
theorem disarmApply_idle {c : ProfileCfg} {l1 : Lane} (cfg : profileCfg l (flowId r) = some c)
    (freed : l1 = freeRing (flowId r)
      { l with cfg := { l.cfg with profiles := tput l.cfg.profiles (flowId r) { c with armed := false } } })
    (idle : (profileRun l (flowId r)).record = none) :
    disarmApply r l = ((profileRun l (flowId r)).held.foldl missHeld (setProfile (flowId r)
      { profileRun l1 (flowId r) with state := .disarmed, inputs := [], half := [], held := [] } l1), []) := by
  subst freed
  simp [disarmApply, cfg, idle]

theorem rearmOpApply_configured {c : ProfileCfg} (cfg : profileCfg l (flowId r) = some c) :
    rearmOpApply r l = (armProfile (flowId r) c l, []) := by
  simp [rearmOpApply, cfg]

/-! ### SWATCH_TRIGGER (R436) -/

section Command
variable {t : TriggerCfg} (trigger : tget l.cfg.triggers (flowId r) = some t)
include trigger

/-- A fire that its qualifier does not allow opens no record: NO_RESOURCE, the model's choice (log 48). -/
theorem commandStart_unqualified (barred : qualified l t (commandInstant l r) = false) :
    commandStart r l = refuse r .noResource (fire (flowId r) t (commandInstant l r) none l) := by
  simp [commandStart, trigger, barred]

variable (allowed : qualified l t (commandInstant l r) = true)
include allowed

theorem commandStart_noProfile (bare : t.profile = 0xFF) :
    commandStart r l = postReply r .ok false (zeros 8) (fire (flowId r) t (commandInstant l r) none l) := by
  simp [commandStart, trigger, allowed, bare]

/-- The command waits for the index entry of the record that its fire opens or joins (R436). -/
theorem commandStart_fires (profile : t.profile ≠ 0xFF) (armed : (profileRun l t.profile).state ≠ .disarmed)
    (ready : (profileRun l t.profile).state ≠ .waiting) :
    commandStart r l = fire (flowId r) t (commandInstant l r) (some r) l := by
  simp [commandStart, trigger, allowed, profile, armed, ready]

end Command

/-! ### SWATCH_KEEP (R438) -/

section Keep
variable {x : Record} (record : recordOf l r = some x)
include record

/-- A record that is still open is kept, or not, at its end. -/
theorem keepApply_open (opened : x.opened = true) :
    keepApply r l = (setRecord { x with keepAtEnd := field (body r) 4 1 == 1 } l, []) := by
  simp [keepApply, record, opened]

variable (ended : x.opened = false)
include ended

theorem keepApply_keeps (on : field (body r) 4 1 = 1) :
    keepApply r l = (setRecord { x with flags := x.flags ||| 0x20 } (sealSegs x .kept l), []) := by
  simp [keepApply, record, ended, on]

theorem keepApply_releases (off : field (body r) 4 1 = 0) :
    keepApply r l = (setRecord { x with flags := x.flags &&& 0xFFDF } (sealSegs x .done l), []) := by
  simp [keepApply, record, ended, off]

end Keep

/-! ### Rewind marks (R442, R444) -/

theorem markSetStart_placed {m : Mark} (place : markPlace l (flowId r) (field (body r) 4 8) = some m) :
    markSetStart r l = postReply r .ok false []
      { l with swatch := { l.swatch with marks := tput l.swatch.marks (markKey r (field (body r) 0 1)) m } } := by
  simp [markSetStart, place]

theorem markSetStart_lost (lost : markPlace l (flowId r) (field (body r) 4 8) = none) :
    markSetStart r l =
      postReply r .markLost false (lostResult l (flowId r) (markKey r (field (body r) 0 1))) l := by
  simp [markSetStart, lost]

theorem markReadStart_lost
    (lost : (tget l.swatch.marks (markKey r (field (body r) 0 1))).filter (·.valid) = none) :
    markReadStart r l =
      postReply r .markLost false (lostResult l (flowId r) (markKey r (field (body r) 0 1))) l := by
  simp only [markReadStart, lost]

/-- With `advance` the mark moves past the last record returned (R444). -/
theorem markReadStart_advances {m : Mark} {rs : List WaleRecord} {x : WaleRecord}
    (mark : (tget l.swatch.marks (markKey r (field (body r) 0 1))).filter (·.valid) = some m)
    (returned : rs =
      ((waleOf l (flowId r)).records.filter (fun y => decide (m.at_ ≤ y.at_))).take (field (body r) 4 2))
    (last : rs.getLast? = some x) (advances : field (body r) 1 1 = 1) :
    markReadStart r l = postReply r .ok false
      (le 2 rs.length ++ le 2 (recordSize (field (body r) 3 1)) ++ le 1 0 ++ zeros 3 ++
        le 8 (((waleOf l (flowId r)).records.head?.map (·.tag.toNat)).getD 0) ++ le 4 (waleOf l (flowId r)).disorder ++
        zeros 4 ++ rs.flatMap (recordBytes (field (body r) 2 1) (field (body r) 3 1)))
      { l with swatch := { l.swatch with
        marks := tput l.swatch.marks (markKey r (field (body r) 0 1))
          { m with at_ := x.at_ + 1, tag := tagOfFull (x.at_ + 1) } } } := by
  simp only [markReadStart, mark, ← returned, last, advances, if_true]

end Applied

/-- Settles O56, a clause per request and outcome. That an unqualified SWATCH_TRIGGER answers NO_RESOURCE and that
fires held at a DISARM are missed is the model's choice (log 48). -/
theorem swatchRequestsComplete : Obligations.SwatchRequestsComplete := by
  refine ⟨?triggerRead, ?triggerSet, ?arm, ?disarm, ?rearm, ?fireBare, ?fireWaits, ?fireBarred, ?keepOpen, ?keepOn,
    ?keepOff, ?delete, ?indexRead, ?skewSet, ?markSet, ?markSetLost, ?markClear, ?markRead, ?markReadLost⟩
  case triggerRead | arm | delete | indexRead | skewSet | markClear =>
    rintro e r s _ rfl acc
    exact runLane_nowOf (serve_accepted acc _)
  case triggerSet =>
    rintro e r s _ _ _ _ rfl acc rfl rfl rfl
    exact runLane_nowOf (serve_accepted acc triggerApply)
  case disarm =>
    rintro e r s _ _ c l1 rfl acc rfl cfg freed idle
    exact runLane_nowOf (serve_applies acc (disarmApply_idle cfg freed idle))
  case rearm =>
    rintro e r s _ c rfl acc cfg
    exact runLane_nowOf (serve_applies acc (rearmOpApply_configured cfg))
  case fireBare =>
    rintro e r s _ _ t rfl acc rfl trigger allowed bare
    exact runLane_nowOf ((serveHeld_accepted acc _).trans (commandStart_noProfile trigger allowed bare))
  case fireWaits =>
    rintro e r s _ _ t rfl acc rfl trigger allowed profile armed ready
    exact runLane_nowOf
      ((serveHeld_accepted acc _).trans (commandStart_fires trigger allowed profile armed ready))
  case fireBarred =>
    rintro e r s _ _ t rfl acc rfl trigger barred
    exact runLane_nowOf ((serveHeld_accepted acc _).trans (commandStart_unqualified trigger barred))
  case keepOpen =>
    rintro e r s _ x rfl acc record opened
    exact runLane_nowOf (serve_applies acc (keepApply_open record opened))
  case keepOn =>
    rintro e r s _ x rfl acc record ended on
    exact runLane_nowOf (serve_applies acc (keepApply_keeps record ended on))
  case keepOff =>
    rintro e r s _ x rfl acc record ended off
    exact runLane_nowOf (serve_applies acc (keepApply_releases record ended off))
  case markSet =>
    rintro e r s _ m rfl acc place
    exact runLane_nowOf ((serveHeld_accepted acc _).trans (markSetStart_placed place))
  case markSetLost =>
    rintro e r s _ rfl acc lost
    exact runLane_nowOf ((serveHeld_accepted acc _).trans (markSetStart_lost lost))
  case markRead =>
    rintro e r s _ m _ _ rs x rfl acc rfl rfl mark returned last advances
    exact runLane_nowOf
      ((serveHeld_accepted acc _).trans (markReadStart_advances mark returned last advances))
  case markReadLost =>
    rintro e r s _ _ rfl acc rfl lost
    exact runLane_nowOf ((serveHeld_accepted acc _).trans (markReadStart_lost lost))

end Sys2Proof.Machine
end

section
/-!
PROOFS. The Ply links, Azwell and the periodic messages (R476, R548 to R558): what each event does to a lane that it reaches.
-/
namespace Sys2Proof.Machine

/-- A command names one of the two Ply links, so the guard of their functions against any other number never applies. -/
theorem plyLink_not_gt (link : Fin 2) : ¬ 1 < link.val := by omega

section PlyLinkEvents
variable {l : Lane}

section Running
variable (runs : dieRuns l = true)
include runs

/-! ### Ply links (R548) -/

theorem lanePlyIdle_due {k : Nat} (due : (linkOf l k).lastSent + usTc 10 ≤ l.tc) :
    lanePlyIdle k l = plyFrame k none l := by
  simp [lanePlyIdle, runs, due]

section Frames
variable {link : Fin 2} {seq : Nat} {msg : Option PlyMsg} {bad : Option Nat}

theorem lanePlyFrame_again : lanePlyFrame link (.again seq) bad l = resendFrame link seq l := by
  simp [lanePlyFrame, runs, plyLink_not_gt]

theorem lanePlyFrame_damaged : lanePlyFrame link (.frame seq false msg) bad l = badPlyFrame link seq l := by
  simp [lanePlyFrame, runs, plyLink_not_gt]

theorem lanePlyFrame_duplicate (seen : (linkOf l link).rxSeen.contains seq = true) :
    lanePlyFrame link (.frame seq true msg) bad l = l := by
  rw [lanePlyFrame, runs]
  simp only [plyLink_not_gt, seen, Bool.not_true, decide_false, Bool.or_self, Bool.false_eq_true, if_true, if_false]

theorem lanePlyFrame_fresh (fresh : (linkOf l link).rxSeen.contains seq = false) :
    lanePlyFrame link (.frame seq true msg) bad l = frameMessage link msg bad (goodPlyFrame link seq l) := by
  rw [lanePlyFrame, runs]
  simp only [plyLink_not_gt, fresh, Bool.not_true, decide_false, Bool.or_self, Bool.false_eq_true, if_false]

end Frames

theorem lanePlyLinkLoss_silent {k : Nat} (up : (linkOf l k).up = true)
    (silent : (linkOf l k).lastValid + usTc 100 ≤ l.tc) : lanePlyLinkLoss k l = loseLink k l := by
  simp [lanePlyLinkLoss, runs, up, silent]

section Retrain
variable {k : Nat} (down : (linkOf l k).up = false) (due : (linkOf l k).lastRetrain + secTc 1 ≤ l.tc)
include down due

theorem lanePlyRetrain_returns (up : (linkOf (returnLink k l) k).up = true) : lanePlyRetrain k l = returnLink k l := by
  simp [lanePlyRetrain, runs, down, due, up]

theorem lanePlyRetrain_fails (lost : (linkOf (returnLink k l) k).up = false) :
    lanePlyRetrain k l = setLink k { linkOf l k with lastRetrain := l.tc } l := by
  simp [lanePlyRetrain, runs, down, due, lost]

end Retrain

/-! ### Azwell (R551, R552) -/

section Datagrams
variable {d : AzDatagram} {bad : Option Nat}

theorem laneAzwellReceive_drops (fails : azOk l d = false) : laneAzwellReceive d bad l = azDrop l := by
  simp [laneAzwellReceive, runs, fails]

variable (passes : azOk l d = true)
include passes

/-- A reliable datagram received again is acknowledged again. -/
theorem laneAzwellReceive_duplicate
    (seen : isDuplicate (azOf l d.sender).highest (azOf l d.sender).seen d.seq = true) (reliable : d.rseq ≠ 0) :
    laneAzwellReceive d bad l = azAck d.sender l := by
  simp [laneAzwellReceive, runs, passes, seen, reliable]

theorem laneAzwellReceive_fresh
    (fresh : isDuplicate (azOf l d.sender).highest (azOf l d.sender).seen d.seq = false) :
    laneAzwellReceive d bad l = azAccept d bad l := by
  simp [laneAzwellReceive, runs, passes, fresh]

end Datagrams

theorem laneAzwellRetransmit_keyed {m : Nat} (keyed : l.keys.zeroised = false) :
    laneAzwellRetransmit m l =
      ((azOf l m).pending.filter (fun x => azDue l x && x.resends < 8)).foldl (fun acc x => azResend m x acc) l := by
  simp [laneAzwellRetransmit, runs, keyed]

theorem laneAzwellLoss_silent {m : Nat} (up : (azOf l m).up = true)
    (silent : (azOf l m).lastValid + periodTc l .device ≤ l.tc) :
    laneAzwellLoss m l = followPull (plySettle (setAz m { azOf l m with up := false } l)) := by
  simp [laneAzwellLoss, runs, up, silent]

theorem laneTimeExchange_due (awake : l.mode.mode ≠ .salvage) (due : l.time.lastExchange + msTc 125 ≤ l.tc) :
    laneTimeExchange l = plySend 0xFF
      (.time (nowFull l) (l.time.siblingTime.getD (0, 0)).1 (l.time.siblingTime.getD (0, 0)).2)
      { l with time := { l.time with lastExchange := l.tc } } := by
  simp [laneTimeExchange, runs, awake, due]

end Running

/-! ### Periodic messages and the reasons (R557, R558) -/

/-- HEALTH goes to the sibling, then to each member of the partner in contact, and the counts since the last one restart. -/
theorem laneHealthSend_due {l1 l2 l3 : Lane} (takes : takesPart l = true) (due : l.ply.lastHealth + secTc 1 ≤ l.tc)
    (sent : l1 = { l with ply := { l.ply with lastHealth := l.tc } })
    (sibling : l2 = if inContact l1 (siblingId l1) then plySend 0xFF (.health ⟨healthBytes l1⟩) l1 else l1)
    (partner : l3 = (partnerMembers l2).foldl (fun acc m => if inContact acc m then azSend m false
      [{ sender := memberId acc, lease := 0xFF, body := .health ⟨healthBytes acc⟩ }] acc else acc) l2) :
    laneHealthSend l =
      { l3 with health := { l3.health with sramCorrected := 0, dramCorrected := 0, selfTestFail := 0 } } := by
  subst sent sibling partner
  exact if_pos (by simp only [takes, due, decide_true, Bool.and_self])

theorem laneTimeReasonClear_passed (reason : l.ply.reasons.getLsbD 4 = true)
    (agreed : l.time.lastDisagree + secTc 10 ≤ l.tc) : laneTimeReasonClear l = plySettle (setReason 4 false l) := by
  simp [laneTimeReasonClear, reason, agreed]

end PlyLinkEvents

/-- Settles O36, a clause per command and outcome. -/
theorem plyLinkEventsComplete : Obligations.PlyLinkEventsComplete := by
  refine ⟨?idle, ?again, ?damaged, ?duplicate, ?fresh, ?linkLoss, ?linkReturns, ?retrainFails, ?azDropped, ?azDuplicate,
    ?azFresh, ?azRetransmit, ?azLoss, ?digestExpiry, ?health, ?timeReason, ?timeExchange⟩
  case idle =>
    rintro e link s _ rfl runs due
    exact runLane_nowOf (lanePlyIdle_due runs due)
  case again =>
    rintro e link _ bad s _ seq rfl runs rfl
    exact runLane_nowOf (lanePlyFrame_again runs)
  case damaged =>
    rintro e link _ bad s _ seq msg rfl runs rfl
    exact runLane_nowOf (lanePlyFrame_damaged runs)
  case duplicate =>
    rintro e link _ bad s _ seq msg rfl runs rfl seen
    exact runLane_nowOf (lanePlyFrame_duplicate runs seen)
  case fresh =>
    rintro e link _ bad s _ seq msg rfl runs rfl fresh
    exact runLane_nowOf (lanePlyFrame_fresh runs fresh)
  case linkLoss =>
    rintro e link s _ rfl runs up silent
    exact runLane_nowOf (lanePlyLinkLoss_silent runs up silent)
  case linkReturns =>
    rintro e link s _ rfl runs down due up
    exact runLane_nowOf (lanePlyRetrain_returns runs down due up)
  case retrainFails =>
    rintro e link s _ rfl runs down due lost
    exact runLane_nowOf (lanePlyRetrain_fails runs down due lost)
  case azDropped =>
    rintro e d bad s _ rfl runs fails
    exact runLane_nowOf (laneAzwellReceive_drops runs fails)
  case azDuplicate =>
    rintro e d bad s _ rfl runs passes seen reliable
    exact runLane_nowOf (laneAzwellReceive_duplicate runs passes seen reliable)
  case azFresh =>
    rintro e d bad s _ rfl runs passes fresh
    exact runLane_nowOf (laneAzwellReceive_fresh runs passes fresh)
  case azRetransmit =>
    rintro e m s _ rfl runs keyed
    exact runLane_nowOf (laneAzwellRetransmit_keyed runs keyed)
  case azLoss =>
    rintro e m s _ rfl runs up silent
    exact runLane_nowOf (laneAzwellLoss_silent runs up silent)
  case digestExpiry =>
    rintro e s _ own remote rfl rfl rfl
    exact runLane_nowOf (f := laneDigestExpiry) rfl
  case health =>
    rintro e s _ l1 l2 l3 rfl takes due sent sibling partner
    exact runLane_nowOf (laneHealthSend_due takes due sent sibling partner)
  case timeReason =>
    rintro e s _ rfl reason agreed
    exact runLane_nowOf (laneTimeReasonClear_passed reason agreed)
  case timeExchange =>
    rintro e s _ rfl runs awake due
    exact runLane_nowOf (laneTimeExchange_due runs awake due)

end Sys2Proof.Machine
end

section
/-!
PROOFS. START, restarts and confirmation (R462, R594 to R608): what each event does to a lane that it reaches.
-/
namespace Sys2Proof.Machine

/-- What START does at the completion of a step, by the step's number (R594). -/
def startStepEffect (o : StartOutcome) (step : Nat) (l : Lane) : Lane :=
  match step with
  | 0 => setCause causeStarted (stepDone l)
  | 1 => startBoot o l
  | 2 => startDram o l
  | 3 => stepDone l
  | 4 => startKeys o l
  | 5 => stepDone (applyStore l)
  | 6 => stepDone (plySend 0xFF (.hello (helloBody l)) l)
  | 7 => if timeStepDone l then stepDone l else l
  | _ => l

section ModeEvents
variable {l : Lane}

/-! ### The build of an update (R605, R606) -/

section Build
variable {q : BuildRun} {g : Staged} (build : l.mode.build = some q) (staged : l.mode.staged = some g)
include build staged

theorem laneBuildComplete_mismatch :
    laneBuildComplete none l = failUpdate q.req { l with mode := { l.mode with build := none } } := by
  simp [laneBuildComplete, build, staged]

/-- The built image is the inactive slot's trial, selected for the next start; with `restart` the lane resets. -/
theorem laneBuildComplete_builds {x : BuiltImage} {b : BootFlash} (fits : x.length ≤ 25165568)
    (slot : b = setSlotIn (inactiveIsB l) (trialSlot g x) l.boot) {m : Lane}
    (selected : m = postReply q.req .ok false [] { l with
      mode := { l.mode with build := none }
      boot := { b with
        selectedB := inactiveIsB l, failures := 0, confirmS := q.confirmS, hostConfirm := q.hostConfirm } }) :
    laneBuildComplete (some x) l = if q.restart then resetToStart .laneReset m else m := by
  subst slot selected
  simp [laneBuildComplete, build, staged, Nat.not_lt.2 fits]

end Build

/-! ### The steps of START (R594) -/

section Start
variable (starts : l.mode.mode = .start) (runs : dieRuns l = true)
include starts runs

theorem laneStartTimeWait_passed (step : l.mode.start.step = 7) (unset : l.time.startSet = none)
    (done : timeStepDone l = true) : laneStartTimeWait l = stepDone l := by
  simp [laneStartTimeWait, starts, runs, step, unset, done]

theorem laneStartStep_at {n : Nat} (step : l.mode.start.step = n) (o : StartOutcome) :
    laneStartStep o l = startStepEffect o n l := by
  subst step
  simp only [laneStartStep, starts, runs, bne_self_eq_false, Bool.not_true, Bool.or_self, Bool.false_eq_true, if_false]
  rfl

theorem laneStartStep_time (step : l.mode.start.step = 7) (done : timeStepDone l = true) (o : StartOutcome) :
    laneStartStep o l = stepDone l :=
  (laneStartStep_at starts runs step o).trans (if_pos done)

/-- SERVICE begins; a lane whose time no reference has set is then in holdover (R462). -/
theorem laneStartComplete_serves {first0 retry0 first1 retry1 : Bool} {l1 l2 : Lane} (step : 8 ≤ l.mode.start.step)
    (serves : l1 = beginPull (setMode .service (startRecords l)))
    (begun : l2 = startAlarms
      (startRadios first0 retry0 first1 retry1 (rearmStored (startStreams (startPlanes l1))))) :
    laneStartComplete first0 retry0 first1 retry1 l = if l2.time.startSet.isNone then enterHoldover l2 else l2 := by
  rw [begun, serves]
  exact if_neg (by simp [starts, runs, Nat.not_lt.2 step])

/-- A START of more than 10 s counts as a failure; the third in a row of a VALID slot starts the recovery image (R604). -/
theorem laneStartTimeout_fails {l1 : Lane} (first : l.mode.start.failed = false)
    (passed : l.mode.start.beganAt + secTc 10 ≤ l.tc)
    (counted : l1 = { l with
      boot := { l.boot with failures := min 255 (l.boot.failures + 1) }
      mode := { l.mode with start := { l.mode.start with failed := true } } }) :
    laneStartTimeout l =
      if (activeHeader l1).state = .valid && 3 ≤ l1.boot.failures then enterSalvage l1 else l1 := by
  subst counted
  simp [laneStartTimeout, starts, runs, first, Nat.not_lt.2 passed]

end Start

/-! ### Confirmation and the watchdog (R601, R607, R608) -/

section Running
variable (runs : dieRuns l = true)
include runs

theorem laneConfirmation_confirms (may : mayConfirm l = true) : laneConfirmation l = confirmImage l := by
  simp [laneConfirmation, runs, may]

theorem laneWindowClose_passed {t : Nat} (window : l.mode.window = some t) (passed : t ≤ l.tc) :
    laneWindowClose l = raiseEvent 360 { l with mode := { l.mode with window := none } } := by
  simp [laneWindowClose, window, runs, passed]

theorem laneWatchdog_resets : laneWatchdog l = resetToStart .watchdog l := if_pos runs

end Running

/-! ### The reset and wake pins, and the RTC (R600, R601, R672) -/

section ResetPin
variable {held : Nat} (power : l.powered = true) (die : l.dieOk = true)
include power die

theorem laneRstn_resets (long : 10 ≤ held) :
    laneRstn true held l =
      { resetToStart .rstn l with mode := { (resetToStart .rstn l).mode with rstnLow := true } } := by
  simp [laneRstn, power, die, Nat.not_lt.2 long]

theorem laneRstn_short (short : held < 10) : laneRstn true held l = l := by
  simp [laneRstn, power, die, short]

theorem laneRstn_rises (low : l.mode.rstnLow = true) :
    laneRstn false held l = { l with mode := { l.mode with rstnLow := false, start := startBegin l.tc } } := by
  simp [laneRstn, power, die, low]

end ResetPin

theorem laneWakePin_wakes {held : Nat} (long : 1000 ≤ held) : laneWakePin held l = wake .wakePin l := if_pos long

theorem laneWakePin_short {held : Nat} (short : held < 1000) : laneWakePin held l = l := if_neg (Nat.not_le.2 short)

theorem laneRtcWake_passed {t : Nat} (alarm : l.mode.rtcWakeAt = some t) (passed : t ≤ l.tc) :
    laneRtcWake l = wake .rtc l := by
  simp [laneRtcWake, alarm, passed]

end ModeEvents

/-- Settles O38, a clause per command and outcome. -/
theorem modeEventsComplete : Obligations.ModeEventsComplete := by
  refine ⟨?timeWait, ?buildFails, ?builds, ?buildRestarts, ?step0, ?step1, ?step2, ?step3, ?step4, ?step5, ?step6, ?step7,
    ?completeSet, ?completeUnset, ?startSalvage, ?startFailure, ?confirms, ?windowCloses, ?watchdog, ?rstnResets, ?rstnShort,
    ?rstnRises, ?wakes, ?wakeShort, ?rtcWakes⟩
  case timeWait =>
    rintro e s _ rfl starts runs step unset done
    exact runLane_nowOf (laneStartTimeWait_passed starts runs step unset done)
  case buildFails =>
    rintro e _ s _ q g rfl build staged rfl
    exact runLane_nowOf (laneBuildComplete_mismatch build staged)
  case builds =>
    rintro e _ s _ q g x b rfl build staged rfl fits slot stays
    exact runLane_nowOf
      ((laneBuildComplete_builds build staged fits slot rfl).trans (if_neg (ne_true_of_eq_false stays)))
  case buildRestarts =>
    rintro e _ s _ q g x b rfl build staged rfl fits slot restarts
    exact runLane_nowOf ((laneBuildComplete_builds build staged fits slot rfl).trans (if_pos restarts))
  case step0 | step1 | step2 | step3 | step4 | step5 | step6 =>
    rintro e o s _ rfl starts runs step
    exact runLane_nowOf (laneStartStep_at starts runs step o)
  case step7 =>
    rintro e o s _ rfl starts runs step done
    exact runLane_nowOf (laneStartStep_time starts runs step done o)
  case completeSet =>
    rintro e first0 retry0 first1 retry1 s _ l1 l2 src rfl starts runs step serves begun set
    exact runLane_nowOf ((laneStartComplete_serves starts runs step serves begun).trans (by simp [set]))
  case completeUnset =>
    rintro e first0 retry0 first1 retry1 s _ l1 l2 rfl starts runs step serves begun unset
    exact runLane_nowOf ((laneStartComplete_serves starts runs step serves begun).trans (by simp [unset]))
  case startSalvage =>
    rintro e s _ l1 rfl starts runs first passed counted valid third
    exact runLane_nowOf ((laneStartTimeout_fails starts runs first passed counted).trans (by simp [valid, third]))
  case startFailure =>
    rintro e s _ l1 rfl starts runs first passed counted few
    exact runLane_nowOf ((laneStartTimeout_fails starts runs first passed counted).trans
      (by simp [Nat.not_le.2 few]))
  case confirms =>
    rintro e s _ rfl runs may
    exact runLane_nowOf (laneConfirmation_confirms runs may)
  case windowCloses =>
    rintro e s _ t rfl window runs passed
    exact runLane_nowOf (laneWindowClose_passed runs window passed)
  case watchdog =>
    rintro e s _ rfl runs
    exact runLane_nowOf (laneWatchdog_resets runs)
  case rstnResets =>
    rintro e _ held s _ rfl power die rfl long
    exact runLane_nowOf (laneRstn_resets power die long)
  case rstnShort =>
    rintro e _ held s _ rfl power die rfl short
    exact runLane_nowOf (laneRstn_short power die short)
  case rstnRises =>
    rintro e _ held s _ rfl power die rfl low
    exact runLane_nowOf (laneRstn_rises power die low)
  case wakes =>
    rintro e held s _ rfl long
    exact runLane_nowOf (laneWakePin_wakes long)
  case wakeShort =>
    rintro e held s _ rfl short
    exact runLane_nowOf (laneWakePin_short short)
  case rtcWakes =>
    rintro e s _ t rfl alarm passed
    exact runLane_nowOf (laneRtcWake_passed alarm passed)

end Sys2Proof.Machine
end

section
/-!
PROOFS. PTP messages (R453 to R456): what each does to a lane whose port takes part.
-/
namespace Sys2Proof.Machine

section PtpEvents
variable {l : Lane}

/-! ### Sync and Follow_Up (R456) -/

section Sync
variable {m : PtpEvent} (on : ptpOn l m.port = true)
include on

/-- A message of another domain or version is counted and dropped (R453). -/
theorem lanePtpSync_foreign (foreign : ptpMine l m.port m.domain m.version = false) : lanePtpSync m l = dropPtp l := by
  simp [lanePtpSync, on, foreign]

variable (mine : ptpMine l m.port m.domain m.version = true)
include mine

theorem lanePtpSync_twoStep (two : m.twoStep = true) :
    lanePtpSync m l = setPtpPort m.port { ptpPort l m.port with
      pendingSync := some (m.seq, rxNs l m.port m.rxStamp, corrNs m.correction, l.tc) } l := by
  simp [lanePtpSync, on, mine, two]

theorem lanePtpSync_oneStep (one : m.twoStep = false) :
    lanePtpSync m l = syncMeasurement m.port (rxNs l m.port m.rxStamp) (corrNs m.correction) m.originNs l := by
  simp [lanePtpSync, on, mine, one]

theorem lanePtpFollowUp_completes {t2 corr : Rat} {at_ : Nat}
    (pending : (ptpPort l m.port).pendingSync = some (m.seq, t2, corr, at_)) (inTime : l.tc ≤ at_ + msTc 100) :
    lanePtpFollowUp m l = syncMeasurement m.port t2 (corr + corrNs m.correction) m.originNs
      (setPtpPort m.port { ptpPort l m.port with pendingSync := none } l) := by
  simp [lanePtpFollowUp, on, mine, pending, inTime]

end Sync

/-! ### The peer delay (R453, R456) -/

section PdelayRequest
variable {p domain version : Nat} (on : ptpOn l p = true) (mine : ptpMine l p domain version = true) (seq : Nat)
include on mine

theorem lanePdelayReq_twoStep (two : (ptpCfg l p).twoStep = true) :
    lanePdelayReq p domain version seq l =
      emit (.ptp p (.pdelayRespFollowUp seq)) (emit (.ptp p (.pdelayResp seq true)) l) := by
  simp [lanePdelayReq, on, mine, two]

theorem lanePdelayReq_oneStep (one : (ptpCfg l p).twoStep = false) :
    lanePdelayReq p domain version seq l = emit (.ptp p (.pdelayResp seq false)) l := by
  simp [lanePdelayReq, on, mine, one]

end PdelayRequest

section PdelayAnswers
variable {m : PdelayAnswer} {t1 : Rat} (on : ptpOn l m.port = true) (mine : ptpMine l m.port m.domain m.version = true)
  (asked : (ptpPort l m.port).pdelayReq = some (m.seq, t1))
include on mine asked

theorem lanePdelayResp_oneStep (response : m.followUp = false) (one : m.twoStep = false) :
    lanePdelayResp m l = setPtpPort m.port { ptpPort l m.port with
      pdelay := some ((rxNs l m.port m.rxStamp - t1 - corrNs m.correction) / 2) } l := by
  simp [lanePdelayResp, on, mine, asked, response, one]

/-- A two-step response awaits its follow-up. -/
theorem lanePdelayResp_twoStep (response : m.followUp = false) (two : m.twoStep = true) :
    lanePdelayResp m l = setPtpPort m.port { ptpPort l m.port with
      pdelayResp := some (m.seq, (m.originNs : Rat) - corrNs m.correction, rxNs l m.port m.rxStamp) } l := by
  simp [lanePdelayResp, on, mine, asked, response, two]

theorem lanePdelayResp_followUp {t2 t4 : Rat} (followUp : m.followUp = true)
    (response : (ptpPort l m.port).pdelayResp = some (m.seq, t2, t4)) :
    lanePdelayResp m l = setPtpPort m.port { ptpPort l m.port with
      pdelay := some ((t4 - t1 - ((m.originNs : Rat) - t2) - corrNs m.correction) / 2), pdelayResp := none } l := by
  simp [lanePdelayResp, on, mine, asked, followUp, response]

end PdelayAnswers

/-! ### Announce, and what a port sends (R453, R454) -/

/-- An Announce runs the best master clock algorithm at once, the model's choice (log 49); on a port that is not slave
after it, nothing else follows. -/
theorem laneAnnounce_notSlave {a : Announce} {l1 : Lane} (on : ptpOn l a.port = true)
    (mine : ptpMine l a.port a.domain a.version = true)
    (decided : l1 = decidePorts (setPtpPort a.port { ptpPort l a.port with announce := some (a, l.tc) } l))
    (other : (ptpPort l1 a.port).state ≠ .slave) : laneAnnounce a l = l1 := by
  subst decided
  simp [laneAnnounce, on, mine, other]

section Send
variable {p q : Nat} {ld l1 : Lane} (on : ptpOn l p = true) (decided : ld = decidePorts l)
  (next : q = ((ptpPort ld p).txSeq + 1) % 65536)
  (asking : l1 = setPtpPort p { ptpPort ld p with
    txSeq := q, pdelayReq := some (q, fullNs (nowFull ld) + ((ptpCfg ld p).txExtraNs : Rat)), pdelayResp := none } ld)
include on decided next asking

/-- The ports are decided each second, the model's choice (log 49); a port that is not master sends its Pdelay_Req. -/
theorem lanePtpMasterSend_notMaster (other : (ptpPort ld p).state ≠ .master) :
    lanePtpMasterSend p l = emit (.ptp p (.pdelayReq q)) l1 := by
  subst decided next asking
  simp [lanePtpMasterSend, on, other]

/-- A one-step master sends its Sync and its Announce before its Pdelay_Req. -/
theorem lanePtpMasterSend_oneStep {l2 : Lane} {today : Bool → Bool} (master : (ptpPort ld p).state = .master)
    (one : (ptpCfg ld p).twoStep = false)
    (leaps : today = fun del =>
      ld.time.leap.any (fun lp => lp.deletion == del && lp.soc == endOfUtcDay ld && !ld.time.leapDone))
    (synced : l2 = emit (.ptp p (.sync q false)) l1) :
    lanePtpMasterSend p l = emit (.ptp p (.pdelayReq q))
      (emit (.ptp p (.announce (ownClass ld) (ownAccuracy ld) (ownTimeSource ld) (utcNow ld) true
        (today true) (today false) (traceable ld))) l2) := by
  subst decided next asking leaps synced
  simp [lanePtpMasterSend, on, master, one]

end Send

end PtpEvents

/-- Settles O43, a clause per message and outcome. That the ports are decided at each Announce and each second is the
model's choice (log 49). -/
theorem ptpEventsComplete : Obligations.PtpEventsComplete := by
  refine ⟨?foreign, ?syncTwoStep, ?syncOneStep, ?followUp, ?pdelayReqTwoStep, ?pdelayReqOneStep, ?pdelayRespOneStep,
    ?pdelayRespTwoStep, ?pdelayFollowUp, ?announce, ?sendsRequest, ?sendsAsMaster⟩
  case foreign =>
    rintro e m s _ rfl on foreign
    exact runLane_nowOf (lanePtpSync_foreign on foreign)
  case syncTwoStep =>
    rintro e m s _ rfl on mine two
    exact runLane_nowOf (lanePtpSync_twoStep on mine two)
  case syncOneStep =>
    rintro e m s _ rfl on mine one
    exact runLane_nowOf (lanePtpSync_oneStep on mine one)
  case followUp =>
    rintro e m s _ t2 corr at_ rfl on mine pending inTime
    exact runLane_nowOf (lanePtpFollowUp_completes on mine pending inTime)
  case pdelayReqTwoStep =>
    rintro e port domain version seq s _ rfl on mine two
    exact runLane_nowOf (lanePdelayReq_twoStep on mine seq two)
  case pdelayReqOneStep =>
    rintro e port domain version seq s _ rfl on mine one
    exact runLane_nowOf (lanePdelayReq_oneStep on mine seq one)
  case pdelayRespOneStep =>
    rintro e m s _ t1 rfl on mine asked response one
    exact runLane_nowOf (lanePdelayResp_oneStep on mine asked response one)
  case pdelayRespTwoStep =>
    rintro e m s _ t1 rfl on mine asked response two
    exact runLane_nowOf (lanePdelayResp_twoStep on mine asked response two)
  case pdelayFollowUp =>
    rintro e m s _ t1 t2 t4 rfl on mine asked followUp response
    exact runLane_nowOf (lanePdelayResp_followUp on mine asked followUp response)
  case announce =>
    rintro e a s _ l1 rfl on mine decided other
    exact runLane_nowOf (laneAnnounce_notSlave on mine decided other)
  case sendsRequest =>
    rintro e port s _ ld l1 q rfl on decided other next asking
    exact runLane_nowOf (lanePtpMasterSend_notMaster on decided next asking other)
  case sendsAsMaster =>
    rintro e port s _ ld l1 l2 q today rfl on decided master one next leaps asking synced
    exact runLane_nowOf (lanePtpMasterSend_oneStep on decided next asking master one leaps synced)

end Sys2Proof.Machine
end

section
/-!
PROOFS. The reference inputs, holdover, the RTC and leap seconds (R449 to R469): what each event does to a lane's time.
-/
namespace Sys2Proof.Machine

section TimeEvents
variable {l : Lane}

/-! ### Reference inputs (R458, R459) -/

section Inputs
variable (runs : tensionRuns l = true)
include runs

theorem lanePpsEdge_unnamed (unnamed : l.time.compactNext = none) (edge : Nat) :
    lanePpsEdge edge l = { l with time := { l.time with ppsEdge := some (fullNs edge, l.tc), compactNext := none } } := by
  simp [lanePpsEdge, runs, unnamed]

/-- A ZDA sentence within 900 ms of a 1PPS edge names its second. -/
theorem laneTod_zda {utc at_ : Nat} {edge : Rat} {l1 : Lane} (seen : l.time.ppsEdge = some (edge, at_))
    (format : l.cfg.timeRef.todCompact = false) (inTime : l.tc ≤ at_ + msTc 900)
    (taken : l1 = { l with time := { l.time with ppsEdge := none } }) :
    laneTod (.zda true utc) l = ppsMeasure edge (utcToTai l utc edge)
      (setRef .pps { l1.time.pps with traceable := false, accuracyNs := 0, utc := none } l1) := by
  subst taken
  simp [laneTod, runs, seen, format, inTime]

theorem laneTod_compact {b : Bytes} (format : l.cfg.timeRef.todCompact = true) (passes : compactOk b = true) :
    laneTod (.compact b) l = { l with time := { l.time with
      compactNext := some (field b 2 6, field b 8 1, bit (field b 9 1) 1,
        if bit (field b 9 1) 2 then some (bit (field b 9 1) 3) else none, field b 10 1) } } := by
  simp [laneTod, runs, format, passes]

/-- A frame without the IEEE 1344 bits says nothing of UTC, and while IRIG-B is not selected the UTC offset stays. -/
theorem laneIrig_plain {f : IrigFrame} {year sec : Nat} {l1 : Lane} (kind : f.am = l.cfg.timeRef.irigAm)
    (named : f.year = some year) (plain : l.cfg.timeRef.irig1344 = false)
    (second : sec = utcToTai l
      ((((yearDays year + f.day - 1) * 86400 + f.second : Nat) : Int) - 60 * l.cfg.timeRef.irigTzMin).toNat
      (fullNs f.mark))
    (told : l1 = setRef .irig { l.time.irig with traceable := false, accuracyNs := 0, utc := none } l)
    (unselected : l1.time.selected ≠ some .irig) :
    laneIrig f l = measure .irig
      (fullNs f.mark - ((sec * 10 ^ 9 : Nat) : Rat) - (l.cfg.timeRef.irigDelayNs : Rat)) sec l1 := by
  subst second told
  simp [laneIrig, runs, kind, named, plain, unselected]

theorem laneRef10mQualify_enabled (enabled : l.cfg.timeRef.ref10mEnable = true) :
    laneRef10mQualify l = { l with time := { l.time with ref10m := true } } := by
  simp [laneRef10mQualify, runs, enabled]

/-- The RTC is written where it was never written, or was last written 1 s ago or earlier (R449). -/
theorem laneRtcWrite_due (locked : l.time.state = .locked)
    (due : ∀ v t, l.rtc = some (v, t) → t + secTc 1 ≤ l.tc) :
    laneRtcWrite l = { l with rtc := some (l.time.time, l.tc) } := by
  cases rtc : l.rtc with
  | none => simp [laneRtcWrite, runs, locked, rtc]
  | some w => simp [laneRtcWrite, runs, locked, rtc, due w.1 w.2 rtc]

end Inputs

/-! ### The selected reference (R450, R451) -/

theorem laneReferenceLoss_qualified {k : RefKind} {t : Nat} (valid : (refOf l.time k).lastValid = some t)
    (silent : t + lossWindow l k ≤ l.tc) (qualified : (refOf l.time k).qualified = true) :
    laneReferenceLoss k l =
      deselect k (setRef k { refOf l.time k with qualified := false, consecutive := 0 } l) := by
  simp [laneReferenceLoss, valid, silent, qualified]

theorem laneRevertExpiry_reverts {k : RefKind} (best : bestRef l = some k) (revertive : l.cfg.timeRef.revertive = true)
    (better : betterThanSelected l k = true)
    (stayed : (refOf l.time k).qualifiedAt + secTc l.cfg.timeRef.revertS ≤ l.tc) :
    laneRevertExpiry l = switchRef k l := by
  simp [laneRevertExpiry, best, revertive, better, stayed]

/-! ### Holdover (R465, R466) -/

/-- An error estimate above the bound, or none at all, unlocks the time of a lane in holdover. -/
theorem laneUnlockCross_beyond (holds : l.time.state = .holdover) (flagged : l.time.unlocked = false)
    (beyond : ∀ x, estErr l = some x → (l.cfg.servo.unlockBoundNs : Rat) < x) :
    laneUnlockCross l = raiseCond 290 { l with time := { l.time with unlocked := true } } := by
  cases err : estErr l with
  | none => simp [laneUnlockCross, err, holds, flagged]
  | some x => simp [laneUnlockCross, err, holds, flagged, beyond x err]

/-- The table entry of the junction's temperature moves by a sixteenth of the prediction's error, in units of 0.1 ppb. -/
theorem laneTempLearn_due {t0 i : Nat} {d : Rat} {c : Int} (since : l.time.lockedSince = some t0)
    (learns : l.cfg.servo.tempLearn = true) (locked : l.time.state = .locked) (settled : t0 + secTc 600 ≤ l.tc)
    (due : l.time.lastLearn + secTc 60 ≤ l.tc) (entry : i = (max 0 (min 15 ((l.health.junction + 45) / 10))).toNat)
    (error : d = (histMean l (secTc 60) (fun x => freqOf x.2.1) (freqOf l.time.y) - holdoverFreq l) * 10000000000 / 16)
    (moved : c = saturate 16 (roundTenth ((l.cfg.servo.tempTable.getD i 0 : Rat) + d))) :
    laneTempLearn l = { l with
      cfg := { l.cfg with servo := { l.cfg.servo with tempTable := l.cfg.servo.tempTable.set i c } }
      time := { l.time with lastLearn := l.tc } } := by
  subst entry error moved
  simp only [laneTempLearn, since, learns, locked, settled, due, beq_self_eq_true, decide_true, Bool.and_self, if_true]

/-! ### Leap seconds (R469) -/

theorem laneLeapChange_reached {i : Nat} (leap : leapInstant l.time = some i) (reached : i ≤ nowSec l)
    (before : l.time.leapDone = false) : laneLeapChange l = { l with time := { l.time with leapDone := true } } := by
  simp [laneLeapChange, leap, reached, before]

theorem laneLeapDiscard_passed {lp : Leap} {i : Nat} (leap : l.time.leap = some lp) (instant : leapInstant l.time = some i)
    (passed : i + 86400 ≤ nowSec l) :
    laneLeapDiscard l = { l with time := { l.time with
      utcOffset := leapNewOffset l.time.utcOffset lp, leap := none, leapDone := false } } := by
  simp [laneLeapDiscard, leap, instant, passed]

end TimeEvents

/-- Settles O44, a clause per command and outcome. -/
theorem timeEventsComplete : Obligations.TimeEventsComplete := by
  refine ⟨?ppsEdge, ?zda, ?compact, ?irig, ?referenceLoss, ?reverts, ?unlocksUnknown, ?unlocksBeyond, ?ref10mQualify,
    ?ref10mLost, ?rtcFirst, ?rtcAgain, ?tempLearn, ?leapChange, ?leapDiscard⟩
  case ppsEdge =>
    rintro e edge s _ rfl runs unnamed
    exact runLane_nowOf (lanePpsEdge_unnamed runs unnamed edge)
  case zda =>
    rintro e _ s _ utc at_ edge l1 rfl runs rfl seen format inTime taken
    exact runLane_nowOf (laneTod_zda runs seen format inTime taken)
  case compact =>
    rintro e _ s _ b rfl runs rfl format passes
    exact runLane_nowOf (laneTod_compact runs format passes)
  case irig =>
    rintro e f s _ year sec l1 rfl runs kind named plain second told unselected
    exact runLane_nowOf (laneIrig_plain runs kind named plain second told unselected)
  case referenceLoss =>
    rintro e k s _ t rfl valid silent qualified
    exact runLane_nowOf (laneReferenceLoss_qualified valid silent qualified)
  case reverts =>
    rintro e s _ k rfl best revertive better stayed
    exact runLane_nowOf (laneRevertExpiry_reverts best revertive better stayed)
  case unlocksUnknown =>
    rintro e s _ rfl holds unknown flagged
    exact runLane_nowOf (laneUnlockCross_beyond holds flagged (by simp [unknown]))
  case unlocksBeyond =>
    rintro e s _ x rfl holds err beyond flagged
    exact runLane_nowOf (laneUnlockCross_beyond holds flagged (by simpa [err] using beyond))
  case ref10mQualify =>
    rintro e s _ rfl runs enabled
    exact runLane_nowOf (laneRef10mQualify_enabled runs enabled)
  case ref10mLost =>
    rintro e s _ rfl
    exact runLane_nowOf (f := laneRef10mLost) rfl
  case rtcFirst =>
    rintro e s _ rfl runs locked unwritten
    exact runLane_nowOf (laneRtcWrite_due runs locked (by simp [unwritten]))
  case rtcAgain =>
    rintro e s _ v t rfl runs locked written due
    exact runLane_nowOf (laneRtcWrite_due runs locked (by simpa [written] using due))
  case tempLearn =>
    rintro e s _ t0 i d c rfl since learns locked settled due entry error moved
    exact runLane_nowOf (laneTempLearn_due since learns locked settled due entry error moved)
  case leapChange =>
    rintro e s _ i rfl leap reached before
    exact runLane_nowOf (laneLeapChange_reached leap reached before)
  case leapDiscard =>
    rintro e s _ lp i rfl leap instant passed
    exact runLane_nowOf (laneLeapDiscard_passed leap instant passed)

end Sys2Proof.Machine
end

section
/-!
PROOFS. The requests of the time references (R452 to R473) and of the ports (R478 to R499), once they are accepted.
-/
namespace Sys2Proof.Machine

section Applied
variable {r : Request} {l : Lane}

section TimeRef
variable {l1 l2 : Lane} (set : l1 = { l with cfg := { l.cfg with timeRef := timeRefOf (body r) } })
  (input : l2 = if (timeRefOf (body r)).ref10mEnable then l1 else { l1 with time := { l1.time with ref10m := false } })
include set input

/-- A selected reference whose priority becomes 0xFF is selected no longer, the model's choice (log 49). -/
theorem timeRefApply_selected {k : RefKind} (selected : l2.time.selected = some k) :
    timeRefApply r l = (if priorityOf l2 k = 0xFF then deselect k l2 else l2, []) := by
  subst set input
  simp only [timeRefApply, selected]

theorem timeRefApply_unselected (unselected : l2.time.selected = none) :
    timeRefApply r l = (reselect ((bestRef l2).bind (fun k => (refOf l2.time k).lastValid)) l2, []) := by
  subst set input
  simp only [timeRefApply, unselected]

end TimeRef

/-! ### PORT_SET (R478, R495) -/

theorem portSetApply_ethernet (ethernet : flowId r ≤ 11) :
    portSetApply r l = (ethSetApply (flowId r) (body r) l, []) := if_pos ethernet

theorem portSetApply_serial (serial : 11 < flowId r) :
    portSetApply r l =
      ({ l with cfg := { l.cfg with serial := tput l.cfg.serial (flowId r - 12) (serialAsked (body r)) } }, []) :=
  if_neg (Nat.not_le.2 serial)

/-! ### POLL_TABLE_SET (R499) -/

/-- Each written entry restarts its station, and a repeat that one of them owes is not sent. -/
theorem pollWrite_restarts {n : Nat} {l1 l2 : Lane} (port : n = flowId r - 12)
    (written : l1 = (List.range (pollCount r)).foldl
      (fun (acc : Lane) j => setStation n (pollFirst r + j) (.new (pollAsked (body r) j).enable)
        { acc with
          cfg := { acc.cfg with poll := tput acc.cfg.poll (64 * n + (pollFirst r + j)) (pollAsked (body r) j) } }) l)
    (dropped : l2 =
      if (serialRun l1 n).again.any (fun q => pollFirst r ≤ q.entry && q.entry < pollFirst r + pollCount r) then
        setSerial n { serialRun l1 n with again := none } l1
      else l1) :
    pollWrite r l = (offlineAlarm n l2, pollResult r l2) := by
  rw [pollWrite, dropped, written, port]

end Applied

/-- Settles O57, a clause per request and outcome. That TIME_REF_SET deselects a reference of priority 0xFF and that
PTP_PORT_SET decides the ports is the model's choice (log 49). -/
theorem timeAndPortRequestsComplete : Obligations.TimeAndPortRequestsComplete := by
  refine ⟨?timeRefSelected, ?timeRefUnselected, ?ptpPortSet, ?servoSet, ?utcOffsetSet, ?timeQuery, ?portSetEthernet,
    ?portSetSerial, ?classifierSet, ?wakeSet, ?pollRead, ?pollWrite, ?portCounters⟩
  case timeRefSelected =>
    rintro e r s _ l1 l2 k rfl acc set input selected
    exact runLane_nowOf (serve_applies acc (timeRefApply_selected set input selected))
  case timeRefUnselected =>
    rintro e r s _ l1 l2 rfl acc set input unselected
    exact runLane_nowOf (serve_applies acc (timeRefApply_unselected set input unselected))
  case ptpPortSet | utcOffsetSet | timeQuery | classifierSet | wakeSet | pollRead | portCounters =>
    rintro e r s _ rfl acc
    exact runLane_nowOf (serve_accepted acc _)
  case servoSet =>
    rintro e r s _ l1 rfl acc rfl
    exact runLane_nowOf (serve_accepted acc servoApply)
  case portSetEthernet =>
    rintro e r s _ rfl acc ethernet
    exact runLane_nowOf (serve_applies acc (portSetApply_ethernet ethernet))
  case portSetSerial =>
    rintro e r s _ rfl acc serial
    exact runLane_nowOf (serve_applies acc (portSetApply_serial serial))
  case pollWrite =>
    rintro e r s _ n l1 l2 rfl acc port written dropped
    exact runLane_nowOf (serve_applies acc (pollWrite_restarts port written dropped))

end Sys2Proof.Machine
end

section
/-!
PROOFS. What every command has in common: a step runs the front command; a command answers a next state, keeps the waiting commands
and counts its lane's time; one that serves a request of another opcode does nothing else.
-/
namespace Sys2Proof.Machine

/-! ### Steps -/

/-- Settles O1. -/
theorem stepRunsTheFrontCommand : Obligations.StepRunsTheFrontCommand := by
  intro c q s h
  simp only [step, h]

/-- Settles O2. An empty queue idles by the model's choice (log 1). -/
theorem emptyQueueIdles : Obligations.EmptyQueueIdles := by
  intro s h
  simp only [step, h]

/-! ### Commands of the package -/

section Package
variable (e : PackageStamp) {s : State}

theorem exec_vinPowerUp_free (free : s.overvoltage = false) : exec (.vinPowerUp e) s = runBoth e powerOn s :=
  if_neg (by simp [free])

/-- Under the overvoltage latch power-up waits for the restart: only time passes. -/
theorem exec_vinPowerUp_latched (latched : s.overvoltage = true) : exec (.vinPowerUp e) s = runBoth e id s :=
  if_pos latched

theorem exec_overvoltageRestart_latched (latched : s.overvoltage = true) :
    exec (.overvoltageRestart e) s = runBoth e powerOn { s with overvoltage := false } :=
  if_pos latched

theorem exec_overvoltageRestart_free (free : s.overvoltage = false) : exec (.overvoltageRestart e) s = runBoth e id s :=
  if_neg (by simp [free])

end Package

/-- A command of the package runs one effect in both lanes and leaves the waiting commands. (`cases h` closes the stamped
commands.) -/
theorem exec_runsBoth {c : Instr} {e : PackageStamp} (h : packageStampOf c = some e) (s : State) :
    ∃ f s', exec c s = runBoth e f s' ∧ s'.pending = s.pending := by
  cases c with
  | vinPowerUp =>
    cases h
    cases latch : s.overvoltage with
    | true => exact ⟨_, _, exec_vinPowerUp_latched e latch, rfl⟩
    | false => exact ⟨_, _, exec_vinPowerUp_free e latch, rfl⟩
  | overvoltageRestart =>
    cases h
    cases latch : s.overvoltage with
    | true => exact ⟨_, _, exec_overvoltageRestart_latched e latch, rfl⟩
    | false => exact ⟨_, _, exec_overvoltageRestart_free e latch, rfl⟩
  | vinOvervoltage => cases h; exact ⟨powerOff, { s with overvoltage := true }, rfl, rfl⟩
  | vinSupplyLoss => cases h; exact ⟨powerOff, { s with overvoltage := false }, rfl, rfl⟩
  | pcieHotReset => cases h; exact ⟨lanePcieReset, s, rfl, rfl⟩
  | hostPerstn => cases h; exact ⟨lanePerstn, s, rfl, rfl⟩
  | _ => cases h

/-- Settles O3: an effect on one lane or on both is all that a command does. -/
theorem everyCommandGoesOn : Obligations.EveryCommandGoesOn := by
  intro c s
  obtain ⟨e, he⟩ | ⟨e, he⟩ := stamped_or_package c
  · obtain ⟨f, hx⟩ := exec_runsLane he s
    exact ⟨_, hx.trans (runLane_eq e f s), State.setLane_pending ..⟩
  · obtain ⟨f, s', hx, hp⟩ := exec_runsBoth he s
    exact ⟨_, hx.trans (runBoth_eq e f s'), hp⟩

/-! ### The count of a lane -/

theorem Keeps.base_eq {f : Lane → Lane} (hf : Keeps f) {l : Lane} (h : l.Ok) : (f l).base = l.base :=
  (hf _ l h).1

theorem Keeps.tc_eq {f : Lane → Lane} (hf : Keeps f) {l : Lane} (h : l.Ok) : (f l).tc = l.tc :=
  congrArg (·.2.1) (hf.base_eq h)

theorem Keeps.spi_eq {f : Lane → Lane} (hf : Keeps f) {l : Lane} (h : l.Ok) : (f l).spi = l.spi :=
  congrArg (·.2.2) (hf.base_eq h)

theorem runLane_counts {e : Stamp} {f : Lane → Lane} {s t : State} (hf : Keeps f) (h : s.Ok) (ht : runLane e f s = .next t) :
    (t.lane e.lane).tc = (s.lane e.lane).tc + e.ticks ∧ (t.lane e.lane).id = e.lane ∧
      (t.lane e.lane).spi = (s.lane e.lane).spi := by
  obtain rfl := Host.Outcome.next.inj ht
  obtain ⟨hid, hl⟩ := h.lane e.lane
  have now := advance_ok hl e.ticks
  rw [State.setLane_lane]
  exact ⟨hf.tc_eq now, (hf.id_eq now).trans hid, hf.spi_eq now⟩

theorem runBoth_counts {e : PackageStamp} {f : Lane → Lane} {s t : State} (hf : Keeps f) (h : s.Ok)
    (ht : runBoth e f s = .next t) : t.laneA.tc = s.laneA.tc + e.ticksA ∧ t.laneB.tc = s.laneB.tc + e.ticksB := by
  obtain rfl := Host.Outcome.next.inj ht
  obtain ⟨_, _, oka, okb⟩ := h
  exact ⟨hf.tc_eq (advance_ok oka e.ticksA), hf.tc_eq (advance_ok okb e.ticksB)⟩

/-- Settles O5: after the stamp's cycles have passed, a command's effect keeps the count, the identity and the strap of its
lane. How time passes is the model's choice (log 3), and so is the strap's level at reset (log 30). -/
theorem timeMovesByTheStamp : Obligations.TimeMovesByTheStamp := by
  refine ⟨?lane, ?package⟩
  case lane =>
    intro c e s t h he ht
    obtain ⟨f, hx, hf⟩ := exec_keepsLane he s
    exact runLane_counts hf h (hx ▸ ht)
  case package =>
    intro c e s t h he ht
    obtain ⟨f, s', hx, ha, hb, hf⟩ := exec_keepsBoth he s
    have h' : s'.Ok := by rwa [State.Ok, ha, hb]
    rw [← ha, ← hb]
    exact runBoth_counts hf h' (hx ▸ ht)

/-! ### Requests of another opcode -/

/-- Settles O10: neither way of serving a request does anything with one that it is not named by, the model's choice (log 8). -/
theorem otherRequestsOnlyPassTime : Obligations.OtherRequestsOnlyPassTime := by
  intro c row s hc other
  obtain ⟨apply, hx⟩ | ⟨start, hx⟩ := exec_request hc s
  · rw [hx]
    exact runLane_nowOf (serve_other other)
  · rw [hx]
    exact runLane_nowOf (serveHeld_other other)

end Sys2Proof.Machine
end

section
/-!
PROOFS. Rings that keep the newest of their records: the fault log (R630) and the tamper record (R587).
-/
namespace Sys2Proof.Machine

/-! ### Rings -/

section Ring
variable {α : Type} (xs : List α) (x : α) {cap : Nat}

/-- A record joins a ring of `cap` places: it stands last, behind the newest `cap - 1` of the others. -/
theorem drop_concat_ring (room : 0 < cap) :
    (xs ++ [x]).drop (xs.length + 1 - cap) = xs.drop (xs.length + 1 - cap) ++ [x] :=
  List.drop_append_of_le_length (by omega)

theorem length_drop_ring (full : xs.length ≤ cap) (room : 0 < cap) :
    (xs.drop (xs.length + 1 - cap) ++ [x]).length = min cap (xs.length + 1) := by
  rw [List.length_append, List.length_drop, List.length_singleton]
  omega

/-- Only a full ring loses a record, its oldest. -/
theorem drop_ring_eq_ite (full : xs.length ≤ cap) :
    xs.drop (xs.length + 1 - cap) = if xs.length < cap then xs else xs.tail := by
  split
  next free => rw [show xs.length + 1 - cap = 0 by omega, List.drop_zero]
  next taken => rw [show xs.length + 1 - cap = 1 by omega, List.drop_one]

end Ring

/-! ### The fault log -/

theorem setCause_health (b : Nat) (l : Lane) : (setCause b l).health = l.health := by
  rw [(setCause_delivered 0 b l).frame]

/-- The record that the fault log takes next. -/
def nextFaultRecord (cls : FaultClass) (res : Resource) (st obj : Nat) (al : Option Nat) (detail : Bytes) (l : Lane) :
    FaultRecord :=
  { seq := l.health.nextSeq, status := st, cls := cls, resource := res, time := nowFull l
    object := obj, alarm := al, detail := detail }

section FaultLog
variable (cls : FaultClass) (res : Resource) (st obj : Nat) (al : Option Nat) (detail : Bytes) (l : Lane)

theorem logFault_health : (logFault cls res st obj al detail l).health =
    { l.health with
      log := l.health.log.drop (l.health.log.length + 1 - 65536) ++ [nextFaultRecord cls res st obj al detail l]
      nextSeq := bump l.health.nextSeq } := by
  rw [← drop_concat_ring _ _ (by omega), logFault, logFaultAt, List.length_append, List.length_singleton]
  split
  · rw [setCause_health]
    rfl
  · rfl

end FaultLog

/-- Settles O15: a record joins the ring behind the newest 65,535, and takes the next sequence number. -/
theorem faultLogKeepsTheNewest : Obligations.FaultLogKeepsTheNewest := by
  rintro cls res st obj al detail l _ full rfl
  rw [logFault_health]
  refine ⟨List.getLast?_concat, ?_, length_drop_ring _ _ full (by omega), rfl⟩
  rw [List.dropLast_concat, drop_ring_eq_ite _ full]

/-! ### Zeroisation -/

/-- Every slot of a zeroised lane is EMPTY, whether its table lists the slot or not. -/
theorem clearedSlots_empty (t : Table KeySlot) (n : Nat) :
    (tgetD (clearedSlots t) n .dflt).state = .empty ∧ (tgetD (clearedSlots t) n .dflt).material = [] := by
  induction t with
  | nil => exact ⟨rfl, rfl⟩
  | cons e t ih =>
    by_cases here : e.1 = n
    · simp [clearedSlots, tgetD, tget, here, KeySlot.dflt]
    · simpa [clearedSlots, tgetD, tget, here] using ih

/-- Settles O24. That the ninth tamper record replaces the oldest is the model's choice (log 53). -/
theorem zeroisationClearsTheKeys : Obligations.ZeroisationClearsTheKeys := by
  rintro sources time l _ rfl
  refine ⟨clearedSlots_empty l.keys.slots, rfl, rfl, rfl, rfl, rfl, ?newest, fun atMost => ?length, rfl⟩
  all_goals
    dsimp only [zeroiseState]
    rw [drop_concat_ring _ _ (by omega)]
  case newest => exact List.getLast?_concat
  case length => exact length_drop_ring _ _ atMost (by omega)

end Sys2Proof.Machine
end

section
/-!
PROOFS. Who may change keys (R579): the checks of the key commands, and what a failed response does.
-/
namespace Sys2Proof.Machine

theorem keyGate_unprivileged {l : Lane} (none_ : l.keys.privilege = false) (r : Request) (rest : Status) :
    keyGate l r rest = .authFailed := by
  simp [keyGate, need, none_]

/-- A check of the fields before one of the authority: the request fails by the one or the other. -/
theorem need_badParam_of_authFailed (c : Bool) {rest : Status} (h : rest = .authFailed) :
    need c .badParam rest = .authFailed ∨ need c .badParam rest = .badParam := by
  cases c
  · exact .inr rfl
  · exact .inl h

theorem need_authFailed {c : Bool} (h : c = false) (rest : Status) : need c .authFailed rest = .authFailed := by
  rw [h]
  rfl

theorem postReply_keys (r : Request) (st : Status) (info : Bool) (result : Bytes) (l : Lane) :
    (postReply r st info result l).keys = l.keys := by
  obtain ⟨frame, _⟩ := replyFrame r st info result l _ rfl
  rw [frame]

/-- The failed responses of the last 60 s. -/
def recentFailures (l : Lane) : List Nat := l.keys.failedAt.filter (fun x => decide (l.tc ≤ x + secTc 60))

theorem failResponse_keys (r : Request) (l : Lane) : (failResponse r l).keys = { l.keys with
    failedAt := if 5 ≤ (recentFailures l ++ [l.tc]).length then [] else recentFailures l ++ [l.tc]
    lockoutUntil := if 5 ≤ (recentFailures l ++ [l.tc]).length then l.tc + secTc 60 else l.keys.lockoutUntil } := by
  rw [failResponse, refuse, postReply_keys]
  rfl

/-- Settles O25, by the order of each command's checks. -/
theorem privilegedKeyCommands : Obligations.PrivilegedKeyCommands := by
  refine ⟨?privilege, ?peer, ?lockout, ?failure⟩
  case privilege =>
    intro check listed l r none_
    simp only [List.mem_cons, List.not_mem_nil, or_false] at listed
    rcases listed with rfl | rfl | rfl | rfl | rfl | rfl | rfl
    case inl | inr.inl | inr.inr.inl => exact need_badParam_of_authFailed _ (keyGate_unprivileged none_ r _)
    all_goals exact need_badParam_of_authFailed _ (need_authFailed (by simp [none_]) _)
  case peer =>
    intro check listed l r peer
    simp only [List.mem_cons, List.not_mem_nil, or_false] at listed
    rcases listed with rfl | rfl
    all_goals exact need_badParam_of_authFailed _ (need_authFailed (by simp [peer]) _)
  case lockout =>
    intro l r locked
    exact need_badParam_of_authFailed _ (need_authFailed (by simp [Nat.not_le.2 locked]) _)
  case failure =>
    rintro l _ r rfl
    rw [failResponse_keys, List.length_append]
    exact ⟨fun four => if_pos (Nat.succ_le_succ four), fun fewer => if_neg (Nat.not_le.2 (Nat.succ_lt_succ fewer)), rfl⟩

end Sys2Proof.Machine
end

section
/-!
PROOFS. Streams, Skein and the array stand still outside SERVICE, HOLDOVER and DRILL (R688).
-/
namespace Sys2Proof.Machine

/-- A lane that serves is in one of the three modes of R688. -/
theorem mode_of_serving {l : Lane} (serves : serving l = true) :
    l.mode.mode = .service ∨ l.mode.mode = .holdover ∨ l.mode.mode = .drill := by
  simp only [serving, Bool.and_eq_true, Bool.or_eq_true, beq_iff_eq, or_assoc] at serves
  exact serves.2

section NotServing
variable {l : Lane} (still : serving l = false)
include still

/-! ### Streams -/

theorem lanePmuDecode_still (n : Nat) : lanePmuDecode n l = l := if_pos (by simp [still])
theorem laneSvDecode_still (n : Nat) : laneSvDecode n l = l := if_pos (by simp [still])
theorem laneRoutedSvDecode_still (n : Nat) : laneRoutedSvDecode n l = l := if_pos (by simp [still])
theorem laneGooseDecode_still (n : Nat) : laneGooseDecode n l = l := if_pos (by simp [still])
theorem lanePolledAsdu_still (n : Nat) : lanePolledAsdu n l = l := if_pos (by simp [still])
theorem lanePhasorOutput_still (id ch : Nat) : lanePhasorOutput id ch l = l := if_pos (by simp [still])

/-! ### Skein -/

theorem laneAlignerWrite_still : laneAlignerWrite l = l := by
  rw [laneAlignerWrite]
  split
  · rfl
  · simp [still]

theorem laneCourseInstant_still (p : Nat) : laneCourseInstant p l = l := by
  rw [laneCourseInstant]
  split
  · simp [still]
  · rfl

theorem laneDeadlineTick_still (p : Nat) : laneDeadlineTick p l = l := if_pos (by simp [still])
theorem laneQuorumTick_still (p : Nat) : laneQuorumTick p l = l := if_pos (by simp [still])

/-! ### The array -/

theorem laneCastOn_still (n : Nat) : laneCastOn n l = l := if_pos (by simp [still])

theorem laneBundleIssue_still (n : Nat) (err : RowError) : laneBundleIssue n err l = l := by
  rw [laneBundleIssue]
  dsimp only
  split
  · simp [still]
  · rfl

theorem laneResultWrite_still (n : Nat) : laneResultWrite n l = l := by
  rw [laneResultWrite]
  split
  · simp [still]
  · rfl

theorem laneStoreWrite_still (n : Nat) : laneStoreWrite n l = l := by
  rw [laneStoreWrite]
  split
  · simp [still]
  · rfl

theorem laneBindOff_still (n : Nat) (bad : Option Nat) (err : Option (Nat × Nat)) : laneBindOff n bad err l = l := by
  rw [laneBindOff]
  dsimp only
  split
  · exact if_pos (by simp [still])
  · rfl

theorem laneRoundRetry_still (n : Nat) (failing : Option Nat) : laneRoundRetry n failing l = l := by
  rw [laneRoundRetry]
  dsimp only
  split
  · exact if_pos (by simp [still])
  · rfl

end NotServing

/-- Settles O26, a clause per command: outside the three modes its effect is none. -/
theorem blocksRunByMode : Obligations.BlocksRunByMode := by
  refine ⟨fun _ => mode_of_serving, ?pmu, ?sv, ?routedSv, ?goose, ?polledAsdu, ?phasorOutput, ?alignerWrite,
    ?courseInstant, ?deadlineTick, ?quorumTick, ?castOn, ?bundleIssue, ?resultWrite, ?storeWrite, ?bindOff, ?roundRetry⟩
  case pmu =>
    intro e port s still
    exact runLane_nowOf (lanePmuDecode_still still port)
  case sv =>
    intro e port s still
    exact runLane_nowOf (laneSvDecode_still still port)
  case routedSv =>
    intro e port s still
    exact runLane_nowOf (laneRoutedSvDecode_still still port)
  case goose =>
    intro e port s still
    exact runLane_nowOf (laneGooseDecode_still still port)
  case polledAsdu =>
    intro e port s still
    exact runLane_nowOf (lanePolledAsdu_still still port)
  case phasorOutput =>
    intro e stream channel s still
    exact runLane_nowOf (lanePhasorOutput_still still stream channel)
  case alignerWrite =>
    intro e s still
    exact runLane_nowOf (laneAlignerWrite_still still)
  case courseInstant =>
    intro e plane s still
    exact runLane_nowOf (laneCourseInstant_still still plane)
  case deadlineTick =>
    intro e plane s still
    exact runLane_nowOf (laneDeadlineTick_still still plane)
  case quorumTick =>
    intro e plane s still
    exact runLane_nowOf (laneQuorumTick_still still plane)
  case castOn =>
    intro e part s still
    exact runLane_nowOf (laneCastOn_still still part)
  case bundleIssue =>
    intro e part err s still
    exact runLane_nowOf (laneBundleIssue_still still part err)
  case resultWrite =>
    intro e part s still
    exact runLane_nowOf (laneResultWrite_still still part)
  case storeWrite =>
    intro e part s still
    exact runLane_nowOf (laneStoreWrite_still still part)
  case bindOff =>
    intro e part bad err s still
    exact runLane_nowOf (laneBindOff_still still part bad err)
  case roundRetry =>
    intro e part failing s still
    exact runLane_nowOf (laneRoundRetry_still still part failing)

end Sys2Proof.Machine
end

section
/-!
PROOFS. The supply (R615 to R617, R658, R660, R665, R681): what power does to both lanes, and what each event of the supply and of
the junction's temperature does to a lane that it reaches.
-/
namespace Sys2Proof.Machine

/-! ### Power -/

theorem powerOff_powered (l : Lane) : (powerOff l).powered = false := by
  rw [powerOff]
  split
  next off => simpa using off
  next => rfl

theorem powerOff_journal (l : Lane) : (powerOff l).journal = l.journal := by
  rw [powerOff]
  split <;> rfl

/-- A lane that comes on begins START with start cause 0. -/
theorem powerOn_of_off {l : Lane} (off : l.powered = false) :
    powerOn l = freshLane .start .vin { l with powered := true, host := .reset } := by
  rw [powerOn, off]
  rfl

/-- Settles O30: power-off and power-on of both lanes keep the journals. -/
theorem overvoltageStopsBothLanes : Obligations.OvervoltageStopsBothLanes := by
  refine ⟨?stops, ?restarts⟩
  case stops =>
    intro e s
    exact ⟨_, runBoth_eq e powerOff { s with overvoltage := true }, rfl, powerOff_powered _, powerOff_powered _,
      powerOff_journal _, powerOff_journal _⟩
  case restarts =>
    intro e s latched offA offB
    refine ⟨_, (exec_overvoltageRestart_latched e latched).trans (runBoth_eq ..), rfl, ?_⟩
    dsimp only
    rw [powerOn_of_off (l := advance e.ticksA s.laneA) offA, powerOn_of_off (l := advance e.ticksB s.laneB) offB]
    exact ⟨rfl, rfl, rfl, rfl, rfl, rfl, rfl, rfl⟩

section SupplyEvents
variable {l : Lane}

/-! ### The early warning and the ride-through (R615 to R617, R665) -/

section Powered
variable (power : l.powered = true) (die : l.dieOk = true)
include power die

section Warning
variable (armed : l.mode.supply.armed = true) (mv : Nat)
include armed

theorem laneVinWarning_writesJournal (started : l.mode.mode ≠ .start) (runs : dieRuns l = true) :
    laneVinWarning mv l =
      writeJournal mv { l with mode := { l.mode with supply := { l.mode.supply with armed := false } } } := by
  simp [laneVinWarning, power, die, armed, started, runs]

/-- A warning before step 6 of START writes no journal: the lane waits in reset for the supply to return (R665). -/
theorem laneVinWarning_waits {l2 : Lane} (starting : l.mode.mode = .start) (early : l.mode.start.step < 6)
    (left : l2 = freshLane .start .vin
      (leave 2 false { l with mode := { l.mode with supply := { l.mode.supply with armed := false } } })) :
    laneVinWarning mv l =
      { l2 with mode := { l2.mode with supply := { l2.mode.supply with heldAt := some l.tc } } } := by
  subst left
  simp [laneVinWarning, power, die, armed, starting, early]

end Warning

theorem laneWarningArm_arms :
    laneWarningArm l = armAlarm { l with mode := { l.mode with supply := { l.mode.supply with armed := true } } } :=
  if_pos (by simp [power, die])

theorem laneEarlyRestart_passed {t : Nat} (held : l.mode.supply.heldAt = some t) (passed : t + msTc 100 ≤ l.tc) :
    laneEarlyRestart l = freshLane .start .vin l := by
  simp [laneEarlyRestart, held, power, die, passed]

end Powered

section Running
variable (runs : dieRuns l = true)
include runs

/-- A lane that still runs 100 ms after the warning rides through: its report names the return, and its profiles re-arm. -/
theorem laneRideThrough_ends {t : Nat} {l1 : Lane} (warned : l.mode.supply.warnAt = some t)
    (passed : t + msTc 100 ≤ l.tc)
    (ended : l1 = { l with
      mode := { l.mode with supply := { l.mode.supply with warnAt := none } }
      journal := l.journal.map (fun j => { j with report :=
        { j.report with flags := j.report.flags + b2n (!bit j.report.flags 0), returnTime := some (nowFull l) } }) }) :
    laneRideThrough l =
      raiseEvent 364 ((l1.cfg.profiles.filter (fun x => x.2.armed)).foldl (fun acc x => armProfile x.1 x.2 acc) l1) := by
  subst ended
  simp [laneRideThrough, warned, runs, Nat.not_lt.2 passed]

/-! ### The junction's temperature (R681) -/

theorem laneOverheat_hot {celsius : Int} (hot : 120 ≤ celsius) :
    laneOverheat celsius l = declareUnhealthy junctionUnhealthy (raiseCond 376 (setOverheat celsius true l)) :=
  if_neg (by simp [runs, Int.not_lt.2 hot])

theorem laneOverheatClear_cool {celsius : Int} (cool : celsius ≤ 110) (overheated : l.health.overheat = true) :
    laneOverheatClear celsius l = clearUnhealthy junctionUnhealthy (dropCond 376 (setOverheat celsius false l)) :=
  if_neg (by simp [runs, Int.not_lt.2 cool, overheated])

end Running

end SupplyEvents

/-- Settles O48, a clause per command and outcome. -/
theorem supplyEventsComplete : Obligations.SupplyEventsComplete := by
  refine ⟨?warningJournal, ?warningWaits, ?rideThrough, ?warningArm, ?restart, ?overheat, ?overheatClear, ?powerUp,
    ?powerUpLatched, ?overvoltage, ?overvoltageRestart, ?supplyLoss, ?hotReset, ?perstn⟩
  case warningJournal =>
    rintro e mv s _ rfl power die armed started runs
    exact runLane_nowOf (laneVinWarning_writesJournal power die armed mv started runs)
  case warningWaits =>
    rintro e mv s _ l2 rfl power die armed starting early left
    exact runLane_nowOf (laneVinWarning_waits power die armed mv starting early left)
  case rideThrough =>
    rintro e s _ t _ l1 rfl warned runs passed rfl ended
    exact runLane_nowOf (laneRideThrough_ends runs warned passed ended)
  case warningArm =>
    rintro e s _ rfl power die
    exact runLane_nowOf (laneWarningArm_arms power die)
  case restart =>
    rintro e s _ t rfl held power die passed
    exact runLane_nowOf (laneEarlyRestart_passed power die held passed)
  case overheat =>
    rintro e celsius s _ rfl runs hot
    exact runLane_nowOf (laneOverheat_hot runs hot)
  case overheatClear =>
    rintro e celsius s _ rfl runs cool overheated
    exact runLane_nowOf (laneOverheatClear_cool runs cool overheated)
  case powerUp =>
    intro e s free
    exact (exec_vinPowerUp_free e free).trans (runBoth_eq ..)
  case powerUpLatched =>
    intro e s latched
    exact (exec_vinPowerUp_latched e latched).trans (runBoth_eq ..)
  case overvoltage =>
    intro e s
    exact runBoth_eq e powerOff { s with overvoltage := true }
  case overvoltageRestart =>
    intro e s latched
    exact (exec_overvoltageRestart_latched e latched).trans (runBoth_eq ..)
  case supplyLoss =>
    intro e s
    exact runBoth_eq e powerOff { s with overvoltage := false }
  case hotReset =>
    intro e s
    exact runBoth_eq e lanePcieReset s
  case perstn =>
    intro e s
    exact runBoth_eq e lanePerstn s

end Sys2Proof.Machine
end

section
/-!
PROOFS. Drills, gauges, error retries and scrubbing (R621 to R626, R634): what each event does to a lane that it reaches.
-/
namespace Sys2Proof.Machine

section HealthEvents
variable {l : Lane}

/-! ### Drills (R634) -/

/-- The verdict ends the drill and answers its request. A drill that stays in DRILL does nothing else. -/
theorem laneDrillVerdict_answers {d : DrillRun} {v : DrillVerdict} {l1 : Lane} (drill : l.health.drill = some d)
    (mode : l.mode.mode = .drill) (runs : dieRuns l = true) (stays : d.exitOnDone = false)
    (raised : l1 = raiseEvent (if drillStatus d v = .ok then 370 else 371)
      { l with health := { l.health with drill := none, lastDrill := drillResult d v } }) :
    laneDrillVerdict v l = postReply d.req (drillStatus d v) false (drillResult d v) l1 := by
  subst raised
  simp [laneDrillVerdict, drill, mode, runs, stays]

/-! ### Gauges (R626) -/

section Gauges
variable {n : Nat} {c : GaugeCfg} (cfg : tget l.cfg.gauges n = some c) (serves : serving l = true)
  (due : (gaugeVal l n).lastSample + usTc c.intervalUs ≤ l.tc) (reading : Int)
include cfg serves due

theorem laneIntervalSample_queueDepth (source : c.source = 5) :
    laneIntervalSample n reading l = sampleGauge n c (queueHeld (queueOf l c.object) : Nat) l := by
  simp [laneIntervalSample, cfg, serves, Nat.not_lt.2 due, source]

theorem laneIntervalSample_reading (source : c.source = 7) : laneIntervalSample n reading l = sampleGauge n c reading l := by
  simp [laneIntervalSample, cfg, serves, Nat.not_lt.2 due, source]

theorem laneIntervalSample_junction (source : c.source = 8) :
    laneIntervalSample n reading l = sampleGauge n c reading (setJunction reading l) := by
  simp [laneIntervalSample, cfg, serves, Nat.not_lt.2 due, source]

end Gauges

/-! ### Error retries and scrubbing (R621, R622, R624, R625) -/

section Errors
variable (runs : dieRuns l = true)
include runs

/-- A failed access that succeeds when it is repeated was a transient fault, and a lasting one otherwise. -/
theorem laneErrorRetry_running (site : ErrorSite) (repeatOk : Bool) (covered : List (Nat × Word)) :
    laneErrorRetry site repeatOk covered l =
      if repeatOk then markTransient covered (transientFault (siteResource site).1 (siteResource site).2 l)
      else lastingAction site (lastingFault (siteResource site).1 (siteResource site).2 l) :=
  if_neg (by simp [runs])

theorem laneScrub_sramCorrected (a : Nat) (repeatOk : Bool) : laneScrub (.sram a) true repeatOk l =
    { l with health := { l.health with sramCorrected := l.health.sramCorrected + 1 } } :=
  if_neg (by simp [runs])

theorem laneScrub_dramCorrected (p : Nat) (o : DramPage) (repeatOk : Bool) : laneScrub (.dram p o) true repeatOk l =
    { l with health := { l.health with dramCorrected := l.health.dramCorrected + 1 } } :=
  if_neg (by simp [runs])

theorem laneScrub_sramUncorrected (a : Nat) (repeatOk : Bool) :
    laneScrub (.sram a) false repeatOk l = laneErrorRetry (.sram a) repeatOk [] l :=
  if_neg (by simp [runs])

end Errors

end HealthEvents

/-- Settles O49, a clause per command and outcome. -/
theorem healthEventsComplete : Obligations.HealthEventsComplete := by
  refine ⟨?drillPasses, ?drillFails, ?queueDepth, ?reading, ?junction, ?retryTransient, ?retryLasting, ?sramCorrected,
    ?dramCorrected, ?sramUncorrected⟩
  case drillPasses =>
    rintro e v s _ d l1 rfl drill mode runs passes stays rfl
    refine runLane_nowOf ((laneDrillVerdict_answers drill mode runs stays rfl).trans ?_)
    rw [passes, if_pos rfl]
  case drillFails =>
    rintro e v s _ d l1 _ rfl drill mode runs rfl fails stays rfl
    refine runLane_nowOf ((laneDrillVerdict_answers drill mode runs stays rfl).trans ?_)
    rw [if_neg fails]
  case queueDepth =>
    rintro e gauge reading s _ c rfl cfg serves due source
    exact runLane_nowOf (laneIntervalSample_queueDepth cfg serves due reading source)
  case reading =>
    rintro e gauge reading s _ c rfl cfg serves due source
    exact runLane_nowOf (laneIntervalSample_reading cfg serves due reading source)
  case junction =>
    rintro e gauge reading s _ c rfl cfg serves due source
    exact runLane_nowOf (laneIntervalSample_junction cfg serves due reading source)
  case retryTransient =>
    rintro e site _ covered s _ rfl runs rfl
    exact runLane_nowOf (laneErrorRetry_running runs site true covered)
  case retryLasting =>
    rintro e site _ covered s _ rfl runs rfl
    exact runLane_nowOf (laneErrorRetry_running runs site false covered)
  case sramCorrected =>
    rintro e _ _ repeatOk s _ a rfl runs rfl rfl
    exact runLane_nowOf (laneScrub_sramCorrected runs a repeatOk)
  case dramCorrected =>
    rintro e _ _ repeatOk s _ p o rfl runs rfl rfl
    exact runLane_nowOf (laneScrub_dramCorrected runs p o repeatOk)
  case sramUncorrected =>
    rintro e _ _ _ s _ a rfl runs rfl rfl rfl
    exact runLane_nowOf ((laneScrub_sramUncorrected runs a true).trans (laneErrorRetry_running runs (.sram a) true []))

end Sys2Proof.Machine
end

section
/-!
PROOFS. The Picot radios (R508 to R528): what each slot, frame and timer does to a lane whose radio it reaches.
-/
namespace Sys2Proof.Machine

section MeshEvents
variable {l : Lane} {m : Nat}

/-! ### Slots (R509, R510) -/

section Slots
variable {l0 : Lane} (serves : serving l = true) (runs : radioRuns (meshRun l m) = true)
  (on : (meshRun l m).state ≠ .stopped) (alarms : l0 = meshAlarms m l) (coin : Bool)
include serves runs on alarms

/-- Without a time of the mesh no slot begins. -/
theorem laneSlotStart_untimed (untimed : slotNow l0 m = none) : laneSlotStart m coin l = l0 := by
  subst alarms
  simp [laneSlotStart, serves, runs, on, untimed]

section Timed
variable {n : Nat} {into : Rat} {r1 : MeshRun} (now : slotNow l0 m = some (n, into)) (begins : (meshRun l0 m).slot ≠ some n)
  (settled : (meshRun l0 m).pending = none) (noted : r1 = { meshRun l0 m with slot := some n, pending := none })
include now begins settled noted

theorem laneSlotStart_root (root : (meshRun l0 m).state = .root) :
    laneSlotStart m coin l =
      rootSlotStart m (n % slotsPer (meshCfg l m)) (eventOf (meshCfg l m) n) into (setMesh m r1 l0) := by
  subst alarms noted
  simp [laneSlotStart, serves, runs, on, now, begins, settled, root]

theorem laneSlotStart_joined (joined : (meshRun l0 m).state = .joined) :
    laneSlotStart m coin l =
      memberSlotStart m (n % slotsPer (meshCfg l m)) (eventOf (meshCfg l m) n) into coin (setMesh m r1 l0) := by
  subst alarms noted
  simp [laneSlotStart, serves, runs, on, now, begins, settled, joined]

end Timed

end Slots

/-! ### Frames (R515): the checks in their order, at a root -/

section Frames
variable {psdu : Bytes} {riseAgo fallAgo : Nat} (serves : serving l = true) (root : (meshRun l m).state = .root)
include serves root

theorem lanePicotReceive_badCrc :
    lanePicotReceive m false psdu riseAgo fallAgo l = countMesh m (fun k => { k with crc := bump k.crc }) l := by
  simp [lanePicotReceive, serves, root]

theorem lanePicotReceive_badLength (length : inRange 12 1023 psdu.length = false) :
    lanePicotReceive m true psdu riseAgo fallAgo l = countMesh m (fun k => { k with length := bump k.length }) l := by
  simp [lanePicotReceive, serves, root, length]

section Sized
variable (length : inRange 12 1023 psdu.length = true)
include length

theorem lanePicotReceive_foreign (foreign : (parsePicot psdu).pan ≠ (meshCfg l m).panId) :
    lanePicotReceive m true psdu riseAgo fallAgo l = countMesh m (fun k => { k with foreign := bump k.foreign }) l := by
  simp [lanePicotReceive, serves, root, length, foreign]

/-- A frame that passes every check, and that no router relays, is heard from its sender and takes effect. -/
theorem lanePicotReceive_takes {f : PicotRx} {l2 : Lane} (parsed : f = parsePicot psdu) (control : f.control = 0xA841)
    (pan : f.pan = (meshCfg l m).panId) (version : inRange 1 (meshCfg l m).maxVersion f.version = true)
    (room : picotRoom psdu f = true) (exact_ : bodyExact f = true) (ours : picotForUs l m f = true)
    (mic : micOk l m f = true) (role : (meshCfg l m).role = 1) (direct : isRelayed f.type = false)
    (heard : l2 = meshAlarms m (heardNode m f.src l)) (queues : picotRoomOk l2 m f = true) :
    lanePicotReceive m true psdu riseAgo fallAgo l = ackDue m f fallAgo (picotEffect m f riseAgo l2) := by
  subst parsed heard
  simp [lanePicotReceive, serves, root, length, control, pan, version, room, exact_, ours, mic, role, direct, queues]

end Sized

end Frames

/-- An acknowledgement that is due is sent on a radio that may transmit (R516). -/
theorem laneAckSend_due {dest seq version : Nat} {at_ : Rat} {l1 : Lane}
    (owed : (meshRun l m).ack = some (dest, seq, version, at_)) (due : at_ ≤ (l.tc : Rat))
    (paid : l1 = setMesh m { meshRun l m with ack := none } l) (may : mayTransmit l m = true) :
    laneAckSend m l = radioSend m seq
      { dest := dest, ackReq := false, version := version, type := 2, origin := 0, oseq := 0, ttl := 0, body := [],
        stamp := false } l1 := by
  subst paid
  simp [laneAckSend, owed, Rat.not_lt.2 due, may]

/-! ### Reports (R526) -/

section Reports
variable {it : QItem} {origin : Nat} {ar : FineTag} {af : Nat} {b : Bytes} {l1 : Lane} (serves : serving l = true)
  (head : headItem l (20 + m) = some it) (report : it.payload = .mesh origin ar af b) (taken : l1 = popItem (20 + m) l)
include serves head report taken

theorem laneReportDelivery_unmapped (unmapped : meshStream l1 m origin = none) : laneReportDelivery m l = l1 := by
  obtain ⟨_⟩ := it
  subst report taken
  simp [laneReportDelivery, serves, head, unmapped]

/-- The first report of a node is of no gap: it is delivered whatever its number is. -/
theorem laneReportDelivery_first {id : Nat} {c : StreamCfg} {x : StreamRun} {l3 : Lane}
    (stream : meshStream l1 m origin = some id) (cfg : streamCfg l1 id = some c) (run : streamRun l1 id = some x)
    (allowed : dataAllowed x = true) (first : tget (meshRun l1 m).reports origin = none)
    (noted : l3 = countStream id (fun k => { k with missing := (k.missing + 0) % 2 ^ 32 })
      (setMesh m { meshRun l1 m with reports := tput (meshRun l1 m).reports origin (field b 0 2) } l1)) :
    laneReportDelivery m l = deliverValues id (BitVec.ofNat 40 (field b 2 5)) ar (reportValues c b)
      (acceptFrame id 0 (BitVec.ofNat 40 (field b 2 5)) none l3) := by
  obtain ⟨_⟩ := it
  subst report taken noted
  simp [laneReportDelivery, serves, head, stream, cfg, run, allowed, first]

end Reports

/-! ### Timers (R521, R524, R525) -/

section Timers
variable (serves : serving l = true)
include serves

/-- The third beacon missed in a row loses the parent. -/
theorem laneBeaconMiss_counts {n : Nat} {into : Rat} {x : MemberSt} {l1 : Lane} (now : slotNow l m = some (n, into))
    (joined : (meshRun l m).state = .joined)
    (unheard : (meshRun l m).member.beaconSf ≠ some (n / slotsPer (meshCfg l m)))
    (closed : windowClose l m (meshRun l m).member into (n % slotsPer (meshCfg l m)) ≤ (l.tc : Rat))
    (missed : x = { (meshRun l m).member with
      beaconSf := some (n / slotsPer (meshCfg l m)), misses := (meshRun l m).member.misses + 1 })
    (counted : l1 = setMesh m { meshRun l m with
      member := x, counters := { (meshRun l m).counters with missed := bump (meshRun l m).counters.missed } } l) :
    laneBeaconMiss m l = if x.misses = 3 then loseParent m l1 else l1 := by
  subst missed counted
  simp [laneBeaconMiss, now, serves, joined, unheard, closed]

section Scanning
variable (scans : (meshRun l m).state = .scanning)
include scans

theorem laneScanExpiry_nextChannel (alone : (meshRun l m).member.candidate = none)
    (passed : (meshRun l m).member.scanAt + (slotsPer (meshCfg l m) + 1) * slotTc (meshCfg l m) ≤ l.tc) :
    laneScanExpiry m l = setMesh m { meshRun l m with
      member := { (meshRun l m).member with
        scanIndex := ((meshRun l m).member.scanIndex + 1) % (mapChannels (meshRun l m).map).length,
        scanAt := l.tc } } l := by
  simp [laneScanExpiry, serves, scans, alone, passed]

/-- A join request that no response answers starts the scan again. -/
theorem laneJoinExpiry_rescans {t : Nat} (asked : (meshRun l m).member.request = some t)
    (passed : t + 4 * slotsPer (meshCfg l m) * slotTc (meshCfg l m) ≤ l.tc) :
    laneJoinExpiry m l = setMesh m { meshRun l m with
      unacked := none,
      member := { (meshRun l m).member with candidate := none, request := none, scanIndex := 0, scanAt := l.tc } } l := by
  simp [laneJoinExpiry, asked, serves, scans, passed]

end Scanning

section Supervision
variable {timeout : Nat}
  (period : timeout = (meshCfg l m).supervisionSf * slotsPer (meshCfg l m) * slotTc (meshCfg l m))
include period

/-- A member whose frame waits for an acknowledgement longer than its supervision time loses its parent. -/
theorem laneSupervision_parentLost (joined : (meshRun l m).state = .joined)
    (waits : (meshRun l m).unacked.isSome = true) (silent : (meshRun l m).member.lastAck + timeout ≤ l.tc) :
    laneSupervision m none l = loseParent m l := by
  subst period
  simp [laneSupervision, serves, joined, waits, silent]

theorem laneSupervision_childLost {a : Nat} {n : NodeRun} (node : tget (meshRun l m).nodes a = some n)
    (root : (meshRun l m).state = .root) (joined : n.joined = true) (present : n.lost = false)
    (silent : n.lastHeard + timeout ≤ l.tc) :
    laneSupervision m (some a) l =
      meshAlarms m (setMesh m { meshRun l m with nodes := tput (meshRun l m).nodes a { n with lost := true } } l) := by
  subst period
  simp [laneSupervision, serves, node, root, joined, present, silent]

end Supervision

end Timers

end MeshEvents

/-- Settles O45, a clause per command and outcome. -/
theorem meshEventsComplete : Obligations.MeshEventsComplete := by
  refine ⟨?slotUntimed, ?slotRoot, ?slotJoined, ?badCrc, ?badLength, ?foreign, ?takes, ?ack, ?reportUnmapped, ?reportFirst,
    ?beaconMiss, ?scanExpiry, ?parentLost, ?childLost, ?joinExpiry, ?seenExpiry⟩
  case slotUntimed =>
    rintro e radio coin s _ l0 rfl serves runs on alarms untimed
    exact runLane_nowOf (laneSlotStart_untimed serves runs on alarms coin untimed)
  case slotRoot =>
    rintro e radio coin s _ l0 n into r1 rfl serves runs on alarms now begins root settled noted
    exact runLane_nowOf (laneSlotStart_root serves runs on alarms coin now begins settled noted root)
  case slotJoined =>
    rintro e radio coin s _ l0 n into r1 rfl serves runs on alarms now begins joined settled noted
    exact runLane_nowOf (laneSlotStart_joined serves runs on alarms coin now begins settled noted joined)
  case badCrc =>
    rintro e radio _ psdu riseAgo fallAgo s _ rfl serves root rfl
    exact runLane_nowOf (lanePicotReceive_badCrc serves root)
  case badLength =>
    rintro e radio _ psdu riseAgo fallAgo s _ rfl serves root rfl length
    exact runLane_nowOf (lanePicotReceive_badLength serves root length)
  case foreign =>
    rintro e radio _ psdu riseAgo fallAgo s _ rfl serves root rfl length foreign
    exact runLane_nowOf (lanePicotReceive_foreign serves root length foreign)
  case takes =>
    rintro e radio _ psdu riseAgo fallAgo s _ f l2 rfl serves root rfl length parsed control pan version room exact_ ours
      mic role direct heard queues
    exact runLane_nowOf (lanePicotReceive_takes serves root length parsed control pan version room exact_ ours mic role
      direct heard queues)
  case ack =>
    rintro e radio s _ dest seq version at_ l1 rfl owed due paid may
    exact runLane_nowOf (laneAckSend_due owed due paid may)
  case reportUnmapped =>
    rintro e radio s _ it origin ar af b rfl serves head report unmapped
    exact runLane_nowOf (laneReportDelivery_unmapped serves head report rfl unmapped)
  case reportFirst =>
    rintro e radio s _ it origin id ar af b l1 l3 c x rfl serves head report taken stream cfg run allowed first noted
    exact runLane_nowOf (laneReportDelivery_first serves head report taken stream cfg run allowed first noted)
  case beaconMiss =>
    rintro e radio s _ n into x l1 rfl now serves joined unheard closed missed counted
    exact runLane_nowOf (laneBeaconMiss_counts serves now joined unheard closed missed counted)
  case scanExpiry =>
    rintro e radio s _ rfl serves scans alone passed
    exact runLane_nowOf (laneScanExpiry_nextChannel serves scans alone passed)
  case parentLost =>
    rintro e radio _ s _ tm rfl serves rfl joined waits period silent
    exact runLane_nowOf (laneSupervision_parentLost serves period joined waits silent)
  case childLost =>
    rintro e radio _ s _ a n tm rfl serves rfl node root joined present period silent
    exact runLane_nowOf (laneSupervision_childLost serves period node root joined present silent)
  case joinExpiry =>
    rintro e radio s _ t rfl asked serves scans passed
    exact runLane_nowOf (laneJoinExpiry_rescans serves scans asked passed)
  case seenExpiry =>
    rintro e radio s _ rfl
    exact runLane_nowOf (f := laneSeenExpiry radio) rfl

end Sys2Proof.Machine
end

section
/-!
PROOFS. The leases' timers (R536 to R546, R560): what each timer of a lease, of a witness and of a handover does when its time has
come.
-/
namespace Sys2Proof.Machine

section LeaseTimers
variable {l : Lane} {k : LeaseKind}

/-! ### The holder of a lease (R536 to R538) -/

section Leads
variable (leading : leads l k = true)
include leading

theorem laneRenewSend_due (due : (leaseOf l k).sentAt + periodTc l k / 2 ≤ l.tc) :
    laneRenewSend k l = sendRenew k (witnessUp l k) l :=
  if_pos (by simp [leading, due])

/-- A renewal that no member acknowledges in time is put to the witness. -/
theorem laneRenewAckTimeout_unacked {l1 : Lane} (unacked : (leaseOf l k).acked = false)
    (first : (leaseOf l k).timedOut = false) (passed : (leaseOf l k).sentAt + periodTc l k / 8 ≤ l.tc)
    (noted : l1 = setLease k { leaseOf l k with timedOut := true } l) :
    laneRenewAckTimeout k l = askWitness k 1 { l1 with
      ply := { l1.ply with ctr := { l1.ply.ctr with renewalsUnacked := bump l1.ply.ctr.renewalsUnacked } } } := by
  subst noted
  exact if_pos (by simp [leading, unacked, first, passed])

/-- A holder whose lease ran out is silent from its last renewal on. -/
theorem laneLeaseExpiry_expires {l1 : Lane} (ended : (leaseOf l k).until_ ≤ l.tc) (lost : l1 = loseLease k (dropHandover l)) :
    laneLeaseExpiry k l = plySettle (setLease k
      { leaseOf l1 k with
        silence := some (leaseOf l k).sentAt, theirPeriod := periodTc l k, theirGuard := guardTc l k,
        awaiting := policyAvailable l k } l1) := by
  subst lost
  exact if_pos (by simp [leading, ended])

end Leads

/-! ### The other members (R541, R545) -/

section Takeover
variable (may : mayClaim l k = true)
include may

section Silent
variable {t z : Nat} (at_ : takeoverAt l k = some t) (reached : t ≤ l.tc) (silent : (leaseOf l k).silence = some z)
include at_ reached silent

/-- With a witness the lease is claimed, once. -/
theorem laneSilenceTakeover_claims (witness : witnessUp l k = true) (unclaimed : (leaseOf l k).lastClaim = none) :
    laneSilenceTakeover k l = askWitness k 2 (setLease k { leaseOf l k with lastClaim := some l.tc } l) := by
  simp [laneSilenceTakeover, may, at_, reached, silent, witness, unclaimed]

section Unwitnessed
variable (alone : witnessUp l k = false)
include alone

theorem laneSilenceTakeover_acquires (available : policyAvailable l k = true) : laneSilenceTakeover k l = acquire k l := by
  simp [laneSilenceTakeover, may, at_, reached, silent, alone, available]

theorem laneSilenceTakeover_waits (safeSingle : policyAvailable l k = false) : laneSilenceTakeover k l = plyAlarms l := by
  simp [laneSilenceTakeover, may, at_, reached, silent, alone, safeSingle]

end Unwitnessed

end Silent

theorem laneClaimRepeat_due {t : Nat} (claimed : (leaseOf l k).lastClaim = some t) (witness : witnessUp l k = true)
    (due : t + periodTc l k ≤ l.tc) :
    laneClaimRepeat k l = askWitness k 2 (setLease k { leaseOf l k with lastClaim := some l.tc } l) := by
  simp [laneClaimRepeat, claimed, may, witness, due]

end Takeover

/-- A paired lane that knows no device holder sends HELLO to its partners. -/
theorem lanePlyHelloPeriodic_due (runs : dieRuns l = true) (paired : l.cfg.pair.isSome = true)
    (unknown : knownDevice l = 0xFF) (due : l.ply.lastHello + periodTc l .device / 2 ≤ l.tc) :
    lanePlyHelloPeriodic l =
      azSendPartners 0xFF (.hello (helloBody l)) { l with ply := { l.ply with lastHello := l.tc } } :=
  if_pos (by simp [runs, paired, unknown, due])

/-! ### Witnesses (R546) -/

theorem laneWitnessPing_due (part : takesPart l = true)
    (due : (witnessOf l k).lastPing + msTc l.cfg.witness.timeoutMs / 4 ≤ l.tc) : laneWitnessPing k l = askWitness k 0 l :=
  if_pos (by simp [part, due])

theorem laneWitnessUnavailable_silent (available : (witnessOf l k).available = true)
    (silent : (witnessOf l k).lastAnswer + msTc l.cfg.witness.timeoutMs ≤ l.tc) :
    laneWitnessUnavailable k l = witnessLost k l :=
  if_pos (by simp [available, silent])

/-- Question 0 to an Azwell witness is a PING (log 25). -/
theorem lanePlyWitnessQuery_ping (azwell : witnessKind l k = 2) : lanePlyWitnessQuery k 0 l = laneWitnessPing k l := by
  simp [lanePlyWitnessQuery, azwell]

/-- An OFFER that no ACCEPT answers is withdrawn (R543). -/
theorem laneOfferTimeout_passed {h : Handover} (offered : l.ply.handover = some h)
    (passed : h.sentAt + periodTc l h.lease ≤ l.tc) :
    laneOfferTimeout l = refuse h.req .timeout { l with ply := { l.ply with handover := none } } := by
  simp [laneOfferTimeout, offered, passed]

end LeaseTimers

/-- Settles O35, a clause per command and outcome. -/
theorem leaseTimersComplete : Obligations.LeaseTimersComplete := by
  refine ⟨?renewSend, ?ackTimeout, ?expiry, ?claims, ?acquires, ?waits, ?claimRepeat, ?freeLease, ?hello, ?ping,
    ?unavailable, ?query, ?offerTimeout⟩
  case renewSend =>
    rintro e k s _ rfl leading due
    exact runLane_nowOf (laneRenewSend_due leading due)
  case ackTimeout =>
    rintro e k s _ l1 rfl leading unacked first passed noted
    exact runLane_nowOf (laneRenewAckTimeout_unacked leading unacked first passed noted)
  case expiry =>
    rintro e k s _ l1 rfl leading ended lost
    exact runLane_nowOf (laneLeaseExpiry_expires leading ended lost)
  case claims =>
    rintro e k s _ t z rfl at_ may reached silent witness unclaimed
    exact runLane_nowOf (laneSilenceTakeover_claims may at_ reached silent witness unclaimed)
  case acquires =>
    rintro e k s _ t z rfl at_ may reached silent alone available
    exact runLane_nowOf (laneSilenceTakeover_acquires may at_ reached silent alone available)
  case waits =>
    rintro e k s _ t z rfl at_ may reached silent alone safeSingle
    exact runLane_nowOf (laneSilenceTakeover_waits may at_ reached silent alone safeSingle)
  case claimRepeat =>
    rintro e k s _ t rfl claimed may witness due
    exact runLane_nowOf (laneClaimRepeat_due may claimed witness due)
  case freeLease =>
    rintro e k s _ rfl
    exact runLane_nowOf (f := laneFreeLeaseWait k) rfl
  case hello =>
    rintro e s _ rfl runs paired unknown due
    exact runLane_nowOf (lanePlyHelloPeriodic_due runs paired unknown due)
  case ping =>
    rintro e k s _ rfl part due
    exact runLane_nowOf (laneWitnessPing_due part due)
  case unavailable =>
    rintro e k s _ rfl available silent
    exact runLane_nowOf (laneWitnessUnavailable_silent available silent)
  case query =>
    rintro e k _ s _ rfl azwell rfl part due
    exact runLane_nowOf ((lanePlyWitnessQuery_ping azwell).trans (laneWitnessPing_due part due))
  case offerTimeout =>
    rintro e s _ h rfl offered passed
    exact runLane_nowOf (laneOfferTimeout_passed offered passed)

end Sys2Proof.Machine
end

section
/-!
PROOFS. The requests of the mesh (R528 to R531) and of Ply (R543, R563 to R566), once they are accepted.
-/
namespace Sys2Proof.Machine

section Applied
variable {r : Request} {l : Lane}

/-! ### MESH_SET (R528) -/

section MeshSet
variable {m : Nat} {c : MeshCfg} {l1 : Lane} (radio : m = radioOf r) (asked : c = meshAsked (body r))
  (set : l1 = { l with cfg := { l.cfg with mesh := tput l.cfg.mesh m c } }) (first retry : Bool)
include radio asked set

/-- A change of the channel map alone runs at the root, and takes effect eight events later. -/
theorem meshSetApply_mapAtRoot (root : (meshRun l m).state = .root) (alone : { meshCfg l m with map := c.map } = c)
    (changed : (meshCfg l m).map ≠ c.map) :
    meshSetApply first retry r l =
      (setMesh m { meshRun l m with pending := some (c.map, (eventNow l m + 8) % 65536) } l1, []) := by
  subst radio asked set
  exact if_pos (by simp [root, alone, changed])

theorem meshSetApply_begins (notRoot : (meshRun l m).state ≠ .root) (stopped : radioRuns (meshRun l m) = false) :
    meshSetApply first retry r l = (meshInit m first retry (meshBegin m l1), []) := by
  subst radio asked set
  simp [meshSetApply, notRoot, stopped]

end MeshSet

/-! ### LEASE_HANDOVER (R543) -/

section Handover
variable {t : Nat} (target : t = field (body r) 0 1) (lane : handoverLease l t = .lane)
include target lane

theorem handoverStart_offers (offers : memberAtLeast l t 2 = true) :
    handoverStart r l = plySend 0 (.offer (leaseOf l .lane).epoch t)
      { l with ply := { l.ply with handover := some { req := r, target := t, lease := .lane, sentAt := l.tc } } } := by
  subst target
  simp [handoverStart, lane, offers, sendLease]

/-- Below Ply version 1.2 there is no OFFER: the lease is handed over at once (R553). -/
theorem handoverStart_commits (noOffer : memberAtLeast l t 2 = false) :
    handoverStart r l = commitHandover { req := r, target := t, lease := .lane, sentAt := l.tc } l := by
  subst target
  simp [handoverStart, lane, noOffer]

end Handover

end Applied

/-- Settles O58, a clause per request and outcome. -/
theorem meshAndPlyRequestsComplete : Obligations.MeshAndPlyRequestsComplete := by
  refine ⟨?mapAtRoot, ?meshBegins, ?nodeAdd, ?nodeRemove, ?slotAssign, ?slotRelease, ?meshQuery, ?plySet, ?pair, ?unpair,
    ?handoverOffers, ?handoverCommits, ?plyQuery, ?witnessSet⟩
  case mapAtRoot =>
    rintro e first retry r s _ m c l1 rfl acc radio asked set root alone changed
    exact runLane_nowOf (serve_applies acc (meshSetApply_mapAtRoot radio asked set first retry root alone changed))
  case meshBegins =>
    rintro e first retry r s _ m c l1 rfl acc radio asked set notRoot stopped
    exact runLane_nowOf (serve_applies acc (meshSetApply_begins radio asked set first retry notRoot stopped))
  case nodeAdd | meshQuery | unpair | plyQuery =>
    rintro e r s _ rfl acc
    exact runLane_nowOf (serve_accepted acc _)
  case nodeRemove =>
    rintro e r s _ m a gone rfl acc rfl rfl rfl
    exact runLane_nowOf (serve_accepted acc nodeRemoveApply)
  case slotAssign =>
    rintro e r s _ m g rfl acc rfl rfl
    exact runLane_nowOf (serve_accepted acc assignApply)
  case slotRelease =>
    rintro e r s _ m g rfl acc rfl rfl
    exact runLane_nowOf (serve_accepted acc releaseApply)
  case plySet =>
    rintro e r s _ l1 rfl acc rfl
    exact runLane_nowOf (serve_accepted acc plySetApply)
  case pair =>
    rintro e r s _ c rfl acc rfl
    exact runLane_nowOf (serve_accepted acc pairApply)
  case handoverOffers =>
    rintro e r s _ t rfl acc target lane offers
    exact runLane_nowOf ((serveHeld_accepted acc _).trans (handoverStart_offers target lane offers))
  case handoverCommits =>
    rintro e r s _ t rfl acc target lane noOffer
    exact runLane_nowOf ((serveHeld_accepted acc _).trans (handoverStart_commits target lane noOffer))
  case witnessSet =>
    rintro e r s _ c rfl acc rfl
    exact runLane_nowOf (serve_accepted acc witnessApply)

end Sys2Proof.Machine
end

section
/-!
PROOFS. The requests of Selvedge (R577 to R586), once they are accepted.
-/
namespace Sys2Proof.Machine

section Applied
variable {r : Request} {l : Lane}

/-- A response that verifies takes the privilege when its key is an owner's (R577). -/
theorem takeStart_eq_ite :
    takeStart r l =
      if respondVerifies l r = true ∧ l.vault.owners.contains (sha256 (respondPublic r)) = true then grantPrivilege r l
      else failResponse r l := by
  simp only [takeStart, Bool.and_eq_true]

/-- An owner may be bound while there is none, or with privilege; the first free entry takes the key's hash (R578). -/
theorem bindStart_allowed (may : l.vault.owners = [] ∨ l.keys.privilege = true) (room : l.vault.owners.length < 4) :
    bindStart r l =
      if respondVerifies l r = true then
        grantPrivilege r { l with vault := { l.vault with owners := l.vault.owners ++ [sha256 (respondPublic r)] } }
      else failResponse r l := by
  have may_ : (l.vault.owners.isEmpty || l.keys.privilege) = true := by simpa using may
  cases verifies : respondVerifies l r with
  | true => simp [bindStart, may_, verifies, Nat.not_le.2 room]
  | false => simp [bindStart, verifies]

theorem bindStart_forbidden (owned : l.vault.owners ≠ []) (unprivileged : l.keys.privilege = false) :
    bindStart r l = failResponse r l :=
  if_pos (by simp [owned, unprivileged])

end Applied

/-- Settles O59, a clause per request and outcome. That a response which takes the privilege leaves its challenge standing is the
model's choice (log 53). -/
theorem keyRequestsComplete : Obligations.KeyRequestsComplete := by
  refine ⟨?generate, ?write, ?derive, ?delete, ?invalidate, ?attest, ?challenge, ?take, ?drop, ?bind, ?bindForbidden,
    ?status, ?slots, ?tamperSet, ?tamperAck⟩
  case generate =>
    rintro e r s _ g k rfl acc rfl rfl
    exact runLane_nowOf (serve_accepted acc keyGenApply)
  case write =>
    rintro e r s _ k l1 epoch rfl acc rfl rfl rfl
    exact runLane_nowOf (serve_accepted acc keyWriteApply)
  case derive =>
    rintro e r s _ p k rfl acc rfl rfl
    exact runLane_nowOf (serve_accepted acc keyDeriveApply)
  case delete =>
    rintro e r s _ n rfl acc rfl
    exact runLane_nowOf (serve_accepted acc keyDeleteApply)
  case invalidate =>
    rintro e r s _ n k rfl acc rfl rfl
    exact runLane_nowOf (serve_accepted acc keyInvalidateApply)
  case attest | challenge | drop | status | slots | tamperAck =>
    rintro e r s _ rfl acc
    exact runLane_nowOf (serve_accepted acc _)
  case take =>
    rintro e r s _ rfl acc
    exact runLane_nowOf ((serveHeld_accepted acc _).trans takeStart_eq_ite)
  case bind =>
    rintro e r s _ rfl acc may room
    exact runLane_nowOf ((serveHeld_accepted acc _).trans (bindStart_allowed may room))
  case bindForbidden =>
    rintro e r s _ rfl acc owned unprivileged
    exact runLane_nowOf ((serveHeld_accepted acc _).trans (bindStart_forbidden owned unprivileged))
  case tamperSet =>
    rintro e r s _ en rfl acc rfl
    exact runLane_nowOf (serve_accepted acc tamperSetApply)

end Sys2Proof.Machine
end

section
/-!
PROOFS. The requests of modes, configuration, update, gauges, drills and health (R591 to R629), once they are accepted.
-/
namespace Sys2Proof.Machine

section Applied
variable {r : Request} {l : Lane}

theorem modeSetStart_changes {m : Mode} (asked : Mode.ofCode (modeAsked r) = some m) :
    modeSetStart r l = changeMode m (rtcWakeS r) (postReply r .ok false [] l) := by
  simp only [modeSetStart, asked]

/-! ### Updates (R605, R606, R609, R610) -/

theorem updateChunkApply_staged {x : Staged} (staged : l.mode.staged = some x) :
    updateChunkApply r l =
      ({ l with mode := { l.mode with
          staged := some { x with data := chunkData (stagedBytes x) (field (body r) 0 4) ((body r).drop 8) } } }, []) := by
  simp only [updateChunkApply, staged]

/-- A host's confirm confirms an image under test at once, the model's choice (log 54). -/
theorem updateConfirmApply_testing (testing : (activeHeader l).state = .testing) :
    updateConfirmApply r l = (confirmImage l, []) := by
  rw [updateConfirmApply, if_pos testing]

theorem updateConfirmApply_confirmed (confirmed : (activeHeader l).state ≠ .testing) :
    updateConfirmApply r l = (l, []) := by
  rw [updateConfirmApply, if_neg confirmed]

section SlotSelect
variable {isB : Bool} {boot : BootFlash} (slot : isB = (field (body r) 0 1 == 1))
  (untested : (slotIn l.boot (!isB)).state ≠ .testing) (selected : boot = { l.boot with selectedB := isB, failures := 0 })
include slot untested selected

theorem slotSelectStart_keepsRunning (noRestart : bit (field (body r) 1 1) 0 = false) :
    slotSelectStart r l = postReply r .ok false [] { l with boot := boot } := by
  subst slot selected
  simp [slotSelectStart, untested, noRestart]

theorem slotSelectStart_restarts {l1 : Lane} (restart : bit (field (body r) 1 1) 0 = true)
    (answered : l1 = postReply r .ok false [] { l with boot := boot }) :
    slotSelectStart r l = resetToStart (if l.mode.mode == .salvage then .salvageExit else .laneReset) l1 := by
  subst slot selected answered
  simp [slotSelectStart, untested, restart]

end SlotSelect

/-! ### Gauges (R629) -/

theorem gaugeSnapshotApply_clears (clear : field (body r) 0 1 = 1) :
    gaugeSnapshotApply r l = (clearGauge (flowId r) l, gaugeBytes l (flowId r)) := by
  rw [gaugeSnapshotApply, if_pos clear]

theorem gaugeSnapshotApply_keeps (keep : field (body r) 0 1 ≠ 1) :
    gaugeSnapshotApply r l = (l, gaugeBytes l (flowId r)) := by
  rw [gaugeSnapshotApply, if_neg keep]

end Applied

/-- Settles O60, a clause per request and outcome. That a host's confirm confirms at once, and that a rejected image restarts with
the cause of a lane reset, is the model's choice (log 54). -/
theorem modeAndHealthRequestsComplete : Obligations.ModeAndHealthRequestsComplete := by
  refine ⟨?modeSet, ?resetRestart, ?resetSalvage, ?configCommit, ?configRead, ?poolSplit, ?sysInfo, ?updateBegin,
    ?updateChunk, ?updateFinish, ?confirms, ?confirmed, ?rejects, ?selects, ?selectRestarts, ?gaugeSet, ?snapshotClears,
    ?snapshotKeeps, ?faultLogRead, ?drillRun, ?healthQuery⟩
  case modeSet =>
    rintro e r s _ m rfl acc asked
    exact runLane_nowOf ((serveHeld_accepted acc _).trans (modeSetStart_changes asked))
  case resetRestart | resetSalvage | rejects =>
    rintro e r s _ rfl acc
    exact runLane_nowOf (serveHeld_accepted acc _)
  case configCommit | configRead | sysInfo | updateBegin | faultLogRead | healthQuery =>
    rintro e r s _ rfl acc
    exact runLane_nowOf (serve_accepted acc _)
  case poolSplit =>
    rintro e r s _ split rfl acc rfl
    exact runLane_nowOf (serve_accepted acc poolSplitApply)
  case updateChunk =>
    rintro e r s _ x rfl acc staged
    exact runLane_nowOf (serve_applies acc (updateChunkApply_staged staged))
  case updateFinish =>
    rintro e r s _ l1 rfl acc rfl
    exact runLane_nowOf (serveHeld_accepted acc updateFinishStart)
  case confirms =>
    rintro e r s _ rfl acc testing
    exact runLane_nowOf (serve_applies acc (updateConfirmApply_testing testing))
  case confirmed =>
    rintro e r s _ rfl acc confirmed
    exact runLane_nowOf (serve_applies acc (updateConfirmApply_confirmed confirmed))
  case selects =>
    rintro e r s _ isB boot rfl acc slot untested selected noRestart
    exact runLane_nowOf ((serveHeld_accepted acc _).trans (slotSelectStart_keepsRunning slot untested selected noRestart))
  case selectRestarts =>
    rintro e r s _ isB boot l1 rfl acc slot untested selected restart answered
    exact runLane_nowOf
      ((serveHeld_accepted acc _).trans (slotSelectStart_restarts slot untested selected restart answered))
  case gaugeSet =>
    rintro e r s _ n rfl acc rfl
    exact runLane_nowOf (serve_accepted acc gaugeSetApply)
  case snapshotClears =>
    rintro e r s _ rfl acc clear
    exact runLane_nowOf (serve_applies acc (gaugeSnapshotApply_clears clear))
  case snapshotKeeps =>
    rintro e r s _ rfl acc keep
    exact runLane_nowOf (serve_applies acc (gaugeSnapshotApply_keeps keep))
  case drillRun =>
    rintro e r s _ d rfl acc rfl
    exact runLane_nowOf (serveHeld_accepted acc drillStart)

end Sys2Proof.Machine
end
